-- ==== Sys2Proof/Word.lean ====
section
/-!
DEFINITION. The word types of Wilto: bytes, 64-bit register words, 32-bit free-running indices
(R5, "Numbers, units and byte order" in 00_scope.md).
-/

namespace Sys2Proof

/-- One byte of a byte string (R6) or of a little-endian field (R5). -/
abbrev Byte := BitVec 8

/-- One 64-bit Porch register (R670). -/
abbrev Word := BitVec 64

/-- A free-running 32-bit index; subtraction is modulo 2^32 (04_rings.md, "Indices"). -/
abbrev Idx := BitVec 32

end Sys2Proof
end

