-- ==== Sys2Proof/Syntax.lean ====
section
/-!
DEFINITION. The syntax of the block: the status catalogue (Table 19-2) and `Instr`, one constructor for
each row of the table of operations and events, with the operands that the row's rule names.
A command after which the block tests parts of itself carries what the tests find as an operand (log entry 7).
-/

namespace Sys2Proof

/-- The status catalogue (R640, Table 19-2). -/
inductive Status where
  | ok -- 0x0000 OK
  | okStaged -- 0x1101 OK_STAGED
  | drainPending -- 0x1102 DRAIN_PENDING
  | larderStale -- 0x1103 LARDER_STALE
  | okSoftLimit -- 0x1201 OK_SOFT_LIMIT
  | okKeySwitched -- 0x1202 OK_KEY_SWITCHED
  | alarmNotify -- 0x1301 ALARM_NOTIFY
  | fwScheduled -- 0x1401 FW_SCHEDULED
  | cmdUnknown -- 0x2101 CMD_UNKNOWN
  | cmdNotPermitted -- 0x2102 CMD_NOT_PERMITTED
  | cmdVersion -- 0x2103 CMD_VERSION
  | cmdLength -- 0x2104 CMD_LENGTH
  | cmdParam -- 0x2105 CMD_PARAM
  | cmdNotPosted -- 0x2106 CMD_NOT_POSTED
  | txnNone -- 0x2110 TXN_NONE
  | txnOpen -- 0x2111 TXN_OPEN
  | txnFull -- 0x2112 TXN_FULL
  | txnNotStageable -- 0x2113 TXN_NOT_STAGEABLE
  | txnAborted -- 0x2114 TXN_ABORTED
  | txnConflict -- 0x2115 TXN_CONFLICT
  | instExists -- 0x2120 INST_EXISTS
  | instAbsent -- 0x2121 INST_ABSENT
  | instWindowOverlap -- 0x2122 INST_WINDOW_OVERLAP
  | instNotQuiesced -- 0x2123 INST_NOT_QUIESCED
  | instBusy -- 0x2124 INST_BUSY
  | ringNotStopped -- 0x2130 RING_NOT_STOPPED
  | ringQuota -- 0x2131 RING_QUOTA
  | ringNoneFree -- 0x2132 RING_NONE_FREE
  | ringAbsent -- 0x2133 RING_ABSENT
  | ringBusy -- 0x2134 RING_BUSY
  | chainOrphan -- 0x2140 CHAIN_ORPHAN
  | larderAttached -- 0x2150 LARDER_ATTACHED
  | larderNotAttached -- 0x2151 LARDER_NOT_ATTACHED
  | larderBusy -- 0x2152 LARDER_BUSY
  | larderExhausted -- 0x2153 LARDER_EXHAUSTED
  | keymsgFormat -- 0x2160 KEYMSG_FORMAT
  | keymsgDevice -- 0x2161 KEYMSG_DEVICE
  | keymsgNoOwner -- 0x2162 KEYMSG_NO_OWNER
  | keymsgCounter -- 0x2163 KEYMSG_COUNTER
  | keymsgVersion -- 0x2164 KEYMSG_VERSION
  | keymsgSeed -- 0x2165 KEYMSG_SEED
  | kekDraining -- 0x2166 KEK_DRAINING
  | moverNotHalted -- 0x2170 MOVER_NOT_HALTED
  | moverDraining -- 0x2171 MOVER_DRAINING
  | unlockNotLocked -- 0x2180 UNLOCK_NOT_LOCKED
  | unlockBusy -- 0x2181 UNLOCK_BUSY
  | unlockNoPermit -- 0x2182 UNLOCK_NO_PERMIT
  | unlockEvent -- 0x2183 UNLOCK_EVENT
  | unlockAlarmActive -- 0x2184 UNLOCK_ALARM_ACTIVE
  | fwNoAttic -- 0x2190 FW_NO_ATTIC
  | fwNotStaged -- 0x2191 FW_NOT_STAGED
  | fwIncompatible -- 0x2192 FW_INCOMPATIBLE
  | fwNoFallback -- 0x2193 FW_NO_FALLBACK
  | fwTrial -- 0x2194 FW_TRIAL
  | fwNotPending -- 0x2195 FW_NOT_PENDING
  | fwBusy -- 0x2196 FW_BUSY
  | fwTickRange -- 0x2197 FW_TICK_RANGE
  | fwSecVersion -- 0x2198 FW_SEC_VERSION
  | fwImageFormat -- 0x2199 FW_IMAGE_FORMAT
  | fwNotRunningImage -- 0x219A FW_NOT_RUNNING_IMAGE
  | diagNoPermit -- 0x21A0 DIAG_NO_PERMIT
  | diagPointDenied -- 0x21A1 DIAG_POINT_DENIED
  | diagExpired -- 0x21A2 DIAG_EXPIRED
  | diagExhausted -- 0x21A3 DIAG_EXHAUSTED
  | diagBusy -- 0x21A4 DIAG_BUSY
  | ringOverrun -- 0x3101 RING_OVERRUN
  | ringHarvestBad -- 0x3102 RING_HARVEST_BAD
  | descNotOwned -- 0x3103 DESC_NOT_OWNED
  | descFormat -- 0x3110 DESC_FORMAT
  | descOpcode -- 0x3111 DESC_OPCODE
  | descSubop -- 0x3112 DESC_SUBOP
  | descRsvd -- 0x3113 DESC_RSVD
  | descField -- 0x3114 DESC_FIELD
  | lenLimit -- 0x3115 LEN_LIMIT
  | lenMismatch -- 0x3120 LEN_MISMATCH
  | chainLoop -- 0x3121 CHAIN_LOOP
  | chainUnterminated -- 0x3122 CHAIN_UNTERMINATED
  | chainOpcode -- 0x3123 CHAIN_OPCODE
  | fabricReadError -- 0x4101 FABRIC_READ_ERROR
  | fabricWriteError -- 0x4102 FABRIC_WRITE_ERROR
  | fabricTimeout -- 0x4103 FABRIC_TIMEOUT
  | fabricWriteTimeout -- 0x4104 FABRIC_WRITE_TIMEOUT
  | fwFabric -- 0x4110 FW_FABRIC
  | ctxOutOfWindow -- 0x5101 CTX_OUT_OF_WINDOW
  | counterExhausted -- 0x5201 COUNTER_EXHAUSTED
  | ctxPolicy -- 0x5202 CTX_POLICY
  | ctxAbsent -- 0x5301 CTX_ABSENT
  | ctxRetired -- 0x5302 CTX_RETIRED
  | ctxOccupied -- 0x5303 CTX_OCCUPIED
  | ctxNoLarder -- 0x5304 CTX_NO_LARDER
  | ctxPinLimit -- 0x5305 CTX_PIN_LIMIT
  | ctxSerial -- 0x5306 CTX_SERIAL
  | ctxBlobFormat -- 0x5307 CTX_BLOB_FORMAT
  | ctxBlobBinding -- 0x5308 CTX_BLOB_BINDING
  | tagFail -- 0x6101 TAG_FAIL
  | tagFailScrubbed -- 0x6102 TAG_FAIL_SCRUBBED
  | replay -- 0x6103 REPLAY
  | replayScrubbed -- 0x6104 REPLAY_SCRUBBED
  | keySlotEmpty -- 0x6105 KEY_SLOT_EMPTY
  | faultDetected -- 0x6110 FAULT_DETECTED
  | ctxBlobAuth -- 0x6120 CTX_BLOB_AUTH
  | larderIntegrity -- 0x6121 LARDER_INTEGRITY
  | kekAbsent -- 0x6122 KEK_ABSENT
  | keymsgSig -- 0x6130 KEYMSG_SIG
  | keymsgDecrypt -- 0x6131 KEYMSG_DECRYPT
  | fwImageSig -- 0x6140 FW_IMAGE_SIG
  | notOnCurve -- 0x7101 NOT_ON_CURVE
  | invalidScalar -- 0x7102 INVALID_SCALAR
  | invalidCoord -- 0x7103 INVALID_COORD
  | pointAtInfinity -- 0x7104 POINT_AT_INFINITY
  | lowOrder -- 0x7105 LOW_ORDER
  | inputRange -- 0x7106 INPUT_RANGE
  | evenModulus -- 0x7107 EVEN_MODULUS
  | pkKeyCheck -- 0x7108 PK_KEY_CHECK
  | sigInvalid -- 0x7110 SIG_INVALID
  | pkOperandFormat -- 0x7120 PK_OPERAND_FORMAT
  | pkAborted -- 0x7121 PK_ABORTED
  | studyRestarted -- 0xE101 STUDY_RESTARTED
  | hearthUnavailable -- 0xE110 HEARTH_UNAVAILABLE
  | scuStateError -- 0xE120 SCU_STATE_ERROR
  | fwFellBack -- 0xE130 FW_FELL_BACK
  | internalEcc -- 0xE140 INTERNAL_ECC
  | locked -- 0xF001 LOCKED
  | zeroised -- 0xF002 ZEROISED
  deriving DecidableEq, Repr

/-- The value of a status (R640, Table 19-2). -/
def Status.code : Status → BitVec 16
  | .ok => 0x0000
  | .okStaged => 0x1101
  | .drainPending => 0x1102
  | .larderStale => 0x1103
  | .okSoftLimit => 0x1201
  | .okKeySwitched => 0x1202
  | .alarmNotify => 0x1301
  | .fwScheduled => 0x1401
  | .cmdUnknown => 0x2101
  | .cmdNotPermitted => 0x2102
  | .cmdVersion => 0x2103
  | .cmdLength => 0x2104
  | .cmdParam => 0x2105
  | .cmdNotPosted => 0x2106
  | .txnNone => 0x2110
  | .txnOpen => 0x2111
  | .txnFull => 0x2112
  | .txnNotStageable => 0x2113
  | .txnAborted => 0x2114
  | .txnConflict => 0x2115
  | .instExists => 0x2120
  | .instAbsent => 0x2121
  | .instWindowOverlap => 0x2122
  | .instNotQuiesced => 0x2123
  | .instBusy => 0x2124
  | .ringNotStopped => 0x2130
  | .ringQuota => 0x2131
  | .ringNoneFree => 0x2132
  | .ringAbsent => 0x2133
  | .ringBusy => 0x2134
  | .chainOrphan => 0x2140
  | .larderAttached => 0x2150
  | .larderNotAttached => 0x2151
  | .larderBusy => 0x2152
  | .larderExhausted => 0x2153
  | .keymsgFormat => 0x2160
  | .keymsgDevice => 0x2161
  | .keymsgNoOwner => 0x2162
  | .keymsgCounter => 0x2163
  | .keymsgVersion => 0x2164
  | .keymsgSeed => 0x2165
  | .kekDraining => 0x2166
  | .moverNotHalted => 0x2170
  | .moverDraining => 0x2171
  | .unlockNotLocked => 0x2180
  | .unlockBusy => 0x2181
  | .unlockNoPermit => 0x2182
  | .unlockEvent => 0x2183
  | .unlockAlarmActive => 0x2184
  | .fwNoAttic => 0x2190
  | .fwNotStaged => 0x2191
  | .fwIncompatible => 0x2192
  | .fwNoFallback => 0x2193
  | .fwTrial => 0x2194
  | .fwNotPending => 0x2195
  | .fwBusy => 0x2196
  | .fwTickRange => 0x2197
  | .fwSecVersion => 0x2198
  | .fwImageFormat => 0x2199
  | .fwNotRunningImage => 0x219A
  | .diagNoPermit => 0x21A0
  | .diagPointDenied => 0x21A1
  | .diagExpired => 0x21A2
  | .diagExhausted => 0x21A3
  | .diagBusy => 0x21A4
  | .ringOverrun => 0x3101
  | .ringHarvestBad => 0x3102
  | .descNotOwned => 0x3103
  | .descFormat => 0x3110
  | .descOpcode => 0x3111
  | .descSubop => 0x3112
  | .descRsvd => 0x3113
  | .descField => 0x3114
  | .lenLimit => 0x3115
  | .lenMismatch => 0x3120
  | .chainLoop => 0x3121
  | .chainUnterminated => 0x3122
  | .chainOpcode => 0x3123
  | .fabricReadError => 0x4101
  | .fabricWriteError => 0x4102
  | .fabricTimeout => 0x4103
  | .fabricWriteTimeout => 0x4104
  | .fwFabric => 0x4110
  | .ctxOutOfWindow => 0x5101
  | .counterExhausted => 0x5201
  | .ctxPolicy => 0x5202
  | .ctxAbsent => 0x5301
  | .ctxRetired => 0x5302
  | .ctxOccupied => 0x5303
  | .ctxNoLarder => 0x5304
  | .ctxPinLimit => 0x5305
  | .ctxSerial => 0x5306
  | .ctxBlobFormat => 0x5307
  | .ctxBlobBinding => 0x5308
  | .tagFail => 0x6101
  | .tagFailScrubbed => 0x6102
  | .replay => 0x6103
  | .replayScrubbed => 0x6104
  | .keySlotEmpty => 0x6105
  | .faultDetected => 0x6110
  | .ctxBlobAuth => 0x6120
  | .larderIntegrity => 0x6121
  | .kekAbsent => 0x6122
  | .keymsgSig => 0x6130
  | .keymsgDecrypt => 0x6131
  | .fwImageSig => 0x6140
  | .notOnCurve => 0x7101
  | .invalidScalar => 0x7102
  | .invalidCoord => 0x7103
  | .pointAtInfinity => 0x7104
  | .lowOrder => 0x7105
  | .inputRange => 0x7106
  | .evenModulus => 0x7107
  | .pkKeyCheck => 0x7108
  | .sigInvalid => 0x7110
  | .pkOperandFormat => 0x7120
  | .pkAborted => 0x7121
  | .studyRestarted => 0xE101
  | .hearthUnavailable => 0xE110
  | .scuStateError => 0xE120
  | .fwFellBack => 0xE130
  | .internalEcc => 0xE140
  | .locked => 0xF001
  | .zeroised => 0xF002

/-- The class of a status, its bits [15:12] (R637). -/
def Status.cls (st : Status) : Nat := st.code.toNat / 4096

/-- A completion with this status stops a running ring (R162): class 0x3 or 0x4. -/
def Status.stops (st : Status) : Bool := st.cls == 3 || st.cls == 4

/-- Success statuses: classes 0x0 and 0x1 (Table 19-1). -/
def Status.success (st : Status) : Bool := st.cls == 0 || st.cls == 1

/-- What Foundation ROM meets in steps 3 and 4 of Table 15-1: the Cellar answers within 1 ms and its storage passes its check
(R525), and the self-test of the cores, the Study SRAM and the ROM passes. -/
structure RomTest where
  cellarOk : Bool
  romOk : Bool
  deriving DecidableEq, Repr

/-- A word of a memory has gone bad (R641, R642): the LAST_MEM code of Table 19-3, whether the error is uncorrectable, and for
the key store whether it has hit both copies. -/
structure Upset where
  mem : Nat
  uncorr : Bool
  both : Bool
  deriving DecidableEq, Repr

/-- What Landing meets when it starts an image: the microseconds that pass with cmd_rdy low once the image is read (R12),
the new image's self-check (Table 17-7 step 4; at the exit from Retain, every ECC check of step 3 of R629), whether the copy
in Study SRAM still has every CRC right (R618), and what Foundation ROM meets if it ends in a device soft reset (R601). -/
structure LandingRun where
  us : Nat
  selfCheck : Bool
  sramOk : Bool
  rom : RomTest
  deriving DecidableEq, Repr

/-- What a bring-up meets besides the fabric (Table 15-1 steps 7, 8 and 10): the units and Scullery cores that pass their
self-test, the entropy startup attempts that fail (up to 3), those that fail when step 8 runs again (R527), and the Pantry
check; and, for a device soft reset, what Foundation ROM meets before. -/
structure BringUp where
  alcovesOk : List Nat
  chachasOk : List Nat
  enginesOk : List Nat
  coresOk : List Nat
  startupFails : Nat
  againFails : Nat
  pantryOk : Bool
  rom : RomTest
  deriving DecidableEq, Repr

/-- Where a comparison fails (R317 to R320): a block of an operation's part on an Alcove or on a
ChaCha20-Poly1305 unit, or a dummy block of an Alcove; and which of the unit's other parts fail the
comparison of their saved state (R319). -/
structure MismatchAt where
  chacha : Bool
  unit : Nat
  op : Option Nat
  alsoFail : List Nat
  deriving DecidableEq, Repr

/-- A HELLO message (15_bringup.md, "Negotiation, positions and time"). -/
structure HelloMsg where
  verMin : BitVec 16
  verMax : BitVec 16
  pos : Nat
  longHops : Nat
  tick : Nat
  roundTrip : Nat
  deviceId : List Byte
  sigOk : Bool
  deriving DecidableEq, Repr

/-- One forwarded bundle block (R607): its number, its bytes, and whether it is the last. -/
structure FwdBlock where
  index : Nat
  bytes : List Byte
  last : Bool
  deriving DecidableEq, Repr

/-- Reports that travel upstream (R609, R610). -/
inductive ReportKind where
  | staged | stageFailed | armed | armFailed
  deriving DecidableEq, Repr

/-- An ARM or CANCEL message (R610). -/
structure ArmMsg where
  cancel : Bool
  tick : Nat
  digest : List Byte
  deriving DecidableEq, Repr

/-- The commands of the block: one constructor for each row of the table of operations and events. -/
inductive Instr where
  /-- DEV_QUERY (R51). -/
  | devQuery (q : Nat)
  /-- DEV_CAPS_NEGOTIATE (R48). -/
  | devCapsNegotiate (q : Nat)
  /-- INST_CREATE (R80). -/
  | instCreate (q : Nat)
  /-- INST_DESTROY (R113). -/
  | instDestroy (q : Nat)
  /-- INST_QUIESCE (R93). -/
  | instQuiesce (q : Nat)
  /-- INST_RESET (R101). -/
  | instReset (q : Nat)
  /-- SHARE_SET (R87). -/
  | shareSet (q : Nat)
  /-- RING_CREATE (R174). -/
  | ringCreate (q : Nat)
  /-- RING_DESTROY (R170). -/
  | ringDestroy (q : Nat)
  /-- RING_RESUME (R168). -/
  | ringResume (q : Nat)
  /-- RING_RESET (R170). -/
  | ringReset (q : Nat)
  /-- TXN_BEGIN (R55). -/
  | txnBegin (q : Nat)
  /-- TXN_COMMIT (R64). -/
  | txnCommit (q : Nat)
  /-- TXN_ROLLBACK (R67). -/
  | txnRollback (q : Nat)
  /-- KEYMSG_APPLY (R389). -/
  | keymsgApply (q : Nat)
  /-- UNLOCK (R574). -/
  | unlock (q : Nat)
  /-- STAGE (R592). -/
  | stage (q : Nat)
  /-- STAGE_FORWARD (R607). -/
  | stageForward (q : Nat)
  /-- KEEP (R591). -/
  | keep (q : Nat)
  /-- HANDOVER (R595). -/
  | handover (q : Nat) (x : LandingRun)
  /-- REBUILD_AT (R596). -/
  | rebuildAt (q : Nat)
  /-- REBUILD_CHAIN (R610). -/
  | rebuildChain (q : Nat)
  /-- CANCEL (R594). -/
  | cancel (q : Nat)
  /-- FW_CONFIRM (R598). -/
  | fwConfirm (q : Nat)
  /-- MOVER_RESUME (R477). -/
  | moverResume (q : Nat)
  /-- HEARTH_ABORT (R427). -/
  | hearthAbort (q : Nat)
  /-- DIAG_INJECT (R647). -/
  | diagInject (q : Nat)
  /-- COUNTER_CONFIG (R654). -/
  | counterConfig (q : Nat)
  /-- LARDER_ATTACH (R369). -/
  | larderAttach (q : Nat)
  /-- LARDER_RESET (R370). -/
  | larderReset (q : Nat)
  /-- CMD_UNKNOWN (R34). -/
  | cmdUnknown (q : Nat)
  /-- CMD_REPLY_ACK (R27). -/
  | cmdReplyAck (q : Nat)
  /-- DRAIN_PENDING (R39). -/
  | drainPending (q : Nat)
  /-- CMD_QUEUE_ENABLE (R24). -/
  | cmdQueueEnable (page : Nat) (strb : BitVec 8) (data : Word)
  /-- CMD_QUEUE_DISABLE (R25). -/
  | cmdQueueDisable (page : Nat) (strb : BitVec 8) (data : Word)
  /-- CMD_QUEUE_TAIL_WRITE (R26). -/
  | cmdQueueTailWrite (page : Nat) (strb : BitVec 8) (data : Word)
  /-- TXN_TIMEOUT (R68). -/
  | txnTimeout
  /-- DOORBELL (R135). -/
  | doorbell (page : Nat) (strb : BitVec 8) (data : Word)
  /-- HARVEST_READ_RETURN (R136). -/
  | harvestReadReturn (ring : Nat)
  /-- EVENT_QUEUE_ENABLE (R150). -/
  | eventQueueEnable (page : Nat) (strb : BitVec 8) (data : Word)
  /-- EVENT_QUEUE_HEAD_WRITE (R151). -/
  | eventQueueHeadWrite (page : Nat) (strb : BitVec 8) (data : Word)
  /-- PREFETCH_CFG_WRITE (R534). -/
  | prefetchCfgWrite (strb : BitVec 8) (data : Word)
  /-- KEYIN_DATA_WRITE (R387). -/
  | keyinDataWrite (strb : BitVec 8) (data : Word)
  /-- KEYIN_CLEAR (R388). -/
  | keyinClear (strb : BitVec 8) (data : Word)
  /-- ID_DATA_READ (R682). -/
  | idDataRead
  /-- START (R447). -/
  | start (strb : BitVec 8) (data : Word)
  /-- FINISH (R448). -/
  | finish (strb : BitVec 8) (data : Word)
  /-- CLEAR (R451). -/
  | clear (strb : BitVec 8) (data : Word)
  /-- SCU_DATA_WRITE (R447). -/
  | scuDataWrite (strb : BitVec 8) (data : Word)
  /-- SCU_BLOCK_ABSORBED (R450). -/
  | scuBlockAbsorbed (ctx : Nat)
  /-- GO (R524). -/
  | go (strb : BitVec 8) (data : Word) (b : BringUp)
  /-- SOFT_RESET (R620). -/
  | softReset (strb : BitVec 8) (data : Word) (b : BringUp)
  /-- STUDY_RESTART (R618). -/
  | studyRestart (strb : BitVec 8) (data : Word) (x : LandingRun)
  /-- STUDY_WATCHDOG (R616). -/
  | studyWatchdog (x : LandingRun)
  /-- LOCKSTEP_MISMATCH (R619). -/
  | lockstepMismatch (x : LandingRun)
  /-- DOZE (R625). -/
  | doze (strb : BitVec 8) (data : Word)
  /-- RETAIN (R627). -/
  | retain (strb : BitVec 8) (data : Word)
  /-- OFF (R634). -/
  | off (strb : BitVec 8) (data : Word)
  /-- ACTIVE (R626). -/
  | active (strb : BitVec 8) (data : Word)
  /-- POWER_REFUSE_TIMEOUT (R624). -/
  | powerRefuseTimeout
  /-- IDLE (R623). -/
  | idle
  /-- PAUSE (R479). -/
  | pause (port : Nat) (strb : BitVec 8) (data : Word)
  /-- SAMPLING_ENABLE (R668). -/
  | samplingEnable (page : Nat) (strb : BitVec 8) (data : Word)
  /-- SAMPLING_DISABLE (R667). -/
  | samplingDisable (page : Nat) (strb : BitVec 8) (data : Word)
  /-- SAMPLING_HEAD_WRITE (R668). -/
  | samplingHeadWrite (page : Nat) (strb : BitVec 8) (data : Word)
  /-- BW_WINDOW_WRITE (R661). -/
  | bwWindowWrite (strb : BitVec 8) (data : Word)
  /-- ATTIC_WRITE (R613). -/
  | atticWrite (strb : BitVec 8) (data : Word)
  /-- REGISTER_WRITE (R7). -/
  | registerWrite (addr : Nat) (strb : BitVec 8) (data : Word)
  /-- ABSENT (R501). -/
  | absent (addr : Nat) (write : Bool) (data : Word)
  /-- ROUND_BOUNDARY (R224). -/
  | roundBoundary
  /-- SCHEDULER_GRANT (R232). -/
  | schedulerGrant
  /-- DESCRIPTOR_READ_RETURN (R215). -/
  | descriptorReadReturn (op : Nat)
  /-- DESC_REREAD (R140). -/
  | descReread (op : Nat)
  /-- LIST_BLOCK_RETURN (R194). -/
  | listBlockReturn (op : Nat) (ent : Nat) (dst : Bool)
  /-- SEAL (R275). -/
  | seal (op : Nat)
  /-- OPEN (R292). -/
  | openOp (op : Nat)
  /-- GMAC_SIGN (R268). -/
  | gmacSign (op : Nat)
  /-- GMAC_CHECK (R268). -/
  | gmacCheck (op : Nat)
  /-- CTR (R272). -/
  | ctr (op : Nat)
  /-- DIGEST (R438). -/
  | digest (op : Nat)
  /-- CTX_INSTALL (R357). -/
  | ctxInstall (op : Nat)
  /-- CTX_REKEY (R359). -/
  | ctxRekey (op : Nat)
  /-- CTX_RETIRE (R360). -/
  | ctxRetire (op : Nat)
  /-- PK (R407). -/
  | pk (op : Nat)
  /-- NOP (R215). -/
  | nop (op : Nat)
  /-- FENCE (R213). -/
  | fence (op : Nat)
  /-- RETIRE_REFS_ZERO (R360). -/
  | retireRefsZero (index : Nat)
  /-- TOMBSTONE_WRITE_ACK (R360). -/
  | tombstoneWriteAck (index : Nat)
  /-- LARDER_FETCH_START (R259). -/
  | larderFetchStart (index : Nat)
  /-- EVICTION_TOKEN_REFILL (R261). -/
  | evictionTokenRefill
  /-- NODE_READ_RETURN (R350). -/
  | nodeReadReturn (level : Nat) (node : Nat)
  /-- BLOB_READ_RETURN (R355). -/
  | blobReadReturn (index : Nat)
  /-- VICTIM_WRITEBACK_ACK (R18). -/
  | victimWritebackAck (index : Nat)
  /-- NODE_WRITEBACK (R349). -/
  | nodeWriteback (level : Nat) (node : Nat)
  /-- REAUTHENTICATION (R348). -/
  | reauthentication (level : Nat) (node : Nat)
  /-- PART_START (R308). -/
  | partStart (op : Nat) (alcove : Nat)
  /-- PART_END (R303). -/
  | partEnd (op : Nat)
  /-- MISMATCH (R317). -/
  | mismatch (m : MismatchAt)
  /-- SELF_TEST_END (R321). -/
  | selfTestEnd (chacha : Bool) (unit : Nat) (pass : Bool)
  /-- DUMMY_KEY_REPLACE (R325). -/
  | dummyKeyReplace (alcove : Nat)
  /-- DIGEST_PART_START (R439); `parityOk`: the saved state of the parts before has no parity error (R443). -/
  | digestPartStart (op : Nat) (core : Nat) (parityOk : Bool)
  /-- DIGEST_PART_END (R439). -/
  | digestPartEnd (op : Nat)
  /-- HALLWAY_READ_RESPONSE (R506). -/
  | hallwayReadResponse (port : Nat) (id : Nat) (parityOk : Bool) (status : BitVec 2) (data : List Byte)
  /-- HALLWAY_WRITE_ACK (R460). -/
  | hallwayWriteAck (port : Nat) (id : Nat) (parityOk : Bool) (status : BitVec 2)
  /-- READ_TIMEOUT (R462). -/
  | readTimeout (port : Nat) (id : Nat)
  /-- WRITE_TIMEOUT (R462). -/
  | writeTimeout (port : Nat) (id : Nat)
  /-- COMPLETION_ACK (R14). -/
  | completionAck (op : Nat)
  /-- EVENT_RECORD_ACK (R152). -/
  | eventRecordAck (inst : Nat)
  /-- COALESCING_TIMEOUT (R156). -/
  | coalescingTimeout (inst : Nat)
  /-- COUNTER_WRAP (R659). -/
  | counterWrap (inst : Nat) (counter : Nat)
  /-- BW_WINDOW_END (R661). -/
  | bwWindowEnd
  /-- HEARTH_HANDOFF (R410). -/
  | hearthHandoff
  /-- PK_OPERANDS_ARRIVED (R419). -/
  | pkOperandsArrived (engine : Nat)
  /-- VALIDATION_PHASE_END (R421). -/
  | validationPhaseEnd (engine : Nat)
  /-- PK_NOMINAL_TIME_END (R420). -/
  | pkNominalTimeEnd (engine : Nat) (parityOk : Bool)
  /-- PK_ABORT_BOUNDARY (R427). -/
  | pkAbortBoundary (engine : Nat)
  /-- ENGINE_WIPE_DONE (R413). -/
  | engineWipeDone (engine : Nat)
  /-- HEARTH_SELF_TEST_END (R422). -/
  | hearthSelfTestEnd (engine : Nat) (pass : Bool)
  /-- MICROCODE_LOAD (R603). -/
  | microcodeLoad (engine : Nat)
  /-- COLD_POWER_ON (R616). -/
  | coldPowerOn (r : RomTest)
  /-- BLOCK_RESET (R508). -/
  | blockReset
  /-- PWR_MAIN_GOOD_FALL (R617). -/
  | pwrMainGoodFall
  /-- RETAIN_EXIT (R629). -/
  | retainExit (x : LandingRun) (b : BringUp)
  /-- CELLAR_POR (R492). -/
  | cellarPor
  /-- ALARM_SOURCE_ASSERT (R552). -/
  | alarmSourceAssert (source : Nat)
  /-- FAULT_WINDOW_STEP (R557). -/
  | faultWindowStep (upsets : List Upset)
  /-- NEIGHBOUR_ALARM (R559). -/
  | neighbourAlarm (down : Bool) (pos : Nat) (zeroise : Bool)
  /-- RNG_HEALTH_FAIL (R403). -/
  | rngHealthFail
  /-- RNG_STARTUP_PASS (R403). -/
  | rngStartupPass
  /-- DRBG_RESEED (R402). -/
  | drbgReseed (unit : Nat)
  /-- TICK_CELLAR_WRITE (R548). -/
  | tickCellarWrite
  /-- LANE_ATTEMPT_START (R539). -/
  | laneAttemptStart (down : Bool) (lane : Nat)
  /-- ADAPT_DONE (R540). -/
  | adaptDone (down : Bool) (lane : Nat)
  /-- LANE_ACCEPT (R540). -/
  | laneAccept (down : Bool) (lane : Nat) (fom : BitVec 8)
  /-- LANE_ATTEMPT_FAIL (R540). -/
  | laneAttemptFail (down : Bool) (lane : Nat) (fom : BitVec 8)
  /-- LANE_RETRY_SERIES (R541). -/
  | laneRetrySeries (down : Bool) (lane : Nat)
  /-- LANE_OUT_OF_SERVICE (R512). -/
  | laneOutOfService (down : Bool) (lane : Nat)
  /-- HELLO (R543). -/
  | hello (down : Bool) (m : HelloMsg)
  /-- HELLO_TIMEOUT (R544). -/
  | helloTimeout (down : Bool)
  /-- FORWARDED_BLOCK (R607). -/
  | forwardedBlock (b : FwdBlock)
  /-- STAGE_ABORT (R608). -/
  | stageAbort
  /-- CHAIN_REPORT (R609). -/
  | chainReport (r : ReportKind) (pos : Nat)
  /-- ARM (R610). -/
  | arm (m : ArmMsg)
  /-- CONFIRM (R612). -/
  | confirm
  /-- ARMED_TICK (R611). -/
  | armedTick (x : LandingRun)
  /-- TRIAL_TIMEOUT (R599). -/
  | trialTimeout (x : LandingRun)
  /-- DIAG_EXPIRY (R649). -/
  | diagExpiry (point : Nat)
  /-- POR_N_LOW (R491). -/
  | porNLow
  /-- BLK_RST_N_RELEASE (R493). -/
  | blkRstNRelease (r : RomTest)
  /-- ALARM_SOURCE_QUIET (R551). -/
  | alarmSourceQuiet (source : Nat)
  /-- ROOF_CLEAN_PASS (R574). -/
  | roofCleanPass (impedance : Bool)
  deriving DecidableEq, Repr

end Sys2Proof
end

