-- ==== Sys2Proof/Decode.lean ====
section
/-!
DEFINITION. Decoding of table words. The table of operations and events gives no row any bits: commands reach the
block as packets in host memory, Porch register accesses, fabric answers and events, never as one coded word. So no
word spells a command.
-/

namespace Sys2Proof

/-- The command that a word spells by the table's bits: none, for the table gives no row bits. -/
def decodeTableWord (_nbits _w : Nat) : Option Instr := none

end Sys2Proof
end

