-- ==== Sys2Proof/Config.lean ====
section
/-!
DEFINITION. What an implementation or a device fixes, and the values the spec leaves open: constants without a
body, so that nothing can be proved about them (log entries 6 and 11).
-/

namespace Sys2Proof.Config

/-- Random bytes: draw `n`, byte `i` (entropy source, CTR_DRBGs, R402). -/
opaque randByte (n i : Nat) : Byte

/-- A free number: draw `n`. Used for a stamp's place within its round, µs that pass unseen, an engine's working registers. -/
opaque freeNat (n : Nat) : Nat

/-- Brynhel's firmware keys in Foundation ROM (R530): an uncompressed P-384 point. -/
opaque fwKeyEc : List Byte

/-- Brynhel's firmware keys in Foundation ROM (R530): an ML-DSA-65 public key. -/
opaque fwKeyPq : List Byte

/-- The enrolment authority's P-384 key in Foundation ROM (R379). -/
opaque enrolKeyEc : List Byte

/-- The enrolment authority's ML-DSA-65 key in Foundation ROM (R379). -/
opaque enrolKeyPq : List Byte

/-- The bytes that Brynhel's HELLO layout gives a message from its fields (log entry 85). -/
opaque helloBytes (fields : List Byte) : List Byte

/-- The 66-bit blocks of a Stair message from its fields, each with whether it is a control block (log entry 85). -/
opaque stairFrame (fields : List Byte) : List (Bool × BitVec 64)

/-- The state of the Roof's pattern generator after one more pattern (R553). -/
opaque roofNext (gen : Nat) : Nat

/-- The level that the Roof's pattern generator puts on a net (R553). -/
opaque roofBit (gen net : Nat) : Bool

end Sys2Proof.Config
end

