-- ==== Sys2Proof/Machine/Crypto.lean ====
section
/-!
DEFINITION. The algorithms of the standards that the spec names (SP 800-38D, RFC 8439, FIPS 180-4, FIPS 202,
FIPS 186-5, RFC 7748, RFC 8032), over byte strings with byte 0 first (R6). The standards' texts are no part of the spec
(log entry 11).
-/

namespace Sys2Proof.Machine

/-- The number a string stands for, most significant byte first. -/
def beNat (bs : List Byte) : Nat := bs.foldl (fun a b => a * 256 + b.toNat) 0

/-- The number a string stands for, least significant byte first (R5). -/
def leNat : List Byte → Nat
  | [] => 0
  | b :: bs => b.toNat + 256 * leNat bs

/-- `n` bytes of a number, least significant byte first (R5). -/
def leBytes : Nat → Nat → List Byte
  | 0, _ => []
  | n + 1, v => BitVec.ofNat 8 v :: leBytes n (v / 256)

/-- `n` bytes of a number, most significant byte first. -/
def beBytes (n v : Nat) : List Byte := (leBytes n v).reverse

/-- Exclusive or of two strings, as long as the shorter. -/
def xorBytes (a b : List Byte) : List Byte := List.zipWith (· ^^^ ·) a b

/-- A string filled up with zeros to `n` bytes. -/
def fillTo (n : Nat) (bs : List Byte) : List Byte := bs ++ List.replicate (n - bs.length) 0

/-- Zeros up to a multiple of `n` bytes. -/
def padTo (n : Nat) (bs : List Byte) : List Byte :=
  bs ++ List.replicate ((n - bs.length % n) % n) 0

/-- Cuts a string into `k` pieces of `n` bytes. -/
def cut (n : Nat) : Nat → List Byte → List (List Byte)
  | 0, _ => []
  | k + 1, bs => bs.take n :: cut n k (bs.drop n)

/-- All pieces of `n` bytes, the last one possibly shorter. -/
def blocksOf (n : Nat) (bs : List Byte) : List (List Byte) := cut n ((bs.length + n - 1) / n) bs

/-- Modular exponentiation by squaring over `k` bits of the exponent. -/
def powModAux (m : Nat) : Nat → Nat → Nat → Nat
  | 0, _, _ => 1 % m
  | k + 1, b, e =>
    let r := powModAux m k (b * b % m) (e / 2)
    if e % 2 == 1 then b * r % m else r

/-- b^e mod m. -/
def powMod (b e m : Nat) : Nat := powModAux m (Nat.log2 e + 1) (b % m) e

/-! ### AES (FIPS 197) -/

/-- Multiplication by x in GF(2^8). -/
def xtime (a : Byte) : Byte := (a <<< 1) ^^^ (if a.msb then 0x1b else 0)

/-- The S-box of FIPS 197, 32 bytes a row. -/
def sboxRows : List Nat :=
  [0x637c777bf26b6fc53001672bfed7ab76ca82c97dfa5947f0add4a2af9ca472c0,
   0xb7fd9326363ff7cc34a5e5f171d8311504c723c31896059a071280e2eb27b275,
   0x09832c1a1b6e5aa0523bd6b329e32f8453d100ed20fcb15b6acbbe394a4c58cf,
   0xd0efaafb434d338545f9027f503c9fa851a3408f929d38f5bcb6da2110fff3d2,
   0xcd0c13ec5f974417c4a77e3d645d197360814fdc222a908846eeb814de5e0bdb,
   0xe0323a0a4906245cc2d3ac629195e479e7c8376d8dd54ea96c56f4ea657aae08,
   0xba78252e1ca6b4c6e8dd741f4bbd8b8a703eb5664803f60e613557b986c11d9e,
   0xe1f8981169d98e949b1e87e9ce5528df8ca1890dbfe6426841992d0fb054bb16]

/-- One byte through the S-box. -/
def sub8 (b : Byte) : Byte := BitVec.ofNat 8 (sboxRows.getD (b.toNat / 32) 0 / 256 ^ (31 - b.toNat % 32))

/-- One more word of the key schedule; `ws` holds the words so far, last first. -/
def nextKeyWord (nk i : Nat) (rc : Byte) (ws : List (List Byte)) : List Byte :=
  let prev := ws.headD []
  let t :=
    if i % nk == 0 then
      xorBytes ((prev.drop 1 ++ prev.take 1).map sub8) [rc, 0, 0, 0]
    else if nk == 8 && i % nk == 4 then prev.map sub8
    else prev
  xorBytes (ws.getD (nk - 1) []) t

/-- The key schedule: 4·(rounds+1) words. -/
def keyWords (key : List Byte) : List (List Byte) :=
  let nk := key.length / 4
  let start : List (List Byte) × Byte := ((blocksOf 4 key).reverse, 1)
  let n := 4 * (nk + 7) - nk
  (((List.range n).foldl (fun (s : List (List Byte) × Byte) j =>
    let i := nk + j
    (nextKeyWord nk i s.2 s.1 :: s.1, if i % nk == 0 then xtime s.2 else s.2)) start).1).reverse

/-- ShiftRows on 16 bytes in column order. -/
def shiftRows (st : List Byte) : List Byte :=
  (List.range 16).map (fun i => st.getD ((i + 4 * (i % 4)) % 16) 0)

/-- MixColumns on one column. -/
def mixCol (c : List Byte) : List Byte :=
  let a := c.getD 0 0; let b := c.getD 1 0; let d := c.getD 2 0; let e := c.getD 3 0
  [xtime a ^^^ xtime b ^^^ b ^^^ d ^^^ e, a ^^^ xtime b ^^^ xtime d ^^^ d ^^^ e,
   a ^^^ b ^^^ xtime d ^^^ xtime e ^^^ e, xtime a ^^^ a ^^^ b ^^^ d ^^^ xtime e]

/-- AES encryption of one block with round keys. -/
def aesWith (rks : List (List Byte)) (blk : List Byte) : List Byte :=
  let nr := rks.length - 1
  let st0 := xorBytes blk (rks.getD 0 [])
  let st := (List.range (nr - 1)).foldl (fun st r =>
    xorBytes ((blocksOf 4 (shiftRows (st.map sub8))).map mixCol).flatten (rks.getD (r + 1) [])) st0
  xorBytes (shiftRows (st.map sub8)) (rks.getD nr [])

/-- Round keys of 16 bytes. -/
def roundKeys (key : List Byte) : List (List Byte) := blocksOf 16 (keyWords key).flatten

/-- AES encryption of one block. -/
def aes (key blk : List Byte) : List Byte := aesWith (roundKeys key) blk

/-! ### GCM (SP 800-38D) and CTR -/

/-- Multiplication in GF(2^128), bit 0 most significant. -/
def ghMul (x y : BitVec 128) : BitVec 128 :=
  ((List.range 128).foldl (fun (p : BitVec 128 × BitVec 128) i =>
    (if x.getMsbD i then p.1 ^^^ p.2 else p.1,
     (p.2 >>> 1) ^^^ (if p.2.getLsbD 0 then BitVec.ofNat 128 0xe1 <<< 120 else 0))) (0, y)).1

/-- A block as a vector. -/
def toV (b : List Byte) : BitVec 128 := BitVec.ofNat 128 (beNat b)

/-- GHASH of a string of whole blocks. -/
def ghash (h : List Byte) (x : List Byte) : List Byte :=
  beBytes 16 ((blocksOf 16 x).foldl (fun a b => ghMul (a ^^^ toV b) (toV h)) 0).toNat

/-- Keystream of CTR: IV then a 32-bit counter from `start` (R272). -/
def ctrStream (key iv : List Byte) (start n : Nat) : List Byte :=
  let rk := roundKeys key
  ((List.range n).map (fun j => aesWith rk (iv ++ beBytes 4 (start + j)))).flatten

/-- CTR from counter `start` (R272). -/
def ctrXor (key iv : List Byte) (start : Nat) (x : List Byte) : List Byte :=
  xorBytes x (ctrStream key iv start ((x.length + 15) / 16))

/-- The GHASH subkey H = AES(K, 0^128) (Table 7-1). -/
def ghashKey (key : List Byte) : List Byte := aes key (List.replicate 16 0)

/-- The 16-byte GCM tag of AAD and ciphertext (Table 7-3). -/
def gcmTag (key sub iv aad ct : List Byte) : List Byte :=
  xorBytes (aes key (iv ++ beBytes 4 1))
    (ghash sub (padTo 16 aad ++ padTo 16 ct ++ beBytes 8 (8 * aad.length) ++ beBytes 8 (8 * ct.length)))

/-- GCM encryption: ciphertext and tag. -/
def gcmSeal (key iv aad pt : List Byte) : List Byte × List Byte :=
  let ct := ctrXor key iv 2 pt
  (ct, gcmTag key (ghashKey key) iv aad ct)

/-- GCM decryption: the plaintext when the tag verifies. -/
def gcmOpen (key iv aad ct tag : List Byte) : Option (List Byte) :=
  if gcmTag key (ghashKey key) iv aad ct == tag then some (ctrXor key iv 2 ct) else none

/-! ### ChaCha20-Poly1305 (RFC 8439) -/

/-- The quarter round. -/
def quarter (s : Array (BitVec 32)) (a b c d : Nat) : Array (BitVec 32) :=
  let g := fun (s : Array (BitVec 32)) i => s.getD i 0
  let s := s.set! a (g s a + g s b)
  let s := s.set! d ((g s d ^^^ g s a).rotateLeft 16)
  let s := s.set! c (g s c + g s d)
  let s := s.set! b ((g s b ^^^ g s c).rotateLeft 12)
  let s := s.set! a (g s a + g s b)
  let s := s.set! d ((g s d ^^^ g s a).rotateLeft 8)
  let s := s.set! c (g s c + g s d)
  s.set! b ((g s b ^^^ g s c).rotateLeft 7)

/-- One ChaCha20 block. -/
def chachaBlock (key : List Byte) (ctr : Nat) (nonce : List Byte) : List Byte :=
  let words := fun (bs : List Byte) => (blocksOf 4 bs).map (fun w => BitVec.ofNat 32 (leNat w))
  let init := ([0x61707865, 0x3320646e, 0x79622d32, 0x6b206574] ++ words key ++ [BitVec.ofNat 32 ctr] ++
    words nonce).toArray
  let dbl := fun s =>
    let s := quarter (quarter (quarter (quarter s 0 4 8 12) 1 5 9 13) 2 6 10 14) 3 7 11 15
    quarter (quarter (quarter (quarter s 0 5 10 15) 1 6 11 12) 2 7 8 13) 3 4 9 14
  let fin := (List.range 10).foldl (fun s _ => dbl s) init
  ((List.range 16).map (fun i => leBytes 4 (fin.getD i 0 + init.getD i 0).toNat)).flatten

/-- ChaCha20 from block counter `start`. -/
def chachaXor (key nonce : List Byte) (start : Nat) (x : List Byte) : List Byte :=
  xorBytes x ((List.range ((x.length + 63) / 64)).map (fun j => chachaBlock key (start + j) nonce)).flatten

/-- Poly1305. -/
def poly1305 (key msg : List Byte) : List Byte :=
  let p := 2 ^ 130 - 5
  let r := leNat (key.take 16) &&& 0x0ffffffc0ffffffc0ffffffc0fffffff
  let acc := (blocksOf 16 msg).foldl (fun a b => (a + leNat (b ++ [1])) * r % p) 0
  leBytes 16 (acc + leNat (key.drop 16))

/-- The AEAD_CHACHA20_POLY1305 tag of AAD and ciphertext (Table 7-3). -/
def chachaTag (key nonce aad ct : List Byte) : List Byte :=
  poly1305 ((chachaBlock key 0 nonce).take 32)
    (padTo 16 aad ++ padTo 16 ct ++ leBytes 8 aad.length ++ leBytes 8 ct.length)

/-! ### SHA-2 (FIPS 180-4) -/

/-- The first `n` primes from `p` on. -/
def primesFrom : Nat → Nat → Nat → List Nat
  | 0, _, _ => []
  | f + 1, n, p =>
    if n == 0 then []
    else if (List.range (p - 2)).all (fun d => p % (d + 2) != 0) then p :: primesFrom f (n - 1) (p + 1)
    else primesFrom f n (p + 1)

/-- The largest r with r^k ≤ v, found bit by bit. -/
def rootOf (k v : Nat) : Nat → Nat → Nat
  | 0, r => r
  | b + 1, r => if (r + 2 ^ b) ^ k ≤ v then rootOf k v b (r + 2 ^ b) else rootOf k v b r

/-- 64 fractional bits of a k-th root. -/
def fracRoot (k p : Nat) : Nat := rootOf k (p * 2 ^ (64 * k)) 70 0 % 2 ^ 64

/-- The 80 primes of SHA-512. -/
def primes80 : List Nat := primesFrom 420 80 2

/-- The SHA-512 constants. -/
def k512 : Array Nat := (primes80.map (fracRoot 3)).toArray

/-- SHA-2 over words of `w` bits: 32 or 64. -/
def sha2Block (w rounds : Nat) (h : List (BitVec w)) (blk : List Byte) : List (BitVec w) :=
  let r3 := fun (x : BitVec w) (a b c : Nat) => x.rotateRight a ^^^ x.rotateRight b ^^^ (x >>> c)
  let rr := fun (x : BitVec w) (a b c : Nat) => x.rotateRight a ^^^ x.rotateRight b ^^^ x.rotateRight c
  let wide := w == 64
  let w0 : Array (BitVec w) := ((blocksOf (w / 8) blk).map (fun b => BitVec.ofNat w (beNat b))).toArray
  let ws := (List.range (rounds - 16)).foldl (fun (a : Array (BitVec w)) j =>
    let i := j + 16
    let s0 := if wide then r3 (a.getD (i - 15) 0) 1 8 7 else r3 (a.getD (i - 15) 0) 7 18 3
    let s1 := if wide then r3 (a.getD (i - 2) 0) 19 61 6 else r3 (a.getD (i - 2) 0) 17 19 10
    a.push (a.getD (i - 16) 0 + s0 + a.getD (i - 7) 0 + s1)) w0
  let v := (List.range rounds).foldl (fun (v : List (BitVec w)) i =>
    let a := v.getD 0 0; let b := v.getD 1 0; let c := v.getD 2 0; let d := v.getD 3 0
    let e := v.getD 4 0; let f := v.getD 5 0; let g := v.getD 6 0; let hh := v.getD 7 0
    let s1 := if wide then rr e 14 18 41 else rr e 6 11 25
    let s0 := if wide then rr a 28 34 39 else rr a 2 13 22
    let k := BitVec.ofNat w (k512.getD i 0 / 2 ^ (64 - w))
    let t1 := hh + s1 + ((e &&& f) ^^^ (~~~e &&& g)) + k + ws.getD i 0
    let t2 := s0 + ((a &&& b) ^^^ (a &&& c) ^^^ (b &&& c))
    [t1 + t2, a, b, c, d + t1, e, f, g]) h
  List.zipWith (· + ·) h v

/-- SHA-2 of a message: word width, rounds, initial value, digest bytes. -/
def sha2 (w rounds : Nat) (iv : List Nat) (n : Nat) (msg : List Byte) : List Byte :=
  let bl := 2 * w
  let lenB := w / 4
  let z := (2 * bl - (msg.length + 1 + lenB) % bl) % bl
  let m := msg ++ [0x80] ++ List.replicate z 0 ++ beBytes lenB (8 * msg.length)
  let h := (blocksOf bl m).foldl (sha2Block w rounds) (iv.map (BitVec.ofNat w))
  ((h.map (fun x => beBytes (w / 8) x.toNat)).flatten).take n

/-- SHA-256. -/
def sha256 (m : List Byte) : List Byte :=
  sha2 32 64 ((primes80.take 8).map (fun p => fracRoot 2 p / 2 ^ 32)) 32 m

/-- SHA-512. -/
def sha512 (m : List Byte) : List Byte := sha2 64 80 ((primes80.take 8).map (fracRoot 2)) 64 m

/-- SHA-384. -/
def sha384 (m : List Byte) : List Byte := sha2 64 80 (((primes80.drop 8).take 8).map (fracRoot 2)) 48 m

/-! ### SHA-3 and SHAKE (FIPS 202) -/

/-- The round constants of FIPS 202. -/
def keccakRC : List Nat :=
  [0x0000000000000001, 0x0000000000008082, 0x800000000000808a, 0x8000000080008000,
   0x000000000000808b, 0x0000000080000001, 0x8000000080008081, 0x8000000000008009,
   0x000000000000008a, 0x0000000000000088, 0x0000000080008009, 0x000000008000000a,
   0x000000008000808b, 0x800000000000008b, 0x8000000000008089, 0x8000000000008003,
   0x8000000000008002, 0x8000000000000080, 0x000000000000800a, 0x800000008000000a,
   0x8000000080008081, 0x8000000000008080, 0x0000000080000001, 0x8000000080008008]

/-- Rotation offsets of FIPS 202: lane and amount along the path of rho and pi. -/
def rhoPi : List (Nat × Nat) :=
  [(1, 1), (10, 3), (7, 6), (11, 10), (17, 15), (18, 21), (3, 28), (5, 36),
   (16, 45), (8, 55), (21, 2), (24, 14), (4, 27), (15, 41), (23, 56), (19, 8),
   (13, 25), (12, 43), (2, 62), (20, 18), (14, 39), (22, 61), (9, 20), (6, 44)]

/-- A lane rotated left. -/
def rotLane (x k : Nat) : Nat := x <<< k % 2 ^ 64 ||| x >>> (64 - k)

/-- One round on 25 lanes: theta, rho and pi, chi, iota. -/
def keccakRound (a : List Nat) (rc : Nat) : List Nat :=
  let g := fun (a : List Nat) (i : Nat) => a.getD i 0
  let c := (List.range 5).map (fun x => g a x ^^^ g a (x + 5) ^^^ g a (x + 10) ^^^ g a (x + 15) ^^^ g a (x + 20))
  let d := (List.range 5).map (fun x => g c ((x + 4) % 5) ^^^ rotLane (g c ((x + 1) % 5)) 1)
  let a1 := (List.range 25).map (fun i => g a i ^^^ g d (i % 5))
  let b := rhoPi.foldl (fun (b : List Nat) (e : Nat × Nat) =>
    let x := e.1 % 5; let y := e.1 / 5
    b.set (y + 5 * ((2 * x + 3 * y) % 5)) (rotLane (g a1 e.1) e.2)) a1
  (List.range 25).map (fun i =>
    let x := i % 5; let y := i / 5
    g b i ^^^ ((2 ^ 64 - 1 - g b ((x + 1) % 5 + 5 * y)) &&& g b ((x + 2) % 5 + 5 * y)) ^^^ (if i == 0 then rc else 0))

/-- Keccak-f[1600] on 25 lanes. -/
def keccakF (s : List Nat) : List Nat := keccakRC.foldl keccakRound s

/-- Keccak sponge with rate in bytes, domain byte, and output length at most one rate. -/
def keccak (rate : Nat) (dom : Byte) (n : Nat) (msg : List Byte) : List Byte :=
  let z := rate - (msg.length + 1) % rate
  let m0 := msg ++ [dom] ++ List.replicate (z % rate) 0
  let m := m0.dropLast ++ [(m0.getLastD 0) ||| 0x80]
  let st := (blocksOf rate m).foldl (fun (s : List Nat) b =>
    let ls := (blocksOf 8 b).map leNat
    keccakF ((List.range 25).map (fun i => s.getD i 0 ^^^ ls.getD i 0))) (List.replicate 25 0)
  ((st.map (leBytes 8)).flatten).take n

/-- SHA3-256. -/
def sha3_256 (m : List Byte) : List Byte := keccak 136 0x06 32 m

/-- SHA3-512. -/
def sha3_512 (m : List Byte) : List Byte := keccak 72 0x06 64 m

/-- SHAKE256, at most 136 bytes. -/
def shake256 (n : Nat) (m : List Byte) : List Byte := keccak 136 0x1F n m

/-! ### Elliptic curves -/

/-- A short Weierstrass curve with a = −3: field, b, order, base point. -/
structure Curve where
  p : Nat
  b : Nat
  n : Nat
  gx : Nat
  gy : Nat
  bytes : Nat
  deriving DecidableEq, Repr

/-- P-256. -/
def p256 : Curve where
  p := 2 ^ 256 - 2 ^ 224 + 2 ^ 192 + 2 ^ 96 - 1
  b := 0x5ac635d8aa3a93e7b3ebbd55769886bc651d06b0cc53b0f63bce3c3e27d2604b
  n := 0xffffffff00000000ffffffffffffffffbce6faada7179e84f3b9cac2fc632551
  gx := 0x6b17d1f2e12c4247f8bce6e563a440f277037d812deb33a0f4a13945d898c296
  gy := 0x4fe342e2fe1a7f9b8ee7eb4a7c0f9e162bce33576b315ececbb6406837bf51f5
  bytes := 32

/-- P-384. -/
def p384 : Curve where
  p := 2 ^ 384 - 2 ^ 128 - 2 ^ 96 + 2 ^ 32 - 1
  b := 0xb3312fa7e23ee7e4988e056be3f82d19181d9c6efe8141120314088f5013875ac656398d8a2ed19d2a85c8edd3ec2aef
  n := 0xffffffffffffffffffffffffffffffffffffffffffffffffc7634d81f4372ddf581a0db248b0a77aecec196accc52973
  gx := 0xaa87ca22be8b05378eb1c71ef320ad746e1d3b628ba79b9859f741e082542a385502f25dbf55296c3a545e3872760ab7
  gy := 0x3617de4a96262c6f5d9e98bf9292dc29f8f41dbd289a147ce9da3113b5f0b8c00a60b1ce1d7e819d7a431d7c90ea0e5f
  bytes := 48

/-- The point lies on its curve (step 6 of Table 11-5). -/
def onCurve (c : Curve) (x y : Nat) : Bool :=
  y * y % c.p == (x * x % c.p * x + (c.p - 3) * x + c.b) % c.p

/-- Subtraction modulo p. -/
def subMod (p a b : Nat) : Nat := (a + (p - b % p)) % p

/-- Addition of affine points; `none` is the point at infinity. -/
def ecAdd (c : Curve) : Option (Nat × Nat) → Option (Nat × Nat) → Option (Nat × Nat)
  | none, q => q
  | p, none => p
  | some (x1, y1), some (x2, y2) =>
    if x1 == x2 && (y1 + y2) % c.p == 0 then none
    else
      let l := if x1 == x2 then (3 * x1 * x1 + (c.p - 3)) * powMod (2 * y1) (c.p - 2) c.p % c.p
        else subMod c.p y2 y1 * powMod (subMod c.p x2 x1) (c.p - 2) c.p % c.p
      let x3 := subMod c.p (l * l) (x1 + x2)
      some (x3, subMod c.p (l * subMod c.p x1 x3) y1)

/-- Scalar multiplication over `k` bits. -/
def ecMulAux (c : Curve) : Nat → Nat → Option (Nat × Nat) → Option (Nat × Nat)
  | 0, _, _ => none
  | k + 1, e, q =>
    let r := ecMulAux c k (e / 2) (ecAdd c q q)
    if e % 2 == 1 then ecAdd c q r else r

/-- Scalar multiplication. -/
def ecMul (c : Curve) (e : Nat) (q : Option (Nat × Nat)) : Option (Nat × Nat) :=
  ecMulAux c (Nat.log2 e + 1) e q

/-- The base point. -/
def Curve.g (c : Curve) : Option (Nat × Nat) := some (c.gx, c.gy)

/-- ECDSA verification of FIPS 186-5 on a digest `e` of the curve's length. -/
def ecdsaVerify (c : Curve) (qx qy e r s : Nat) : Bool :=
  let w := powMod s (c.n - 2) c.n
  match ecAdd c (ecMul c (e * w % c.n) c.g) (ecMul c (r * w % c.n) (some (qx, qy))) with
  | none => false
  | some (x, _) => x % c.n == r && 0 < r && r < c.n && 0 < s && s < c.n

/-- ECDSA signature with the random number k. -/
def ecdsaSign (c : Curve) (d e k : Nat) : Nat × Nat :=
  let r := match ecMul c k c.g with
    | none => 0
    | some (x, _) => x % c.n
  (r, powMod k (c.n - 2) c.n * (e + r * d) % c.n)

/-- An uncompressed point (0x04, X, Y) that is valid. -/
def ecPoint (c : Curve) (bs : List Byte) : Option (Nat × Nat) :=
  let x := beNat ((bs.drop 1).take c.bytes)
  let y := beNat ((bs.drop (1 + c.bytes)).take c.bytes)
  if bs.headD 0 == 4 && x < c.p && y < c.p && onCurve c x y then some (x, y) else none

/-- SIG_EC of envelopes and bundles: ECDSA P-384 with SHA-384, r then s. -/
def verifyP384 (pub msg sig : List Byte) : Bool :=
  match ecPoint p384 pub with
  | none => false
  | some (x, y) => ecdsaVerify p384 x y (beNat (sha384 msg)) (beNat (sig.take 48)) (beNat ((sig.drop 48).take 48))

/-! ### Curve25519 and Edwards25519 -/

/-- 2^255 − 19. -/
def p25519 : Nat := 2 ^ 255 - 19

/-- The group order of Ed25519. -/
def ed25519Order : Nat := 2 ^ 252 + 27742317777372353535851937790883648493

/-- The X25519 ladder of RFC 7748 over `k` bits, from bit k − 1 down. -/
def ladder (x1 e : Nat) : Nat → Nat × Nat × Nat × Nat → Nat × Nat × Nat × Nat
  | 0, s => s
  | k + 1, (x2, z2, x3, z3) =>
    let p := p25519
    let bit := e / 2 ^ k % 2 == 1
    let (x2, z2, x3, z3) := if bit then (x3, z3, x2, z2) else (x2, z2, x3, z3)
    let a := (x2 + z2) % p
    let b := subMod p x2 z2
    let aa := a * a % p
    let bb := b * b % p
    let ee := subMod p aa bb
    let da := subMod p x3 z3 * a % p
    let cb := (x3 + z3) * b % p
    let s := (da + cb) % p
    let d := subMod p da cb
    let x3 := s * s % p
    let z3 := x1 * (d * d % p) % p
    let x2 := aa * bb % p
    let z2 := ee * (aa + 121665 * ee) % p
    let r := if bit then (x3, z3, x2, z2) else (x2, z2, x3, z3)
    ladder x1 e k r

/-- X25519 of RFC 7748 on byte strings. -/
def x25519 (k u : List Byte) : List Byte :=
  let kc := leNat k % 2 ^ 254 / 8 * 8 + 2 ^ 254
  let x := leNat u % 2 ^ 255
  let r := ladder (x % p25519) kc 255 (1, 0, x % p25519, 1)
  leBytes 32 (r.1 * powMod r.2.1 (p25519 - 2) p25519 % p25519)

/-- The Edwards constant d. -/
def edD : Nat := subMod p25519 0 (121665 * powMod 121666 (p25519 - 2) p25519)

/-- Addition on Edwards25519 in affine coordinates. -/
def edAdd (a b : Nat × Nat) : Nat × Nat :=
  let p := p25519
  let t := edD * (a.1 * b.1 % p) % p * (a.2 * b.2 % p) % p
  ((a.1 * b.2 + b.1 * a.2) % p * powMod (1 + t) (p - 2) p % p,
   (a.2 * b.2 + a.1 * b.1) % p * powMod (subMod p 1 t) (p - 2) p % p)

/-- Scalar multiplication over `k` bits. -/
def edMulAux : Nat → Nat → Nat × Nat → Nat × Nat
  | 0, _, _ => (0, 1)
  | k + 1, e, q =>
    let r := edMulAux k (e / 2) (edAdd q q)
    if e % 2 == 1 then edAdd q r else r

/-- Scalar multiplication. -/
def edMul (e : Nat) (q : Nat × Nat) : Nat × Nat := edMulAux (Nat.log2 e + 1) e q

/-- Decompression of RFC 8032; `none` when the encoding does not decompress. -/
def edDecode (bs : List Byte) : Option (Nat × Nat) :=
  let p := p25519
  let v := leNat bs
  let y := v % 2 ^ 255
  let u := subMod p (y * y) 1
  let w := (edD * (y * y % p) + 1) % p
  let x2 := u * powMod w (p - 2) p % p
  let r := powMod x2 ((p + 3) / 8) p
  let r := if r * r % p == x2 then r else r * powMod 2 ((p - 1) / 4) p % p
  if y < p && r * r % p == x2 && !(r == 0 && v / 2 ^ 255 == 1) then
    some (if r % 2 == v / 2 ^ 255 then r else (p - r) % p, y)
  else none

/-- Compression of RFC 8032. -/
def edEncode (q : Nat × Nat) : List Byte := leBytes 32 (q.2 + q.1 % 2 * 2 ^ 255)

/-- The base point of Ed25519. -/
def edBase : Nat × Nat :=
  (edDecode (leBytes 32 (4 * powMod 5 (p25519 - 2) p25519 % p25519))).getD (0, 1)

/-- Of small order: eight times the point is the identity (step 8 of Table 11-5). -/
def edSmall (q : Nat × Nat) : Bool := edMul 8 q == (0, 1)

/-- Ed25519 signature of RFC 8032. -/
def edSign (seed m : List Byte) : List Byte :=
  let h := sha512 seed
  let a := leNat (h.take 32) % 2 ^ 254 / 8 * 8 + 2 ^ 254
  let pub := edEncode (edMul a edBase)
  let r := leNat (sha512 (h.drop 32 ++ m)) % ed25519Order
  let rb := edEncode (edMul r edBase)
  let k := leNat (sha512 (rb ++ pub ++ m)) % ed25519Order
  rb ++ leBytes 32 ((r + k * a) % ed25519Order)

/-- Ed25519 verification of RFC 8032: [S]B = R + [k]A. -/
def edVerify (a r : List Byte) (s : Nat) (m : List Byte) : Bool :=
  match edDecode a, edDecode r with
  | some qa, some qr =>
    edMul s edBase == edAdd qr (edMul (leNat (sha512 (r ++ a ++ m)) % ed25519Order) qa)
  | _, _ => false

/-! ### Checks and derivation -/

/-- CRC-32C of a string (R581). -/
def crc32c (bs : List Byte) : BitVec 32 :=
  ~~~ bs.foldl (fun c b => (List.range 8).foldl (fun (c : BitVec 32) _ =>
    (c >>> 1) ^^^ (if c.getLsbD 0 then 0x82F63B78 else 0)) (c ^^^ b.setWidth 32)) (BitVec.allOnes 32)

/-- DERIVE(LABEL, CONTEXT, n) of "Derivation" in 10_keys.md. -/
def derive (root : List Byte) (label : List Byte) (ctx : List Byte) (n : Nat) : List Byte :=
  (sha3_512 (root ++ label ++ [0] ++ ctx)).take n

/-- The ASCII bytes of a label. -/
def ascii (s : String) : List Byte := s.toList.map (fun ch => BitVec.ofNat 8 ch.toNat)

/-- Random bytes of one draw. -/
def random (draw n : Nat) : List Byte := (List.range n).map (Config.randByte draw)

end Sys2Proof.Machine
end

