-- ==== Sys2Proof/Machine/Lattice.lean ====
section
/-!
DEFINITION. The lattice algorithms of FIPS 203 and FIPS 204 that PK subops 0x30 to 0x3B, the identity and transport key
pairs and every hybrid signature use (R376, R379, R416, R530), and the CTR_DRBG of SP 800-90A (R402). Polynomials are
arrays of 256 coefficients below their modulus.
-/

namespace Sys2Proof.Machine

/-! ### Extendable output (FIPS 202) -/

/-- Absorbs a padded message: the state of the sponge. -/
def keccakAbsorb (rate : Nat) (dom : Byte) (msg : List Byte) : List Nat :=
  let z := rate - (msg.length + 1) % rate
  let m := msg ++ [dom] ++ List.replicate (z % rate) 0
  (blocksOf rate (m.dropLast ++ [m.getLastD 0 ||| 0x80])).foldl (fun (s : List Nat) b =>
    let ls := (blocksOf 8 b).map leNat
    keccakF ((List.range 25).map (fun i => s.getD i 0 ^^^ ls.getD i 0))) (List.replicate 25 0)

/-- `k` blocks of output from a state on. -/
def keccakSqueeze (rate : Nat) : Nat → List Nat → List Byte
  | 0, _ => []
  | k + 1, s => ((s.map (leBytes 8)).flatten).take rate ++ keccakSqueeze rate k (keccakF s)

/-- `n` bytes of SHAKE128. -/
def xof128 (n : Nat) (m : List Byte) : List Byte := (keccakSqueeze 168 ((n + 167) / 168) (keccakAbsorb 168 0x1F m)).take n

/-- `n` bytes of SHAKE256. -/
def xof256 (n : Nat) (m : List Byte) : List Byte := (keccakSqueeze 136 ((n + 135) / 136) (keccakAbsorb 136 0x1F m)).take n

/-! ### Polynomials -/

/-- A polynomial of 256 coefficients. -/
abbrev Poly := Array Nat

/-- Coefficient j. -/
def Poly.c (f : Poly) (j : Nat) : Nat := Array.getD f j 0

/-- A polynomial from its coefficients. -/
def polyOf (f : Nat → Nat) : Poly := (Array.range 256).map f

/-- The zero polynomial. -/
def Poly.zero : Poly := polyOf (fun _ => 0)

/-- Sum modulo q. -/
def Poly.add (q : Nat) (f g : Poly) : Poly := polyOf (fun j => (f.c j + g.c j) % q)

/-- Difference modulo q. -/
def Poly.sub (q : Nat) (f g : Poly) : Poly := polyOf (fun j => (f.c j + q - g.c j % q) % q)

/-- A number with its `n` bits reversed. -/
def bitRev (n i : Nat) : Nat := (List.range n).foldl (fun a k => a + i / 2 ^ k % 2 * 2 ^ (n - 1 - k)) 0

/-- The ring of a standard: modulus, root of unity, bits of its exponents, layer lengths of the transform, and the
inverse of the number of its blocks. -/
structure Ring256 where
  q : Nat
  root : Nat
  bits : Nat
  lens : List Nat
  inv : Nat
  deriving DecidableEq, Repr

/-- The ring of ML-KEM (FIPS 203). -/
def kemRing : Ring256 := ⟨3329, 17, 7, [128, 64, 32, 16, 8, 4, 2], 3303⟩

/-- The ring of ML-DSA (FIPS 204). -/
def dsaRing : Ring256 := ⟨8380417, 1753, 8, [128, 64, 32, 16, 8, 4, 2, 1], 8347681⟩

/-- The powers of the root in the order in which a transform uses them. -/
def Ring256.zetas (r : Ring256) : Array Nat := (Array.range (2 ^ r.bits)).map (fun i => powMod r.root (bitRev r.bits i) r.q)

/-- One layer of the transform. -/
def nttLayer (q : Nat) (z : Array Nat) (f : Poly) (len : Nat) : Poly :=
  polyOf (fun j =>
    let w := z.getD (128 / len + j / (2 * len)) 0
    if j % (2 * len) < len then (f.c j + w * f.c (j + len)) % q
    else (f.c (j - len) + q * q - w * f.c j) % q)

/-- The number-theoretic transform. -/
def Ring256.ntt (r : Ring256) (f : Poly) : Poly :=
  let z := r.zetas
  r.lens.foldl (nttLayer r.q z) f

/-- One layer of the inverse transform. -/
def invLayer (q : Nat) (z : Array Nat) (f : Poly) (len : Nat) : Poly :=
  polyOf (fun j =>
    let w := z.getD (2 * (128 / len) - 1 - j / (2 * len)) 0
    if j % (2 * len) < len then (f.c j + f.c (j + len)) % q
    else w * (f.c j + q - f.c (j - len)) % q)

/-- The inverse transform. -/
def Ring256.intt (r : Ring256) (f : Poly) : Poly :=
  let z := r.zetas
  let g := r.lens.reverse.foldl (invLayer r.q z) f
  polyOf (fun j => g.c j * r.inv % r.q)

/-- Product of two transforms of ML-DSA: coefficient by coefficient. -/
def dsaMul (f g : Poly) : Poly := polyOf (fun j => f.c j * g.c j % 8380417)

/-- Product of two transforms of ML-KEM: pairs of coefficients modulo X² − ζ^(2 BitRev(i) + 1) (FIPS 203). -/
def kemMul (f g : Poly) : Poly :=
  let gam := (Array.range 128).map (fun i => powMod 17 (2 * bitRev 7 i + 1) 3329)
  polyOf (fun j =>
    if j % 2 == 0 then (f.c j * g.c j + f.c (j + 1) * g.c (j + 1) % 3329 * gam.getD (j / 2) 0) % 3329
    else (f.c (j - 1) * g.c j + f.c j * g.c (j - 1)) % 3329)

/-- Inner product of two vectors of transforms. -/
def polyDot (q : Nat) (mul : Poly → Poly → Poly) (a b : List Poly) : Poly :=
  (List.zipWith mul a b).foldl (Poly.add q) Poly.zero

/-! ### Packing -/

/-- The bits of a byte string, the least significant bit of each byte first, as one number. -/
def packedNat (bs : List Byte) : Nat := leNat bs

/-- Packs coefficients of d bits each. -/
def packBits (d : Nat) (f : Poly) : List Byte :=
  leBytes (32 * d) (f.toList.zipIdx.foldl (fun a p => a + p.1 % 2 ^ d * 2 ^ (d * p.2)) 0)

/-- The coefficients of d bits each of a packed polynomial. -/
def unpackBits (d : Nat) (bs : List Byte) : Poly :=
  let v := packedNat (bs.take (32 * d))
  polyOf (fun j => v >>> (d * j) % 2 ^ d)

/-- Cuts a string into k pieces of n bytes. -/
def pieces (n k : Nat) (bs : List Byte) : List (List Byte) := (List.range k).map (fun i => (bs.drop (n * i)).take n)

/-! ### ML-KEM (FIPS 203) -/

/-- A parameter set: the rank k and the compression widths. -/
structure KemSet where
  k : Nat
  du : Nat
  dv : Nat
  deriving DecidableEq, Repr

/-- ML-KEM-768. -/
def kem768 : KemSet := ⟨3, 10, 4⟩
/-- ML-KEM-1024. -/
def kem1024 : KemSet := ⟨4, 11, 5⟩

/-- Bytes of an encapsulation key. -/
def KemSet.ekLen (p : KemSet) : Nat := 384 * p.k + 32
/-- Bytes of a decapsulation key. -/
def KemSet.dkLen (p : KemSet) : Nat := 768 * p.k + 96
/-- Bytes of a ciphertext. -/
def KemSet.ctLen (p : KemSet) : Nat := 32 * (p.du * p.k + p.dv)

/-- The numbers below q among pairs of 12 bits of three bytes each. -/
def kemCandidates (bs : List Byte) : List Nat :=
  ((pieces 3 (bs.length / 3) bs).map (fun b =>
    let v := leNat b
    [v % 4096, v / 4096])).flatten.filter (· < 3329)

/-- SampleNTT of FIPS 203; 1,680 bytes of output hold 256 accepted numbers but for a chance below 2^−250. -/
def kemSample (seed : List Byte) : Poly :=
  let l := (kemCandidates (xof128 1680 seed)).toArray
  polyOf (fun j => l.getD j 0)

/-- SamplePolyCBD with η = 2. -/
def kemCbd (bs : List Byte) : Poly :=
  let v := leNat bs
  let b := fun (i : Nat) => b2nat (v.testBit i)
  polyOf (fun j => (b (4 * j) + b (4 * j + 1) + 3329 - b (4 * j + 2) - b (4 * j + 3)) % 3329)
where
  /-- A bit as a number. -/
  b2nat (x : Bool) : Nat := if x then 1 else 0

/-- Compress to d bits. -/
def kemCompress (d : Nat) (f : Poly) : Poly := polyOf (fun j => (f.c j * 2 ^ (d + 1) + 3329) / (2 * 3329) % 2 ^ d)

/-- Decompress from d bits. -/
def kemDecompress (d : Nat) (f : Poly) : Poly := polyOf (fun j => (f.c j * 3329 * 2 + 2 ^ d) / 2 ^ (d + 1))

/-- Row i of the matrix of seed ρ, or of its transpose. -/
def kemRow (p : KemSet) (rho : List Byte) (transposed : Bool) (i : Nat) : List Poly :=
  (List.range p.k).map (fun j =>
    kemSample (rho ++ (if transposed then [BitVec.ofNat 8 i, BitVec.ofNat 8 j] else [BitVec.ofNat 8 j, BitVec.ofNat 8 i])))

/-- The secret or noise polynomials numbered from n on. -/
def kemNoise (seed : List Byte) (n k : Nat) : List Poly :=
  (List.range k).map (fun i => kemCbd (xof256 128 (seed ++ [BitVec.ofNat 8 (n + i)])))

/-- K-PKE.KeyGen of a 32-byte seed: the encapsulation key and the secret's encoding. -/
def kemPkeGen (p : KemSet) (d : List Byte) : List Byte × List Byte :=
  let g := sha3_512 (d.take 32 ++ [BitVec.ofNat 8 p.k])
  let rho := g.take 32
  let s := (kemNoise (g.drop 32) 0 p.k).map kemRing.ntt
  let e := (kemNoise (g.drop 32) p.k p.k).map kemRing.ntt
  let t := e.zipIdx.map (fun x => Poly.add 3329 (polyDot 3329 kemMul (kemRow p rho false x.2) s) x.1)
  ((t.map (packBits 12)).flatten ++ rho, (s.map (packBits 12)).flatten)

/-- ML-KEM.KeyGen_internal of seeds d and z: ek and dk. -/
def kemKeyGen (p : KemSet) (d z : List Byte) : List Byte × List Byte :=
  let (ek, sk) := kemPkeGen p d
  (ek, sk ++ ek ++ sha3_256 ek ++ z)

/-- K-PKE.Encrypt. -/
def kemEncrypt (p : KemSet) (ek m r : List Byte) : List Byte :=
  let t := (pieces 384 p.k ek).map (unpackBits 12)
  let rho := (ek.drop (384 * p.k)).take 32
  let y := (kemNoise r 0 p.k).map kemRing.ntt
  let e1 := kemNoise r p.k p.k
  let e2 := (kemNoise r (2 * p.k) 1).headD Poly.zero
  let u := e1.zipIdx.map (fun x => Poly.add 3329 (kemRing.intt (polyDot 3329 kemMul (kemRow p rho true x.2) y)) x.1)
  let v := Poly.add 3329 (Poly.add 3329 (kemRing.intt (polyDot 3329 kemMul t y)) e2) (kemDecompress 1 (unpackBits 1 m))
  (u.map (fun f => packBits p.du (kemCompress p.du f))).flatten ++ packBits p.dv (kemCompress p.dv v)

/-- ML-KEM.Encaps_internal: ciphertext and shared secret. -/
def kemEncaps (p : KemSet) (ek m : List Byte) : List Byte × List Byte :=
  let g := sha3_512 (m ++ sha3_256 ek)
  (kemEncrypt p ek m (g.drop 32), g.take 32)

/-- K-PKE.Decrypt. -/
def kemDecrypt (p : KemSet) (sk c : List Byte) : List Byte :=
  let u := (pieces (32 * p.du) p.k c).map (fun b => kemDecompress p.du (unpackBits p.du b))
  let v := kemDecompress p.dv (unpackBits p.dv (c.drop (32 * p.du * p.k)))
  let s := (pieces 384 p.k sk).map (unpackBits 12)
  packBits 1 (kemCompress 1 (Poly.sub 3329 v (kemRing.intt (polyDot 3329 kemMul s (u.map kemRing.ntt)))))

/-- ML-KEM.Decaps_internal: the shared secret, with implicit rejection. -/
def kemDecaps (p : KemSet) (dk c : List Byte) : List Byte :=
  let ek := (dk.drop (384 * p.k)).take p.ekLen
  let h := (dk.drop (768 * p.k + 32)).take 32
  let z := (dk.drop (768 * p.k + 64)).take 32
  let m := kemDecrypt p dk c
  let g := sha3_512 (m ++ h)
  if kemEncrypt p ek m (g.drop 32) == c then g.take 32 else xof256 32 (z ++ c)

/-! ### ML-DSA (FIPS 204) -/

/-- A parameter set: dimensions, η, τ, bytes of the challenge hash, β and ω. -/
structure DsaSet where
  k : Nat
  l : Nat
  eta : Nat
  tau : Nat
  ch : Nat
  beta : Nat
  omega : Nat
  deriving DecidableEq, Repr

/-- ML-DSA-65. -/
def dsa65 : DsaSet := ⟨6, 5, 4, 49, 48, 196, 55⟩
/-- ML-DSA-87. -/
def dsa87 : DsaSet := ⟨8, 7, 2, 60, 64, 120, 75⟩

/-- The modulus. -/
def dsaQ : Nat := 8380417
/-- γ1. -/
def dsaG1 : Nat := 2 ^ 19
/-- γ2. -/
def dsaG2 : Nat := 261888

/-- Bits of a coefficient of the secret vectors. -/
def DsaSet.etaBits (p : DsaSet) : Nat := if p.eta == 2 then 3 else 4
/-- Bytes of a public key. -/
def DsaSet.pkLen (p : DsaSet) : Nat := 32 + 320 * p.k
/-- Bytes of a private key. -/
def DsaSet.skLen (p : DsaSet) : Nat := 128 + 32 * p.etaBits * (p.k + p.l) + 416 * p.k
/-- Bytes of a signature. -/
def DsaSet.sigLen (p : DsaSet) : Nat := p.ch + 640 * p.l + p.omega + p.k

/-- RejNTTPoly; 1,344 bytes of output hold 256 accepted numbers but for a chance below 2^−250. -/
def dsaSample (seed : List Byte) : Poly :=
  let l := (((pieces 3 448 (xof128 1344 seed)).map (fun b => leNat b % 2 ^ 23)).filter (· < dsaQ)).toArray
  polyOf (fun j => l.getD j 0)

/-- RejBoundedPoly. -/
def dsaBounded (eta : Nat) (seed : List Byte) : Poly :=
  let half := ((xof256 816 seed).map (fun b => [b.toNat % 16, b.toNat / 16])).flatten
  let l := (half.filterMap (fun b =>
    if eta == 2 then (if b < 15 then some ((dsaQ + 2 - b % 5) % dsaQ) else none)
    else (if b < 9 then some ((dsaQ + 4 - b) % dsaQ) else none))).toArray
  polyOf (fun j => l.getD j 0)

/-- Row r of the matrix of seed ρ. -/
def dsaRow (p : DsaSet) (rho : List Byte) (r : Nat) : List Poly :=
  (List.range p.l).map (fun s => dsaSample (rho ++ [BitVec.ofNat 8 s, BitVec.ofNat 8 r]))

/-- A coefficient as the representative between −q/2 and q/2. -/
def dsaCentre (x : Nat) : Int := if x > 4190208 then (x : Int) - 8380417 else x

/-- The residue of an integer. -/
def dsaRes (x : Int) : Nat := (x % 8380417).toNat

/-- Power2Round with d = 13: the high and the low part. -/
def dsaRound (x : Nat) : Nat × Int :=
  let r := x % 8192
  let r0 : Int := if r > 4096 then (r : Int) - 8192 else r
  ((((x : Int) - r0) / 8192).toNat, r0)

/-- Decompose: high and low part under 2·γ2. -/
def dsaDecompose (x : Nat) : Nat × Int :=
  let r := x % (2 * dsaG2)
  let r0 : Int := if r > dsaG2 then (r : Int) - 2 * dsaG2 else r
  if (x : Int) - r0 == dsaQ - 1 then (0, r0 - 1) else ((((x : Int) - r0) / (2 * dsaG2)).toNat, r0)

/-- HighBits of a polynomial. -/
def dsaHigh (f : Poly) : Poly := f.map (fun x => (dsaDecompose x).1)

/-- The largest absolute value of the centred coefficients. -/
def dsaNorm (f : Poly) : Nat := f.foldl (fun m x => max m (dsaCentre x).natAbs) 0

/-- The largest absolute value of the low parts. -/
def dsaLowNorm (f : Poly) : Nat := f.foldl (fun m x => max m (dsaDecompose x).2.natAbs) 0

/-- Packs b − x for coefficients x between −a and b, in d bits. -/
def dsaPack (b d : Nat) (f : Poly) : List Byte := packBits d (f.map (fun x => ((b : Int) - dsaCentre x).toNat))

/-- The polynomial that `dsaPack` packed. -/
def dsaUnpack (b d : Nat) (bs : List Byte) : Poly := (unpackBits d bs).map (fun (x : Nat) => dsaRes ((b : Int) - (x : Int)))

/-- One swap of SampleInBall: the position drawn for i and the rest of the stream. -/
def ballDraw (i : Nat) : List Byte → Nat × List Byte
  | [] => (0, [])
  | b :: t => if b.toNat ≤ i then (b.toNat, t) else ballDraw i t

/-- SampleInBall. -/
def dsaBall (tau : Nat) (seed : List Byte) : Poly :=
  let out := xof256 1088 seed
  let h := leNat (out.take 8)
  ((List.range tau).foldl (fun (a : Poly × List Byte) n =>
    let i := 256 - tau + n
    let (j, rest) := ballDraw i a.2
    ((a.1.setIfInBounds i (a.1.c j)).setIfInBounds j (if h.testBit n then dsaQ - 1 else 1), rest)) (Poly.zero, out.drop 8)).1

/-- HintBitPack. -/
def dsaHintPack (p : DsaSet) (h : List (List Nat)) : List Byte :=
  let pos := h.flatten
  let ends := (List.range p.k).map (fun i => ((h.take (i + 1)).map List.length).sum)
  (pos ++ List.replicate (p.omega - pos.length) 0 ++ ends).map (BitVec.ofNat 8)

/-- Rising numbers. -/
def rising : List Nat → Bool
  | a :: b :: t => a < b && rising (b :: t)
  | _ => true

/-- HintBitUnpack: the positions of each polynomial, none when the encoding is malformed. -/
def dsaHintUnpack (p : DsaSet) (bs : List Byte) : Option (List (List Nat)) :=
  let y := bs.map BitVec.toNat
  let ends := (y.drop p.omega).take p.k
  let all := y.take p.omega
  let starts := 0 :: ends.dropLast
  let hs := List.zipWith (fun a b => (all.take b).drop a) starts ends
  if (List.zipWith (fun a b => decide (a ≤ b && b ≤ p.omega)) starts ends).all id && hs.all rising &&
      (all.drop (ends.getLastD 0)).all (· == 0) then some hs else none

/-- UseHint on a polynomial whose hint positions are given. -/
def dsaUseHint (h : List Nat) (f : Poly) : Poly :=
  polyOf (fun j =>
    let (r1, r0) := dsaDecompose (f.c j)
    if h.contains j then (if 0 < r0 then (r1 + 1) % 16 else (r1 + 15) % 16) else r1)

/-- w1Encode. -/
def dsaW1 (w : List Poly) : List Byte := (w.map (packBits 4)).flatten

/-- ML-DSA.KeyGen_internal of a seed: pk and sk. -/
def dsaKeyGen (p : DsaSet) (seed : List Byte) : List Byte × List Byte :=
  let g := xof256 128 (seed.take 32 ++ [BitVec.ofNat 8 p.k, BitVec.ofNat 8 p.l])
  let rho := g.take 32
  let rho' := (g.drop 32).take 64
  let s1 := (List.range p.l).map (fun r => dsaBounded p.eta (rho' ++ leBytes 2 r))
  let s2 := (List.range p.k).map (fun r => dsaBounded p.eta (rho' ++ leBytes 2 (p.l + r)))
  let s1h := s1.map dsaRing.ntt
  let t := s2.zipIdx.map (fun x =>
    Poly.add dsaQ (dsaRing.intt (polyDot dsaQ dsaMul (dsaRow p rho x.2) s1h)) x.1)
  let pk := rho ++ (t.map (fun f => packBits 10 (f.map (fun x => (dsaRound x).1)))).flatten
  let t0 := t.map (fun f => f.map (fun x => dsaRes (dsaRound x).2))
  (pk, rho ++ g.drop 96 ++ xof256 64 pk ++ ((s1 ++ s2).map (dsaPack p.eta p.etaBits)).flatten ++
    (t0.map (dsaPack 4096 13)).flatten)

/-- The message that is signed: pure signing with a context string. -/
def dsaMessage (ctx msg : List Byte) : List Byte := [0, BitVec.ofNat 8 ctx.length] ++ ctx ++ msg

/-- ExpandMask for counter κ. -/
def dsaMask (p : DsaSet) (rho : List Byte) (kappa : Nat) : List Poly :=
  (List.range p.l).map (fun r => dsaUnpack dsaG1 20 (xof256 640 (rho ++ leBytes 2 (kappa + r))))

/-- What the iterations of a signing share: the matrix, the transformed secrets, μ and ρ″. -/
structure DsaKey where
  rows : List (List Poly)
  s1 : List Poly
  s2 : List Poly
  t0 : List Poly
  mu : List Byte
  rho : List Byte
  deriving DecidableEq, Repr

/-- One iteration of the rejection loop: a signature, or none when it is rejected. -/
def dsaTry (p : DsaSet) (x : DsaKey) (kappa : Nat) : Option (List Byte) :=
  let y := dsaMask p x.rho kappa
  let yh := y.map dsaRing.ntt
  let w := x.rows.map (fun row => dsaRing.intt (polyDot dsaQ dsaMul row yh))
  let ch := xof256 p.ch (x.mu ++ dsaW1 (w.map dsaHigh))
  let c := dsaRing.ntt (dsaBall p.tau ch)
  let z := List.zipWith (fun f s => Poly.add dsaQ f (dsaRing.intt (dsaMul c s))) y x.s1
  let r := List.zipWith (fun f s => Poly.sub dsaQ f (dsaRing.intt (dsaMul c s))) w x.s2
  if z.any (fun f => dsaNorm f ≥ dsaG1 - p.beta) || r.any (fun f => dsaLowNorm f ≥ dsaG2 - p.beta) then none
  else
    let ct := x.t0.map (fun s => dsaRing.intt (dsaMul c s))
    let h := List.zipWith (fun f t =>
      let g := Poly.add dsaQ f t
      (List.range 256).filter (fun j => (dsaDecompose (f.c j)).1 != (dsaDecompose (g.c j)).1)) r ct
    if ct.any (fun f => dsaNorm f ≥ dsaG2) || (h.map List.length).sum > p.omega then none
    else some (ch ++ (z.map (dsaPack dsaG1 20)).flatten ++ dsaHintPack p h)

/-- The rejection loop, for at most `n` iterations. -/
def dsaLoop (p : DsaSet) (x : DsaKey) : Nat → Nat → Option (List Byte)
  | 0, _ => none
  | n + 1, kappa =>
    match dsaTry p x kappa with
    | some s => some s
    | none => dsaLoop p x n (kappa + p.l)

/-- ML-DSA.Sign with randomness rnd; none when 814 iterations, the bound of FIPS 204, reject. -/
def dsaSign (p : DsaSet) (sk ctx msg rnd : List Byte) : Option (List Byte) :=
  let rho := sk.take 32
  let eb := 32 * p.etaBits
  let part := fun (off n k : Nat) => pieces n k (sk.drop off)
  let mu := xof256 64 ((sk.drop 64).take 64 ++ dsaMessage ctx msg)
  let secret := fun (b : List Byte) => dsaRing.ntt (dsaUnpack p.eta p.etaBits b)
  dsaLoop p { rows := (List.range p.k).map (dsaRow p rho), s1 := (part 128 eb p.l).map secret,
              s2 := (part (128 + eb * p.l) eb p.k).map secret,
              t0 := (part (128 + eb * (p.l + p.k)) 416 p.k).map (fun b => dsaRing.ntt (dsaUnpack 4096 13 b)), mu := mu,
              rho := xof256 64 ((sk.drop 32).take 32 ++ rnd ++ mu) } 814 0

/-- ML-DSA.Verify. -/
def dsaVerify (p : DsaSet) (pk ctx msg sig : List Byte) : Bool :=
  let rho := pk.take 32
  let t1 := (pieces 320 p.k (pk.drop 32)).map (fun b => dsaRing.ntt ((unpackBits 10 b).map (· * 8192)))
  let ch := sig.take p.ch
  let z := (pieces 640 p.l (sig.drop p.ch)).map (dsaUnpack dsaG1 20)
  match dsaHintUnpack p (sig.drop (p.ch + 640 * p.l)) with
  | none => false
  | some h =>
    let mu := xof256 64 (xof256 64 pk ++ dsaMessage ctx msg)
    let c := dsaRing.ntt (dsaBall p.tau ch)
    let zh := z.map dsaRing.ntt
    let w := (t1.zip h).zipIdx.map (fun x =>
      dsaUseHint x.1.2 (dsaRing.intt (Poly.sub dsaQ (polyDot dsaQ dsaMul (dsaRow p rho x.2) zh) (dsaMul c x.1.1))))
    pk.length == p.pkLen && sig.length == p.sigLen && ctx.length ≤ 255 && z.all (fun f => dsaNorm f < dsaG1 - p.beta) &&
      xof256 p.ch (mu ++ dsaW1 w) == ch

/-! ### CTR_DRBG of SP 800-90A with AES-256 and the derivation function -/

/-- `k` blocks of AES over V + 1, V + 2, … -/
def drbgBlocks (key : List Byte) : Nat → Nat → List Byte
  | 0, _ => []
  | k + 1, v => aes key (beBytes 16 ((v + 1) % 2 ^ 128)) ++ drbgBlocks key k ((v + 1) % 2 ^ 128)

/-- CTR_DRBG_Update with 48 bytes of data: the new Key and V. -/
def drbgUpdate (key v data : List Byte) : List Byte × List Byte :=
  let t := xorBytes (drbgBlocks key 3 (beNat v)) data
  (t.take 32, t.drop 32)

/-- BCC: the chained encryption of the derivation function. -/
def drbgBcc (key msg : List Byte) : List Byte :=
  (blocksOf 16 msg).foldl (fun c b => aes key (xorBytes c b)) (List.replicate 16 0)

/-- Block_Cipher_df to 48 bytes. -/
def drbgDf (x : List Byte) : List Byte :=
  let m := beBytes 4 x.length ++ beBytes 4 48 ++ x ++ [0x80]
  let m := m ++ List.replicate ((16 - m.length % 16) % 16) 0
  let k := (List.range 32).map (BitVec.ofNat 8)
  let t := ((List.range 3).map (fun i => drbgBcc k (beBytes 4 i ++ List.replicate 12 0 ++ m))).flatten
  let b1 := aes (t.take 32) (t.drop 32)
  let b2 := aes (t.take 32) b1
  b1 ++ b2 ++ aes (t.take 32) b2

/-- Instantiation from entropy with its nonce: Key and V. -/
def drbgInstantiate (seed : List Byte) : List Byte × List Byte :=
  drbgUpdate (List.replicate 32 0) (List.replicate 16 0) (drbgDf seed)

/-- A reseed with entropy and additional input. -/
def drbgReseed (key v entropy addin : List Byte) : List Byte × List Byte := drbgUpdate key v (drbgDf (entropy ++ addin))

/-- A generate request of n bytes with additional input: the bytes, Key and V. -/
def drbgGenerate (key v addin : List Byte) (n : Nat) : List Byte × List Byte × List Byte :=
  let a := if addin.isEmpty then List.replicate 48 0 else drbgDf addin
  let (key, v) := if addin.isEmpty then (key, v) else drbgUpdate key v a
  let k := (n + 15) / 16
  ((drbgBlocks key k (beNat v)).take n, drbgUpdate key (beBytes 16 ((beNat v + k) % 2 ^ 128)) a)

end Sys2Proof.Machine
end

