-- ==== Sys2Proof/Machine/State.lean ====
section
/-!
DEFINITION. The state of the block as plain data: every register, queue, buffer, counter, mode and pin of the
spec, grouped by unit, and the queue of waiting commands. `State.reset` is the block right after it has left
reset over a Cellar that was just powered from nothing (log entries 3 and 4).
-/

namespace Sys2Proof.Machine

/-- The build (R2, Table 0-2). -/
inductive Build where
  | w6400 | w3200 | w1600
  deriving DecidableEq, Repr

/-- Wired inputs and outputs of resets and supplies (Tables 14-3 and 14-5); `mainUp`: MAIN is powered and
out of reset (R493). -/
structure Pins where
  porN : Bool
  blkRstN : Bool
  mainGood : Bool
  mainReq : Bool
  memRet : Bool
  iso : Bool
  mainUp : Bool
  deriving DecidableEq, Repr

/-- A reply under construction or being written (R32). `word2`: the body has been acknowledged and word 2 is out. -/
structure Reply where
  status : Status
  detail : Nat
  body : List Byte
  word2 : Bool
  deriving DecidableEq, Repr

/-- What a taken command still waits for before its reply (R37, R39, R65, R88, R95, R108, R170, R369, R390, R392,
R429, R478, R575, R595). -/
inductive Wait where
  | none
  | share (inst weight quota hshare : Nat)
  | counter (inst ctr enable event : Nat) (filter : Word)
  | resume (port : Nat)
  | kekSet
  | envDone
  | engine
  | handover
  | unlock
  | commit
  | quiesce (inst : Nat)
  | reset (inst : Nat)
  | destroy (inst : Nat)
  | ringEnd (ring : Nat)
  | abort (ops : List Nat) (count : Nat)
  | lockDone
  | newImage
  | attach
  | stage
  deriving DecidableEq, Repr

/-- A taken packet: its 256 bytes, its address and HEAD value, what it waits for, its reply. -/
structure Serving where
  pkt : List Byte
  addr : Nat
  wait : Wait
  reply : Option Reply
  deriving DecidableEq, Repr

/-- A command queue (Tables 2-2 to 2-4). `rdOut`: a packet read is outstanding; `arrived`: a packet whose 256
bytes have arrived and that no row has served yet (R29). -/
structure CmdQ where
  base : Nat
  enable : Bool
  tail : Idx
  head : Idx
  fabErr : Bool
  overrun : Bool
  rdOut : Bool
  arrived : Option (List Byte)
  serving : Option Serving
  deriving DecidableEq, Repr

/-- The cold value of a command queue. -/
def CmdQ.cold : CmdQ := ⟨0, false, 0, 0, false, false, false, none, none⟩

/-- An event queue (Tables 4-8 and 4-9). `issued`: records issued since ENABLE rose; `acked`: numbers of
records acknowledged beyond TAIL; `inFlight`: issued and not counted in TAIL, with type and ring (R158); `unsig`:
records since the last interrupt message; `flagSet`: OVERFLOW or FABRIC_ERR set since then and not cleared; `due`: the
oldest of those records has reached TIME (R156). -/
structure EventQ where
  base : Nat
  enable : Bool
  tail : Idx
  head : Idx
  mask : Bool
  time : Nat
  count : Nat
  msgAddr : Nat
  msgData : Nat
  pend : BitVec 6
  armed : Bool
  headBad : Bool
  fabErr : Bool
  overflow : Bool
  issued : Idx
  acked : List Idx
  inFlight : List (Idx × Nat × Nat)
  unsig : Nat
  flagSet : Bool
  due : Bool
  deriving DecidableEq, Repr

/-- The cold value of an event queue (Table 21-1). -/
def EventQ.cold : EventQ :=
  ⟨0, false, 0, 0, true, 0, 1, 0, 0, 0, true, false, false, false, 0, [], [], 0, false, false⟩

/-- PCH_DB_STATUS (Table 4-5). -/
structure DbStatus where
  lastRing : Nat
  partialW : Bool
  refused : Bool
  behind : Bool
  stale : Bool
  foreign : Bool
  deriving DecidableEq, Repr

/-- A virtual counter (Table 20-5) with its settings (Table 20-2). -/
structure Counter where
  value : Nat
  run : Bool
  ovf : Bool
  ovfRec : Bool
  event : Nat
  filter : Word
  deriving DecidableEq, Repr

/-- A sampling buffer (Table 20-9); `dispatches`: dispatches in scope since ENABLE rose; `issued`: records
whose write has been made. -/
structure Samp where
  base : Nat
  enable : Bool
  k : Nat
  log2 : Nat
  scope : Bool
  tail : Idx
  head : Idx
  skipped : Nat
  fabErr : Bool
  dispatches : Nat
  deriving DecidableEq, Repr

/-- The cold value of a sampling buffer. -/
def Samp.cold : Samp := ⟨0, false, 10, 12, false, 0, 0, 0, false, 0⟩

/-- An instance's key-encryption keys and Larder seed (R397, R398): the key store and, kept equal to it by
R374, the Pantry door's key table. -/
structure Kek where
  curVer : Nat
  cur : List Byte
  drainVer : Nat
  drain : List Byte
  seedId : Nat
  seed : List Byte
  deriving DecidableEq, Repr

/-- No key and no seed (R82). -/
def Kek.none : Kek := ⟨0, [], 0, [], 0, []⟩

/-- Instance states (Table 3-1). -/
inductive InstState where
  | absent | active | quiescing | quiesced | resetting | destroying
  deriving DecidableEq, Repr

/-- One instance: Table 3-1, shares, window, page registers, counters, keys. `stopFetch`: from a round boundary no new fetch
starts (R93); `genStep`: the boundary work of R102 is due; `work`: INST_DESTROY found work in flight when it was taken
(R102, R114); `clamp`: a SHARE_SET takes effect at this boundary (R233); `was`: the state before RESETTING or DESTROYING
(R568); `ringPtr`, `run`, `cycle`: place in the ring round robin (R234, R236): next ring, entries taken in the current run,
entries each ring took in the current cycle. -/
structure Inst where
  state : InstState
  was : InstState
  gen : Nat
  weight : Nat
  quota : Nat
  hshare : Nat
  ringQuota : Nat
  ctxBase : Nat
  ctxLimit : Nat
  stopFetch : Bool
  genStep : Bool
  work : Bool
  deficit : Int
  quantum : Nat
  clamp : Bool
  hdeficit : Int
  hquantum : Nat
  ringPtr : Nat
  run : Nat
  cycle : List (Nat × Nat)
  cq : CmdQ
  eq : EventQ
  db : DbStatus
  ringSel : Nat
  counters : List Counter
  samp : Samp
  kek : Kek
  deriving DecidableEq, Repr

/-- A programmable counter at its cold value. -/
def Counter.prog : Counter := ⟨0, false, false, false, 0, 0⟩

/-- A fixed counter at its cold value (Table 20-5). -/
def Counter.fixed : Counter := ⟨0, true, false, false, 0, 0⟩

/-- A guest's 24 counters (R651). -/
def Counter.guest : List Counter := List.replicate 16 Counter.prog ++ List.replicate 8 Counter.fixed

/-- Instance 0's 72 counters (R651). -/
def Counter.manager : List Counter := List.replicate 64 Counter.prog ++ List.replicate 8 Counter.fixed

/-- An ABSENT guest of generation 0, its page at the cold values of R671. -/
def Inst.absent : Inst :=
  ⟨.absent, .absent, 0, 0, 0, 0, 0, 0, 0, false, false, false, 0, 0, false, 0, 0, 0, 0, [], CmdQ.cold, EventQ.cold,
    ⟨0, false, false, false, false, false⟩, 0, Counter.guest, Samp.cold, Kek.none⟩

/-- Instance 0 (R83, Table 3-6). -/
def Inst.manager : Inst :=
  { Inst.absent with state := .active, weight := 16, quota := 512, hshare := 16,
                     counters := Counter.manager }

/-- Ring states (Table 4-10); an ABSENT number has no record. -/
inductive RingState where
  | running | error | resuming | resetting | destroying
  deriving DecidableEq, Repr

/-- One ring that is not ABSENT (Tables 4-1 to 4-3, 4-11, 4-12). `advanced`: entries CONSUMED has advanced since creation or
reset (R145); `complBad`: a completion write failed (R145); `errDue`: the RING_ERROR record of the stop waits for a
completion (R155); `quiet`: resumed while its instance was QUIESCING (R97, R169); `was`: the state before RESETTING or
DESTROYING (R568); `estimate`: R228; `hiDisp`: one past the highest dispatched entry (R163); `held`: the doorbell of R136;
`harvOut`: the tail of the doorbell that asked for the outstanding harvest read; both with their doorbell's stamp;
`dbStamps`: tails with the stamp of the doorbell that set them (R664). -/
structure Ring where
  owner : Nat
  log2 : Nat
  fmt : Nat
  anyOrder : Bool
  burst : Nat
  weight : Nat
  base : Nat
  iblk : Nat
  state : RingState
  was : RingState
  tail : Idx
  consumed : Idx
  harvest : Idx
  errIdx : Idx
  haltIdx : Idx
  errStatus : Nat
  errDue : Bool
  stops : Nat
  advanced : Nat
  complBad : Bool
  pend : Bool
  quiet : Bool
  estimate : Nat
  hiDisp : Option Idx
  harvOut : Option (Idx × Nat)
  held : Option (Idx × Nat)
  dbStamps : List (Idx × Nat)
  deriving DecidableEq, Repr

/-- The eight words of a descriptor (Table 5-1); a format-1 descriptor (Table 5-13) fills four. -/
structure Desc where
  w0 : Word
  w1 : Word
  w2 : Word
  w3 : Word
  w4 : Word
  w5 : Word
  w6 : Word
  w7 : Word
  deriving DecidableEq, Repr

/-- A gather or scatter list as read so far (R187 to R195): the data segments found, blocks read, whether END
was found, and the next block named by a LINK. -/
structure SegList where
  segs : List (Nat × Nat)
  blocks : Nat
  ended : Bool
  next : Option Nat
  deriving DecidableEq, Repr

/-- One entry of an operation: index, descriptor, its two lists. -/
structure Entry where
  idx : Idx
  d : Desc
  src : SegList
  dst : SegList
  deriving DecidableEq, Repr

/-- The life of an in-flight entry. -/
inductive Phase where
  /-- a descriptor read is outstanding; the number of reads made of this entry (R140) -/
  | fetch (tries : Nat)
  /-- waits 1 µs before the next read (R140) -/
  | reread (tries : Nat)
  /-- an open chain waits for its next entry (R202) -/
  | chain
  /-- list blocks are read before dispatch (R193, R195) -/
  | lists
  /-- the blob of CTX_INSTALL or CTX_REKEY is read -/
  | blob
  /-- steps 1 to 10 of Table 5-8 have passed -/
  | ready
  /-- parked on a Pantry miss of an absolute index (R14) -/
  | parked (index : Nat)
  /-- a CTX_INSTALL waits for a RETIRING index (R357) or probes the Larder (step 8 of Table 9-12) -/
  | waitIndex (index : Nat)
  /-- dispatched to a Room or to the Scullery -/
  | run
  /-- in the Hearth queue or on an engine -/
  | hearth
  /-- a dispatched CTX_RETIRE -/
  | retire (index : Nat)
  /-- ended; its zero writes are not all acknowledged -/
  | scrub
  /-- ended; its completion is not yet issued -/
  | post
  /-- its completion writes are issued -/
  | compl
  deriving DecidableEq, Repr

/-- The key state an operation copies at its dispatch (R275 step 4, R287). -/
structure KeyCopy where
  alg : Nat
  key : List Byte
  sub : List Byte
  salt : List Byte
  deriving DecidableEq, Repr

/-- One in-flight table entry (R14) with its operation record (R306). `gen`: its generation (R76); `old`: old-generation
(R102); `lockMark`: marked locked (R567); `returned`: marked by a port halt (R468); `ran`: a dispatch has been made;
`charge`: cost charged so far; `pn`, `firstPn`: its packet number and the one of its first dispatch; `ref`: absolute index
referenced; `dropRef`: the reference goes when the completion is written (R274); `pin`: KEK version pinned (R399);
`switched`, `softHit`: R284, R280; `miss`, `passed`: R240; `room`, `place`: its Room and the index of its staging place
there (R306, R329); `unit`: what the current part runs on; `avoid`: the unit that a part which has started has had to leave,
and the Alcove that it does not restart on (R319); `part`: parts ended, or Hearth charges made (R410); `done`: bytes of the
current part that have passed the checks of its unit; `charged`: the part that comes next has been charged (R229); `need`:
source bytes asked for; `buf`, `aad`, `tag`: data arrived, with their places; `acc`: ciphertext or message processed so far,
which stands for the accumulators; `stage`: plaintext in the staging place; `wrote`: bytes written, as address and length,
since its last dispatch, and `prior` those of the dispatches before, which a halt ended; `blob`: a blob or packet-number
field as read; `posted`, `complLeft`: its completion writes; `seq`: its place in acceptance, then in dispatch order;
`sample`: buffers that sample it with the sample number; the stamps of R664. -/
structure Op where
  id : Nat
  inst : Nat
  ring : Nat
  entries : List Entry
  phase : Phase
  old : Bool
  gen : Nat
  lockMark : Bool
  returned : Bool
  ran : Bool
  charge : Nat
  pn : Option Nat
  firstPn : Option Nat
  key : Option KeyCopy
  ref : Option Nat
  dropRef : Bool
  pin : Option Nat
  switched : Bool
  softHit : Bool
  miss : Bool
  passed : Nat
  room : Option Nat
  place : Option Nat
  unit : Option Nat
  avoid : Option Nat
  part : Nat
  done : Nat
  charged : Bool
  need : Nat
  buf : List (Nat × List Byte)
  aad : List (Nat × List Byte)
  tag : List (Nat × List Byte)
  acc : List Byte
  stage : List Byte
  wrote : List (Nat × Nat)
  prior : List (Nat × Nat)
  blob : List Byte
  status : Status
  result : Nat
  posted : Bool
  complLeft : Nat
  seq : Nat
  sample : List (Nat × Nat)
  tDisp : Nat
  tData : Nat
  reDisp : Bool
  deriving DecidableEq, Repr

/-- A speculative copy (R143). -/
structure Spec where
  ring : Nat
  idx : Idx
  data : List Byte
  deriving DecidableEq, Repr

/-- Who a Hallway transfer belongs to (Table 13-3). `dst`: a data, tag, digest or result write, with the ring and entry it
is charged to even when the completion was issued before it failed (R466); none once the ring is no more. `nobody`: a write
that no queue awaits any more; `child`: a child of a node whose children are authenticated again (R348). `image` and
`attic`: block n of a bundle, read from host memory or from the Attic, and written to the Attic (R529, R588); `line`,
`lineW`: the scratch line of step 9 of bring-up, read through a port and written (R533). -/
inductive Owner where
  | cmdPacket (q : Nat)
  | replyBody (q : Nat)
  | replyWord2 (q : Nat)
  | eventRec (inst : Nat) (n : Idx)
  | irqMsg (inst : Nat)
  | desc (op : Nat)
  | spec (ring : Nat) (idx : Idx)
  | harvest (ring : Nat)
  | idxBlock (ring : Nat)
  | list (op ent : Nat) (dst : Bool)
  | blob (op : Nat)
  | aad (op : Nat)
  | src (op : Nat)
  | tagIn (op : Nat)
  | pkIn (op : Nat)
  | pkBody (op : Nat)
  | dst (op : Nat) (ring : Option Nat) (idx : Idx)
  | zero (op : Nat)
  | compl (op : Nat)
  | node (level n : Nat)
  | larBlob (index : Nat)
  | victim (index : Nat)
  | nodeWb (level n : Nat)
  | tomb (index : Nat)
  | reauth
  | flushSlot (index : Nat)
  | flushNode (level n : Nat)
  | child (level n c : Nat)
  | samp (inst : Nat)
  | image (n : Nat)
  | attic (n : Nat)
  | line (port : Nat)
  | lineW
  | nobody
  deriving DecidableEq, Repr

/-- A read request (R455); `off`: place of its bytes in the transfer; `id` and `quar` matter once issued;
`drop`: its data is discarded on arrival (R468, R104); `old`: it belonged to an operation that became
old-generation (R104). -/
structure Rd where
  id : Nat
  addr : Nat
  len : Nat
  tag : Nat
  owner : Owner
  off : Nat
  quar : Bool
  drop : Bool
  old : Bool
  deriving DecidableEq, Repr

/-- A write request with its bytes. -/
structure Wr where
  id : Nat
  addr : Nat
  data : List Byte
  tag : Nat
  owner : Owner
  quar : Bool
  deriving DecidableEq, Repr

/-- One Hallway port (Tables 13-6, 13-7, 13-7a). `first`: STATUS and RING of the first error of the halt (R470);
`told`: the MOVER_HALT record of the halt has been written; `hush`: resumed while PAUSE was 1 (R480). -/
structure Port where
  rds : List Rd
  wrs : List Wr
  rdQ : List Rd
  wrQ : List Wr
  halted : Bool
  cause : Nat
  halts : Nat
  first : Option (Status × Nat)
  told : Bool
  paused : Bool
  hush : Bool
  rBeats : Nat
  wBeats : Nat
  bwR : Nat
  bwW : Nat
  deriving DecidableEq, Repr

/-- A running port with nothing outstanding. -/
def Port.cold : Port := ⟨[], [], [], [], false, 0, 0, none, false, false, false, 0, 0, 0, 0⟩

/-- A transfer that has arrived and that its unit has not handled yet: data of a read, or the acknowledgement
of a write (`data = []`). -/
structure Arrived where
  owner : Owner
  data : List Byte
  deriving DecidableEq, Repr

/-- The Hallway: HWY_CFG, HWY_BW_CFG, the ports, pieces of transfers not yet whole, arrived transfers. -/
structure Hwy where
  readTimeout : Nat
  writeTimeout : Nat
  bwWindow : Nat
  ports : List Port
  pieces : List (Owner × Nat × List Byte)
  arrived : List Arrived
  deriving DecidableEq, Repr

/-- An AES Alcove (R306, R321, R325). `svc`: 0 in service, 1 in self-test, 2 failed; `dummyKey`: an AES-256 key;
`dummyIn`: the random input of its last dummy block; `rotFwd`, `rotChk`: the amounts by which the forward pipeline and the checker
held the byte lanes of its last block rotated (R327). -/
structure Alcove where
  svc : Nat
  dummies : Nat
  dummyKey : List Byte
  dummyIn : List Byte
  rotFwd : Nat
  rotChk : Nat
  deriving DecidableEq, Repr

/-- An operation record that outlives its in-flight entry: output writes of the operation are not acknowledged (R306,
Table 8-2). `place`: its staging place, if it still holds one (R330). -/
structure Record where
  op : Nat
  ring : Nat
  room : Nat
  place : Option Nat
  deriving DecidableEq, Repr

/-- TH_ROOM_CFG, TH_ROOM_STATUS.FAULTS, the Alcoves (two a Room) and the service state of the
ChaCha20-Poly1305 units; `ratioNow`: the ratio in force (R326); `linger`: records whose entry is gone. -/
structure Rooms where
  ratio : Bool
  ratioNow : Bool
  faults : Nat
  alcoves : List Alcove
  chachas : List Nat
  linger : List Record
  deriving DecidableEq, Repr

/-- Slot states (Table 9-3); a FREE slot has no record. -/
inductive SlotState where
  | live | retiring | companion
  deriving DecidableEq, Repr

/-- A Pantry slot: header (Table 9-3; `stamp`: the round of its last lookup, of which the STAMP field holds the low 32
bits, so that a STAMP of any age orders as R363 asks) and record (Table 9-2). `map`: the 1,024-bit map a companion holds;
`evicting`: its write-back is outstanding; `noVictim`: R364; `retireOp`: the CTX_RETIRE that waits on it;
`tombDue`: the tombstone waits for its path, its write or its acknowledgement; `noTomb`: R361; `final`: the value recorded by
step 1 of R360; `zeroed`: steps 1 and 2 of R360 have been taken. -/
structure Slot where
  index : Nat
  owner : Nat
  seedId : Nat
  serial : Nat
  policy : BitVec 19
  state : SlotState
  dirty : Bool
  stamp : Nat
  key0 : List Byte
  key1 : List Byte
  sub0 : List Byte
  sub1 : List Byte
  salt0 : List Byte
  salt1 : List Byte
  f104 : Nat
  f112 : Nat
  f120 : Nat
  map : BitVec 1024
  evicting : Bool
  noVictim : Bool
  retireOp : Option Nat
  tombDue : Bool
  noTomb : Bool
  final : Nat
  zeroed : Bool
  deriving DecidableEq, Repr

/-- The Pantry: slots by number, PAN_PIN_CFG, PIN_DROPPED; `dirFault`: Threshold dispatches no further
context-bearing operation (Table 19-3 codes 2 and 3) until the Pantry is cleared; `keyFault`: the key store is lost
in both copies (code 8): 1 waits for the references, 2 flushes. -/
structure Pantry where
  slots : List (Nat × Slot)
  pinMax : Nat
  instPinMax : Nat
  pinDropped : Bool
  dirFault : Bool
  keyFault : Nat
  deriving DecidableEq, Repr

/-- A counter node (Table 9-6): MAJOR and 64 MINOR fields. -/
structure Ctrs where
  major : Nat
  minors : List Nat
  deriving DecidableEq, Repr

/-- The all-zero node (R347). -/
def Ctrs.zero : Ctrs := ⟨0, List.replicate 64 0⟩

/-- A cached, verified node (R349). `old`: the counters before an overflow whose re-authentication is not
done (R348); `wbOut`: its write-back is outstanding; `rewrap`: its children's new authentications are written and not
all acknowledged. -/
structure Node where
  level : Nat
  n : Nat
  c : Ctrs
  dirty : Bool
  lru : Nat
  old : Option Ctrs
  wbOut : Bool
  rewrap : Bool
  deriving DecidableEq, Repr

/-- A Larder fetch at the Pantry door (R15, R355). `probe`: the CTX_INSTALL whose step 8 it serves;
`blob`: the blob's bytes once arrived; `inc`: the verified incoming slot that waits for a place;
`victim`: the slot number chosen (R17). -/
structure Fetch where
  index : Nat
  inst : Nat
  probe : Option Nat
  blob : Option (List Byte)
  inc : Option Slot
  incMap : Bool
  victim : Option Nat
  token : Bool
  deriving DecidableEq, Repr

/-- Why a flush runs (R368). -/
inductive FlushFor where
  | lock | softReset | power | keyStore
  deriving DecidableEq, Repr

/-- The Larder: LAR_STATUS, LAR_FAIL, the regions, the node cache, fetches, and the flush in progress;
`misses`: indices that wait for the Pantry door, with their instance (R259, R260); `tokens`: R261;
`credits`: turns left in the round robin (R259); `flushRes`: how a flush that has just ended went; `staleDue`: the flush of a
lock has failed, and the regions become stale after step 6 (R570). -/
structure Larder where
  attached : Bool
  stale : Bool
  integrity : Nat
  failStatus : Nat
  failIndex : Nat
  blobBase : Nat
  treeBase : Nat
  blobCount : Nat
  nodes : List Node
  fetches : List Fetch
  misses : List (Nat × Nat × Option Nat)
  tokens : Nat
  credits : List (Nat × Nat)
  flush : Option FlushFor
  flushRes : Option Bool
  staleDue : Bool
  deriving DecidableEq, Repr

/-- A lock sequence that runs (Table 16-4): marking and completions, the flush, or the clearing. -/
inductive LockStep where
  | idle | completions | flush | clear
  deriving DecidableEq, Repr

/-- The Cellar (Table 10-5, Tables 16-6 to 16-9). `level`: response of the present lock event; `quietUs`: µs for which each
source has been quiet, 1,000 at most; `zeroRuns`: steps of R571 are still running; `passPattern`, `passImpedance`: clean
passes of the two Roof detectors since the last alarm (Table 16-5 step 5); `alarmUs`: µs since the last alarm, 10^6 at most;
`roofGen`, `roofUs`: the state of the Roof's pattern generator, and µs since its last pattern (R553); `faultLog`: fault
reports by millisecond, newest first; `onVbat`: the Cellar runs on vbat alone; `alarmN`: alarm_n is pulled low (Table
14-15); `vbatUs`: µs since an event was recorded on vbat, 1,000 at most (R572). -/
structure Cellar where
  root : List Byte
  rootPresent : Bool
  enrolNum : Nat
  ownerEc : List Byte
  ownerPq : List Byte
  owned : Bool
  ctr0 : Nat
  ctr1 : Nat
  ctr2 : Nat
  ctr3 : Nat
  treeRoot : Ctrs
  storeGen : Nat
  blobCount : Nat
  valid : Bool
  dirty : Bool
  locked : Bool
  lockDone : Bool
  zeroised : Bool
  lockOnWake : Bool
  lockEvent : Nat
  lockCause : Nat
  level : Nat
  step : LockStep
  zeroRuns : Bool
  alarmCfg : BitVec 16
  faultWindow : Nat
  faultLimit : Nat
  faultLog : List Nat
  flags : BitVec 9
  asserting : BitVec 9
  quietUs : List Nat
  passPattern : Bool
  passImpedance : Bool
  alarmUs : Nat
  roofGen : Nat
  roofUs : Nat
  tick : Nat
  onVbat : Bool
  vbatUs : Nat
  alarmN : Bool
  deriving DecidableEq, Repr

/-- A diagnostic permit held (R648). -/
structure DiagPermit where
  points : BitVec 32
  left : Nat
  notAfter : Nat
  deriving DecidableEq, Repr

/-- A CTR_DRBG (R402): Key and V of SP 800-90A, and the generate requests since it was seeded. -/
structure Drbg where
  key : List Byte
  v : List Byte
  reqs : Nat
  deriving DecidableEq, Repr

/-- A CTR_DRBG that holds nothing. -/
def Drbg.cold : Drbg := ⟨[], [], 0⟩

/-- Keys outside the Cellar: permits, identity, KEYIN (Table 10-9), RNG status, the CTR_DRBGs of the Rooms, then of the
Hearth engines, then of the Study (R402), CEL_ID_SEL; `engineMs`: milliseconds that the
envelope has waited for an engine (R390); `kekPending`: a committed KEK_SET that waits for its boundary (R392): instance, version,
key, seed number, seed. -/
structure Keys where
  permit : Option Nat
  diag : Option DiagPermit
  identReady : Bool
  idSel : Nat
  keyin : List Word
  keyinOvf : Bool
  keyinIgn : Bool
  keyinBusy : Bool
  rngFail : Bool
  rngOk : Bool
  drbgs : List Drbg
  engineMs : Nat
  kekPending : Option (Nat × Nat × List Byte × Nat × List Byte)
  deriving DecidableEq, Repr

/-- Engine states (Table 11-12). -/
inductive EngState where
  | idle | fetch | run | release | wipe | test | failed | loading
  deriving DecidableEq, Repr

/-- The working registers of a Hearth engine (Table 11-1): of its modular multiplier, its number-theoretic-transform unit
and its sequencer. What they hold while an operation runs is a free value (log entry 78). -/
structure EngRegs where
  mul : Nat
  ntt : Nat
  seq : Nat
  deriving DecidableEq, Repr

/-- Zero-filled registers. -/
def EngRegs.zero : EngRegs := ⟨0, 0, 0⟩

/-- A Hearth engine. `owner`: last owner, none for 0x1FFF; `op`: the operation held; `ucode`: version of the microcode it
holds; `hdr`, `data`: operand block header and operands; `regs`: its working registers; `valDone`: the validation phase has
ended with this status; `abort`: ordered to stop at the next instruction boundary (R427); `after`: status with which the
operation ends once the wipe is done; `drain`: takes no new work, its microcode will be replaced (R603). -/
structure Engine where
  owner : Option Nat
  state : EngState
  op : Option Nat
  ucode : Nat
  hdr : List Byte
  data : List Byte
  regs : EngRegs
  valDone : Option Status
  abort : Bool
  after : Option Status
  drain : Bool
  deriving DecidableEq, Repr

/-- The Hearth: its queue (instance and operation, first in first out for each instance), engines, registers,
and the instance under visit (R410). -/
structure Hearth where
  queue : List (Nat × Nat)
  engines : List Engine
  faults : Nat
  engSel : Nat
  visit : Nat
  inVisit : Bool
  deriving DecidableEq, Repr

/-- States of a register-path context (Table 12-5). -/
inductive ScuState where
  | free | opened | busy | done | failed
  deriving DecidableEq, Repr

/-- A register-path context (R444). `msg`: the message bytes absorbed or in the block buffer; `fin`: the block
in the core is the last; `lostNow`: a word was lost during this BUSY time; `core`: the core that absorbs its block
(R450). -/
structure ScuCtx where
  alg : Nat
  state : ScuState
  msg : List Byte
  fin : Bool
  lostNow : Bool
  digest : List Byte
  ignored : Bool
  lost : Bool
  core : Option Nat
  deriving DecidableEq, Repr

/-- A FREE context. -/
def ScuCtx.free : ScuCtx := ⟨0, .free, [], false, false, [], false, false, none⟩

/-- The Scullery: contexts 0 to 47 of the manager and 48 to 63 of the Study (R444), SCU_SEL, ring parts that
wait for a core in the order they became ready (R438), and the BUSY contexts that wait for a core, ahead of them
(R450); `cores`: the cores in service (R531). -/
structure Scullery where
  cores : List Nat
  ctxs : List ScuCtx
  sel : Nat
  partQ : List Nat
  ctxQ : List Nat
  deriving DecidableEq, Repr

/-- Boot registers (Tables 15-2 and 15-4), the fabric record's SNAPSHOT64 (R534), what Foundation ROM meets in steps 3 and 4,
the bring-up that runs, and what its exchange has read of the scratch line through each port, none where the read failed
(R533). -/
structure Boot where
  addr : Nat
  len : Nat
  scratch : Nat
  detail : Nat
  goIgnored : Bool
  err : Nat
  step : Nat
  snapshot64 : Bool
  rom : RomTest
  run : Option BringUp
  lines : List (Nat × Option (List Byte))
  deriving DecidableEq, Repr

/-- Firmware states (Table 17-11). -/
inductive FwState where
  | idle | staging | armed | trial | fallingBack
  deriving DecidableEq, Repr

/-- What Landing is doing while cmd_rdy is low for a handover, a rebuild or a restart (R12, R596, R618): `us`: µs that
are left; `kind`: 0 the staged image is started after a HANDOVER, 1 at an armed tick, 2 a fallback, 3 the running image is
started again; `reading`: blocks of the bundle are still to be read from the Attic; `got`: the bundle's blocks so far. -/
structure Landing where
  us : Nat
  kind : Nat
  run : LandingRun
  reading : Bool
  got : List (List Byte)
  deriving DecidableEq, Repr

/-- A FW_STAGE that copies its bundle (R591, R592): TARGET, the bundle's address, its number of blocks, the blocks read so
far. -/
structure Copy where
  target : Nat
  addr : Nat
  n : Nat
  blocks : List (List Byte)
  deriving DecidableEq, Repr

/-- Firmware (Tables 17-9 to 17-12). `sram`: the running bundle's blocks (R583); `freeHdr`: block 0 accepted at staging;
`fromStair`, `runStair`: FROM_STAIR of the free slot and of the running one; `fwdHere`: the last forwarded stage that this
block sent on was its own (R609); `floor`: floor in force (R585); `replyDue`: the new image owes the reply of a FW_ACTIVATE;
`fwd`: forwarded blocks of a stage in progress, which `fwding` says, and `fwdLast` that its last block has come; `copy`: the
FW_STAGE that is being served; `armedHere`: armed by this block's FW_ACTIVATE; `byChain`: armed over the chain; `imageRuns`:
a Study image runs; `rollout`: engines still to load; `landing`: Landing runs. -/
structure Fw where
  base : Nat
  enable : Bool
  reloadAtStart : Bool
  state : FwState
  lastStatus : Nat
  stageBlocks : Nat
  fromStair : Bool
  runStair : Bool
  fwdHere : Bool
  runValid : Bool
  freeValid : Bool
  runSlot : Bool
  tick : Nat
  chain : BitVec 32
  sram : List (List Byte)
  freeHdr : List Byte
  floor : Nat
  replyDue : Bool
  fwd : List (List Byte)
  fwding : Bool
  fwdLast : Bool
  copy : Option Copy
  armedHere : Bool
  byChain : Bool
  imageRuns : Bool
  rollout : List Nat
  landing : Option Landing
  deriving DecidableEq, Repr

/-- Power states (Table 18-4). -/
inductive PwrState where
  | active | idle | doze | retain | off
  deriving DecidableEq, Repr

/-- Power (Table 18-6). `entry`: the state being entered; `step`: step of Table 18-5; `tickAtEntry`: STA_TICK when
MAIN went off in Retain (R633); `alarmWake`: R631; `softReset`: the step of Table 18-3 that runs, with `keepImage`
(R621), `romAfter` (R601), `softUs` the time its step 2 has run and `bring` what its bring-up will meet; `grants`:
grants are not stopped by an entry or a soft reset. -/
structure Power where
  idleDelay : Nat
  wakeOnDb : Bool
  target : Nat
  lastWake : Nat
  refuse : Nat
  state : PwrState
  entry : Option PwrState
  step : Nat
  tickAtEntry : Nat
  alarmWake : Bool
  softReset : Option Nat
  keepImage : Bool
  romAfter : Bool
  softUs : Nat
  grants : Bool
  bring : Option BringUp
  deriving DecidableEq, Repr

/-- States of a Stair link (Table 15-8). -/
inductive LinkState where
  | disabled | training | negotiating | up | degraded | failed | refused | down
  deriving DecidableEq, Repr

/-- A lane: tx_eidle is 0 (R539), in service, attempts made in the series, preset, whether an attempt runs and adapt_done has
risen, whether the series has failed; `fomMin`: FOM_MIN at the start of the attempt. -/
structure Lane where
  sends : Bool
  inService : Bool
  trying : Bool
  adapted : Bool
  attempts : Nat
  preset : Nat
  failed : Bool
  fom : BitVec 8
  fomMin : Nat
  deriving DecidableEq, Repr

/-- A lane at its cold value. -/
def Lane.cold : Lane := ⟨false, false, false, false, 0, 0, false, 0, 0⟩

/-- A HELLO that leaves (R373, 15_bringup.md): the version range, the position and LONG_HOPS, the tick, DEVICE_ID, the
identity P-384 public key, and the ECDSA signature by the identity key. -/
structure HelloOut where
  verMin : BitVec 16
  verMax : BitVec 16
  pos : Nat
  longHops : Nat
  tick : Nat
  deviceId : List Byte
  key : List Byte
  sig : List Byte
  deriving DecidableEq, Repr

/-- A block on a lane (R511): the two-bit sync header and the 64 scrambled payload bits. -/
structure LineBlock where
  lane : Nat
  hdr : BitVec 2
  bits : BitVec 64
  deriving DecidableEq, Repr

/-- Messages that leave on a link. -/
inductive StairMsg where
  | hello (h : HelloOut)
  | alarm (pos : Nat) (zeroise : Bool)
  | block (index : Nat) (bytes : List Byte) (last : Bool)
  | abortStage
  | report (r : ReportKind) (pos : Nat)
  | arm (m : ArmMsg)
  | confirm
  deriving DecidableEq, Repr

/-- One Stair link (Table 15-8); `out`: messages sent and not yet taken by the neighbour; `line`: the coded blocks of
every message since the link last went down, oldest first; `scr0`, `scr1`: the last 58 scrambled bits of each lane (R511);
`helloDue`: a HELLO waits for its signature's random number (R403). -/
structure Link where
  state : LinkState
  reason : Nat
  attempts : Nat
  ver : BitVec 16
  nbrId : List Byte
  nbrPos : Nat
  nbrLong : Nat
  lane0 : Lane
  lane1 : Lane
  out : List StairMsg
  line : List LineBlock
  scr0 : BitVec 58
  scr1 : BitVec 58
  helloDue : Bool
  deriving DecidableEq, Repr

/-- A link at its cold value. -/
def Link.cold : Link := ⟨.disabled, 0, 0, 0, [], 0, 0, Lane.cold, Lane.cold, [], [], 0, 0, false⟩

/-- The Stair: STA_LANE_CFG, links, STA_TICK with the upstream tick it is held for, 0 while it counts (R547), whether
the tick runs on the Cellar's value (R548). -/
structure Stair where
  fomMin : Nat
  presetFirst : Nat
  up : Link
  dn : Link
  tick : Nat
  holdUntil : Nat
  fromCellar : Bool
  trained : Bool
  deriving DecidableEq, Repr

/-- STU_ECC_STATUS (Table 19-4); `upsets`: words that have gone bad and have not been read since (R641, R642). -/
structure Ecc where
  uncorr : Nat
  corr : Nat
  lastMem : Nat
  upsets : List Upset
  deriving DecidableEq, Repr

/-- An armed injection point (R648). -/
structure Armed where
  point : Nat
  left : Nat
  arg : Word
  deriving DecidableEq, Repr

/-- STU_DIAG_STATUS.FIRED, the armed points, and the alarm sources that an injection makes assert, with the µs for which they
will (R645). -/
structure Diag where
  fired : Nat
  armed : List Armed
  asserted : List (Nat × Nat)
  deriving DecidableEq, Repr

/-- A staged command (R60): its packet and, for RING_CREATE, the ring number reserved (R61). -/
structure Staged where
  pkt : List Byte
  ring : Nat
  deriving DecidableEq, Repr

/-- Transactions (Table 2-13). `aborted`: numbers Wilto rolled back by itself (R69); `taken`: a TXN_COMMIT has been
taken (R70); `later`: commands of an applied transaction that wait for the number of theirs to become free (R65). -/
structure Txn where
  opened : Bool
  num : Nat
  lastEnd : Nat
  next : Nat
  staged : List Staged
  later : List Staged
  timeoutMs : Nat
  aborted : List Nat
  taken : Bool
  deriving DecidableEq, Repr

/-- A DRAIN_PENDING command that has not finished (R39): queue, HEAD value and SEQ of its packet. -/
structure Late where
  q : Nat
  head : Idx
  seq : BitVec 32
  wait : Wait
  deriving DecidableEq, Repr

/-- The Study: cmd_rdy, protocol in force, service order (R36), late commands; `held`: the registers that the Study updates,
by offset, with the values that they show while cmd_rdy is low (R685). -/
structure Study where
  cmdRdy : Bool
  held : List (Nat × Word)
  proto : BitVec 16
  mgrRun : Nat
  lastGuest : Nat
  late : List Late
  deriving DecidableEq, Repr

/-- Threshold: visit state (R232), ROUND, the snapshot of TH_SCHED_STATUS (R262), TH_MISS_CFG, TH_PREFETCH_CFG. -/
structure Sched where
  visit : Option Nat
  last : Nat
  round : Nat
  snap : Word
  evictRate : Nat
  missMax : Nat
  depth : Nat
  specEn : Bool
  deriving DecidableEq, Repr

/-- A sampling record that waits to be written (R666): its buffer, and its bytes but for PHASE. -/
structure SampRec where
  buf : Nat
  bytes : List Byte
  deriving DecidableEq, Repr

/-- The whole state of the block. -/
structure State where
  build : Build
  upEn : Bool
  dnEn : Bool
  upLong : Bool
  dnLong : Bool
  romFloor : Nat
  pins : Pins
  porch : Option (BitVec 2 × Word)
  study : Study
  txn : Txn
  insts : List (Nat × Inst)
  instSel : Nat
  rings : List (Nat × Ring)
  specs : List Spec
  ops : List Op
  nextOp : Nat
  sched : Sched
  core : Nat
  rooms : Rooms
  pan : Pantry
  lar : Larder
  cel : Cellar
  keys : Keys
  hearth : Hearth
  scu : Scullery
  hwy : Hwy
  boot : Boot
  fw : Fw
  pwr : Power
  stair : Stair
  ecc : Ecc
  diag : Diag
  wraps : List (Nat × Nat)
  sampQ : List SampRec
  freeCtr : Nat
  pending : List Instr
  deriving DecidableEq, Repr

/-- No command of this model faults: errors of the block are statuses, flags and states (log entry 2).
The one member is raised by nobody; it is there because the interface asks for a type of faults. Safe. -/
inductive Fault where
  /-- Raised by no command. -/
  | unused
  deriving DecidableEq, Repr

/-- Why a command is refused. -/
inductive Refusal where
  /-- The command has no meaning in this model yet; raised by its arm in Dispatch.lean alone. Safe: the machine
  stops. -/
  | notModelled (mnemonic : String)
  deriving DecidableEq, Repr

/-- Rooms of the build (R2). -/
def Build.rooms : Build → Nat
  | .w6400 => 16
  | .w3200 => 8
  | .w1600 => 4

/-- Hearth engines of the build (R2). -/
def Build.engines : Build → Nat
  | .w6400 => 8
  | .w3200 => 4
  | .w1600 => 2

/-- Rings of the build (R2). -/
def Build.rings : Build → Nat
  | .w6400 => 65536
  | .w3200 => 16384
  | .w1600 => 4096

/-- Guest instances of the build (R2). -/
def Build.insts : Build → Nat
  | .w6400 => 4096
  | .w3200 => 1024
  | .w1600 => 256

/-- Pantry slots of the build (R2). -/
def Build.slots : Build → Nat
  | .w6400 => 262144
  | .w3200 => 131072
  | .w1600 => 65536

/-- Generation guard (R2). -/
def Build.guard : Build → Bool
  | .w6400 => true
  | .w3200 => true
  | .w1600 => false

/-- BUILD of the DEV_QUERY reply (Table 2-12). -/
def Build.code : Build → Nat
  | .w6400 => 0x1900
  | .w3200 => 0x0C80
  | .w1600 => 0x0640

/-- The Cellar after cellar_por_n (R576, R680, R382, R547). -/
def Cellar.powered : Cellar where
  root := []
  rootPresent := false
  enrolNum := 0
  ownerEc := []
  ownerPq := []
  owned := false
  ctr0 := 0
  ctr1 := 0
  ctr2 := 0
  ctr3 := 0
  treeRoot := Ctrs.zero
  storeGen := 0
  blobCount := 0
  valid := false
  dirty := false
  locked := true
  lockDone := false
  zeroised := false
  lockOnWake := false
  lockEvent := 0
  lockCause := 0xFF
  level := 0
  step := .idle
  zeroRuns := false
  alarmCfg := 0x115A
  faultWindow := 1000
  faultLimit := 16
  faultLog := []
  flags := 0
  asserting := 0
  quietUs := List.replicate 9 1000
  passPattern := false
  passImpedance := false
  alarmUs := 1000000
  roofGen := 0
  roofUs := 0
  tick := 0
  onVbat := false
  vbatUs := 1000
  alarmN := false

/-- An engine at its cold value: owner NONE (R413), IDLE. -/
def Engine.cold : Engine := ⟨none, .idle, none, 0, [], [], EngRegs.zero, none, false, none, false⟩

/-- The block right after it has left reset (STEP 0x01 of Table 15-1), every register at the cold value of its
field map and the Cellar just powered from nothing (log entries 3, 4 and 6). -/
def State.reset : State where
  build := .w6400
  upEn := false
  dnEn := false
  upLong := false
  dnLong := false
  romFloor := 0
  pins := ⟨true, true, true, true, false, false, true⟩
  porch := none
  study := ⟨false, [], 0x0100, 0, 0, []⟩
  txn := ⟨false, 0, 0, 1, [], [], 0, [], false⟩
  insts := [(0, Inst.manager)]
  instSel := 0
  rings := []
  specs := []
  ops := []
  nextOp := 0
  sched := ⟨none, 0, 0, 0, 48, 64, 4, false⟩
  core := 0
  rooms := ⟨false, false, 0, List.replicate 32 ⟨0, 0, [], [], 0, 0⟩, List.replicate 16 0, []⟩
  pan := ⟨[], 65536, 1024, false, false, 0⟩
  lar := ⟨false, false, 0, 0, 0, 0, 0, 0, [], [], [], 48, [], none, none, false⟩
  cel := Cellar.powered
  keys := ⟨none, none, false, 0, [], false, false, false, false, false, List.replicate 25 Drbg.cold, 0, none⟩
  hearth := ⟨[], List.replicate 8 Engine.cold, 0, 0, 0, false⟩
  scu := ⟨List.range 16, List.replicate 64 ScuCtx.free, 0, [], []⟩
  hwy := ⟨100, 100, 1000, List.replicate 8 Port.cold, [], []⟩
  boot := ⟨0, 0, 0, 0, false, 0, 1, false, ⟨true, true⟩, none, []⟩
  fw := ⟨0, false, false, .idle, 0, 0, false, false, false, false, false, false, 0, 0, [], [], 0, false, [], false, false, none,
    false, false, false, [], none⟩
  pwr := ⟨10, true, 0, 0, 0, .active, none, 0, 0, false, none, false, false, 0, true, none⟩
  stair := ⟨96, 0, Link.cold, Link.cold, 0, 0, true, false⟩
  ecc := ⟨0, 0, 0, []⟩
  diag := ⟨0, [], []⟩
  wraps := []
  sampQ := []
  freeCtr := 0
  pending := []

end Sys2Proof.Machine
end

