-- ==== Sys2Proof/Machine/Ops.lean ====
section
/-!
DEFINITION. The named operations over the state: tables, accessors, random numbers, counters, Hallway requests, event
records and interrupt messages.
-/

namespace Sys2Proof.Machine

/-! ### Tables: lists of number and value, numbers strictly rising -/

/-- The value at a number. -/
def tget {α : Type} (k : Nat) : List (Nat × α) → Option α
  | [] => none
  | (j, v) :: t => if j == k then some v else tget k t

/-- Sets the value at a number. -/
def tset {α : Type} (k : Nat) (v : α) : List (Nat × α) → List (Nat × α)
  | [] => [(k, v)]
  | (j, w) :: t => if j < k then (j, w) :: tset k v t else if j == k then (k, v) :: t else (k, v) :: (j, w) :: t

/-- Removes a number. -/
def tdel {α : Type} (k : Nat) : List (Nat × α) → List (Nat × α)
  | [] => []
  | (j, w) :: t => if j == k then t else (j, w) :: tdel k t

/-- Applies a function at place `i`. -/
def modAt {α : Type} (f : α → α) : Nat → List α → List α
  | _, [] => []
  | 0, x :: t => f x :: t
  | i + 1, x :: t => x :: modAt f i t

/-- One bit set to a value in a 9-bit map. -/
def setBit (n : Nat) (b : Bool) (m : BitVec 9) : BitVec 9 :=
  if b then m ||| ((1 : BitVec 9) <<< n) else m &&& ~~~ ((1 : BitVec 9) <<< n)

/-- Bits [hi:lo] of a word. -/
def bits (w : Word) (hi lo : Nat) : Nat := w.toNat / 2 ^ lo % 2 ^ (hi - lo + 1)

/-- A bit as a number. -/
def b2n (b : Bool) : Nat := if b then 1 else 0

/-- Bytes [off, off + n) of a string. -/
def slice (off n : Nat) (bs : List Byte) : List Byte := (bs.drop off).take n

/-- The little-endian field of `n` bytes at `off` (R5). -/
def field (off n : Nat) (bs : List Byte) : Nat := leNat (slice off n bs)

/-! ### Accessors -/

/-- The instance with a number; numbers without a record are ABSENT of generation 0 (R74). -/
def State.inst (s : State) (i : Nat) : Inst := (tget i s.insts).getD Inst.absent

/-- Changes an instance. -/
def modInst (i : Nat) (f : Inst → Inst) (s : State) : State :=
  { s with insts := tset i (f (s.inst i)) s.insts }

/-- Changes a ring that is not ABSENT. -/
def modRing (r : Nat) (f : Ring → Ring) (s : State) : State :=
  match tget r s.rings with
  | none => s
  | some x => { s with rings := tset r (f x) s.rings }

/-- The operation with a number. -/
def State.op? (s : State) (id : Nat) : Option Op := s.ops.find? (fun o => o.id == id)

/-- Changes an operation. -/
def modOp (id : Nat) (f : Op → Op) (s : State) : State :=
  { s with ops := s.ops.map (fun o => if o.id == id then f o else o) }

/-- The port of a ring (Table 13-1). -/
def portOf (ring : Nat) : Nat := ring % 8

/-- The port with a number. -/
def State.port (s : State) (n : Nat) : Port := s.hwy.ports.getD n Port.cold

/-- Changes a port. -/
def modPort (n : Nat) (f : Port → Port) (s : State) : State :=
  { s with hwy := { s.hwy with ports := modAt f n s.hwy.ports } }

/-- Changes the command queue of an instance. -/
def modCq (q : Nat) (f : CmdQ → CmdQ) : State → State := modInst q (fun i => { i with cq := f i.cq })

/-- Changes the event queue of an instance. -/
def modEq (q : Nat) (f : EventQ → EventQ) : State → State := modInst q (fun i => { i with eq := f i.eq })

/-- Changes every Hearth engine. -/
def mapEngines (f : Engine → Engine) (s : State) : State :=
  { s with hearth := { s.hearth with engines := s.hearth.engines.map f } }

/-- Stops the engine of an operation (R427, R428): a running one at its next instruction boundary, any other at
once, which starts its wipe; `after` is the status with which its operation ends after the wipe. -/
def Engine.stop (after : Option Status) (e : Engine) : Engine :=
  if e.state == .run then { e with abort := true, after := e.after <|> after }
  else { e with state := .wipe, abort := true, after := e.after <|> after, hdr := [], data := [], regs := EngRegs.zero }

/-- Changes every Pantry slot. -/
def mapSlots (f : Nat → Slot → Slot) (s : State) : State :=
  { s with pan := { s.pan with slots := s.pan.slots.map (fun p => (p.1, f p.1 p.2)) } }

/-- Keeps the Pantry slots that `f` names; the others become FREE, zero-filled. -/
def keepSlots (f : Nat → Slot → Bool) (s : State) : State :=
  { s with pan := { s.pan with slots := s.pan.slots.filter (fun p => f p.1 p.2) } }

/-- Changes every Larder fetch in progress. -/
def mapFetches (f : Fetch → Fetch) (s : State) : State :=
  { s with lar := { s.lar with fetches := s.lar.fetches.map f } }

/-- Takes the next free-value number (log entry 6). -/
def draw (s : State) : State := { s with freeCtr := s.freeCtr + 1 }

/-! ### CTR_DRBGs (R402, R403) -/

/-- The unit number of a Room's CTR_DRBG. -/
def drbgRoom (r : Nat) : Nat := r

/-- The unit number of a Hearth engine's CTR_DRBG. -/
def drbgEngine (n : Nat) : Nat := 16 + n

/-- The unit number of the Study's CTR_DRBG. -/
def drbgStudy : Nat := 24

/-- The CTR_DRBG of a unit. -/
def State.drbg (s : State) (u : Nat) : Drbg := s.keys.drbgs.getD u Drbg.cold

/-- Sets the CTR_DRBG of a unit. -/
def setDrbg (u : Nat) (d : Drbg) (s : State) : State :=
  { s with keys := { s.keys with drbgs := modAt (fun _ => d) u s.keys.drbgs } }

/-- Instantiates the CTR_DRBG of a unit from the entropy source: 48 bytes of entropy and 16 of nonce. DESIGN CHOICE: log
entry 79. -/
def seedDrbg (u : Nat) (s : State) : State :=
  let x := drbgInstantiate (random s.freeCtr 64)
  draw (setDrbg u ⟨x.1, x.2, 0⟩ s)

/-- Reseeds the CTR_DRBG of a unit from the entropy source with additional input. DESIGN CHOICE: log entry 79. -/
def reseedDrbg (u : Nat) (addin : List Byte) (s : State) : State :=
  let d := s.drbg u
  let x := drbgReseed d.key d.v (random s.freeCtr 48) addin
  draw (setDrbg u ⟨x.1, x.2, 0⟩ s)

/-- A generate request of `n` bytes to the CTR_DRBG of a unit. It reseeds first under prediction resistance (`pr`), and
after 2^20 requests, for which it waits while the entropy source is out of service (R402, R403). What a CTR_DRBG that has
not been instantiated gives is free. -/
def generate (u n : Nat) (addin : List Byte) (pr : Bool) (s : State) : List Byte × State :=
  if (s.drbg u).key.isEmpty then (random s.freeCtr n, draw s) else
  let fresh := pr || (s.keys.rngOk && (s.drbg u).reqs ≥ 2 ^ 20)
  let s := if fresh then reseedDrbg u addin s else s
  let d := s.drbg u
  let x := drbgGenerate d.key d.v (if fresh then [] else addin) n
  (x.1, setDrbg u ⟨x.2.1, x.2.2, d.reqs + 1⟩ s)

/-- n blocks pass an Alcove: for each the forward pipeline and the checker draw their rotations, a byte each, of which the low
four bits count (R327). State keeps those of the last block. DESIGN CHOICE: log entry 108. -/
def rotateLanes (a n : Nat) (s : State) : State :=
  if n == 0 then s
  else
    let g := generate (drbgRoom (a / 2)) (2 * n) [] false s
    let amount := fun (k : Nat) => (g.1.getD (2 * n - k) 0).toNat % 16
    { g.2 with rooms := { g.2.rooms with
        alcoves := modAt (fun x => { x with rotFwd := amount 2, rotChk := amount 1 }) a g.2.rooms.alcoves } }

/-- Entries of a command queue (Table 2-1). -/
def queueSize (q : Nat) : Nat := if q == 0 then 64 else 16

/-- Entries of a ring. -/
def Ring.size (r : Ring) : Nat := 2 ^ r.log2

/-- Bytes of an entry (Table 4-1). -/
def Ring.entBytes (r : Ring) : Nat := if r.fmt == 2 then 64 else 32

/-- The slot address of entry i (Table 4-1). -/
def Ring.slot (r : Ring) (i : Idx) : Nat := r.base + i.toNat % r.size * r.entBytes

/-- SPEC_OFF (R145). -/
def Ring.specOff (r : Ring) : Bool := r.advanced < r.size || r.state != .running || r.complBad

/-- The page of an instance is served: ACTIVE, QUIESCING or QUIESCED (Table 3-1). -/
def Inst.served (i : Inst) : Bool := i.state == .active || i.state == .quiescing || i.state == .quiesced

/-- Rings an instance owns, staged reservations excluded. -/
def State.ringsOf (s : State) (i : Nat) : List Nat :=
  (s.rings.filter (fun p => p.2.owner == i)).map (·.1)

/-- The head entry of an operation. -/
def Op.head (o : Op) : Entry := o.entries.headD ⟨0, ⟨0, 0, 0, 0, 0, 0, 0, 0⟩, ⟨[], 0, true, none⟩, ⟨[], 0, true, none⟩⟩

/-- The last entry of an operation. -/
def Op.last (o : Op) : Entry := o.entries.getLastD o.head

/-! ### Counters -/

/-- Adds to a counter of an instance; a wrap waits for COUNTER_WRAP (R651, R659). -/
def addCounter (i n amt : Nat) (s : State) : State :=
  let inst := s.inst i
  match inst.counters[n]? with
  | none => s
  | some c =>
    if c.run && amt != 0 then
      let v := c.value + amt
      let s := modInst i (fun x => { x with counters := modAt (fun c => { c with value := v % 2 ^ 48 }) n x.counters }) s
      if v ≥ 2 ^ 48 then { s with wraps := s.wraps ++ [(i, n)] } else s
    else s

/-- What an event carries for the match of a filter (Table 20-4). -/
structure EvTag where
  inst : Nat
  ring : Option Nat
  opcode : Option Nat
  cls : Option Nat
  port : Option Nat
  deriving DecidableEq, Repr

/-- The filter of a counter matches (R657). A ring that a guest does not own never matches. -/
def filterMatch (s : State) (owner : Nat) (f : Word) (t : EvTag) : Bool :=
  (!f.getLsbD 60 || t.cls == some (bits f 59 56)) &&
  (!f.getLsbD 49 || t.inst == bits f 48 36) &&
  (!f.getLsbD 35 || t.port == some (bits f 34 32)) &&
  (!f.getLsbD 25 || (t.ring == some (bits f 15 0) &&
    (owner == 0 || (match tget (bits f 15 0) s.rings with
      | none => false
      | some r => r.owner == owner)))) &&
  (!f.getLsbD 24 || t.opcode == some (bits f 23 16))

/-- Takes a correction off a running counter, modulo 2^48 (R228: the correction may be negative). -/
def subCounter (i n amt : Nat) (s : State) : State :=
  modInst i (fun x => { x with counters := modAt (fun c =>
    if c.run then { c with value := (c.value + (2 ^ 48 - amt % 2 ^ 48)) % 2 ^ 48 } else c) n x.counters }) s

/-- Counts an event in the programmable counters of one instance whose filter `g` names. -/
def countWith (g : Word → Bool) (i ev amt : Nat) (t : EvTag) (s : State) : State :=
  (List.range (if i == 0 then 64 else 16)).foldl (fun s n =>
    match (s.inst i).counters[n]? with
    | none => s
    | some c => if c.event == ev && g c.filter && filterMatch s i c.filter t then addCounter i n amt s else s) s

/-- Counts an event in the programmable counters of one instance. -/
def countIn (i ev amt : Nat) (t : EvTag) (s : State) : State := countWith (fun _ => true) i ev amt t s

/-- Takes a correction off the programmable counters of one instance that counted an event. -/
def uncountIn (i ev amt : Nat) (t : EvTag) (s : State) : State :=
  (List.range (if i == 0 then 64 else 16)).foldl (fun s n =>
    match (s.inst i).counters[n]? with
    | none => s
    | some c => if c.event == ev && filterMatch s i c.filter t then subCounter i n amt s else s) s

/-- Counts an event of an instance, in the counters whose filter `g` names: its own and instance 0's device-wide ones (R651
to R657). -/
def countIf (g : Word → Bool) (ev amt : Nat) (t : EvTag) (s : State) : State :=
  let s := if t.inst == 0 then s else countWith g t.inst ev amt t s
  countWith g 0 ev amt t s

/-- Counts an event of an instance: its own counters and instance 0's device-wide ones (R651 to R657). -/
def count (ev amt : Nat) (t : EvTag) (s : State) : State :=
  let s := if t.inst == 0 then s else countIn t.inst ev amt t s
  countIn 0 ev amt t s

/-- Counts a fixed event of a guest (Table 20-1). -/
def fixedCount (i n amt : Nat) (s : State) : State := if i == 0 then s else addCounter i n amt s

/-! ### Hallway requests (R455 to R458) -/

/-- Cuts a transfer at 512-byte boundaries: offset and length of each request (R455). -/
def cutReq (addr : Nat) : Nat → Nat → Nat → List (Nat × Nat)
  | 0, _, _ => []
  | f + 1, off, len =>
    if len == 0 then []
    else
      let n := min len (512 - (addr + off) % 512)
      (off, n) :: cutReq addr f (off + n) (len - n)

/-- Beats of a request (R505). -/
def beats (addr len : Nat) : Nat := if len == 0 then 0 else (addr + len - 1) / 64 - addr / 64 + 1

/-- The lowest number below 512 that no request uses (R457, R463; log entry 9). -/
def freeId (used : List Nat) : Option Nat := (List.range 512).find? (fun i => !used.contains i)

/-- Command-queue traffic, which a halt never stops (R467). -/
def Owner.study : Owner → Bool
  | .cmdPacket _ => true
  | .replyBody _ => true
  | .replyWord2 _ => true
  | _ => false

/-- Firmware images, the Attic and the scratch line: the traffic of Foundation ROM, Landing and FW_STAGE (Table 3-9). -/
def Owner.firmware : Owner → Bool
  | .image _ => true
  | .attic _ => true
  | .line _ => true
  | .lineW => true
  | _ => false

/-- Larder traffic. -/
def Owner.larder : Owner → Bool
  | .node _ _ => true
  | .larBlob _ => true
  | .victim _ => true
  | .nodeWb _ _ => true
  | .tomb _ => true
  | .reauth => true
  | .flushSlot _ => true
  | .flushNode _ _ => true
  | .child _ _ _ => true
  | _ => false

/-- The operation a transfer belongs to. -/
def Owner.op? : Owner → Option Nat
  | .desc o => some o
  | .list o _ _ => some o
  | .blob o => some o
  | .aad o => some o
  | .src o => some o
  | .tagIn o => some o
  | .pkIn o => some o
  | .pkBody o => some o
  | .dst o _ _ => some o
  | .zero o => some o
  | .compl o => some o
  | _ => none

/-- Issues the waiting reads that may issue (R456, R467, R479). DESIGN CHOICE: log entry 9. -/
def pumpReads (p : Port) : Port :=
  p.rdQ.foldl (fun p r =>
    let go := !p.paused && (!p.halted || r.owner.study) && p.rds.length < 512
    match (if go then freeId (p.rds.map (·.id)) else none) with
    | some i => { p with rds := p.rds ++ [{ r with id := i }] }
    | none => { p with rdQ := p.rdQ ++ [r] }) { p with rdQ := [] }

/-- The port issues no write but those of the Study: it is halted, or was resumed while PAUSE is 1 (R467, R480). DEDUCED:
log entry 109. -/
def Port.holdsWrites (p : Port) : Bool := p.halted || p.hush

/-- A write asked for now issues at once. -/
def Port.takesWrite (p : Port) : Bool := !p.holdsWrites && p.wrs.length < 512 && p.wrQ.isEmpty

/-- Issues the waiting writes that may issue, in their order (R456, R458, R467, R480). DEDUCED: log entry 109. -/
def pumpWrites (p : Port) : Port :=
  p.wrQ.foldl (fun p w =>
    let go := (!p.holdsWrites || w.owner.study) && p.wrs.length < 512
    match (if go then freeId (p.wrs.map (·.id)) else none) with
    | some i => { p with wrs := p.wrs ++ [{ w with id := i }], wBeats := p.wBeats + beats w.addr w.data.length }
    | none => { p with wrQ := p.wrQ ++ [w] }) { p with wrQ := [] }

/-- Issues the waiting writes of a port that may issue, and counts their beats. -/
def issueWrites (n : Nat) (s : State) : State :=
  let p0 := s.port n
  let p := pumpWrites p0
  let s := modPort n (fun _ => p) s
  if p.wBeats == p0.wBeats then s else countIn 0 0x21 (p.wBeats - p0.wBeats) ⟨0, none, none, none, some n⟩ s

/-- Issues everything that may issue on a port; nothing while MAIN is off or in reset (R509, R516). -/
def pump (n : Nat) (s : State) : State :=
  if s.pins.mainUp then issueWrites n (modPort n pumpReads s) else s

/-- Asks for a read, cut under R455; `off` is the place of its bytes in the transfer. -/
def readReq (n addr len tag : Nat) (o : Owner) (off : Nat) (s : State) : State :=
  let rs := (cutReq addr (len / 512 + 2) 0 len).map (fun p =>
    ({ id := 0, addr := addr + p.1, len := p.2, tag := tag, owner := o, off := off + p.1, quar := false,
       drop := false, old := false } : Rd))
  pump n (modPort n (fun p => { p with rdQ := p.rdQ ++ rs }) s)

/-- Asks for a write, cut under R455. -/
def writeReq (n addr : Nat) (data : List Byte) (tag : Nat) (o : Owner) (s : State) : State :=
  let ws := (cutReq addr (data.length / 512 + 2) 0 data.length).map (fun p =>
    ({ id := 0, addr := addr + p.1, data := slice p.1 p.2 data, tag := tag, owner := o, quar := false } : Wr))
  pump n (modPort n (fun p => { p with wrQ := p.wrQ ++ ws }) s)

/-- Writes of an owner that are outstanding or wait. -/
def writesLeft (s : State) (n : Nat) (f : Owner → Bool) : Nat :=
  let p := s.port n
  (p.wrs.filter (fun w => f w.owner && !w.quar)).length + (p.wrQ.filter (fun w => f w.owner)).length

/-- Reads of an owner that are outstanding or wait. -/
def readsLeft (s : State) (n : Nat) (f : Owner → Bool) : Nat :=
  let p := s.port n
  (p.rds.filter (fun r => f r.owner && !r.quar && !r.drop)).length + (p.rdQ.filter (fun r => f r.owner)).length

/-- Withdraws the reads of an owner: waiting ones go, the data of outstanding ones is discarded on arrival. -/
def dropReads (f : Owner → Bool) (s : State) : State :=
  { s with hwy := { s.hwy with
      ports := s.hwy.ports.map (fun p =>
        { p with rdQ := p.rdQ.filter (fun r => !f r.owner),
                 rds := p.rds.map (fun r => if f r.owner then { r with drop := true } else r) }),
      pieces := s.hwy.pieces.filter (fun x => !f x.1),
      arrived := s.hwy.arrived.filter (fun a => !f a.owner) } }

/-- As `dropReads`, for an operation that has become old-generation: what still comes in is absorbed (R104). -/
def orphanReads (f : Owner → Bool) (s : State) : State :=
  let s := dropReads f s
  { s with hwy := { s.hwy with
      ports := s.hwy.ports.map (fun p =>
        { p with rds := p.rds.map (fun r => if f r.owner then { r with old := true } else r) }) } }

/-- Withdraws the writes of an owner that have not issued. -/
def dropWrites (f : Owner → Bool) (s : State) : State :=
  { s with hwy := { s.hwy with
      ports := s.hwy.ports.map (fun p => { p with wrQ := p.wrQ.filter (fun w => !f w.owner) }) } }

/-- Nobody awaits the writes of an owner any more: waiting ones go, acknowledgements still due are absorbed. -/
def disownWrites (f : Owner → Bool) (s : State) : State :=
  { s with hwy := { s.hwy with
      ports := s.hwy.ports.map (fun p =>
        { p with wrQ := p.wrQ.filter (fun w => !f w.owner),
                 wrs := p.wrs.map (fun w => if f w.owner then { w with owner := .nobody } else w) }),
      arrived := s.hwy.arrived.filter (fun a => !f a.owner) } }

/-- The arrived transfer of an owner. -/
def State.arrived? (s : State) (o : Owner) : Option (List Byte) :=
  (s.hwy.arrived.find? (fun a => a.owner == o)).map (·.data)

/-- Hands an arrived transfer to the unit whose row takes it. -/
def arrive (o : Owner) (data : List Byte) (s : State) : State :=
  { s with hwy := { s.hwy with arrived := s.hwy.arrived ++ [⟨o, data⟩] } }

/-- Takes an arrived transfer. -/
def takeArrived (o : Owner) (s : State) : State :=
  { s with hwy := { s.hwy with arrived := s.hwy.arrived.eraseP (fun a => a.owner == o) } }

/-! ### Event records and interrupt messages (R150 to R158, R471) -/

/-- The queue writes records (RUNNING of Table 4-9). -/
def EventQ.running (e : EventQ) : Bool := e.enable && !e.fabErr && !e.overflow

/-- The PEND_ bit of a record type (Table 4-9), counted from bit 32. -/
def pendBit (typ : Nat) : Nat :=
  if typ == 4 || typ == 5 then 0 else if typ == 6 then 1 else if typ == 0x10 then 2
  else if typ == 0x20 then 3 else if typ == 0x30 then 4 else 5

/-- Sets the pending bit of a withheld record (R158). -/
def setPend (i typ ring : Nat) (s : State) : State :=
  if typ ≤ 3 then modRing ring (fun r => { r with pend := true }) s
  else modEq i (fun e => { e with pend := e.pend ||| (1 <<< pendBit typ) }) s

/-- The 16 bytes of record n (R153). -/
def recordBytes (n : Idx) (typ status ring index aux : Nat) : List Byte :=
  leBytes 8 (typ + (1 - n.toNat / 4096 % 2) * 2 ^ 8 + status * 2 ^ 16 + ring * 2 ^ 32) ++
    leBytes 8 (index % 2 ^ 32 + aux % 2 ^ 32 * 2 ^ 32)

/-- Sends the interrupt message when R156 allows; a condition that ARMED or MASK keeps from being met is kept until a
message is sent. Nothing is sent while hw0 is halted (R471). DESIGN CHOICE: log entry 80. -/
def irqCheck (i : Nat) (s : State) : State :=
  let e := (s.inst i).eq
  if e.armed && !e.mask && (e.flagSet || ((e.due || e.time == 0) && 0 < e.unsig) || e.unsig ≥ e.count) && !(s.port 0).holdsWrites then
    let s := modEq i (fun e => { e with armed := false, unsig := 0, flagSet := false, due := false }) s
    writeReq 0 e.msgAddr (leBytes 4 e.msgData) i (.irqMsg i) s
  else s

/-- Writes a record, or sets its pending bit (R152, R158, R471). A record that its port cannot issue at once is not held
(Table 6-4). -/
def evWrite (i typ status ring index aux : Nat) (s : State) : State :=
  let e := (s.inst i).eq
  if !e.running || !(s.port (i % 8)).takesWrite then setPend i typ ring s
  else if (e.issued - e.head).toNat ≥ 4096 then
    irqCheck i (setPend i typ ring (modEq i (fun e => { e with overflow := true, flagSet := true }) s))
  else
    let n := e.issued
    let s := modEq i (fun e => { e with issued := n + 1, inFlight := e.inFlight ++ [(n, typ, ring)] }) s
    writeReq (i % 8) (e.base + n.toNat % 4096 * 16) (recordBytes n typ status ring index aux) i (.eventRec i n) s

/-- A record write failed: FABRIC_ERR, and every record not counted in TAIL sets its pending bit (R158). Records before it that
are acknowledged later still count in TAIL (R152). -/
def evFail (i : Nat) (s : State) : State :=
  let e := (s.inst i).eq
  if e.fabErr || e.inFlight.isEmpty then s
  else
    let s := e.inFlight.foldl (fun s r => setPend i r.2.1 r.2.2 s) s
    irqCheck i (modEq i (fun e => { e with fabErr := true, flagSet := true }) s)

/-- TAIL after the acknowledged numbers (R152). -/
def tailAfter : Nat → Idx → List Idx → Idx
  | 0, t, _ => t
  | f + 1, t, a => if a.contains t then tailAfter f (t + 1) a else t

/-- A record write has been acknowledged (R152, R156). DESIGN CHOICE: log entry 87. -/
def evAck (i : Nat) (n : Idx) (s : State) : State :=
  let e := (s.inst i).eq
  if e.acked.contains n || !e.inFlight.any (fun r => r.1 == n) then s
  else
    let a := n :: e.acked
    let t := tailAfter a.length e.tail a
    irqCheck i (modEq i (fun e => { e with
      tail := t, acked := a.filter (fun k => (k - t).toNat < 2 ^ 31),
      unsig := e.unsig + 1, inFlight := e.inFlight.filter (fun r => (r.1 - t).toNat < 2 ^ 31) }) s)

/-- irq_mgr (R157, R472). -/
def State.irqMgr (s : State) : Bool :=
  let e := (s.inst 0).eq
  s.pins.mainUp && !e.mask && (e.tail != e.head || e.overflow || e.fabErr || s.hwy.ports.any (·.halted))

/-! ### Times and stamps -/

/-- The whole-state time stamp within the current round: the CORE-cycle count at the last boundary plus a free
part below 512 (R664; log entry 8). -/
def stamp (s : State) : Nat := (s.core + Config.freeNat s.freeCtr % 512) % 2 ^ 64

/-- The block is in Doze or enters it, and enters no deeper state (R625, R627). -/
def State.dozing (s : State) : Bool := s.pwr.entry == some .doze || (s.pwr.state == .doze && s.pwr.entry.isNone)

/-- The clocks of the Rooms, Hearth, Scullery, Pantry door and movers run (R625). -/
def State.unitsRun (s : State) : Bool := s.pins.mainUp && s.pwr.state != .doze

/-- Ends Doze, and an entry to it, for a cause of LAST_WAKE (R626). -/
def wake (cause : Nat) (s : State) : State :=
  if s.dozing then
    { s with pwr := { s.pwr with state := .active, entry := none, step := 0, target := 0, lastWake := cause, grants := true } }
  else s

/-- STA_TICK as read (R548). -/
def State.tickNow (s : State) : Nat := if s.stair.fromCellar then s.cel.tick else s.stair.tick

/-! ### Fault reports (R322, R557) -/

/-- Reports in the window. -/
def Cellar.faultCount (c : Cellar) : Nat := c.faultLog.foldl (· + ·) 0

/-- Adds a report to the current millisecond of the fault window. -/
def faultTally (s : State) : State :=
  let log := match s.cel.faultLog with
    | [] => [1]
    | n :: t => (n + 1) :: t
  countIn 0 0x31 1 ⟨0, none, none, none, none⟩ { s with cel := { s.cel with faultLog := log } }

end Sys2Proof.Machine
end

