-- ==== Sys2Proof/Machine/Operands.lean ====
section
/-!
DEFINITION. Operand forms: descriptors of both formats (05_descriptors.md), gather and scatter lists, Hearth
operand blocks (11_hearth.md), command packets (02_command_channel.md).
-/

namespace Sys2Proof.Machine

/-! ### Descriptors (Tables 5-1 and 5-13) -/

/-- The words of a slot as read: eight for format 2, four for format 1. -/
def Desc.ofBytes (bs : List Byte) : Desc :=
  let w := fun k => BitVec.ofNat 64 (field (8 * k) 8 bs)
  ⟨w 0, w 1, w 2, w 3, w 4, w 5, w 6, w 7⟩

/-- OPCODE. -/
def Desc.opcode (d : Desc) : Nat := bits d.w0 7 0
/-- LAP. -/
def Desc.lap (d : Desc) : Nat := bits d.w0 9 8
/-- FIRST. -/
def Desc.first (d : Desc) : Bool := d.w0.getLsbD 10
/-- LAST. -/
def Desc.last (d : Desc) : Bool := d.w0.getLsbD 11
/-- IRQ. -/
def Desc.irq (d : Desc) : Bool := d.w0.getLsbD 12
/-- BARRIER. -/
def Desc.barrier (d : Desc) : Bool := d.w0.getLsbD 13
/-- FENCE; the FENCE opcode behaves as with it set (R213). -/
def Desc.fence (d : Desc) : Bool := d.w0.getLsbD 14 || d.opcode == 0x3F
/-- SG_SRC. -/
def Desc.sgSrc (d : Desc) : Bool := d.w0.getLsbD 15
/-- SG_DST. -/
def Desc.sgDst (d : Desc) : Bool := d.w0.getLsbD 16
/-- AN. -/
def Desc.an (d : Desc) : Bool := d.w0.getLsbD 17
/-- TAGLEN. -/
def Desc.tagLen (d : Desc) : Nat := bits d.w0 19 18
/-- Tag bytes T that TAGLEN selects. -/
def Desc.t (d : Desc) : Nat := if d.tagLen == 0 then 16 else if d.tagLen == 1 then 12 else 8
/-- FORMAT. -/
def Desc.format (d : Desc) : Nat := bits d.w0 23 20
/-- SUBOP. -/
def Desc.subop (d : Desc) : Nat := bits d.w0 31 24
/-- COOKIE. -/
def Desc.cookie (d : Desc) : Nat := bits d.w0 62 32
/-- DONE. -/
def Desc.isDone (d : Desc) : Bool := d.w0.getLsbD 63
/-- PAYLOAD_LEN. -/
def Desc.payload (d : Desc) : Nat := bits d.w1 55 32
/-- CTX_INDEX. -/
def Desc.ctx (d : Desc) : Nat := bits d.w1 25 0
/-- SRC_ADDR. -/
def Desc.src (d : Desc) : Nat := bits d.w2 51 0
/-- DST_ADDR. -/
def Desc.dst (d : Desc) : Nat := bits d.w3 51 0
/-- AAD_ADDR. -/
def Desc.aadAddr (d : Desc) : Nat := bits d.w4 51 0
/-- AAD_LEN. -/
def Desc.aadLen (d : Desc) : Nat := bits d.w5 15 0
/-- SRC_SEGS. -/
def Desc.srcSegs (d : Desc) : Nat := bits d.w5 31 16
/-- DST_SEGS. -/
def Desc.dstSegs (d : Desc) : Nat := bits d.w5 47 32
/-- PN. -/
def Desc.pn (d : Desc) : Nat := d.w6.toNat
/-- AUX. -/
def Desc.aux (d : Desc) : Nat := bits d.w7 51 0

/-- A format-1 descriptor in the places of format 2 (Table 5-13): AAD_LEN moves to word 5. -/
def Desc.ofFormat1 (d : Desc) : Desc :=
  { d with w2 := BitVec.ofNat 64 d.src, w4 := 0, w5 := BitVec.ofNat 64 (bits d.w2 63 52), w6 := 0, w7 := 0 }

/-- The opcode is a sending one: SEAL, GMAC_SIGN, CTR with SUBOP 0 (07_aead_operations.md). -/
def Desc.sending (d : Desc) : Bool :=
  d.opcode == 1 || d.opcode == 3 || (d.opcode == 5 && d.subop == 0)

/-- A receiving operation: OPEN, GMAC_CHECK. -/
def Desc.receiving (d : Desc) : Bool := d.opcode == 2 || d.opcode == 4

/-- One of the five AEAD opcodes. -/
def Desc.aead (d : Desc) : Bool := 1 ≤ d.opcode && d.opcode ≤ 5

/-- Context column of Table 5-2. -/
def Desc.hasCtx (d : Desc) : Bool := d.aead || (0x20 ≤ d.opcode && d.opcode ≤ 0x22)

/-- Chainable column of Table 5-2. -/
def chainable (opcode : Nat) : Bool := (1 ≤ opcode && opcode ≤ 5) || opcode == 0x10

/-- Writes payload to a destination (R198): SEAL, OPEN, CTR. -/
def writesPayload (opcode : Nat) : Bool := opcode == 1 || opcode == 2 || opcode == 5

/-- Opcodes of Table 5-2 by format (R220). -/
def opcodeListed (fmt opcode : Nat) : Bool :=
  if fmt == 1 then [0, 1, 2, 5, 0x10, 0x3F].contains opcode
  else [0, 1, 2, 3, 4, 5, 0x10, 0x20, 0x21, 0x22, 0x30, 0x3F].contains opcode

/-- What a PK subop takes and gives (Tables 11-4 and 11-6): fixed operand bytes, whether a message follows, whether
a CTX_LEN byte and ctx come before it, result bytes, secret-input, validation and nominal time in ns, ns for each
started KiB of message. RSA lengths depend on MOD_LEN: `rsa` 1 public, 2 private. -/
structure PkInfo where
  fixed : Nat
  msg : Bool
  ctx : Bool
  result : Nat
  secret : Bool
  nominal : Nat
  perKiB : Nat
  rsa : Nat
  deriving DecidableEq, Repr

/-- Tables 11-4 and 11-6. -/
def pkInfo (subop : Nat) : Option PkInfo :=
  match subop with
  | 0x01 => some ⟨64, false, false, 64, true, 11100, 0, 0⟩
  | 0x02 => some ⟨160, false, false, 0, false, 22200, 0, 0⟩
  | 0x03 => some ⟨96, false, false, 96, true, 27000, 0, 0⟩
  | 0x04 => some ⟨240, false, false, 0, false, 54000, 0, 0⟩
  | 0x08 => some ⟨32, true, false, 64, true, 12500, 600, 0⟩
  | 0x09 => some ⟨96, true, false, 0, false, 25000, 600, 0⟩
  | 0x10 => some ⟨64, false, false, 32, true, 16700, 0, 0⟩
  | 0x11 => some ⟨32, false, false, 64, true, 16700, 0, 0⟩
  | 0x14 => some ⟨96, false, false, 32, true, 18200, 0, 0⟩
  | 0x15 => some ⟨144, false, false, 48, true, 45500, 0, 0⟩
  | 0x16 => some ⟨32, false, false, 96, true, 18200, 0, 0⟩
  | 0x17 => some ⟨32, false, false, 144, true, 45500, 0, 0⟩
  | 0x20 => some ⟨0, false, false, 0, false, 1000, 0, 1⟩
  | 0x21 => some ⟨0, false, false, 0, true, 0, 0, 2⟩
  | 0x30 => some ⟨32, false, false, 3584, true, 5600, 0, 0⟩
  | 0x31 => some ⟨1184, false, false, 1120, false, 5000, 0, 0⟩
  | 0x32 => some ⟨3488, false, false, 32, true, 6200, 0, 0⟩
  | 0x34 => some ⟨32, false, false, 4736, true, 8000, 0, 0⟩
  | 0x35 => some ⟨1568, false, false, 1600, false, 7500, 0, 0⟩
  | 0x36 => some ⟨4736, false, false, 32, true, 9000, 0, 0⟩
  | 0x38 => some ⟨5984, true, true, 3309, true, 36000, 0, 0⟩
  | 0x39 => some ⟨5261, true, true, 0, false, 8300, 600, 0⟩
  | 0x3A => some ⟨7488, true, true, 4627, true, 55000, 0, 0⟩
  | 0x3B => some ⟨7219, true, true, 0, false, 13300, 600, 0⟩
  | _ => none

/-- SUBOP values (Table 5-3, 09_contexts.md, Table 11-4). -/
def subopListed (opcode subop : Nat) : Bool :=
  match opcode with
  | 5 => subop ≤ 1
  | 0x10 => [1, 2, 3, 0x11, 0x13].contains subop
  | 0x20 => subop ≤ 1
  | 0x21 => subop ≤ 3
  | 0x30 => (pkInfo subop).isSome
  | _ => subop == 0

/-- Which fields an entry may use (R178, R198). -/
structure Fields where
  common : Bool
  tag : Bool
  an : Bool
  sgSrc : Bool
  sgDst : Bool
  payload : Bool
  ctx : Bool
  src : Bool
  dst : Bool
  aad : Bool
  pn : Bool
  aux : Bool
  deriving DecidableEq, Repr

/-- Fields of a head (Table 5-2). `common`: IRQ, BARRIER and FENCE. -/
def headFields (opcode subop : Nat) : Fields :=
  match opcode with
  | 1 => ⟨true, true, false, true, true, true, true, true, true, true, false, true⟩
  | 2 => ⟨true, true, true, true, true, true, true, true, true, true, true, true⟩
  | 3 => ⟨true, true, false, true, false, true, true, true, false, true, false, true⟩
  | 4 => ⟨true, true, true, true, false, true, true, true, false, true, true, true⟩
  | 5 => ⟨true, false, false, true, true, true, true, true, true, false, subop == 1, false⟩
  | 0x10 => ⟨true, false, false, true, false, true, false, true, true, false, false, false⟩
  | 0x20 => ⟨true, false, false, false, false, true, true, true, false, false, false, false⟩
  | 0x21 => ⟨true, false, false, false, false, true, true, true, false, false, false, false⟩
  | 0x22 => ⟨true, false, false, false, false, false, true, false, false, false, false, false⟩
  | 0x30 => ⟨true, false, false, false, false, false, false, false, false, false, false, true⟩
  | _ => ⟨true, false, false, false, false, false, false, false, false, false, false, false⟩

/-- Fields of a continuation (R198). -/
def contFields (opcode : Nat) : Fields :=
  let w := writesPayload opcode
  ⟨false, false, false, true, w, true, false, true, w, false, false, false⟩

/-- Every RSVD field of a format-2 entry is 0 (step 6 of Table 5-8). -/
def rsvdZero (u : Fields) (d : Desc) : Bool :=
  (u.common || (!d.irq && !d.barrier && !d.w0.getLsbD 14)) &&
  (u.tag || d.tagLen == 0) && (u.an || !d.an) &&
  (u.sgSrc || (!d.sgSrc && d.srcSegs == 0)) && (u.sgDst || (!d.sgDst && d.dstSegs == 0)) &&
  (u.payload || d.payload == 0) && (u.ctx || d.ctx == 0) &&
  (u.src || d.src == 0) && (u.dst || d.dst == 0) &&
  (u.aad || (d.aadAddr == 0 && d.aadLen == 0)) && (u.pn || d.pn == 0) && (u.aux || d.aux == 0) &&
  bits d.w1 63 56 == 0 && bits d.w1 31 26 == 0 && bits d.w2 63 52 == 0 && bits d.w3 63 52 == 0 &&
  bits d.w4 63 52 == 0 && bits d.w5 63 48 == 0 && bits d.w7 63 52 == 0

/-- Every RSVD field of a format-1 entry is 0 (Table 5-13, R178). -/
def rsvdZero1 (u : Fields) (d : Desc) : Bool :=
  d.lap == 0 && !d.w0.getLsbD 14 && !d.sgSrc && !d.sgDst &&
  (u.tag || d.tagLen == 0) && (u.an || !d.an) && (u.payload || d.payload == 0) && (u.ctx || d.ctx == 0) &&
  (u.src || d.src == 0) && (u.dst || d.dst == 0) && (u.aad || bits d.w2 63 52 == 0) &&
  bits d.w1 63 56 == 0 && bits d.w1 31 26 == 0 && bits d.w3 63 52 == 0

/-- SEGS agree with an SG bit, and the first list block is aligned (R188, R191). -/
def segsOk (sg : Bool) (segs addr : Nat) : Bool :=
  if sg then 1 ≤ segs && segs ≤ 256 && addr % 256 == 0 else segs == 0

/-- Step 7 of Table 5-8. -/
def fieldsOk (fmt : Nat) (head : Bool) (d : Desc) : Bool :=
  d.tagLen != 3 && segsOk d.sgSrc d.srcSegs d.src && segsOk d.sgDst d.dstSegs d.dst &&
  (!head || !(d.opcode == 3 || d.opcode == 4 || d.opcode == 0x30) || d.aux != 0) &&
  (!(d.opcode == 0x20 || d.opcode == 0x21) || d.payload == 160) &&
  (fmt != 1 || (d.first && d.last))

/-- Digest bytes (Table 5-3). -/
def digestLen (subop : Nat) : Nat :=
  if subop == 2 then 48 else if subop == 3 || subop == 0x13 then 64 else 32

/-- The digest of a message (R437). -/
def digestOf (alg : Nat) (m : List Byte) : List Byte :=
  if alg == 1 then sha256 m else if alg == 2 then sha384 m else if alg == 3 then sha512 m
  else if alg == 0x11 then sha3_256 m else sha3_512 m

/-- Block bytes of a digest algorithm (Table 12-1). -/
def digestBlock (alg : Nat) : Nat :=
  if alg == 1 then 64 else if alg == 2 || alg == 3 then 128 else if alg == 0x11 then 136 else 72

/-! ### Lists (R187 to R195) -/

/-- No list. -/
def SegList.none : SegList := ⟨[], 0, true, Option.none⟩

/-- A list of which nothing has been read. -/
def SegList.start : SegList := ⟨[], 0, false, Option.none⟩

/-- One segment entry: address, length, END, LINK, and whether it is a list fault by itself (R189). -/
def segEntry (blk : List Byte) (i : Nat) : Nat × Nat × Bool × Bool × Bool :=
  let a := field (16 * i) 8 blk
  let l := field (16 * i + 8) 4 blk
  let f := field (16 * i + 12) 4 blk
  let e := f % 2 == 1
  let k := f / 2 % 2 == 1
  (a % 2 ^ 52, l % 2 ^ 24, e, k,
   a ≥ 2 ^ 52 || l ≥ 2 ^ 24 || f ≥ 4 || (e && k) || (k && l != 0) || (k && a % 256 != 0) ||
     (i == 15 && !e && !k))

/-- The segments of a short list when it passes R193. -/
def shortList (blk : List Byte) (n total : Nat) : Option SegList :=
  let es := (List.range n).map (segEntry blk)
  let ok := (es.zipIdx).all (fun p =>
    let (_, _, e, k, bad) := p.1
    !bad && !k && (e == (p.2 + 1 == n)))
  let sum := es.foldl (fun a x => a + x.2.1) 0
  if ok && sum == total then some ⟨es.map (fun x => (x.1, x.2.1)), 1, true, none⟩ else none

/-- Sum of the segment lengths. -/
def SegList.sum (l : SegList) : Nat := l.segs.foldl (fun a x => a + x.2) 0

/-- Takes the entries of a long list's block from entry `i` on (R190, R194). -/
def longEntries (blk : List Byte) (declared total : Nat) : Nat → Nat → SegList → Except Status SegList
  | 0, _, l => .ok l
  | f + 1, i, l =>
    let (a, n, e, k, bad) := segEntry blk i
    if (k && l.blocks ≥ 16) || (!k && l.segs.length ≥ 256) then .error .chainLoop
    else if bad then .error .lenMismatch
    else if k then .ok { l with next := some a }
    else
      let l := { l with segs := l.segs ++ [(a, n)] }
      if l.sum > total then .error .lenMismatch
      else if e then
        if l.segs.length == declared && l.sum == total then .ok { l with ended := true } else .error .lenMismatch
      else longEntries blk declared total f (i + 1) l

/-- Checks one block of a list (R193, R194). -/
def listBlock (declared total : Nat) (l : SegList) (blk : List Byte) : Except Status SegList :=
  if declared ≤ 16 then
    match shortList blk declared total with
    | some l => .ok l
    | none => .error .lenMismatch
  else longEntries blk declared total 16 0 { l with blocks := l.blocks + 1, next := none }

/-- The parts of segments that cover bytes [off, off + n). -/
def cover : List (Nat × Nat) → Nat → Nat → List (Nat × Nat)
  | [], _, _ => []
  | (a, l) :: t, off, n =>
    if n == 0 then []
    else if off ≥ l then cover t (off - l) n
    else
      let k := min n (l - off)
      (if k == 0 then [] else [(a + off, k)]) ++ cover t 0 (n - k)

/-! ### What an operation moves (Table 5-4, Table 5-14) -/

/-- The payload of a chain (R200). -/
def Op.payload (o : Op) : Nat := o.entries.foldl (fun a e => a + e.d.payload) 0

/-- Source bytes of an entry; the tag of an OPEN follows the payload of the LAST entry when AUX is 0. -/
def srcTotal (head : Desc) (isLast : Bool) (d : Desc) : Nat :=
  d.payload + (if head.opcode == 2 && head.aux == 0 && isLast then head.t else 0)

/-- Destination bytes of an entry. -/
def dstTotal (head : Desc) (isLast : Bool) (d : Desc) : Nat :=
  if writesPayload head.opcode then
    d.payload + (if head.opcode == 1 && head.aux == 0 && isLast then head.t else 0)
  else 0

/-- Where the payload starts within a format-1 source (Table 5-14). -/
def srcShift (d : Desc) : Nat :=
  if d.format == 1 then
    (if d.opcode == 2 || (d.opcode == 5 && d.subop == 1) then 8 else 0) +
      (if d.opcode == 1 || d.opcode == 2 then d.aadLen else 0)
  else 0

/-- The address of the AAD: AAD_ADDR, or its place in a format-1 source. -/
def aadAddress (d : Desc) : Nat :=
  if d.format == 1 then d.src + (if d.opcode == 2 then 8 else 0) else d.aadAddr

/-- Source segments of a whole operation, entry by entry; the second part is false while a list is not whole. -/
def Op.srcMap (o : Op) : List (Nat × Nat) :=
  let h := o.head.d
  (o.entries.map (fun e =>
    if e.d.sgSrc then e.src.segs
    else [(e.d.src + srcShift e.d, srcTotal h e.d.last e.d)])).flatten

/-- Destination segments of a whole operation. -/
def Op.dstMap (o : Op) : List (Nat × Nat) :=
  let h := o.head.d
  (o.entries.map (fun e =>
    if e.d.sgDst then e.dst.segs else [(e.d.dst, dstTotal h e.d.last e.d)])).flatten

/-- Every list of the operation has reached END (R197). -/
def Op.listsDone (o : Op) : Bool :=
  o.entries.all (fun e => (!e.d.sgSrc || e.src.ended) && (!e.d.sgDst || e.dst.ended))

/-- Parts of an operation (R302, R439). -/
def Op.parts (o : Op) : Nat := max 1 ((o.payload + 16383) / 16384)

/-- Bytes of the part that runs or comes next. -/
def Op.partLen (o : Op) : Nat := min 16384 (o.payload - 16384 * o.part)

/-- A PK, context or no-work operation is charged 1, data work by bytes (Table 6-1). -/
def Op.firstCost (o : Op) : Nat :=
  let d := o.head.d
  if d.aead || d.opcode == 0x10 then 1 + (d.aadLen + min o.payload 16384 + 63) / 64 else 1

/-- Cost of the part that comes next (Table 6-1). -/
def Op.laterCost (o : Op) : Nat := (o.partLen + 63) / 64

/-! ### Command packets (Tables 2-5 and 2-11) -/

/-- OPCODE of a packet. -/
def pkOpcode (p : List Byte) : Nat := field 0 2 p
/-- PROTO_VER. -/
def pkVer (p : List Byte) : Nat := field 2 2 p
/-- SEQ. -/
def pkSeq (p : List Byte) : Nat := field 4 4 p
/-- LENGTH. -/
def pkLen (p : List Byte) : Nat := field 8 4 p
/-- TXN. -/
def pkTxn (p : List Byte) : Nat := field 12 4 p
/-- STATE. -/
def pkState (p : List Byte) : Nat := field 18 1 p
/-- IRQ. -/
def pkIrq (p : List Byte) : Bool := field 19 1 p % 2 == 1
/-- The parameter field of `n` bytes at offset `off` of the parameter area. -/
def par (off n : Nat) (p : List Byte) : Nat := field (32 + off) n p

/-- One command of Tables 2-10 and 2-11: parameter length, open to guests, stageable, RSVD runs of the parameter
area as offset and length, and the offsets of its INSTANCE and RING fields. -/
structure CmdInfo where
  len : Nat
  guest : Bool
  stage : Bool
  rsvd : List (Nat × Nat)
  instAt : Option Nat
  ringAt : Option Nat
  deriving DecidableEq, Repr

/-- Tables 2-10 and 2-11. -/
def cmdInfo (opcode : Nat) : Option CmdInfo :=
  match opcode with
  | 0x0001 => some ⟨0, true, false, [], none, none⟩
  | 0x0002 => some ⟨8, false, false, [(4, 4)], none, none⟩
  | 0x0010 => some ⟨24, false, true, [(20, 4)], some 0, none⟩
  | 0x0011 => some ⟨8, false, true, [(2, 6)], some 0, none⟩
  | 0x0012 => some ⟨8, false, false, [(2, 6)], some 0, none⟩
  | 0x0013 => some ⟨8, false, false, [(2, 6)], some 0, none⟩
  | 0x0014 => some ⟨16, false, true, [(6, 2), (12, 4)], some 0, none⟩
  | 0x0020 => some ⟨32, true, true, [(5, 1), (10, 6)], some 0, none⟩
  | 0x0021 => some ⟨8, true, true, [(2, 6)], none, some 0⟩
  | 0x0022 => some ⟨8, true, false, [(2, 6)], none, some 0⟩
  | 0x0023 => some ⟨8, true, false, [(2, 6)], none, some 0⟩
  | 0x0030 => some ⟨8, false, false, [(4, 4)], none, none⟩
  | 0x0031 => some ⟨0, false, false, [], none, none⟩
  | 0x0032 => some ⟨0, false, false, [], none, none⟩
  | 0x0040 => some ⟨8, false, false, [(4, 4)], none, none⟩
  | 0x0041 => some ⟨0, false, false, [], none, none⟩
  | 0x0050 => some ⟨24, false, false, [(1, 7), (20, 4)], none, none⟩
  | 0x0051 => some ⟨16, false, false, [(1, 7)], none, none⟩
  | 0x0052 => some ⟨0, false, false, [], none, none⟩
  | 0x0060 => some ⟨8, false, false, [(1, 7)], none, none⟩
  | 0x0070 => some ⟨8, true, false, [(2, 2)], none, some 0⟩
  | 0x0080 => some ⟨16, false, false, [(4, 4)], none, none⟩
  | 0x0090 => some ⟨16, true, true, [(6, 2)], some 0, none⟩
  | 0x00A0 => some ⟨24, false, false, [(20, 4)], none, none⟩
  | 0x00A1 => some ⟨0, false, false, [], none, none⟩
  | _ => none

end Sys2Proof.Machine
end

