-- ==== Sys2Proof/Machine/Work.lean ====
section
/-!
DEFINITION. The life of an in-flight operation: what it reads and writes, how it ends, its zero writes, the posting
of its completion, its release, and the stop of a ring. Every unit ends its operations through these.
-/

namespace Sys2Proof.Machine

/-! ### Injection points (R645 to R649) -/

/-- The armed injection of a point. -/
def State.armed? (s : State) (p : Nat) : Option Armed := s.diag.armed.find? (fun a => a.point == p)

/-- A point is armed and its ARG applies here. -/
def State.injected (s : State) (p : Nat) (f : Word → Bool) : Bool :=
  match s.armed? p with
  | some a => f a.arg
  | none => false

/-- One firing of a point (R649, Table 19-7). -/
def fireAt (p : Nat) (s : State) : State :=
  { s with diag :=
    { s.diag with
      fired := min 0xFFFF (s.diag.fired + 1),
      armed := s.diag.armed.filterMap (fun a =>
        if a.point == p then (if a.left ≤ 1 then none else some { a with left := a.left - 1 }) else some a) } }

/-- An uncorrectable ECC error of memory `code` is counted (R642). DESIGN CHOICE: log entry 25. -/
def eccUncorr (code : Nat) (s : State) : State :=
  { s with ecc := { s.ecc with uncorr := min 0xFFFF (s.ecc.uncorr + 1), lastMem := code } }

/-- A corrected ECC error is counted (R641). -/
def eccCorr (s : State) : State := { s with ecc := { s.ecc with corr := min 0xFFFFFFFF (s.ecc.corr + 1) } }

/-- Wilto reads a word of memory `code`: one that has gone bad, or that an armed ECC injection hits, is met, and the flag says
whether it is uncorrectable (R641, R642, R645 point 10). A key store word that is bad in one copy is repaired from the other.
A logical read counts as one word. DESIGN CHOICE: log entry 25. -/
def eccRead (code : Nat) (s : State) : Bool × State :=
  match s.ecc.upsets.find? (fun u => u.mem == code) with
  | some u =>
    let s := { s with ecc := { s.ecc with upsets := s.ecc.upsets.erase u } }
    if u.uncorr && (code != 8 || u.both) then (true, eccUncorr code s) else (false, eccCorr s)
  | none =>
    if s.injected 10 (fun a => bits a 3 0 == code) then
      if s.injected 10 (fun a => a.getLsbD 8) then (true, eccUncorr code (fireAt 10 s))
      else (false, eccCorr (fireAt 10 s))
    else (false, s)

/-- Wilto reads the Pantry directory: a lost word stops the dispatch of context-bearing operations (Table 19-3 code 2). -/
def readDirectory (s : State) : Bool × State :=
  let (lost, s) := eccRead 2 s
  (lost, if lost then { s with pan := { s.pan with dirFault := true } } else s)

/-- Wilto reads the key store: a word lost in both copies costs the whole key store (Table 19-3 code 8). DEDUCED: log entry
60. -/
def readKeyStore (s : State) : Bool × State :=
  let (lost, s) := eccRead 8 s
  (lost, if lost then { s with pan := { s.pan with keyFault := max 1 s.pan.keyFault } } else s)

/-! ### Small facts about operations -/

/-- Not yet dispatched. -/
def Phase.undispatched : Phase → Bool
  | .fetch _ => true
  | .reread _ => true
  | .chain => true
  | .lists => true
  | .blob => true
  | .ready => true
  | .parked _ => true
  | .waitIndex _ => true
  | _ => false

/-- a lies before b on a free-running index (04_rings.md). -/
def idxBefore (a b : Idx) : Bool := a != b && (b - a).toNat < 2 ^ 31

/-- The operations of a ring; an old-generation one belongs to a ring of the same number that is no more (R98, R107). -/
def State.ringOps (s : State) (r : Nat) : List Op := s.ops.filter (fun o => o.ring == r && !o.old)

/-- References on a context (REFS of Table 9-3). -/
def State.refs (s : State) (index : Nat) : Nat := (s.ops.filter (fun o => o.ref == some index)).length

/-- The next place in an order of operations. -/
def State.nextSeq (s : State) : Nat := s.ops.foldl (fun m o => max m o.seq) 0 + 1

/-- What an event of an operation carries. -/
def Op.tag' (o : Op) : EvTag := ⟨o.inst, some o.ring, some o.head.d.opcode, none, none⟩

/-- Counts an event of an operation; of an old-generation one in the device-wide counters alone (R653). -/
def countOp (ev amt : Nat) (o : Op) (s : State) : State :=
  if o.old then countIn 0 ev amt o.tag' s else count ev amt o.tag' s

/-- Counts a fixed event of an operation (R652, R653). -/
def fixedOp (n amt : Nat) (o : Op) (s : State) : State := if o.old then s else fixedCount o.inst n amt s

/-- Charges cost units to an instance (R228, R229, R230). -/
def chargeInst (i units : Nat) (s : State) : State :=
  fixedCount i 23 units (modInst i (fun x => { x with deficit := x.deficit - (units * 256 : Nat) }) s)

/-- Gives cost units back (R228: a correction may be negative). -/
def refundInst (i units : Nat) (s : State) : State :=
  let s := modInst i (fun x => { x with deficit := x.deficit + (units * 256 : Nat) }) s
  if i == 0 then s else subCounter i 23 units s

/-- An operation is charged another cost than before. -/
def chargeTo (o : Op) (cost : Nat) (s : State) : State :=
  let s := if cost ≥ o.charge then chargeInst o.inst (cost - o.charge) s else refundInst o.inst (o.charge - cost) s
  modOp o.id (fun x => { x with charge := cost }) s

/-- The correction of R228 when an entry has been checked: the first-part cost replaces the estimate, and becomes the ring's
estimate. -/
def correctCharge (o : Op) (cost : Nat) (s : State) : State :=
  chargeTo o cost (modRing o.ring (fun r => { r with estimate := cost }) s)

/-! ### Data that has arrived -/

/-- The bytes from `off` on without a gap. -/
def gather (buf : List (Nat × List Byte)) : Nat → Nat → List Byte
  | 0, _ => []
  | f + 1, off =>
    match buf.find? (fun p => p.1 ≤ off && off < p.1 + p.2.length) with
    | some p => p.2.drop (off - p.1) ++ gather buf f (p.1 + p.2.length)
    | none => []

/-- The first n bytes from `off` on, as far as they have arrived. -/
def arrivedBytes (buf : List (Nat × List Byte)) (off n : Nat) : List Byte := (gather buf buf.length off).take n

/-- Segments known so far: up to the first list that has not reached END. -/
def knownSegs (head : Desc) (dst : Bool) : List Entry → List (Nat × Nat)
  | [] => []
  | e :: t =>
    let sg := if dst then e.d.sgDst else e.d.sgSrc
    let l := if dst then e.dst else e.src
    let direct := if dst then (e.d.dst, dstTotal head e.d.last e.d)
                  else (e.d.src + srcShift e.d, srcTotal head e.d.last e.d)
    if sg then (if l.ended then l.segs ++ knownSegs head dst t else l.segs) else direct :: knownSegs head dst t

/-- Source bytes of a whole operation, an appended tag included. -/
def Op.srcBytes (o : Op) : Nat := o.entries.foldl (fun a e => a + srcTotal o.head.d e.d.last e.d) 0

/-- Source bytes that the part that runs or comes next needs. -/
def Op.partTarget (o : Op) : Nat := if o.part + 1 ≥ o.parts then o.srcBytes else 16384 * (o.part + 1)

/-- Asks for source bytes of the current part as far as the lists show where they lie (R192, R302). -/
def issueSrc (id : Nat) (s : State) : State :=
  match s.op? id with
  | none => s
  | some o =>
    let segs := knownSegs o.head.d false o.entries
    let known := segs.foldl (fun a x => a + x.2) 0
    let n := min o.partTarget known - o.need
    let s := modOp id (fun x => { x with need := o.need + n }) s
    ((cover segs o.need n).foldl (fun (p : Nat × State) x =>
      (p.1 + x.2, readReq (portOf o.ring) x.1 x.2 o.inst (.src id) p.1 p.2)) (o.need, s)).2

/-- The destination bytes of [off, off + n) lie where the lists read so far show them. -/
def Op.dstKnown (o : Op) (off n : Nat) : Bool :=
  off + n ≤ (knownSegs o.head.d true o.entries).foldl (fun a x => a + x.2) 0

/-- Writes output bytes from place `off` of the destination on. -/
def emit (id off : Nat) (data : List Byte) (s : State) : State :=
  match s.op? id with
  | none => s
  | some o =>
    ((cover (knownSegs o.head.d true o.entries) off data.length).foldl (fun (p : Nat × State) x =>
      (p.1 + x.2,
       modOp id (fun y => { y with wrote := y.wrote ++ [x] })
         (writeReq (portOf o.ring) x.1 (slice p.1 x.2 data) o.inst (.dst id (some o.ring) o.head.idx) p.2))) (0, s)).2
    |> countOp 5 data.length o

/-- Writes bytes at one address: a detached tag, a digest, a result. -/
def emitAt (id addr : Nat) (data : List Byte) (s : State) : State :=
  match s.op? id with
  | none => s
  | some o =>
    if data.isEmpty then s
    else
      modOp id (fun y => { y with wrote := y.wrote ++ [(addr, data.length)] })
        (writeReq (portOf o.ring) addr data o.inst (.dst id (some o.ring) o.head.idx) s)

/-- The pieces of an operation's output since its last dispatch that have been issued. DEDUCED: log entry 40. -/
def issuedOutput (s : State) (o : Op) : List (Nat × Nat) :=
  let q := (s.port (portOf o.ring)).wrQ
  let cut := (o.wrote.map (fun x => (cutReq x.1 (x.2 / 512 + 2) 0 x.2).map (fun p => (x.1 + p.1, p.2)))).flatten
  cut.filter (fun x => !q.any (fun w => w.addr == x.1 && w.owner == .dst o.id (some o.ring) o.head.idx))

/-- Output that has not been issued is withdrawn; what has been issued is kept as `prior`. -/
def dropOutput (o : Op) (s : State) : State :=
  let kept := issuedOutput s o
  modOp o.id (fun x => { x with wrote := [], prior := o.prior ++ kept })
    (dropWrites (fun w => w == .dst o.id (some o.ring) o.head.idx) s)

/-! ### Release -/

/-- Writes of the operation's output are outstanding or wait. -/
def outputLeft (s : State) (o : Op) : Bool :=
  0 < writesLeft s (portOf o.ring) (fun w => match w with
    | .dst i _ _ => i == o.id
    | _ => false)

/-- The record of an operation whose entry goes while output is not acknowledged stays, with its staging place, which an
old-generation operation has given up (R330, Table 8-2). -/
def keepRecord (o : Op) (s : State) : State :=
  match o.room with
  | some r =>
    if outputLeft s o then
      { s with rooms := { s.rooms with linger := s.rooms.linger ++ [⟨o.id, o.ring, r, if o.old then none else o.place⟩] } }
    else s
  | none => s

/-- Records whose last output is acknowledged go (R330, R331, Table 8-2). -/
def freeRecords (s : State) : State :=
  { s with rooms := { s.rooms with linger := s.rooms.linger.filter (fun x =>
      0 < writesLeft s (portOf x.ring) (fun w => match w with
        | .dst i _ _ => i == x.op
        | _ => false)) } }

/-- Adds to the SKIPPED count of a sampling buffer (R666). -/
def skipSample (i : Nat) (s : State) : State :=
  modInst i (fun x => { x with samp := { x.samp with skipped := min 0xFFFFFFFF (x.samp.skipped + 1) } }) s

/-- Releases an in-flight entry (R14) and whatever the operation still holds; a sampling record that was not written
is skipped (R666). -/
def releaseOp (id : Nat) (s : State) : State :=
  let s := match s.op? id with
    | some o =>
      let s := keepRecord o (o.sample.foldl (fun s (p : Nat × Nat) => skipSample p.1 s) s)
      if o.old then orphanReads (fun w => w.op? == some id) s else dropReads (fun w => w.op? == some id) s
    | none => s
  { s with ops := s.ops.filter (fun o => o.id != id),
           hearth := { s.hearth with queue := s.hearth.queue.filter (fun q => q.2 != id) },
           scu := { s.scu with partQ := s.scu.partQ.filter (fun q => q != id) } }

/-- Releases every operation that `f` names, without any write. -/
def releaseAll (f : Op → Bool) (s : State) : State :=
  (s.ops.filter f).foldl (fun s o => releaseOp o.id s) s

/-- Writes the sampling records that wait, in their order, as far as their buffers and their ports take them; TAIL
counts a record when it is written (R666, R667). DEDUCED: log entry 45. -/
def issueSamples (s : State) : State :=
  s.sampQ.foldl (fun s q =>
    let x := (s.inst q.buf).samp
    if x.enable && !x.fabErr && (x.tail - x.head).toNat < 2 ^ x.log2 && (s.port (q.buf % 8)).takesWrite then
      let t := x.tail.toNat
      let phase := fun (k : Nat) (b : Byte) => if k == 2 && t / 2 ^ x.log2 % 2 == 0 then b ||| 1 else b
      writeReq (q.buf % 8) (x.base + t % 2 ^ x.log2 * 64) (q.bytes.zipIdx.map (fun p => phase p.2 p.1)) q.buf (.samp q.buf)
        (modInst q.buf (fun y => { y with samp := { y.samp with tail := x.tail + 1 } }) s)
    else { s with sampQ := s.sampQ ++ [q] }) { s with sampQ := [] }

/-! ### Ring errors (R162 to R167) -/

/-- The state code of Table 4-10. -/
def RingState.code : RingState → Nat
  | .running => 1
  | .error => 2
  | .resuming => 3
  | .resetting => 4
  | .destroying => 5

/-- Bytes 32 to 63 of the index block (Table 4-3). -/
def indexBytes (r : Ring) : List Byte :=
  leBytes 4 r.errIdx.toNat ++ leBytes 4 r.haltIdx.toNat ++ leBytes 2 r.errStatus ++ leBytes 1 r.state.code ++
    leBytes 1 0 ++ leBytes 4 r.stops ++ leBytes 16 0

/-- Writes bytes 32 to 63 of the index block as one write (R130). -/
def writeIndex (n : Nat) (s : State) : State :=
  match tget n s.rings with
  | none => s
  | some r => writeReq (portOf n) (r.iblk + 32) (indexBytes r) r.owner (.idxBlock n) s

/-- Discards the speculative copies of a ring and what is being read for it. -/
def dropSpecs (n : Nat) (s : State) : State :=
  dropReads (fun w => match w with
    | .spec r _ => r == n
    | _ => false) { s with specs := s.specs.filter (fun x => x.ring != n) }

/-- Writes the RING_ERROR record of a ring (Table 4-9a). -/
def ringErrorRecord (n : Nat) (s : State) : State :=
  match tget n s.rings with
  | none => s
  | some r => evWrite r.owner 2 r.errStatus n r.errIdx.toNat r.haltIdx.toNat
      (modRing n (fun r => { r with errDue := false }) s)

/-- Writes the RING_ERROR record that waits for the completion of an entry which no operation will write any more (R155). -/
def orphanErrorRecord (n : Nat) (s : State) : State :=
  match tget n s.rings with
  | none => s
  | some r =>
    if r.errDue && !(s.ringOps n).any (fun o => o.head.idx == r.errIdx) then ringErrorRecord n s else s

/-- Writes the RING_ERROR record that has waited for the completion of an entry, or for its failure (R155). -/
def dueErrorRecord (n : Nat) (e : Idx) (s : State) : State :=
  match tget n s.rings with
  | none => s
  | some r => if r.errDue && r.errIdx == e then ringErrorRecord n s else s

/-- A fetched entry that has not been dispatched, one that has failed a check and waits to complete included (R164,
R170). -/
def Op.unrun (o : Op) : Bool := (o.phase.undispatched || o.phase == .post) && !o.ran

/-- Entries that CONSUMED has advanced once it goes back to h (R145); a whole ring's worth once is enough. -/
def Ring.advancedTo (r : Ring) (h : Idx) : Nat :=
  if r.size ≤ r.advanced || (r.consumed - h).toNat ≥ 2 ^ 31 then r.advanced else r.advanced - (r.consumed - h).toNat

/-- The stop of a RUNNING ring with ERR_INDEX e and HALT_INDEX h (R163, R164); `now`: no completion of e is
awaited for the RING_ERROR record (R155). A ring that does not run is left as it is (R162). -/
def stopAt (n : Nat) (e h : Idx) (st : Status) (now : Bool) (s : State) : State :=
  match tget n s.rings with
  | none => s
  | some r =>
    if r.state != .running then s
    else
      let r' := { r with state := .error, errIdx := e, haltIdx := h, consumed := h, advanced := r.advancedTo h, errStatus := st.code.toNat,
                         errDue := true, stops := (r.stops + 1) % 2 ^ 32 }
      let s := { s with rings := tset n r' s.rings }
      let s := releaseAll (fun o => o.ring == n && !o.old && o.unrun && !idxBefore o.head.idx h) s
      let s := writeIndex n (dropSpecs n s)
      if now then ringErrorRecord n s else s

/-- HALT_INDEX when entry e stops the ring (R163). -/
def Ring.haltFor (r : Ring) (e : Idx) : Idx :=
  match r.hiDisp with
  | some h => if idxBefore (e + 1) h then h else e + 1
  | none => e + 1

/-- The stop that an entry causes. DESIGN CHOICE: log entry 98. -/
def stopRing (n : Nat) (e : Idx) (st : Status) (now : Bool) (s : State) : State :=
  match tget n s.rings with
  | none => s
  | some r => stopAt n e (r.haltFor e) st now s

/-! ### Completions (R147, R149, R208, R217, R218) -/

/-- Word 0 and word 1 of a completion in a ring of a format (Table 5-10, R223). DESIGN CHOICE: log entry 32. -/
def complBytes (fmt : Nat) (d : Desc) (st : Status) (result : Nat) : List Byte :=
  let lap := if fmt == 1 then 0 else d.lap
  leBytes 8 (d.opcode + lap * 2 ^ 8 + b2n d.first * 2 ^ 10 + b2n d.last * 2 ^ 11 + st.code.toNat * 2 ^ 16 +
      d.cookie * 2 ^ 32 + 2 ^ 63) ++
    leBytes 8 result

/-- RESULT of one entry of an operation in a ring of a format (R218, R223). The head of a chain that completes alone is not
its LAST entry; nor is an entry of a format-2 ring with LAST = 0 that belongs to no chain. DESIGN CHOICE: log entry 104. -/
def Op.entryResult (fmt : Nat) (o : Op) (e : Entry) : Nat :=
  if e.d.last || fmt == 1 then o.result
  else if o.status.success && writesPayload o.head.d.opcode then e.d.payload
  else 0

/-- RESULT of an operation that ends with a status (Table 5-11, R278); `good` is its value on success; 0 where no row of the
table names the entry. DESIGN CHOICE: log entry 104. -/
def Op.resultFor (o : Op) (st : Status) (good : Nat) : Nat :=
  let none' := 2 ^ 64 - 1
  if st == .chainOrphan then 0
  else if o.head.d.sending then
    if st == .counterExhausted then o.firstPn.getD none' else o.pn.getD none'
  else if st.success then good
  else 0

/-- Its completion may be issued: IN_ORDER after every earlier entry (R149), BARRIER after its writes (R210). An operation
that an engine still holds for another status completes after the engine's wipe (R466, Table 11-9). Nothing is posted
while the port holds its writes (R467, R480). -/
def postable (s : State) (r : Ring) (o : Op) : Bool :=
  o.phase == .post && !(s.port (portOf o.ring)).holdsWrites && !s.hearth.engines.any (fun e => e.op == some o.id && e.after.isSome) &&
  (r.anyOrder || !(s.ringOps o.ring).any (fun x => !x.posted && idxBefore x.head.idx o.head.idx)) &&
  (!o.head.d.barrier || !outputLeft s o)

/-- Issues the completion writes of an operation; one that failed a check of Table 7-4 gives its reference back (R274).
DESIGN CHOICE: log entry 32. -/
def postOp (o : Op) (s : State) : State :=
  match tget o.ring s.rings with
  | none => releaseOp o.id s
  | some r =>
    let s := modOp o.id (fun x => { x with
      phase := .compl, posted := true, complLeft := o.entries.length,
      ref := if o.dropRef then none else x.ref }) s
    o.entries.foldl (fun s e =>
      writeReq (portOf o.ring) (r.slot e.idx) (complBytes r.fmt e.d o.status (o.entryResult r.fmt e)) o.inst
        (.compl o.id) s) s

/-- Issues every completion of a ring that may be issued. -/
def tryPost (n : Nat) (s : State) : State :=
  (List.range s.ops.length).foldl (fun s _ =>
    match tget n s.rings with
    | none => s
    | some r =>
      match (s.ringOps n).find? (postable s r) with
      | some o => postOp o s
      | none => s) s

/-- What an operation has written, in every dispatch. -/
def Op.written (o : Op) : List (Nat × Nat) := o.prior ++ o.wrote

/-- Writes zeros over every byte an operation has written (R196). -/
def zeroWrites (o : Op) (s : State) : State :=
  o.written.eraseDups.foldl (fun s x => writeReq (portOf o.ring) x.1 (List.replicate x.2 0) o.inst (.zero o.id) s) s

/-- The operation ends with a status: no more output, zero writes where they are due, its staging place and unit free, its
record zeroed (R331), its ring stopped where the status stops it, its completion posted when its turn comes (R162, R196,
R330). An old-generation operation is released without any write (R103). Of two stops the one whose failure is known first
is latched (R166). DESIGN CHOICE: log entry 98. -/
def endOp (id : Nat) (st : Status) (good : Nat) (s : State) : State :=
  match s.op? id with
  | none => s
  | some o =>
    if o.old then releaseOp id s
    else
      let scrub := !st.success && !o.written.isEmpty
      let res := o.resultFor st good
      let stops := st.stops && (match tget o.ring s.rings with
        | some r => r.state == .running
        | none => false)
      let ents := if stops && !o.ran then o.entries.take 1 else o.entries
      let s := dropReads (fun w => w.op? == some id) s
      let s := modOp id (fun x => { x with
        status := st, result := res, entries := ents, phase := if scrub then .scrub else .post,
        unit := none, returned := false, place := if st.success && 0 < o.payload then x.place else none,
        key := none, buf := [], aad := [], tag := [], acc := [], stage := [], blob := [] }) s
      let s := { s with hearth := { s.hearth with queue := s.hearth.queue.filter (fun q => q.2 != id) } }
      let s := { s with scu := { s.scu with partQ := s.scu.partQ.filter (fun q => q != id) } }
      let s := if scrub then zeroWrites o s else s
      let s := if st == .replay || st == .replayScrubbed then countOp 0xF 1 o s else s
      let s := if stops then stopRing o.ring o.head.idx st false s else s
      tryPost o.ring s

/-- An operation that has not been dispatched completes with a status; it is charged 1 (Table 6-1). -/
def failUndispatched (o : Op) (st : Status) (s : State) : State :=
  endOp o.id st 0 (if o.ran then s else chargeTo o 1 s)

/-- A data, tag, digest or result write of an operation has failed (R466): no further write for it, and its
completion carries the fabric status unless it has been issued; the ring stops. -/
def failWrite (id ring : Nat) (e : Idx) (st : Status) (s : State) : State :=
  match s.op? id with
  | some o =>
    if o.old then s
    else
      let s := dropWrites (fun w => match w with
        | .dst i _ _ => i == id
        | .zero i => i == id
        | _ => false) s
      if o.posted then stopRing ring e st false s
      else endOp id st 0 (modOp id (fun x => { x with wrote := [], prior := [] }) s)
  | none => stopRing ring e st true s

/-- A read of a dispatched operation has failed (R465). -/
def failRead (id : Nat) (st : Status) (s : State) : State := endOp id st 0 s

end Sys2Proof.Machine
end

