-- ==== Sys2Proof/Machine/Study.lean ====
section
/-!
DEFINITION. The Study: service order of the command queues, replies, packet checks, transactions, what a waiting
command waits for, and the instance and ring transitions that end such a wait (02_command_channel.md,
03_instances.md, 04_rings.md).
-/

namespace Sys2Proof.Machine

/-! ### Taking packets (R29, R35 to R37, R41, R691) -/

/-- A packet of the queue may be read now. -/
def Inst.cmdDue (i : Inst) : Bool :=
  i.served && i.cq.enable && !i.cq.fabErr && i.cq.tail != i.cq.head && !i.cq.rdOut &&
    i.cq.arrived.isNone && i.cq.serving.isNone

/-- The packet a queue holds from its arrival to its reply. -/
def CmdQ.held (c : CmdQ) : Option (List Byte) :=
  match c.serving with
  | some v => some v.pkt
  | none => c.arrived

/-- A TXN_COMMIT of the manager is being served: no other queue is read (R691). -/
def State.commitHold (s : State) : Bool :=
  match (s.inst 0).cq.held with
  | some p => pkOpcode p == 0x31
  | none => false

/-- The next queue to read a packet of (R36): the manager's, or after eight of its packets a guest's; guests in turn.
DEDUCED: log entry 16. -/
def State.nextQueue (s : State) : Option Nat :=
  let due := (s.insts.filter (fun p => p.1 != 0 && p.2.cmdDue)).map (·.1)
  let guest := match due.find? (fun i => i > s.study.lastGuest) with
    | some i => some i
    | none => due.head?
  if (s.inst 0).cmdDue && (s.study.mgrRun < 8 || guest.isNone) then some 0
  else guest

/-- The Study has a packet of the queue in hand: its read is outstanding, it has arrived, or its reply is being
written. A packet that waits for a condition does not hold the other queues (R36, R37). DEDUCED: log entry 16. -/
def CmdQ.inHand (c : CmdQ) : Bool :=
  c.rdOut || c.arrived.isSome || (match c.serving with
    | some v => v.reply.isSome
    | none => false)

/-- What the service order remembers of a packet that has been taken: packets of the manager in a row, or the guest served
last (R36). -/
def noteTaken (q : Nat) (s : State) : State :=
  { s with study := { s.study with
      mgrRun := if q == 0 then s.study.mgrRun + 1 else 0,
      lastGuest := if q == 0 then s.study.lastGuest else q } }

/-- Reads the next packet when the Study may take one (R29, R36, R41). -/
def studyFetch (s : State) : State :=
  if !s.study.cmdRdy || s.pwr.softReset.isSome || (s.pwr.entry.isSome && s.pwr.step ≥ 2) || s.commitHold ||
      s.insts.any (fun p => p.2.cq.inHand) then s
  else
    match s.nextQueue with
    | none => s
    | some q =>
      let c := (s.inst q).cq
      let s := modCq q (fun c => { c with rdOut := true }) s
      readReq 0 (c.base + c.head.toNat % queueSize q * 256) 256 q (.cmdPacket q) 0 s

/-- Discards a packet read that is outstanding (R29). -/
def dropPacketRead (q : Nat) (s : State) : State :=
  modCq q (fun c => { c with rdOut := false }) (dropReads (fun w => w == .cmdPacket q) s)

/-! ### Replies (R32, R33) -/

/-- The envelope buffer is zero-filled before a KEYMSG_APPLY of the manager is answered, whatever the status (R388);
a guest's packet with that opcode has no envelope. DEDUCED: log entry 82. -/
def keyinDone (q : Nat) (p : List Byte) (s : State) : State :=
  if q == 0 && pkOpcode p == 0x40 then
    { s with keys := { s.keys with keyin := [], keyinOvf := false, keyinBusy := false } }
  else s

/-- A TXN_COMMIT that is turned away after its packet had arrived holds its transaction no longer (R70). -/
def commitRefused (q : Nat) (p : List Byte) (s : State) : State :=
  if q == 0 && pkOpcode p == 0x31 then { s with txn := { s.txn with taken := false } } else s

/-- Starts the reply of the packet in service: bytes 32 to 255 and word 3; word 2 follows their acknowledgement.
DESIGN CHOICE: log entry 96. -/
def reply (q : Nat) (st : Status) (detail : Nat) (body : List Byte) (s : State) : State :=
  match (s.inst q).cq.serving with
  | none => s
  | some v =>
    let s := modCq q (fun c => { c with serving := some { v with
      wait := .none, reply := some ⟨st, detail, body, false⟩ } }) s
    let s := writeReq 0 (v.addr + 32) (fillTo 224 body) q (.replyBody q) s
    writeReq 0 (v.addr + 24) (leBytes 4 detail ++ leBytes 4 0) q (.replyBody q) s

/-- Word 2 of a reply (Table 2-5): bit IRQ as the submitter wrote it, the reserved bits 0. DESIGN CHOICE: log entry 95. -/
def word2Bytes (pkt : List Byte) (r : Reply) : List Byte :=
  leBytes 2 r.status.code.toNat ++ leBytes 1 2 ++ leBytes 1 (b2n (pkIrq pkt)) ++ leBytes 4 r.body.length

/-- Word 2 goes out once the body's writes are acknowledged (R32). -/
def replyWord2 (q : Nat) (s : State) : State :=
  match (s.inst q).cq.serving with
  | some v =>
    match v.reply with
    | some r =>
      if r.word2 || 0 < writesLeft s 0 (fun w => w == .replyBody q) then s
      else
        let s := modCq q (fun c => { c with serving := some { v with reply := some { r with word2 := true } } }) s
        writeReq 0 (v.addr + 16) (word2Bytes v.pkt r) q (.replyWord2 q) s
    | none => s
  | none => s

/-- The packet in service waits for a condition (R37). -/
def waitFor (q : Nat) (w : Wait) (s : State) : State :=
  modCq q (fun c => { c with serving := c.serving.map (fun v => { v with wait := w }) }) s

/-- Moves an arrived packet into service. -/
def takeArrivedPacket (q : Nat) (pkt : List Byte) (s : State) : State :=
  modCq q (fun c => { c with arrived := none,
                             serving := some ⟨pkt, c.base + c.head.toNat % queueSize q * 256, .none, none⟩ }) s

/-! ### Packet checks (Table 2-6) -/

/-- Offsets of nonzero RSVD fields, of an INSTANCE out of range and of the fields of Table 3-5 and TXN_BEGIN out of
range, lowest first (step 8, R79, R81, R692). DEDUCED: log entry 24. -/
def paramFault (s : State) (i : CmdInfo) (op : Nat) (p : List Byte) : Option Nat :=
  let rsvd : List (Nat × Nat) := i.rsvd.filter (fun x => field (32 + x.1) x.2 p != 0)
  let range := match i.instAt with
    | some a =>
      let n := par a 2 p
      if n > s.build.insts || (n == 0 && 0x10 ≤ op && op ≤ 0x13) then [32 + a] else []
    | none => []
  let head := (if field 19 1 p ≥ 2 then [19] else []) ++ (if field 28 4 p != 0 then [28] else [])
  let own :=
    if op == 0x30 then (if par 0 4 p > 60000 then [32] else [])
    else if op == 0x10 then
      (if par 6 2 p > min 65535 s.build.rings then [38] else []) ++ (if par 8 4 p > 8192 then [40] else []) ++
        (if par 12 4 p ≥ 2 ^ 26 then [44] else []) ++ (if par 16 4 p > 2 ^ 26 - par 12 4 p then [48] else [])
    else if op == 0x14 then (if par 8 4 p > 8192 then [40] else [])
    else []
  (head ++ range ++ own ++ rsvd.map (fun (x : Nat × Nat) => 32 + x.1)).foldl (fun (m : Option Nat) x =>
    match m with
    | none => some x
    | some y => some (min x y)) none

/-- A guest's INSTANCE and RING fields name its own objects (R54). -/
def ownObjects (s : State) (q : Nat) (i : CmdInfo) (p : List Byte) : Bool :=
  (match i.instAt with
   | some a => par a 2 p == q
   | none => true) &&
  (match i.ringAt with
   | some a => (match tget (par a 2 p) s.rings with
     | some r => r.owner == q
     | none => false)
   | none => true)

/-- Steps 1 to 8 of Table 2-6 and the TXN_FULL check of step 9: the status and DETAIL of the first failure. DEDUCED:
log entry 24. -/
def packetFault (s : State) (q : Nat) (p : List Byte) : Option (Status × Nat) :=
  let op := pkOpcode p
  let txn := pkTxn p
  if pkState p != 1 then some (.cmdNotPosted, 18)
  else if pkVer p != s.study.proto.toNat && !((op == 1 || op == 2) && pkVer p == 0x0100) then
    some (.cmdVersion, 2)
  else
    match cmdInfo op with
    | none => some (.cmdUnknown, 0)
    | some i =>
      if q != 0 && (!i.guest || txn != 0 || !ownObjects s q i p) then some (.cmdNotPermitted, 0)
      else if s.cel.locked && !(op == 1 || op == 0x40 || op == 0x41) then some (.locked, 0)
      else if pkLen p != i.len then some (.cmdLength, 8)
      else if txn != 0 && !i.stage && op != 0x31 && op != 0x32 then some (.txnNotStageable, 12)
      else if txn != 0 && s.txn.aborted.contains txn then some (.txnAborted, 12)
      else if txn != 0 && !(s.txn.opened && txn == s.txn.num) then some (.txnNone, 12)
      else if txn == 0 && (op == 0x31 || op == 0x32) then some (.txnNone, 12)
      else
        match paramFault s i op p with
        | some d => some (.cmdParam, d)
        | none =>
          if txn != 0 && i.stage && s.txn.staged.length ≥ 4096 then some (.txnFull, 0) else none

/-- Serves the arrived packet of a queue when it carries one of the opcodes of the row: the first failed check of
Table 2-6 answers, with REPLY_LEN 0, otherwise `k` acts on it (R34). DESIGN CHOICE: log entry 96. -/
def serve (q : Nat) (mine : List Byte → Bool) (k : List Byte → State → State) (s : State) : State :=
  match (s.inst q).cq.arrived with
  | none => s
  | some p =>
    if pkState p == 1 && mine p then
      match packetFault s q p with
      | some (st, d) => reply q st d [] (takeArrivedPacket q p (commitRefused q p (keyinDone q p s)))
      | none => k p (takeArrivedPacket q p s)
    else s

/-! ### Instances -/

/-- In-flight entries of an instance, of every generation. -/
def State.instOps (s : State) (i : Nat) : List Op := s.ops.filter (fun o => o.inst == i)

/-- Returns the registers of an instance's page to their cold values (R99, R671). -/
def coldPage (i : Nat) (s : State) : State :=
  let s := { s with wraps := s.wraps.filter (fun w => w.1 != i), sampQ := s.sampQ.filter (fun q => q.buf != i) }
  modInst i (fun x => { x with
    cq := CmdQ.cold, eq := EventQ.cold, db := ⟨0, false, false, false, false, false⟩, ringSel := 0,
    counters := Counter.guest, samp := Samp.cold }) s

/-- Nothing more is read for a ring: its harvest read, with the doorbells that wait for it, and its speculative copies
go. DESIGN CHOICE: log entry 83. -/
def quietRing (n : Nat) (s : State) : State :=
  let s := modRing n (fun r => { r with held := none, harvOut := none }) s
  dropReads (fun w => w == .harvest n) (dropSpecs n s)

/-- Destroys every ring of an instance without writing to its memory (R98). -/
def dropRings (i : Nat) (s : State) : State :=
  let s := (s.ringsOf i).foldl (fun s n => quietRing n s) s
  { s with rings := s.rings.filter (fun p => p.2.owner != i) }

/-- Withdraws what waits to be written for an instance, command replies excepted (R103, R476). -/
def dropTagged (i : Nat) (s : State) : State :=
  { s with hwy := { s.hwy with ports := s.hwy.ports.map (fun p =>
      { p with wrQ := p.wrQ.filter (fun w => w.tag != i || w.owner.study) }) } }

/-- A dispatched CTX_RETIRE, which waits for its zeroising and its tombstone (R360). -/
def Phase.retiring : Phase → Bool
  | .retire _ => true
  | _ => false

/-- Makes one operation old-generation, or releases it when no internal work of it goes on (R102, R103, R107): a part on a
unit, an engine, the zeroising and the tombstone of a CTX_RETIRE (R360), which is written all the same. DESIGN CHOICE: log
entry 102. -/
def makeOld (o : Op) (s : State) : State :=
  let engine := s.hearth.engines.any (fun e => e.op == some o.id)
  let s := orphanReads (fun w => w.op? == some o.id) s
  let s := mapEngines (fun e => if e.op == some o.id then { e.stop none with after := none } else e) s
  if engine || o.unit.isSome || o.phase.retiring then
    modOp o.id (fun x => { x with old := true, place := none, stage := [], pin := none }) s
  else releaseOp o.id (modOp o.id (fun x => { x with old := true }) s)

/-- The boundary work of R102 for an instance; an INST_DESTROY advances the generation if it found work in flight when it
was taken (R75, R114). -/
def generationStep (i : Nat) (s : State) : State :=
  let s := modInst i (fun x => { x with
    gen := if s.build.guard && (x.state == .resetting || x.work) then (x.gen + 1) % 256 else x.gen,
    genStep := false, work := false, stopFetch := true }) s
  let s := (s.ringsOf i).foldl (fun s n => quietRing n s) s
  freeRecords (dropTagged i ((s.instOps i).foldl (fun s o => makeOld o s) s))

/-- R108: every write made for the instance is acknowledged and no engine holds an operation of it; the guest's
packet in service has been answered (R101). -/
def resetClear (i : Nat) (s : State) : Bool :=
  !(s.inst i).genStep && (s.inst i).cq.serving.isNone && (s.inst i).cq.arrived.isNone &&
  !s.hwy.ports.any (fun p => p.wrs.any (fun w => w.tag == i)) &&
  !s.hearth.engines.any (fun (e : Engine) => match e.op with
    | some id => (match s.op? id with
      | some o => o.inst == i
      | none => false)
    | none => false)

/-- Operations parked on an index are to be dispatched again, in acceptance order (R15). -/
def wakeIndex (index : Nat) (s : State) : State :=
  { s with ops := s.ops.map (fun o =>
      if o.phase == .parked index || o.phase == .waitIndex index then { o with phase := .ready } else o) }

/-- The misses of an instance and its Larder fetches end: the life they belong to is over (R102, Table 9-15). -/
def dropDoorWork (i : Nat) (s : State) : State :=
  let gone := (s.lar.fetches.filter (fun f => f.inst == i)).map (·.index)
  let s := dropReads (fun w => match w with
    | .larBlob n => gone.contains n
    | _ => false) s
  { s with lar := { s.lar with
    fetches := s.lar.fetches.filter (fun f => f.inst != i), misses := s.lar.misses.filter (fun m => m.2.1 != i) } }

/-- Retires every resident context of an instance without tombstones (R113, R337, R361): a slot no operation
refers to goes at once, the others when their last reference does, and one whose blob is being written once that write is
acknowledged. A CTX_RETIRE that waits on a slot completes with the value
of step 1 of R360, and an install that waits for the index goes on. -/
def retireResident (i : Nat) (s : State) : State :=
  (s.pan.slots.filter (fun p => p.2.owner == i && p.2.state != .companion)).foldl (fun s p =>
    let idx := p.2.index
    let s := mapFetches (fun f => if f.victim == some p.1 then { f with victim := none } else f) s
    if s.refs idx == 0 && !p.2.evicting then
      let s := keepSlots (fun _ x => x.index != idx) s
      let s := match p.2.retireOp with
        | some id => endOp id .ok (if p.2.zeroed then p.2.final else p.2.f104) s
        | none => s
      wakeIndex idx s
    else
      mapSlots (fun n x =>
        if n == p.1 then { x with state := .retiring, dirty := false, noTomb := true } else x) s) s

/-- Ends an INST_RESET: rings and page of the instance are cold, and it is ACTIVE (R98, R99, R108). Its deficit and its place in
the ring round robin stay (log entry 105). DEDUCED: log entry 74. -/
def endReset (i : Nat) (s : State) : State :=
  let s := coldPage i (dropRings i s)
  let s := { s with study := { s.study with late := s.study.late.filter (fun l => l.q != i) } }
  modInst i (fun x => { x with state := .active, stopFetch := false, genStep := false }) s

/-- The steps of R113 once R108 holds: no rings, a cold page, no keys, no contexts. DEDUCED: log entry 74. -/
def endDestroy (i : Nat) (s : State) : State :=
  let s := coldPage i (dropRings i s)
  let s := { s with study := { s.study with late := s.study.late.filter (fun l => l.q != i) } }
  dropDoorWork i (retireResident i (modInst i (fun x => { x with kek := Kek.none }) s))

/-- A DESTROYING instance whose boundary work is done and that holds nothing becomes ABSENT (R114). DESIGN CHOICE: log
entry 105. -/
def settleDestroy (i : Nat) (s : State) : State :=
  if (s.inst i).state == .destroying && resetClear i s then
    let s := endDestroy i s
    if (s.instOps i).isEmpty then modInst i (fun x => { Inst.absent with gen := x.gen }) s else s
  else s

/-- An instance whose drain has ended enters QUIESCED (R95); from the boundary after its INST_QUIESCE on
(log entry 12). -/
def settleQuiesce (i : Nat) (s : State) : State :=
  let x := s.inst i
  if x.state == .quiescing && x.stopFetch && (s.instOps i).isEmpty then
    modInst i (fun x => { x with state := .quiesced }) s
  else s

/-! ### Rings that drain (R168, R171, R172) -/

/-- Writes made for a ring that is no more stop no ring of its number (R162). -/
def disownRing (n : Nat) (s : State) : State :=
  let own := fun (w : Owner) => match w with
    | .dst o r e => Owner.dst o (if r == some n then none else r) e
    | .idxBlock r => if r == n then .nobody else .idxBlock r
    | w => w
  { s with hwy := { s.hwy with ports := s.hwy.ports.map (fun p => { p with
      wrs := p.wrs.map (fun w => { w with owner := own w.owner }),
      wrQ := p.wrQ.map (fun w => { w with owner := own w.owner }) }) } }

/-- Ends a resume, a reset or a destruction of a ring that holds no in-flight entry. A ring of an instance that is
RESETTING or DESTROYING goes with it, and nothing is written for it (R98). -/
def settleRing (n : Nat) (s : State) : State :=
  match tget n s.rings with
  | none => s
  | some r =>
    if !(s.ringOps n).isEmpty || !(s.inst r.owner).served then s
    else
      let restarted := fun (s : State) => match tget n s.rings with
        | some r => evWrite r.owner 3 0 n r.consumed.toNat r.stops (writeIndex n s)
        | none => s
      match r.state with
      | .resuming => restarted (modRing n (fun r => { r with
          state := .running, errStatus := 0, quiet := (s.inst r.owner).state == .quiescing }) s)
      | .resetting => restarted (modRing n (fun r => { r with
          state := .running, tail := 0, consumed := 0, harvest := 0, errIdx := 0, haltIdx := 0, errStatus := 0, errDue := false,
          advanced := 0, complBad := false, estimate := 1, hiDisp := none, harvOut := none, held := none,
          dbStamps := [] }) s)
      | .destroying => disownRing n { s with rings := tdel n s.rings }
      | _ => s

/-! ### What waiting commands wait for (R37, R39) -/

/-- The outcome of a wait that has ended: status, reply body and the state after what the end does. A RING_RESET or
RING_DESTROY of a guest whose instance is RESETTING or DESTROYING ends once the ring holds no entry (R101, R114). DESIGN
CHOICE: log entry 90. -/
def waitEnd (w : Wait) (s : State) : Option (Status × List Byte × State) :=
  let inFlight := fun (n : Nat) => leBytes 4 n ++ leBytes 4 0
  match w with
  | .quiesce i => if (s.inst i).state == .quiesced then some (.ok, inFlight 0, s) else none
  | .reset i =>
    if (s.inst i).state == .resetting && resetClear i s then
      some (.ok, inFlight (s.instOps i).length, endReset i s)
    else none
  | .destroy i =>
    if (s.inst i).state == .absent then some (.ok, inFlight 0, s)
    else if (s.inst i).state == .destroying && resetClear i s then
      let s := settleDestroy i s
      some (.ok, inFlight (s.instOps i).length, s)
    else none
  | .ringEnd r =>
    match tget r s.rings with
    | none => some (.ok, inFlight 0, s)
    | some x =>
      if (x.state == .resetting || x.state == .destroying) &&
          ((s.inst x.owner).served || !(s.ringOps r).isEmpty) then none
      else some (.ok, inFlight 0, s)
  | .abort ops n =>
    if s.hearth.engines.any (fun (e : Engine) => match e.op with
      | some id => ops.contains id
      | none => false) then none
    else some (.ok, leBytes 4 n ++ leBytes 4 0, s)
  | _ => none

/-- Answers the packet in service of one queue when its wait has ended. -/
def settleServing (q : Nat) (s : State) : State :=
  match (s.inst q).cq.serving with
  | some v =>
    if v.reply.isSome then s
    else
      match waitEnd v.wait s with
      | some (st, body, s') => reply q st 0 body s'
      | none => s
  | none => s

/-- Waits to which R39 applies. -/
def Wait.drains : Wait → Bool
  | .quiesce _ => true
  | .reset _ => true
  | .destroy _ => true
  | .ringEnd _ => true
  | _ => false

/-- Entries still held by the object that a drain concerns. -/
def drainCount (s : State) : Wait → Nat
  | .quiesce i => (s.instOps i).length
  | .reset i => (s.instOps i).length
  | .destroy i => (s.instOps i).length
  | .ringEnd r => (s.ringOps r).length
  | _ => 0

/-- A drain has lasted 10 ms: the reply is DRAIN_PENDING, and the command goes on as a late one (R39). -/
def drainLate (q : Nat) (s : State) : State :=
  match (s.inst q).cq.serving with
  | some v =>
    if v.reply.isNone && v.wait.drains then
      let s := { s with study := { s.study with
        late := s.study.late ++ [⟨q, (s.inst q).cq.head, BitVec.ofNat 32 (pkSeq v.pkt), v.wait⟩] } }
      reply q .drainPending 0 (leBytes 4 (drainCount s v.wait) ++ leBytes 4 0) s
    else s
  | none => s

/-- Writes the CMD_LATE records of commands that have finished after their DRAIN_PENDING (R39). One of an instance that is
RESETTING or DESTROYING gets none (log entry 74). -/
def settleLate (s : State) : State :=
  s.study.late.foldl (fun s l =>
    match (if (s.inst l.q).served then waitEnd l.wait s else none) with
    | some (st, _, s') =>
      evWrite l.q 5 st.code.toNat 0 l.head.toNat l.seq.toNat
        { s' with study := { s'.study with late := s'.study.late.filter (fun x => x != l) } }
    | none => s) s

/-- A draining key that no operation pins any more is zeroised (R400). -/
def settleKek (i : Nat) (s : State) : State :=
  let k := (s.inst i).kek
  if k.drainVer != 0 && !(s.instOps i).any (fun o => o.pin == some k.drainVer) then
    modInst i (fun x => { x with kek := { x.kek with drainVer := 0, drain := [] } }) s
  else s

/-! ### Transactions (R55 to R72) -/

/-- Ends the open transaction; `byItself`: Wilto rolled it back (R69). -/
def endTxn (code : Nat) (byItself : Bool) (s : State) : State :=
  if !s.txn.opened then s
  else
    let n := s.txn.num
    let s := { s with txn := { s.txn with
      opened := false, lastEnd := code, staged := [], taken := false,
      aborted := if byItself then n :: s.txn.aborted else s.txn.aborted } }
    if byItself then evWrite 0 6 Status.txnAborted.code.toNat 0 n code s else s

/-- The commands that hold reservations: those of the open transaction, and those of an applied one that wait (R61). -/
def State.stagedAll (s : State) : List Staged := s.txn.later ++ s.txn.staged

/-- A ring number reserved by a staged RING_CREATE (R61). -/
def State.reservedRings (s : State) : List Nat :=
  (s.stagedAll.filter (fun x => pkOpcode x.pkt == 0x20)).map (·.ring)

/-- Instance numbers reserved by staged INST_CREATEs (R61). -/
def State.reservedInsts (s : State) : List Nat :=
  (s.stagedAll.filter (fun x => pkOpcode x.pkt == 0x10)).map (fun x => par 0 2 x.pkt)

/-- The lowest free ring number that nothing reserves (R175): the first gap in the rising list of numbers. -/
def lowestFree (limit : Nat) (used : List Nat) : Option Nat :=
  match (List.range (used.length + 1)).find? (fun n => !used.contains n) with
  | some n => if n < limit then some n else none
  | none => none

/-- Two context windows overlap (R85). -/
def overlaps (b1 l1 b2 l2 : Nat) : Bool := 0 < l1 && 0 < l2 && b1 < b2 + l2 && b2 < b1 + l1

/-- An event code may be counted (Table 20-3). -/
def eventListed (inst ev : Nat) : Bool :=
  ev ≤ 0xF || (inst == 0 && ((0x20 ≤ ev && ev ≤ 0x22) || ev == 0x30 || ev == 0x31))

/-- FILTER is allowed for the event and the issuer (Table 20-4, R657). -/
def filterAllowed (inst ev : Nat) (f : Word) : Bool :=
  let work := 1 ≤ ev && ev ≤ 0xF
  let port := 0x20 ≤ ev && ev ≤ 0x22
  bits f 63 61 == 0 && bits f 55 50 == 0 && bits f 31 26 == 0 &&
  (ev == 3 || (!f.getLsbD 60 && bits f 59 56 == 0)) &&
  ((inst == 0 && work) || (!f.getLsbD 49 && bits f 48 36 == 0)) &&
  ((inst == 0 && port) || (!f.getLsbD 35 && bits f 34 32 == 0)) &&
  (work || (!f.getLsbD 25 && bits f 15 0 == 0)) &&
  ((1 ≤ ev && ev ≤ 8) || (!f.getLsbD 24 && bits f 23 16 == 0))

/-- Number of programmable counters of an instance (R651). -/
def progCounters (i : Nat) : Nat := if i == 0 then 64 else 16

/-- The lowest instance whose window, or reserved window, overlaps. -/
def windowClash (s : State) (res : List Nat) (b l : Nat) : Option Nat :=
  ((s.insts.filter (fun p => p.2.state != .absent && overlaps b l p.2.ctxBase p.2.ctxLimit)).map (·.1) ++
    (s.stagedAll.filter (fun x => pkOpcode x.pkt == 0x10 && res.contains (par 0 2 x.pkt) &&
      overlaps b l (par 12 4 x.pkt) (par 16 4 x.pkt))).map (fun x => par 0 2 x.pkt)).foldl
    (fun m x => match m with
      | none => some x
      | some y => some (min x y)) none

/-- Codes of Table 3-1. -/
def InstState.code : InstState → Nat
  | .absent => 0
  | .active => 1
  | .quiescing => 2
  | .quiesced => 3
  | .resetting => 4
  | .destroying => 5

/-- An advance of the generation would reach one that a held operation carries (R76). -/
def genClash (s : State) (i : Nat) : Bool :=
  s.build.guard && (s.instOps i).any (fun o => o.old && o.gen == ((s.inst i).gen + 1) % 256)

/-- The command-specific checks of the stageable commands (R80, R87, R113, R174, R176, R655), against a state with
`rings`, `insts` reserved. In a build without generation guard an INST_DESTROY of an instance that is ABSENT, RESETTING or
DESTROYING gets the status of Table 3-4 ahead of INST_NOT_QUIESCED. DESIGN CHOICE: log entry 89. -/
def stageFault (s : State) (rings insts : List Nat) (p : List Byte) : Option (Status × Nat) :=
  let op := pkOpcode p
  let i := par 0 2 p
  let x := s.inst i
  if op == 0x10 then
    if par 6 2 p > min 65535 s.build.rings then some (.cmdParam, 38)
    else if par 8 4 p > 8192 then some (.cmdParam, 40)
    else if par 12 4 p ≥ 2 ^ 26 then some (.cmdParam, 44)
    else if par 16 4 p > 2 ^ 26 - par 12 4 p then some (.cmdParam, 48)
    else if x.state == .destroying then some (.instBusy, 5)
    else if x.state != .absent || insts.contains i then some (.instExists, 0)
    else
      match windowClash s insts (par 12 4 p) (par 16 4 p) with
      | some n => some (.instWindowOverlap, n)
      | none => none
  else if op == 0x11 then
    if x.state == .absent then some (.instAbsent, 0)
    else if x.state == .resetting || x.state == .destroying then some (.instBusy, x.state.code)
    else if !s.build.guard && x.state != .quiesced then some (.instNotQuiesced, 0)
    else if genClash s i then some (.instBusy, x.state.code)
    else none
  else if op == 0x14 then
    if par 8 4 p > 8192 then some (.cmdParam, 40)
    else if x.state == .absent || x.state == .destroying then some (.instAbsent, 0)
    else none
  else if op == 0x20 then
    let lg := par 2 1 p
    let base := par 16 8 p
    let iblk := par 24 8 p
    let size := 2 ^ lg * (if par 3 1 p == 2 then 64 else 32)
    if x.state == .absent then some (.instAbsent, 0)
    else if x.state == .resetting || x.state == .destroying then some (.instBusy, x.state.code)
    else if lg < 4 || lg > 20 then some (.cmdParam, 34)
    else if par 3 1 p != 1 && par 3 1 p != 2 then some (.cmdParam, 35)
    else if par 4 1 p > 1 then some (.cmdParam, 36)
    else if par 6 2 p == 0 || par 6 2 p > 256 then some (.cmdParam, 38)
    else if base % 4096 != 0 then some (.cmdParam, 48)
    else if iblk % 64 != 0 then some (.cmdParam, 56)
    else if base + size > 2 ^ 52 then some (.cmdParam, 48)
    else if iblk + 64 > 2 ^ 52 || (iblk < base + size && base < iblk + 64) then some (.cmdParam, 56)
    else if i != 0 && (s.ringsOf i).length + (s.stagedAll.filter (fun y => pkOpcode y.pkt == 0x20 &&
        rings.contains y.ring && par 0 2 y.pkt == i)).length ≥
        (if x.ringQuota == 0 then s.build.rings else x.ringQuota) then some (.ringQuota, 0)
    else if (lowestFree s.build.rings (s.rings.map (·.1) ++ rings)).isNone then some (.ringNoneFree, 0)
    else none
  else if op == 0x21 then
    match tget i s.rings with
    | none => some (.ringAbsent, 0)
    | some r => if r.state == .resetting || r.state == .destroying then some (.ringBusy, 0) else none
  else if op == 0x90 then
    let n := par 2 1 p
    let ev := par 4 2 p
    let f := BitVec.ofNat 64 (par 8 8 p)
    if x.state == .absent || x.state == .destroying then some (.instAbsent, 0)
    else if n ≥ progCounters i + 8 then some (.cmdParam, 34)
    else if par 3 1 p ≥ 8 then some (.cmdParam, 35)
    else if !eventListed i ev || (n ≥ progCounters i && ev != 0) then some (.cmdParam, 36)
    else if !filterAllowed i ev f || (n ≥ progCounters i && f != 0) then some (.cmdParam, 40)
    else none
  else none

/-- A new ring (R175). -/
def newRing (p : List Byte) : Ring where
  owner := par 0 2 p
  log2 := par 2 1 p
  fmt := par 3 1 p
  anyOrder := par 4 1 p == 1
  burst := par 6 2 p
  weight := par 8 2 p
  base := par 16 8 p
  iblk := par 24 8 p
  state := .running
  was := .running
  tail := 0
  consumed := 0
  harvest := 0
  errIdx := 0
  haltIdx := 0
  errStatus := 0
  errDue := false
  stops := 0
  advanced := 0
  complBad := false
  pend := false
  quiet := false
  estimate := 1
  hiDisp := none
  harvOut := none
  held := none
  dbStamps := []

/-- Sets a flag of PCH_DB_STATUS with LAST_RING. -/
def dbFlag (page ring : Nat) (f : DbStatus → DbStatus) (s : State) : State :=
  modInst page (fun x => { x with db := { f x.db with lastRing := ring } }) s

/-- Stops a ring from taking entries (R170): fetched and undispatched entries that are not parked go without any
write. The outstanding harvest read and the doorbell that asked for it are discarded; a held doorbell is handled now, and
is STALE (R135, R136). DESIGN CHOICE: log entry 83. -/
def drainRing (n : Nat) (st : RingState) (s : State) : State :=
  match tget n s.rings with
  | none => s
  | some r =>
    let s := if r.held.isSome then dbFlag r.owner n (fun d => { d with stale := true }) s else s
    let s := quietRing n (modRing n (fun r => { r with state := st, was := r.state }) s)
    tryPost n <| orphanErrorRecord n (releaseAll (fun o => o.ring == n && !o.old && o.unrun && (match o.phase with
      | .parked _ => false
      | .waitIndex _ => false
      | _ => true)) s)

/-- A wrap of a counter is taken: OVF, and the record where OVF_RECORD asks for it (R659). -/
def takeWrap (i n : Nat) (s : State) : State :=
  if !s.wraps.contains (i, n) then s
  else
    let s := modInst i (fun x => { x with counters := modAt (fun c => { c with ovf := true }) n x.counters })
      { s with wraps := s.wraps.erase (i, n) }
    match (s.inst i).counters[n]? with
    | some c => if c.ovfRec then evWrite i 0x20 0 0 n c.event s else s
    | none => s

/-- The settings of a counter change, after a wrap that came before it (Table 20-2, R656, R660). -/
def applyCounter (i n en ev : Nat) (f : Word) (s : State) : State :=
  let s := takeWrap i n s
  modInst i (fun x => { x with counters := modAt (fun c =>
    let c := if en / 2 % 2 == 1 then { c with value := 0, ovf := false } else c
    let c := { c with ovfRec := en / 4 % 2 == 1 }
    if n < progCounters i then { c with run := en % 2 == 1, event := ev, filter := f } else c) n x.counters }) s

/-- Threshold starts fetches for the instance: it is ACTIVE, or QUIESCING and the boundary at which its quiesce starts has
not come (R93, R225). DEDUCED: log entry 12. -/
def Inst.fetches (i : Inst) : Bool := i.state == .active || (i.state == .quiescing && !i.stopFetch)

/-- An instance that takes part in the round robin (R231). -/
def Inst.eligible (i : Inst) : Bool := i.fetches && i.weight != 0 && i.quota != 0

/-- The operation is between parts and its port is halted: the next part starts after the resume (Table 13-4). -/
def Op.betweenHeld (s : State) (o : Op) : Bool := 0 < o.part && (s.port (portOf o.ring)).halted

/-- The part that comes next waits for its charge (R229). -/
def laterDue (s : State) (i : Nat) (o : Op) : Bool :=
  o.inst == i && o.phase == .run && 0 < o.part && !o.charged && o.unit.isNone && !o.old && !o.betweenHeld s

/-- A later part of the instance waits for its charge (R229). -/
def laterWaits (s : State) (i : Nat) : Bool := s.ops.any (laterDue s i)

/-- The weight an instance has in the round robin (R229, R231). -/
def effWeight (s : State) (i : Nat) (x : Inst) : Nat :=
  if x.eligible then x.weight else if laterWaits s i then max x.weight 1 else 0

/-- The quanta of R231. -/
def setQuanta (s : State) : State :=
  let tot := s.insts.foldl (fun a p => a + effWeight s p.1 p.2) 0
  { s with insts := s.insts.map (fun p =>
      let w := effWeight s p.1 p.2
      (p.1, { p.2 with quantum :=
        if w == 0 then 0 else max 1 ((w * 8192 * 256 + tot - 1) / tot) })) }

/-- A share takes effect (R88, R89): weight, quota and Hearth share; the deficit is clamped once every change of the
boundary has been made. -/
def applyShare (i w q h : Nat) (s : State) : State :=
  modInst i (fun x => { x with weight := w, quota := q, hshare := h, clamp := true }) s

/-- The clamps of R89, R233 and R411, with the quanta that the boundary leaves. -/
def clampShares (s : State) : State :=
  { s with insts := s.insts.map (fun p =>
      (p.1, if p.2.clamp then
        { p.2 with deficit := min p.2.deficit p.2.quantum, hdeficit := min p.2.hdeficit p.2.hquantum, clamp := false }
      else p.2)) }

/-- An abandoned quiesce gets no CMD_LATE record (R110). -/
def abandonQuiesce (i : Nat) (s : State) : State :=
  { s with study := { s.study with late := s.study.late.filter (fun l => l.wait != .quiesce i) } }

/-- A stageable command takes effect (R63, R65): the state as the command leaves it at its boundary. A new instance starts with
deficit 0. DESIGN CHOICE: log entry 105. -/
def applyStaged (c : Staged) (s : State) : State :=
  let p := c.pkt
  let op := pkOpcode p
  let i := par 0 2 p
  if op == 0x10 then
    coldPage i (modInst i (fun x => { Inst.absent with
      gen := x.gen, state := .active, hshare := par 2 2 p, weight := par 4 2 p, ringQuota := par 6 2 p,
      quota := par 8 4 p, ctxBase := par 12 4 p, ctxLimit := par 16 4 p }) s)
  else if op == 0x11 then
    let work := !(s.instOps i).isEmpty
    let s := dropPacketRead i (modInst i (fun x => { x with state := .destroying, was := x.state, genStep := true, work := work }) s)
    settleDestroy i (generationStep i (abandonQuiesce i s))
  else if op == 0x14 then applyShare i (par 4 2 p) (par 8 4 p) (par 2 2 p) s
  else if op == 0x20 then { s with rings := tset c.ring (newRing p) s.rings }
  else if op == 0x21 then settleRing i (drainRing i .destroying s)
  else if op == 0x90 then applyCounter i (par 2 1 p) (par 3 1 p) (par 4 2 p) (BitVec.ofNat 64 (par 8 8 p)) s
  else s

/-- A staged creation whose number is not free: what a destruction before it in the transaction ended has got work since
the re-check. -/
def Staged.blocked (c : Staged) (s : State) : Bool :=
  (pkOpcode c.pkt == 0x10 && (s.inst (par 0 2 c.pkt)).state != .absent) ||
    (pkOpcode c.pkt == 0x20 && (tget c.ring s.rings).isSome)

/-- Applies staged commands in their order (R65). From a creation on whose number is not free yet they wait for it, so that
an operation dispatched before the boundary sees none of them. DESIGN CHOICE: log entry 101. -/
def applyInOrder : List Staged → State → State
  | [], s => s
  | c :: t, s =>
    if c.blocked s then { s with txn := { s.txn with later := s.txn.later ++ c :: t } } else applyInOrder t (applyStaged c s)

/-- Applies commands that have waited for a number to become free (R65). DESIGN CHOICE: log entry 101. -/
def applyLater (s : State) : State :=
  match s.txn.later with
  | [] => s
  | l => applyInOrder l { s with txn := { s.txn with later := [] } }

/-- The live state with staged commands applied in order (R60); one that no longer passes is left out. DESIGN CHOICE:
log entry 84. -/
def stagedView (l : List Staged) (s : State) : State :=
  l.foldl (fun s c => if (stageFault s [] [] c.pkt).isSome then s else applyStaged c s) s

/-- Index and status of the first staged command that no longer passes (R64). -/
def recheck : Nat → List Staged → State → Option Nat
  | _, [], _ => none
  | n, c :: t, s =>
    let conflict := (stageFault s [] [] c.pkt).isSome ||
      (pkOpcode c.pkt == 0x20 && (tget c.ring s.rings).isSome)
    if conflict then some n else recheck (n + 1) t (applyStaged c s)

/-- The number a RING_CREATE takes (R61, R175): the lowest that is free, in the staged view for a staged one, and that no
staged RING_CREATE has reserved; none if no number is. DESIGN CHOICE: log entry 84. -/
def freeRing? (staging : Bool) (s : State) : Option Nat :=
  lowestFree s.build.rings (((if staging then stagedView s.stagedAll s else s).rings).map (·.1) ++ s.reservedRings)

/-- The number that a RING_CREATE which passes its checks takes. DESIGN CHOICE: log entry 84. -/
def freeRing (staging : Bool) (s : State) : Nat := (freeRing? staging s).getD 0

/-- Stages a checked command in the open transaction, or runs `now` at once (R57, R60, R62). -/
def stageOrRun (q : Nat) (p : List Byte) (now : Nat → State → State) (s : State) : State :=
  let staging := pkTxn p != 0
  let fault := if staging then (stageFault (stagedView s.stagedAll s) [] [] p).or
      (if pkOpcode p == 0x20 && (freeRing? true s).isNone then some (.ringNoneFree, 0) else none)
    else stageFault s s.reservedRings s.reservedInsts p
  match fault with
  | some (st, d) => reply q st d [] s
  | none =>
    let ring := freeRing staging s
    if staging then
      let n := s.txn.staged.length
      let body := if pkOpcode p == 0x20 then leBytes 2 ring ++ leBytes 6 0
        else if pkOpcode p == 0x11 then leBytes 8 (s.instOps (par 0 2 p)).length
        else if pkOpcode p == 0x21 then leBytes 8 (s.ringOps (par 0 2 p)).length else []
      reply q .okStaged n body { s with txn := { s.txn with staged := s.txn.staged ++ [⟨p, ring⟩] } }
    else now ring s

/-- Everything that follows by itself from a change: drained rings, drained instances, ended waits, word 2 of replies,
the next packet read. DESIGN CHOICE: log entry 8. -/
def settle (s : State) : State :=
  let s := (s.rings.map (·.1)).foldl (fun s n => settleRing n s) s
  let s := (s.insts.map (·.1)).foldl (fun s i => settleKek i (settleQuiesce i s)) s
  let s := (s.insts.map (·.1)).foldl (fun s q => settleServing q s) s
  let s := settleLate s
  let s := (s.insts.map (·.1)).foldl (fun s i => settleDestroy i s) s
  studyFetch (applyLater s)

/-! ### Packets that a restart, a lock or a drain answers (R44, R568) -/

/-- A LARDER_ATTACH that has not come to its end has no effect (R44, R568). -/
def undoAttach (w : Wait) (s : State) : State :=
  if w == .attach then
    let s := dropReads (fun o => match o with
      | .node _ _ => true
      | _ => false) s
    { s with lar := { s.lar with
        attached := false, stale := false, blobBase := 0, treeBase := 0, blobCount := 0, nodes := [] } }
  else s

/-- Answers every packet that has been taken and not yet answered with one status; a command that
DRAIN_PENDING has answered goes on (R39, R44, R568). -/
def answerTaken (st : Status) (keep : Nat → List Byte → Wait → Bool) (s : State) : State :=
  (s.insts.map (·.1)).foldl (fun s q =>
    let c := (s.inst q).cq
    let s := match c.arrived with
      | some p => if keep q p .none then s else takeArrivedPacket q p s
      | none => s
    match (s.inst q).cq.serving with
    | some v => if v.reply.isSome || keep q v.pkt v.wait then s else reply q st 0 [] (undoAttach v.wait (keyinDone q v.pkt s))
    | none => s) s

end Sys2Proof.Machine
end

