-- ==== Sys2Proof/Machine/Larder.lean ====
section
/-!
DEFINITION. The Pantry door's view of the Larder (09_contexts.md): keys, counter tree, node cache, blobs, fetches,
evictions, tombstones and the flush. What an operation does next after a fetch is decided where operations are
dispatched.
-/

namespace Sys2Proof.Machine

/-! ### Derived keys (Table 10-2) -/

/-- Larder tree key. -/
def State.treeKey (s : State) : List Byte := derive s.cel.root (ascii "LAR-TREE") (beBytes 4 s.cel.storeGen) 32

/-- Larder header key. -/
def State.hdrKey (s : State) : List Byte := derive s.cel.root (ascii "LAR-HDR") (beBytes 4 s.cel.storeGen) 32

/-- Blob key of an instance under a seed. -/
def State.blobKey (s : State) (owner : Nat) (seed : List Byte) : List Byte :=
  derive s.cel.root (ascii "LAR-BLOB") (beBytes 4 s.cel.storeGen ++ beBytes 2 owner ++ seed) 32

/-- The first `n` bytes of AES-256-GMAC over a string. -/
def gmac (key iv msg : List Byte) (n : Nat) : List Byte := (gcmTag key (ghashKey key) iv msg []).take n

/-! ### Counter nodes (R346 to R348) -/

/-- The counter of child c; none when it has never been written (R347). -/
def Ctrs.at (x : Ctrs) (c : Nat) : Option Nat :=
  let m := x.minors.getD c 0
  if m == 0 then none else some (x.major * 64 + m)

/-- Bytes 0 to 55 of a node (Table 9-6). -/
def Ctrs.bytes (x : Ctrs) : List Byte :=
  leBytes 48 (x.minors.zipIdx.foldl (fun a p => a + p.1 * 2 ^ (6 * p.2)) 0) ++ leBytes 7 x.major ++ [0]

/-- The counters of a node as read. -/
def Ctrs.ofBytes (b : List Byte) : Ctrs :=
  let v := field 0 48 b
  ⟨field 48 7 b, (List.range 64).map (fun c => v / 2 ^ (6 * c) % 64)⟩

/-- MAC of a node under its own counter (Table 9-6). -/
def nodeMac (s : State) (level n ctr : Nat) (body : List Byte) : List Byte :=
  gmac s.treeKey (beBytes 1 level ++ beBytes 3 n ++ beBytes 8 ctr) body 8

/-- Raises the counter of a child: the new counters, and whether MINOR overflowed (R348). -/
def Ctrs.raise (x : Ctrs) (c : Nat) : Ctrs × Bool :=
  if x.minors.getD c 0 < 63 then ({ x with minors := modAt (· + 1) c x.minors }, false)
  else (⟨x.major + 1, x.minors.map (fun m => if m == 0 then 0 else 1)⟩, true)

/-- A cached node. -/
def State.node? (s : State) (level n : Nat) : Option Node :=
  s.lar.nodes.find? (fun x => x.level == level && x.n == n)

/-- The re-authentication of a node's children has ended. -/
def endRewrap (x : Node) : Node := if x.rewrap then { x with old := none, rewrap := false } else x

/-- Changes a cached node. -/
def modNode (level n : Nat) (f : Node → Node) (s : State) : State :=
  { s with lar := { s.lar with nodes := s.lar.nodes.map (fun x => if x.level == level && x.n == n then f x else x) } }

/-- The counters that hold the counter of node (level, n): its parent's, or the root's (Table 9-5). -/
def State.parentCtrs (s : State) (level n : Nat) : Option Ctrs :=
  if level == 3 then some s.cel.treeRoot else (s.node? (level + 1) (n / 64)).map (·.c)

/-- The child number of node n in its parent. -/
def childOf (level n : Nat) : Nat := if level == 3 then n else n % 64

/-- The address of a node (R344). -/
def State.nodeAddr (s : State) (level n : Nat) : Nat :=
  s.lar.treeBase + (if level == 0 then 0 else if level == 1 then 0x04000000 else if level == 2 then 0x04100000
    else 0x04104000) + n * 64

/-- The address of a blob (R344). -/
def State.blobAddr (s : State) (i : Nat) : Nat := s.lar.blobBase + i * 160

/-- The next least-recently-used stamp. -/
def State.lruNext (s : State) : Nat := s.lar.nodes.foldl (fun m x => max m x.lru) 0 + 1

/-- Wilto sets DIRTY in the Cellar before the first change (R367). -/
def markDirty (s : State) : State := { s with cel := { s.cel with dirty := true } }

/-- The whole node number path of a blob at a level. -/
def pathNode (i level : Nat) : Nat := i / 64 ^ (level + 1)

/-- Counts a LARDER_INTEGRITY outcome (Tables 9-18 and 9-19). -/
def countIntegrity (index : Nat) (s : State) : State :=
  { s with lar := { s.lar with
      integrity := min 0xFFFF (s.lar.integrity + 1), failStatus := Status.larderIntegrity.code.toNat,
      failIndex := index } }

/-- The root keeps its former counters, while its children are authenticated again, as a node of level 4. -/
def holdRoot (old : Ctrs) (s : State) : State :=
  { s with lar := { s.lar with nodes := s.lar.nodes ++ [⟨4, 0, old, false, 0, some old, false, false⟩] } }

/-- Reads of the children of a node under their old counters are discarded: they are made again (R348). -/
def dropChildReads (level n : Nat) (s : State) : State :=
  let s := dropReads (fun w => match w with
    | .larBlob i => level == 0 && i / 64 == n
    | .node k m => k + 1 == level && (level == 4 || m / 64 == n)
    | _ => false) s
  if level == 0 then mapFetches (fun f => if f.index / 64 == n && f.inc.isNone then { f with blob := none } else f) s else s

/-- Raises the counter of child c of a cached node, or of the root for level 4, and gives the child's new counter;
an overflow leaves the old counters for the re-authentication (R348, R367). -/
def raiseAt (level n c : Nat) (s : State) : Nat × State :=
  if level == 4 then
    let (x, o) := s.cel.treeRoot.raise c
    let s := if o then dropChildReads 4 0 (holdRoot s.cel.treeRoot s) else s
    ((x.at c).getD 0, markDirty { s with cel := { s.cel with treeRoot := x } })
  else
    match s.node? level n with
    | none => (0, s)
    | some y =>
      let (x, o) := y.c.raise c
      let s := if o then dropChildReads level n s else s
      ((x.at c).getD 0,
       markDirty (modNode level n (fun z => { z with c := x, dirty := true, old := if o then some y.c else z.old }) s))

/-- Writes a node back: its counter in the parent rises, then the node goes out under it (R349). -/
def writeNode (o : Owner) (x : Node) (s : State) : State :=
  let (ctr, s) := raiseAt (x.level + 1) (x.n / 64) (childOf x.level x.n) s
  let body := x.c.bytes
  let s := modNode x.level x.n (fun z => { z with dirty := false }) s
  writeReq (x.n % 8) (s.nodeAddr x.level x.n)
    (body ++ nodeMac s x.level x.n ctr body) 0 o s

/-- A node may leave the cache: of level 0 or 1, no child of it cached, no re-authentication of it open. -/
def evictable (s : State) (x : Node) : Bool :=
  x.level ≤ 1 && x.old.isNone && !x.wbOut &&
  !(x.level == 1 && s.lar.nodes.any (fun y => y.level == 0 && y.n / 64 == x.n))

/-- The least recently used node that may leave. DESIGN CHOICE: log entry 20. -/
def lruNode (s : State) : Option Node :=
  (s.lar.nodes.filter (evictable s)).foldl (fun m x =>
    match m with
    | none => some x
    | some y => if x.lru < y.lru then some x else some y) none

/-- Removes a node from the cache. -/
def dropNode (level n : Nat) (s : State) : State :=
  { s with lar := { s.lar with nodes := s.lar.nodes.filter (fun x => !(x.level == level && x.n == n)) } }

/-- The state with room in the node cache for a node, when there is room: the least recently used node leaves a full cache
if it is clean; a dirty one leaves through NODE_WRITEBACK, for which the new node waits (R349). DESIGN CHOICE: log entry 20.
-/
def nodeRoom (level n : Nat) (s : State) : Option State :=
  if s.lar.nodes.length < 16384 then some s
  else
    match lruNode s with
    | some y => if y.dirty || (y.level == level + 1 && y.n == n / 64) then none else some (dropNode y.level y.n s)
    | none => none

/-- Puts a verified node into the cache, when there is room. -/
def cacheNode (level n : Nat) (c : Ctrs) (s : State) : State :=
  if (s.node? level n).isSome then s
  else
    match nodeRoom level n s with
    | some s =>
      { s with lar := { s.lar with nodes := s.lar.nodes ++ [⟨level, n, c, false, s.lruNext, none, false, false⟩] } }
    | none => s

/-- A node is being read, or has arrived. -/
def nodeComing (s : State) (level n : Nat) : Bool :=
  s.hwy.ports.any (fun p => p.rds.any (fun r => r.owner == .node level n && !r.quar && !r.drop) ||
    p.rdQ.any (fun r => r.owner == .node level n)) || s.hwy.arrived.any (fun a => a.owner == .node level n)

/-- Asks for a node once. -/
def askNode (level n : Nat) (s : State) : State :=
  if nodeComing s level n then s else readReq (n % 8) (s.nodeAddr level n) 64 0 (.node level n) 0 s

/-- A node of the path of index i has its children authenticated again just now: lookups wait (R348). -/
def pathBusy (s : State) (i : Nat) : Bool :=
  s.lar.nodes.any (fun x => x.old.isSome && (x.level == 4 || x.n == pathNode i x.level))

/-- Walks down the path of index i: unwritten nodes are all-zero (R347), the first missing written node is read,
once the cache has room for it. The answer says whether the leaf is cached. -/
def ensurePath (i : Nat) : Nat → State → Bool × State
  | 0, s => (true, s)
  | k + 1, s =>
    let n := pathNode i k
    match s.node? k n with
    | some _ => ensurePath i k (modNode k n (fun z => { z with lru := s.lruNext }) s)
    | none =>
      match (s.parentCtrs k n).bind (fun c => c.at (childOf k n)) with
      | none =>
        let s := cacheNode k n Ctrs.zero s
        if (s.node? k n).isNone then (false, s) else ensurePath i k s
      | some _ => (false, if (nodeRoom k n s).isSome then askNode k n s else s)

/-- The cached nodes of a path are words of the node cache: a clean one that is uncorrectable is discarded, and read and
verified again; a dirty one makes the store stale (Table 19-3 code 3). -/
def readPath (i : Nat) : Nat → State → Bool × State
  | 0, s => (true, s)
  | k + 1, s =>
    let (bad, s) := eccRead 3 s
    if !bad then readPath i k s
    else
      match s.node? k (pathNode i k) with
      | some x =>
        if x.dirty then (false, { s with pan := { s.pan with dirFault := true } })
        else ensurePath i 4 (dropNode k x.n s)
      | none => (false, s)

/-- The whole path of an index, from the top node down, with every node of it good. -/
def path (i : Nat) (s : State) : Bool × State :=
  let (ok, s) := ensurePath i 4 s
  if ok then readPath i 4 s else (false, s)

/-- A cached node has lost its parent, which was discarded (R350). -/
def State.orphan (s : State) (x : Node) : Bool := x.level < 3 && (s.node? (x.level + 1) (x.n / 64)).isNone

/-- Discarded parents of cached nodes are read again, from the top down (R350). -/
def askParents (s : State) : State :=
  (s.lar.nodes.filter s.orphan).foldl (fun s x =>
    if (s.parentCtrs (x.level + 1) (x.n / 64)).isSome then askNode (x.level + 1) (x.n / 64) s else s) s

/-! ### Blobs (R351, R352) -/

/-- Bytes 0 to 23 of a blob (Table 9-7). -/
def blobHeader (state owner seedId ctr serial : Nat) : List Byte :=
  [1] ++ leBytes 1 state ++ leBytes 2 owner ++ leBytes 4 seedId ++ leBytes 8 ctr ++ leBytes 8 serial

/-- IV of a wrap (R351). -/
def blobIv (i ctr : Nat) : List Byte := beBytes 4 i ++ beBytes 8 ctr

/-- A whole blob: header, HDR_MAC, ciphertext and tag. -/
def wrapBlob (s : State) (seed : List Byte) (state owner seedId ctr serial i : Nat) (pt : List Byte) : List Byte :=
  let h := blobHeader state owner seedId ctr serial
  let h := h ++ gmac s.hdrKey (blobIv i ctr) h 8
  let (ct, tag) := gcmSeal (s.blobKey owner seed) (blobIv i ctr) h pt
  h ++ ct ++ tag

/-- DIR of a policy. -/
def polDir (p : BitVec 19) : Bool := p.getLsbD 12
/-- ALG of a policy. -/
def polAlg (p : BitVec 19) : Nat := p.toNat % 4
/-- OPS of a policy. -/
def polOps (p : BitVec 19) : Nat := p.toNat / 4 % 64
/-- TAG_MIN of a policy. -/
def polTagMin (p : BitVec 19) : Nat := p.toNat / 256 % 4
/-- REPLAY_MODE of a policy. -/
def polReplay (p : BitVec 19) : Nat := p.toNat / 1024 % 4
/-- ACTIVE_SLOT. -/
def polActive (p : BitVec 19) : Bool := p.getLsbD 13
/-- PRESENT0 and PRESENT1. -/
def polPresent (p : BitVec 19) (slot1 : Bool) : Bool := if slot1 then p.getLsbD 15 else p.getLsbD 14
/-- PINNED. -/
def polPinned (p : BitVec 19) : Bool := p.getLsbD 18
/-- Sets or clears one bit of a policy. -/
def polSet (n : Nat) (b : Bool) (p : BitVec 19) : BitVec 19 :=
  if b then p ||| ((1 : BitVec 19) <<< n) else p &&& ~~~ ((1 : BitVec 19) <<< n)

/-- R341: what OPS and REPLAY_MODE a direction may have. -/
def polOk (p : BitVec 19) : Bool :=
  if polDir p then polOps p % 2 == 0 && polOps p / 4 % 2 == 0 && polOps p / 16 % 2 == 0
  else polOps p / 2 % 2 == 0 && polOps p / 8 % 2 == 0 && polReplay p == 0

/-- A WIDE receiving context. -/
def Slot.wide (x : Slot) : Bool := polDir x.policy && polReplay x.policy == 3

/-- Plaintext of a context's blob (Table 9-7). -/
def Slot.plain (x : Slot) : List Byte :=
  fillTo 32 x.key0 ++ fillTo 32 x.key1 ++ fillTo 4 x.salt0 ++ fillTo 4 x.salt1 ++ leBytes 8 x.f104 ++
    leBytes 8 x.f112 ++ leBytes 8 (if polDir x.policy then 0 else x.f120) ++ leBytes 4 x.policy.toNat ++
    leBytes 12 0

/-- The GHASH subkey the Pantry door computes for an AES key (R352). -/
def subkeyOf (alg : Nat) (key : List Byte) : List Byte :=
  if alg == 0 then ghashKey (key.take 16) else if alg == 1 then ghashKey key else List.replicate 16 0

/-- The count of the current round, whose low 32 bits STAMP holds (Table 9-3). -/
def State.roundStamp (s : State) : Nat := s.core / 512

/-- A slot with the fields of Table 9-2 and a policy. -/
def mkSlot (s : State) (index owner seedId serial : Nat) (pol : BitVec 19) (k0 k1 s0 s1 : List Byte)
    (a b c : Nat) (dirty : Bool) : Slot where
  index := index
  owner := owner
  seedId := seedId
  serial := serial
  policy := pol
  state := .live
  dirty := dirty
  stamp := s.roundStamp
  key0 := k0
  key1 := k1
  sub0 := if polPresent pol false then subkeyOf (polAlg pol) k0 else List.replicate 16 0
  sub1 := if polPresent pol true then subkeyOf (polAlg pol) k1 else List.replicate 16 0
  salt0 := s0
  salt1 := s1
  f104 := a
  f112 := b
  f120 := c
  map := 0
  evicting := false
  noVictim := false
  retireOp := none
  tombDue := false
  noTomb := false
  final := 0
  zeroed := false

/-- A context as its blob's plaintext gives it (R351, R352, R342). -/
def slotOfPlain (s : State) (index owner seedId serial : Nat) (pt : List Byte) : Slot :=
  let pol := BitVec.ofNat 19 (field 96 4 pt)
  mkSlot s index owner seedId serial pol (slice 0 32 pt) (slice 32 32 pt) (slice 64 4 pt) (slice 68 4 pt)
    (field 72 8 pt) (field 80 8 pt) (field 88 8 pt) false

/-! ### The Pantry (R338, R363 to R366) -/

/-- The slot that holds an index, companions aside. -/
def State.slotOf (s : State) (index : Nat) : Option (Nat × Slot) :=
  s.pan.slots.find? (fun p => p.2.index == index && p.2.state != .companion)

/-- The companion of a WIDE context. -/
def State.companionOf (s : State) (index : Nat) : Option (Nat × Slot) :=
  s.pan.slots.find? (fun p => p.2.index == index && p.2.state == .companion)

/-- Changes the context at an index. -/
def modCtx (index : Nat) (f : Slot → Slot) : State → State :=
  mapSlots (fun _ x => if x.index == index && x.state != .companion then f x else x)

/-- Frees and zeroises the slots of an index. -/
def freeIndex (index : Nat) : State → State := keepSlots (fun _ x => x.index != index)

/-- A store is attached, not stale, and holds the index (R333). -/
def State.backed (s : State) (index : Nat) : Bool := s.lar.attached && !s.lar.stale && index < s.lar.blobCount

/-- PIN_MAX in force (Table 9-16). -/
def State.pinMax (s : State) : Nat := min s.pan.pinMax (s.build.slots / 4)

/-- INST_PIN_MAX in force. -/
def State.instPinMax (s : State) : Nat := min s.pan.instPinMax s.pinMax

/-- Pinned slots, companions included; of one instance when one is named. -/
def State.pinned (s : State) (inst : Option Nat) : Nat :=
  (s.pan.slots.filter (fun p => (polPinned p.2.policy || p.2.state == .companion) &&
    (match inst with
     | some i => p.2.owner == i
     | none => true))).length

/-- Slots that a context pins. -/
def pinsOf (x : Slot) : Nat := if !polPinned x.policy then 0 else if x.wide then 2 else 1

/-- Slots that contexts waiting for a place will pin; of one instance when one is named. -/
def State.pinsDue (s : State) (inst : Option Nat) : Nat :=
  s.lar.fetches.foldl (fun a f => match f.inc with
    | some x => if inst == none || inst == some x.owner then a + pinsOf x else a
    | none => a) 0

/-- `n` more pinned slots of an instance stay within both limits (R366). -/
def pinOk (s : State) (inst n : Nat) : Bool :=
  s.pinned none + s.pinsDue none + n ≤ s.pinMax &&
  s.pinned (some inst) + s.pinsDue (some inst) + n ≤ s.instPinMax

/-- A slot may be a victim (R16, R363). -/
def victimOk (s : State) (x : Slot) : Bool :=
  x.state == .live && !polPinned x.policy && !x.noVictim && !x.evicting && s.refs x.index == 0

/-- The least recently used slot that may be a victim; a tie goes to the lowest number (R363). -/
def chooseVictim (s : State) : Option Nat :=
  let age := fun (x : Slot) => s.roundStamp - x.stamp
  ((s.pan.slots.filter (fun p => victimOk s p.2 &&
      !s.lar.fetches.any (fun f => f.victim == some p.1))).foldl (fun (m : Option (Nat × Nat)) p =>
    match m with
    | none => some (p.1, age p.2)
    | some (n, a) => if age p.2 > a then some (p.1, age p.2) else some (n, a)) none).map (·.1)

/-- Changes the fetch of an index. -/
def modFetch (index : Nat) (f : Fetch → Fetch) : State → State :=
  mapFetches (fun x => if x.index == index then f x else x)

/-- Removes the fetch of an index. -/
def dropFetch (index : Nat) (s : State) : State :=
  { s with lar := { s.lar with fetches := s.lar.fetches.filter (fun f => f.index != index) } }

/-- A fetch ends with a failure: nothing installed, nothing evicted, and every operation that waits on it, or the
install it probes for, completes with the status (R17, R355). Another install of the index goes on. -/
def failFetch (index : Nat) (st : Status) (s : State) : State :=
  let s := if st == .larderIntegrity then countIntegrity index s else s
  let probe := (s.lar.fetches.find? (fun f => f.index == index)).bind (·.probe)
  let waiting := s.ops.filter (fun o => o.phase == .parked index ||
    (o.phase == .waitIndex index && probe == some o.id))
  let s := dropReads (fun w => w == .larBlob index) (dropFetch index s)
  wakeIndex index (waiting.foldl (fun s o => failUndispatched o st s) s)

/-- The context takes its slot, with the STAMP of the round in which it does, a WIDE one its companion as well. -/
def installSlot (x : Slot) (map : BitVec 1024) (s : State) : State :=
  let x := { x with stamp := s.roundStamp }
  let n := (lowestFree s.build.slots (s.pan.slots.map (·.1))).getD 0
  if x.wide then
    let s1 := { s with pan := { s.pan with slots := tset n x s.pan.slots } }
    let m := (lowestFree s.build.slots (s1.pan.slots.map (·.1))).getD 0
    let comp : Slot := { x with
      state := .companion, map := map, key0 := [], key1 := [], sub0 := [], sub1 := [], salt0 := [], salt1 := [],
      f104 := 0, f112 := 0, f120 := 0, dirty := false }
    { s1 with pan := { s1.pan with slots := tset m comp (tset n { x with f120 := m } s.pan.slots) } }
  else { s with pan := { s.pan with slots := tset n x s.pan.slots } }

/-- Writes a dirty victim back under a raised counter (R364). -/
def writeVictim (x : Slot) (s : State) : State :=
  let (ctr, s) := raiseAt 0 (x.index / 64) (x.index % 64) s
  let seed := (s.inst x.owner).kek.seed
  let s := modCtx x.index (fun y => { y with evicting := true }) s
  writeReq (x.index / 64 % 8) (s.blobAddr x.index)
    (wrapBlob s seed 1 x.owner x.seedId ctr x.serial x.index x.plain) 0 (.victim x.index) s

/-- A word of a slot is lost: the slot enters RETIRING, and R360 runs with steps 1 and 5 omitted (Table 19-3 code 1). -/
def slotLost (index : Nat) (s : State) : State :=
  markDirty (modCtx index (fun y => { y with state := .retiring, retireOp := none }) s)

/-- Reads a slot to write it back: `k`, unless a word of it is lost (R642). -/
def readSlotWord (index : Nat) (k : State → State) (s : State) : State :=
  let (bad, s) := eccRead 1 s
  if bad then slotLost index s else k s

/-- Gives the verified context of a fetch its place: a free slot, or a victim's, which costs one eviction token and
waits for a dirty victim's write-back (R18, R261, R364). The answer says whether it has been installed. -/
def placeFetch (index : Nat) : Nat → State → Bool × State
  | 0, s => (false, s)
  | k + 1, s =>
    match s.lar.fetches.find? (fun f => f.index == index) with
    | none => (false, s)
    | some f =>
      match f.inc with
      | none => (false, s)
      | some x =>
        if s.pan.slots.length + (if x.wide then 2 else 1) ≤ s.build.slots then
          (true, installSlot x (if f.incMap then BitVec.allOnes 1024 else 0) (dropFetch index s))
        else
          match f.victim with
          | some v =>
            match tget v s.pan.slots with
            | none => placeFetch index k (modFetch index (fun y => { y with victim := none }) s)
            | some y =>
              if y.evicting then (false, s)
              else if !victimOk s y then placeFetch index k (modFetch index (fun z => { z with victim := none }) s)
              else if !y.dirty then
                placeFetch index k (keepSlots (fun n _ => n != v) (modFetch index (fun z => { z with
                  victim := none, token := false }) s))
              else
                if pathBusy s y.index then (false, s)
                else
                  let (ok, s) := path y.index s
                  if ok then (false, readSlotWord y.index (writeVictim y) s) else (false, s)
          | none =>
            if !f.token && s.lar.tokens == 0 then (false, s)
            else
              match chooseVictim s with
              | none => (false, s)
              | some v =>
                let s := if f.token then s else { s with lar := { s.lar with tokens := s.lar.tokens - 1 } }
                placeFetch index k (modFetch index (fun y => { y with victim := some v, token := true }) s)

/-! ### Fetches (R15, R353, R355) -/

/-- Misses in progress of an instance (R260). -/
def missActive (s : State) (inst : Nat) : Nat := (s.lar.fetches.filter (fun f => f.inst == inst)).length

/-- An index joins the misses that wait for the Pantry door, once (R15). -/
def addMiss (index inst : Nat) (probe : Option Nat) (s : State) : State :=
  if s.lar.fetches.any (fun f => f.index == index) || s.lar.misses.any (fun m => m.1 == index) then s
  else { s with lar := { s.lar with misses := s.lar.misses ++ [(index, inst, probe)] } }

/-- What a fetch has come to: it waits for a node or its blob, the index has never been written (R347), or its leaf is
cached and the blob has arrived. -/
inductive FetchStep where
  | waits | empty | blob (bytes : List Byte)
  deriving DecidableEq, Repr

/-- Asks for the blob of a fetch once. -/
def askBlob (f : Fetch) (s : State) : State :=
  if f.blob.isSome || 0 < readsLeft s (f.index / 64 % 8) (fun w => w == .larBlob f.index) ||
      s.hwy.arrived.any (fun a => a.owner == .larBlob f.index) then s
  else readReq (f.index / 64 % 8) (s.blobAddr f.index) 160 0 (.larBlob f.index) 0 s

/-- Reads the path of a fetch and, with the leaf, the blob (Tables 1-5 and 9-9). -/
def advanceFetch (f : Fetch) (s : State) : FetchStep × State :=
  let index := f.index
  if pathBusy s index || s.lar.flush.isSome then (.waits, s)
  else
    let (ok, s) := path index s
    if !ok then (.waits, if nodeComing s 0 (index / 64) then askBlob f s else s)
    else
      match (s.node? 0 (index / 64)).bind (fun x => x.c.at (index % 64)), f.blob with
      | none, _ => (.empty, s)
      | some _, some b => (.blob b, s)
      | some _, none => (.waits, askBlob f s)

/-- What the blob of an index is, once its leaf is cached (Table 9-9). -/
inductive BlobFind where
  | bad
  | dead
  | tomb (serial : Nat)
  | live (x : Slot)
  deriving DecidableEq, Repr

/-- Tests the findings of Table 9-9 on a blob, in their order. -/
def readBlob (s : State) (index inst : Nat) (b : List Byte) : BlobFind :=
  let ctr := field 8 8 b
  let st := field 1 1 b
  let k := (s.inst inst).kek
  let leaf := (s.node? 0 (index / 64)).bind (fun x => x.c.at (index % 64))
  if leaf != some ctr || field 0 1 b != 1 || (st != 1 && st != 2) ||
      gmac s.hdrKey (blobIv index ctr) (b.take 24) 8 != slice 24 8 b then .bad
  else if field 2 2 b != inst || field 4 4 b != k.seedId then .dead
  else if st == 2 then .tomb (field 16 8 b)
  else
    match gcmOpen (s.blobKey inst k.seed) (blobIv index ctr) (b.take 32) (slice 32 112 b) (slice 144 16 b) with
    | none => .bad
    | some pt =>
      if field 96 4 pt ≥ 2 ^ 19 || field 100 12 pt != 0 || !polOk (BitVec.ofNat 19 (field 96 4 pt)) then .bad
      else .live (slotOfPlain s index inst (field 4 4 b) (field 16 8 b) pt)

/-! ### Tombstones (R360, R361) -/

/-- Writes the tombstone of a zeroised RETIRING slot once its path is cached. -/
def progressTomb (index : Nat) (s : State) : State :=
  match s.slotOf index with
  | some (_, x) =>
    if x.tombDue && !x.evicting && !s.lar.stale && !pathBusy s index then
      let (ok, s) := path index s
      if ok then
        let (ctr, s) := raiseAt 0 (index / 64) (index % 64) s
        let seed := (s.inst x.owner).kek.seed
        let s := modCtx index (fun y => { y with evicting := true }) s
        writeReq (index / 64 % 8) (s.blobAddr index)
          (wrapBlob s seed 2 x.owner x.seedId ctr x.serial index (List.replicate 112 0)) 0 (.tomb index) s
      else s
    else s
  | none => s

/-- A CTX_RETIRE completes. -/
def endRetire (x : Slot) (st : Status) (s : State) : State :=
  match x.retireOp with
  | some id => endOp id st x.final s
  | none => s

/-- Zeroises a RETIRING slot whose last reference is gone (R360 steps 1 to 3, R361); no tombstone is written to a
stale store. DESIGN CHOICE: log entry 102. -/
def zeroiseRetired (x : Slot) (s : State) : State :=
  let fin := x.f104
  let s := keepSlots (fun _ y => !(y.index == x.index && y.state == .companion)) s
  let zero : Slot := { x with
    key0 := [], key1 := [], sub0 := [], sub1 := [], salt0 := [], salt1 := [], f104 := 0, f112 := 0, f120 := 0,
    map := 0, policy := x.policy &&& ~~~ (0x4C000 : BitVec 19), dirty := false, final := fin, tombDue := !x.noTomb, zeroed := true }
  if x.noTomb || s.lar.stale || !s.lar.attached then endRetire zero .ok (wakeIndex x.index (freeIndex x.index s))
  else progressTomb x.index (modCtx x.index (fun _ => zero) s)

/-- REFS of a RETIRING slot has reached 0 and steps 1 and 2 of R360 have not been taken. -/
def retireDue (s : State) (x : Slot) : Bool := x.state == .retiring && !x.zeroed && s.refs x.index == 0

/-! ### The flush (R368) -/

/-- A flush ends. -/
def endFlush (ok : Bool) (s : State) : State :=
  { s with
    cel := { s.cel with dirty := if ok then false else s.cel.dirty },
    lar := { s.lar with flush := none, flushRes := some ok } }

/-- Writes one dirty slot at a flush; until the write is acknowledged it counts as a slot that is being written back. -/
def flushSlot (x : Slot) (s : State) : State :=
  let (ctr, s) := raiseAt 0 (x.index / 64) (x.index % 64) s
  let seed := (s.inst x.owner).kek.seed
  let s := modCtx x.index (fun y => { y with dirty := false, evicting := true }) s
  writeReq (x.index / 64 % 8) (s.blobAddr x.index)
    (wrapBlob s seed 1 x.owner x.seedId ctr x.serial x.index x.plain) 0 (.flushSlot x.index) s

/-- Writes every dirty node of a level at a flush. -/
def flushLevel (k : Nat) (s : State) : State :=
  (s.lar.nodes.filter (fun x => x.level == k && x.dirty)).foldl (fun s x =>
    modNode x.level x.n (fun z => { z with wbOut := true }) (writeNode (.flushNode x.level x.n) x s)) s

/-- One step of the flush in progress: the paths of dirty slots, the slots, the nodes level by level with the root, and the
end once everything is acknowledged; an access that stands on a halted port fails the flush. Tombstones and write-backs
under way come first. -/
def flushStep (s : State) : State :=
  if s.lar.flush.isNone || s.lar.nodes.any (fun x => x.old.isSome) then s
  else if s.hwy.ports.any (fun p => p.halted && (p.rdQ.any (fun r => r.owner.larder) || p.wrQ.any (fun w => w.owner.larder))) then
    endFlush false s
  else if s.pan.slots.any (fun p => p.2.dirty && p.2.noVictim) then endFlush false s
  else if s.lar.nodes.any s.orphan then askParents s
  else if s.pan.slots.any (fun p => retireDue s p.2) then
    (s.pan.slots.filter (fun p => retireDue s p.2)).foldl (fun s p => zeroiseRetired p.2 s) s
  else if s.pan.slots.any (fun p => p.2.tombDue || p.2.evicting) || s.lar.nodes.any (·.wbOut) then
    (s.pan.slots.filter (fun p => p.2.tombDue)).foldl (fun s p => progressTomb p.2.index s) s
  else
    let dirty := s.pan.slots.filter (fun p => p.2.dirty && p.2.state == .live)
    let (ok, s) := dirty.foldl (fun (a : Bool × State) p =>
      let (b, s) := path p.2.index a.2
      (a.1 && b, s)) (true, s)
    if !ok then s
    else
      let s := dirty.foldl (fun s p => readSlotWord p.2.index (flushSlot p.2) s) s
      let s := flushLevel 3 (flushLevel 2 (flushLevel 1 (flushLevel 0 s)))
      if s.pan.slots.any (fun p => p.2.evicting || retireDue s p.2) || s.lar.nodes.any (fun x => x.dirty || x.wbOut || x.old.isSome) then s
      else endFlush true s

/-- Starts a flush; a store that is stale or detached has nothing to flush. -/
def startFlush (w : FlushFor) (s : State) : State :=
  if !s.lar.attached || s.lar.stale then { s with lar := { s.lar with flush := none, flushRes := some true } }
  else flushStep { s with lar := { s.lar with flush := some w } }

/-- A LARDER_ATTACH waits for the nodes that it reads. -/
def State.attaching (s : State) : Bool :=
  match (s.inst 0).cq.serving with
  | some v => v.wait == .attach
  | none => false

/-- The attach ends: the store is attached, or attached as stale. -/
def attachEnd (ok : Bool) (s : State) : State :=
  let s := dropReads (fun o => match o with
    | .node _ _ => true
    | _ => false) s
  if ok then reply 0 .ok 0 [] { s with lar := { s.lar with stale := false } }
  else reply 0 .larderStale 0 [] { s with lar := { s.lar with nodes := [] } }

/-- The attached regions become stale (R369, R570): fetches, misses and tombstones end; parked operations meet
CTX_NO_LARDER; a retire whose tombstone was due completes (R360). -/
def makeStale (s : State) : State :=
  if !s.lar.attached then s
  else
    let s := dropReads (fun w => match w with
      | .node _ _ => true
      | .larBlob _ => true
      | .child _ _ _ => true
      | _ => false) s
    let parked := s.ops.filter (fun o => match o.phase with
      | .parked _ => true
      | .waitIndex _ => true
      | _ => false)
    let s := { s with lar := { s.lar with stale := true, fetches := [], misses := [] } }
    let tombs := s.pan.slots.filter (fun p => p.2.tombDue)
    let s := tombs.foldl (fun s p => endRetire p.2 .ok (freeIndex p.2.index s)) s
    let s := if s.attaching then attachEnd false s else s
    parked.foldl (fun s o => failUndispatched o .ctxNoLarder s) s

/-- Zero-fills the Pantry, its directory and the node cache (Table 16-4 step 6). -/
def clearPantry (s : State) : State :=
  { s with pan := { s.pan with slots := [], dirFault := false }, lar := { s.lar with nodes := [], fetches := [] } }

/-- A Larder access has failed on the fabric while a flush runs: the flush fails (R368). -/
def flushFabricError (s : State) : State := if s.lar.flush.isSome then endFlush false s else s

/-- The write of a slot's blob has been acknowledged: a slot that was retired meanwhile without a tombstone goes (R361). -/
def slotWritten (index : Nat) (s : State) : State :=
  match s.slotOf index with
  | some (_, x) => if x.noTomb && retireDue s x && !x.evicting then zeroiseRetired x s else s
  | none => s

/-- A flush write has been acknowledged, or has failed, in which case what it carried is dirty as before (R368). -/
def flushWritten (o : Owner) (ok : Bool) (s : State) : State :=
  match o with
  | .flushSlot i => wakeIndex i (slotWritten i (modCtx i (fun x => { x with
      evicting := false, dirty := (x.dirty || !ok) && !x.noTomb }) s))
  | .flushNode k n => modNode k n (fun x => { x with wbOut := false, dirty := x.dirty || !ok }) s
  | _ => s

/-! ### LARDER_ATTACH (R369) -/

/-- The nodes that R369 still needs: written top nodes, and written level-2 nodes of the top nodes that have verified. -/
def attachNeeds (s : State) : List (Nat × Nat) :=
  ((List.range 4).filter (fun n => (s.cel.treeRoot.at n).isSome && (s.node? 3 n).isNone)).map (fun n => (3, n)) ++
    ((s.lar.nodes.filter (fun x => x.level == 3)).map (fun x =>
      ((List.range 64).filter (fun c => (x.c.at c).isSome && (s.node? 2 (x.n * 64 + c)).isNone)).map
        (fun c => (2, x.n * 64 + c)))).flatten

/-- Reads the nodes that an attach needs; one whose port is halted cannot be verified, and the store is stale. DESIGN CHOICE:
log entry 58. -/
def attachStep (s : State) : State :=
  if !s.attaching then s
  else
    let need := attachNeeds s
    if need.isEmpty then attachEnd true s
    else if need.any (fun x => (s.port (x.2 % 8)).halted) then attachEnd false s
    else need.foldl (fun s x => askNode x.1 x.2 s) s

/-- A node has failed its check (R350): fetches and probes whose path needs it end with LARDER_INTEGRITY, victims
whose path needs it keep their slots, waiting retires complete with LARDER_INTEGRITY, a flush fails. -/
def nodeFailed (level n : Nat) (s : State) : State :=
  let under := fun (i : Nat) => pathNode i level == n
  let s := (s.lar.fetches.filter (fun f => under f.index && f.inc.isNone)).foldl (fun s f =>
    failFetch f.index .larderIntegrity s) s
  let vict := s.pan.slots.filter (fun p => under p.2.index && !p.2.evicting && p.2.state == .live &&
    s.lar.fetches.any (fun f => f.victim == some p.1))
  let s := vict.foldl (fun s p =>
    countIntegrity p.2.index (modCtx p.2.index (fun x => { x with noVictim := true })
      (mapFetches (fun f => if f.victim == some p.1 then { f with victim := none } else f) s))) s
  let tombs := s.pan.slots.filter (fun p => under p.2.index && p.2.tombDue && !p.2.evicting)
  let s := tombs.foldl (fun s p =>
    endRetire p.2 .larderIntegrity
      (countIntegrity p.2.index (modCtx p.2.index (fun x => { x with tombDue := false, retireOp := none }) s))) s
  if s.lar.flush.isSome then endFlush false (countIntegrity (n * 64 ^ (level + 1)) s) else s

end Sys2Proof.Machine
end

