-- ==== Sys2Proof/Machine/Flags.lean ====
section
/-!
DEFINITION. What every Porch register reads (21_registers.md and the field maps it names), the address decode and
the response codes of the Porch (14_ports.md), and the identity block (R377).
-/

namespace Sys2Proof.Machine

/-! ### Derived key pairs (R376, R377) -/

/-- A P-384 private key by the extra-random-bits method (Table 10-2). -/
def State.ecPrivate (s : State) (label : String) : Nat :=
  beNat (derive s.cel.root (ascii label) (beBytes 4 s.cel.enrolNum) 56) % (p384.n - 1) + 1

/-- An uncompressed P-384 point. -/
def ecPointBytes (q : Option (Nat × Nat)) : List Byte :=
  match q with
  | some (x, y) => [4] ++ beBytes 48 x ++ beBytes 48 y
  | none => List.replicate 97 0

/-- The seed of a derived key pair of `n` bytes. -/
def State.pairSeed (s : State) (label : String) (n : Nat) : List Byte :=
  derive s.cel.root (ascii label) (beBytes 4 s.cel.enrolNum) n

/-- The ML-KEM-1024 key pair of the device (R376). -/
def State.kemPair (s : State) : List Byte × List Byte :=
  let seed := s.pairSeed "WXP-KEM" 64
  kemKeyGen kem1024 (seed.take 32) (seed.drop 32)

/-- Bytes 64 to 3,791 of the identity block (Table 10-3). -/
def State.identityKeys (s : State) : List Byte :=
  ecPointBytes (ecMul p384 (s.ecPrivate "WID-EC") p384.g) ++ List.replicate 7 0 ++
    (dsaKeyGen dsa65 (s.pairSeed "WID-PQ" 32)).1 ++
    ecPointBytes (ecMul p384 (s.ecPrivate "WXP-EC") p384.g) ++ List.replicate 7 0 ++
    s.kemPair.1

/-- DEVICE_ID (R377). -/
def State.deviceId (s : State) : List Byte := sha3_256 (s.identityKeys.take 2056)

/-- The identity block (Table 10-3). DESIGN CHOICE: log entry 73. -/
def State.identity (s : State) : List Byte :=
  s.deviceId ++ leBytes 4 s.cel.enrolNum ++ List.replicate 28 0 ++ s.identityKeys

/-! ### Field assembly -/

/-- A register value from its fields, each with its lowest bit. -/
def regOf (l : List (Nat × Nat)) : Word := BitVec.ofNat 64 (l.foldl (fun a p => a + p.1 * 2 ^ p.2) 0)

/-- A signed value in 32-bit two's complement, held at the ends of its range. -/
def int32 (x : Int) : Nat :=
  ((max (-(2 ^ 31 : Int)) (min (2 ^ 31 - 1 : Int) x)) % (2 ^ 32 : Int)).toNat

/-! ### Instance pages (Tables 21-1 and 21-2) -/

/-- PCH_PAGE_ID (Table 21-4). -/
def pageIdReg (i : Nat) (s : State) : Word := regOf [(s.build.code, 32), (1, 24), (i, 0)]

/-- PCH_DB_STATUS (Table 4-5). -/
def dbStatusReg (d : DbStatus) : Word :=
  regOf [(d.lastRing, 16), (b2n d.partialW, 4), (b2n d.refused, 3), (b2n d.behind, 2), (b2n d.stale, 1),
    (b2n d.foreign, 0)]

/-- STU_MCQ_STATUS and STU_GCQ_STATUS (Table 2-3). -/
def cqStatusReg (s : State) (c : CmdQ) : Word :=
  regOf [(s.study.proto.toNat, 8), (b2n c.fabErr, 3), (b2n c.overrun, 2), (b2n (c.enable && !c.fabErr), 1),
    (b2n s.study.cmdRdy, 0)]

/-- TH_EQ_IRQ (Table 4-8). -/
def eqIrqReg (e : EventQ) : Word := regOf [(b2n e.mask, 63), (e.time, 32), (e.count, 0)]

/-- TH_EQ_STATUS (Table 4-9). -/
def eqStatusReg (e : EventQ) : Word :=
  regOf [(e.pend.toNat, 32), (b2n e.armed, 5), (b2n e.headBad, 4), (b2n e.fabErr, 3), (b2n e.overflow, 2),
    (b2n e.running, 1)]

/-- The ring that the ring registers of a page show; a page shows its own instance's rings only. -/
def shownRing (i : Nat) (s : State) : Option Ring :=
  match tget (s.inst i).ringSel s.rings with
  | some r => if i == 0 || r.owner == i then some r else none
  | none => none

/-- TH_RING_STATE (Table 4-12). -/
def ringStateReg (n : Nat) (r : Ring) (s : State) : Word :=
  regOf [(r.owner, 51), (r.errStatus, 32), ((s.ringOps n).length, 18), (r.log2, 13), (b2n r.anyOrder, 12),
    (r.fmt, 10), (b2n r.specOff, 9), (r.state.code, 0)]

/-- A register of the ring shown; 0 when none is. -/
def ringReg (i : Nat) (s : State) (f : Ring → Word) : Word :=
  match shownRing i s with
  | some r => f r
  | none => 0

/-- TH_SAMP_STATUS (Table 20-9). -/
def sampStatusReg (x : Samp) : Word :=
  regOf [(x.skipped, 32), (b2n x.fabErr, 2), (b2n ((x.tail - x.head).toNat == 2 ^ x.log2), 1),
    (b2n (x.enable && !x.fabErr), 0)]

/-- TH_CNTn (Table 20-5). -/
def counterReg (c : Counter) : Word := regOf [(b2n c.ovf, 63), (b2n c.run, 62), (c.value, 0)]

/-- TH_EQ_PENDw as a page shows it (R159, R677). -/
def pendWord (i w : Nat) (s : State) : Nat :=
  s.rings.foldl (fun a p =>
    if p.2.pend && p.1 / 64 == w && (i == 0 || p.2.owner == i) then a + 2 ^ (p.1 % 64) else a) 0

/-- TH_EQ_PEND_SUMv (R160, R675). -/
def pendSum (i v : Nat) (s : State) : Nat :=
  (List.range 64).foldl (fun a b => if pendWord i (64 * v + b) s != 0 then a + 2 ^ b else a) 0

/-- Words of TH_EQ_PEND (Table 4-9b). -/
def Build.pendWords (b : Build) : Nat := b.rings / 64

/-- Words of TH_EQ_PEND_SUM (Table 4-9b). -/
def Build.sumWords (b : Build) : Nat := max 1 (b.rings / 4096)

/-- The registers of the page of instance i; for instance 0 the first 64 KiB of the manager region. None where no
register is (R670, R673, R674, R676). -/
def pageReg (i off : Nat) (s : State) : Option Word :=
  let x := s.inst i
  let nat := fun (n : Nat) => some (BitVec.ofNat 64 n)
  if off % 8 != 0 then none
  else if 0x4000 ≤ off && off < 0x6000 then
    if (off - 0x4000) / 8 < s.build.pendWords then nat (pendWord i ((off - 0x4000) / 8) s) else none
  else if 0x2000 ≤ off && off < 0x2080 then
    if (off - 0x2000) / 8 < s.build.sumWords then nat (pendSum i ((off - 0x2000) / 8) s) else none
  else if 0x1800 ≤ off && off < 0x1A40 then (x.counters[(off - 0x1800) / 8]?).map counterReg
  else
    (List.lookup off ([
      (0x0000, fun _ : Unit => BitVec.ofNat 64 0),
      (0x1000, fun _ : Unit => (dbStatusReg x.db)),
      (0x1008, fun _ : Unit => (pageIdReg i s)),
      (0x1100, fun _ : Unit => (regOf [(x.cq.base, 0), (b2n x.cq.enable, 0)])),
      (0x1108, fun _ : Unit => BitVec.ofNat 64 x.cq.tail.toNat),
      (0x1110, fun _ : Unit => BitVec.ofNat 64 x.cq.head.toNat),
      (0x1118, fun _ : Unit => (cqStatusReg s x.cq)),
      (0x1200, fun _ : Unit => (regOf [(x.eq.base, 0), (b2n x.eq.enable, 0)])),
      (0x1208, fun _ : Unit => BitVec.ofNat 64 x.eq.tail.toNat),
      (0x1210, fun _ : Unit => BitVec.ofNat 64 x.eq.head.toNat),
      (0x1218, fun _ : Unit => (eqIrqReg x.eq)),
      (0x1220, fun _ : Unit => BitVec.ofNat 64 x.eq.msgAddr),
      (0x1228, fun _ : Unit => BitVec.ofNat 64 x.eq.msgData),
      (0x1230, fun _ : Unit => (eqStatusReg x.eq)),
      (0x1300, fun _ : Unit => BitVec.ofNat 64 x.ringSel),
      (0x1308, fun _ : Unit => (ringReg i s (fun r => regOf [(r.consumed.toNat, 32), (r.tail.toNat, 0)]))),
      (0x1310, fun _ : Unit => (ringReg i s (fun r => regOf [(r.haltIdx.toNat, 32), (r.errIdx.toNat, 0)]))),
      (0x1318, fun _ : Unit => (ringReg i s (fun r => regOf [(r.harvest.toNat, 0)]))),
      (0x1320, fun _ : Unit => (ringReg i s (fun r => ringStateReg x.ringSel r s))),
      (0x1400, fun _ : Unit => (regOf [(x.samp.base, 0), (b2n x.samp.enable, 0)])),
      (0x1408, fun _ : Unit => (regOf [(x.samp.k, 16), (x.samp.log2, 8), (b2n x.samp.scope, 0)])),
      (0x1410, fun _ : Unit => BitVec.ofNat 64 x.samp.tail.toNat),
      (0x1418, fun _ : Unit => BitVec.ofNat 64 x.samp.head.toNat),
      (0x1420, fun _ : Unit => (sampStatusReg x.samp))])).map (fun f => f ())

/-! ### Unit blocks of the manager region (Table 21-3) -/

/-- STU_TXN_STATUS (Table 2-13). -/
def txnReg (t : Txn) : Word :=
  regOf [(t.staged.length, 44), (t.lastEnd, 40), (b2n t.opened, 32), (t.num, 0)]

/-- STU_BOOT_STATUS (Table 15-4). -/
def bootStatusReg (b : Boot) : Word :=
  regOf [(b.detail, 32), (b2n b.goIgnored, 16), (b.err, 8), (b.step, 0)]

/-- Codes of STU_FW_STATUS.STATE. -/
def FwState.code : FwState → Nat
  | .idle => 0
  | .staging => 1
  | .armed => 2
  | .trial => 3
  | .fallingBack => 4

/-- UCODE_VERSION of the running bundle. -/
def Fw.ucode (f : Fw) : Nat := field 16 4 (f.sram.headD [])

/-- FW_VERSION of the running bundle. -/
def Fw.version (f : Fw) : Nat := field 12 4 (f.sram.headD [])

/-- The Stair range of the running image (STAIR_MIN and STAIR_MAX of its block 0). -/
def Fw.stairMin (f : Fw) : Nat := field 32 2 (f.sram.headD [])

/-- STAIR_MAX of the running image. -/
def Fw.stairMax (f : Fw) : Nat := field 34 2 (f.sram.headD [])

/-- The engines of the build. -/
def State.engines (s : State) : List Engine := s.hearth.engines.take s.build.engines

/-- STU_FW_STATUS (Table 17-11). -/
def fwStatusReg (s : State) : Word :=
  let f := s.fw
  regOf [(f.lastStatus, 48),
    ((s.engines.filter (fun e => !f.sram.isEmpty && e.ucode == f.ucode && e.state != .loading)).length, 40),
    (f.stageBlocks, 16), (b2n f.fromStair, 11), (b2n f.runValid, 10), (b2n f.freeValid, 9), (b2n f.runSlot, 8),
    (f.state.code, 0)]

/-- Codes of STU_PWR_STATUS.STATE. -/
def Power.code (p : Power) : Nat :=
  if p.entry.isSome then 3
  else match p.state with
    | .idle => 1
    | .doze => 2
    | _ => 0

/-- STU_ECC_STATUS (Table 19-4). -/
def eccReg (e : Ecc) : Word := regOf [(e.uncorr, 48), (e.corr, 16), (e.lastMem, 4)]

/-- STU_DIAG_STATUS (Table 19-7). -/
def diagReg (s : State) : Word :=
  regOf [((match s.keys.diag with
      | some d => d.left
      | none => 0), 32), (b2n s.keys.diag.isSome, 31),
    (s.diag.armed.foldl (fun a x => a ||| 2 ^ x.point) 0, 16), (s.diag.fired, 0)]

/-- TH_INST_STATE of the selected instance (Tables 3-2 and 3-3). -/
def instStateReg (s : State) : Word :=
  let i := s.instSel
  if i > s.build.insts then 0
  else
    let x := s.inst i
    regOf [((s.ringsOf i).length + (s.stagedAll.filter (fun y => pkOpcode y.pkt == 0x20 &&
        par 0 2 y.pkt == i)).length, 32),
      ((s.instOps i).length, 18), (if s.build.guard then x.gen else 0, 10), (x.state.code, 0)]

/-- TH_INST_SCHED (Table 6-2). -/
def instSchedReg (s : State) : Word :=
  if s.instSel > s.build.insts then 0
  else regOf [(int32 (s.inst s.instSel).deficit, 32), ((s.inst s.instSel).quantum, 0)]

/-- TH_ROOM_STATUS (Table 8-7). -/
def roomStatusReg (s : State) : Word :=
  let a := s.rooms.alcoves.take (2 * s.build.rooms)
  regOf [(s.rooms.faults, 32), (((s.rooms.chachas.take s.build.rooms).filter (· == 0)).length, 16),
    ((a.filter (fun x => x.svc == 1)).length, 8), ((a.filter (fun x => x.svc == 0)).length, 0)]

/-- PAN_STATUS (Table 9-17). -/
def panStatusReg (s : State) : Word :=
  regOf [(b2n s.pan.pinDropped, 63), ((s.pan.slots.filter (fun p => p.2.dirty)).length, 38), (s.pinned none, 19),
    (s.pan.slots.length, 0)]

/-- LAR_STATUS (Table 9-18). -/
def larStatusReg (s : State) : Word :=
  regOf [(s.cel.storeGen, 32), (s.lar.integrity, 16), (b2n (s.lar.nodes.any (fun x => x.old.isSome)), 4),
    (b2n s.lar.flush.isSome, 3), (b2n s.cel.dirty, 2), (b2n s.lar.stale, 1), (b2n s.lar.attached, 0)]

/-- CEL_KEY_STATUS (Table 10-15). -/
def keyStatusReg (s : State) : Word :=
  regOf [(s.cel.enrolNum, 32), (b2n s.keys.rngFail, 9), (b2n s.keys.rngOk, 8), (b2n s.cel.owned, 2),
    (b2n s.keys.identReady, 1), (b2n s.cel.rootPresent, 0)]

/-- CEL_ID_DATA (Table 10-4). DESIGN CHOICE: log entry 73. -/
def idDataReg (s : State) : Word :=
  if s.keys.identReady && s.keys.idSel ≤ 473 then BitVec.ofNat 64 (field (8 * s.keys.idSel) 8 s.identity) else 0

/-- CEL_KEK_STATE (Table 10-13). -/
def kekStateReg (s : State) : Word :=
  if s.instSel == 0 || s.instSel > s.build.insts then 0
  else
    let k := (s.inst s.instSel).kek
    regOf [(k.seedId, 32), (k.curVer, 16), (k.drainVer, 0)]

/-- BUSY of Table 10-9: a KEYMSG_APPLY has been taken (R29) and has not been answered. DEDUCED: log entry 70. -/
def State.keyinServed (s : State) : Bool :=
  s.keys.keyinBusy || (match (s.inst 0).cq.arrived with
    | some p => pkOpcode p == 0x40
    | none => false)

/-- CEL_KEYIN_STATUS (Table 10-9). -/
def keyinStatusReg (s : State) : Word :=
  let k := s.keys
  regOf [(b2n k.keyinIgn, 18), (b2n s.keyinServed, 17), (b2n k.keyinOvf, 16), (k.keyin.length, 0)]

/-- CEL_TAMPER_FLAGS (Table 16-8). -/
def tamperReg (c : Cellar) : Word := regOf [(c.asserting.toNat, 32), (c.flags.toNat, 0)]

/-- CEL_LOCK_STATUS (Table 16-9). -/
def lockStatusReg (s : State) : Word :=
  regOf [(s.cel.lockEvent, 32), (s.cel.lockCause, 24), (min 255 s.cel.faultCount, 16),
    (b2n s.keys.permit.isSome, 5), (b2n s.cel.lockOnWake, 4), (b2n s.cel.zeroised, 3), (b2n s.cel.lockDone, 2),
    (b2n s.cel.locked, 0)]

/-- An engine may take work. -/
def Engine.inService (e : Engine) : Bool :=
  !e.drain && e.state != .test && e.state != .failed && e.state != .loading

/-- HEA_STATUS (Table 11-11). -/
def heaStatusReg (s : State) : Word :=
  regOf [(s.hearth.faults, 32), (s.hearth.queue.length, 16),
    ((s.engines.filter (fun e => e.state == .test)).length, 8), ((s.engines.filter Engine.inService).length, 0)]

/-- Codes of HEA_ENGINE_STATE.STATE. -/
def EngState.code : EngState → Nat
  | .idle => 0
  | .fetch => 1
  | .run => 2
  | .release => 3
  | .wipe => 4
  | .test => 5
  | .failed => 6
  | .loading => 7

/-- HEA_ENGINE_STATE (Table 11-12). -/
def engineReg (s : State) : Word :=
  match s.engines[s.hearth.engSel]? with
  | none => 0
  | some e =>
    let held := e.op.bind s.op?
    regOf [(e.owner.getD 0x1FFF, 51), (e.state.code, 48),
      ((match held with
        | some o => o.head.d.subop
        | none => 0), 40),
      ((match held with
        | some o => o.ring
        | none => 0), 0)]

/-- HEA_INST_SCHED (Table 11-13); the deficit is kept in ns and shown in whole µs (log entry 22). -/
def heaInstReg (s : State) : Word :=
  if s.instSel > s.build.insts then 0
  else regOf [(int32 ((s.inst s.instSel).hdeficit / 1000), 32),
    ((s.hearth.queue.filter (fun q => q.1 == s.instSel)).length, 0)]

/-- The register-path context that SCU_SEL selects; 48 to 63 select none (Table 12-2). -/
def State.scuCtx (s : State) : Option ScuCtx := if s.scu.sel < 48 then s.scu.ctxs[s.scu.sel]? else none

/-- Codes of SCU_STATUS.STATE. -/
def ScuState.code : ScuState → Nat
  | .free => 0
  | .opened => 1
  | .busy => 2
  | .done => 3
  | .failed => 4

/-- SCU_STATUS (Table 12-5). -/
def scuStatusReg (s : State) : Word :=
  match s.scuCtx with
  | none => 0
  | some c => regOf [(c.msg.length % 2 ^ 32, 32), (c.alg, 16), (c.state.code, 4), (b2n c.ignored, 2),
      (b2n c.lost, 1), (b2n (c.state == .busy), 0)]

/-- SCU_DIGESTw (Table 12-6). -/
def scuDigestReg (w : Nat) (s : State) : Word :=
  match s.scuCtx with
  | none => 0
  | some c => if c.state == .done then BitVec.ofNat 64 (field (8 * w) 8 c.digest) else 0

/-- Reads outstanding on a port, quarantined ones excluded. -/
def Port.readsOut (p : Port) : Nat := (p.rds.filter (fun r => !r.quar)).length

/-- Writes outstanding on a port, quarantined ones excluded. -/
def Port.writesOut (p : Port) : Nat := (p.wrs.filter (fun w => !w.quar)).length

/-- DRAINED (Table 13-7). -/
def Port.drained (p : Port) : Bool := (p.halted || p.paused) && p.readsOut == 0 && p.writesOut == 0

/-- HWY_PORT_STATUSn (Table 13-7). -/
def portStatusReg (p : Port) : Word :=
  regOf [(p.halts, 48), (p.readsOut, 38), (p.writesOut, 28), ((p.rds.filter (·.quar)).length, 18), (p.cause, 8),
    (b2n p.drained, 3), (b2n p.paused, 2), (b2n p.halted, 1)]

/-- Codes of STA_UP_STATUS.STATE. -/
def LinkState.code : LinkState → Nat
  | .disabled => 0
  | .training => 1
  | .negotiating => 2
  | .up => 3
  | .degraded => 4
  | .failed => 5
  | .refused => 6
  | .down => 7

/-- CAPS of a Stair version (Tables 15-7 and 15-8). -/
def stairCaps (v : BitVec 16) : Nat :=
  if v.toNat < 0x0100 then 0
  else (if v.toNat % 256 ≥ 2 then 8 else 0) + (if v.toNat % 256 ≥ 1 then 4 else 0) + 3

/-- STA_UP_STATUS and STA_DN_STATUS (Table 15-8). DEDUCED: log entry 64. -/
def linkReg (l : Link) (long : Bool) : Word :=
  regOf [((l.nbrId.getD 2 0).toNat, 56), ((l.nbrId.getD 1 0).toNat, 48), ((l.nbrId.getD 0 0).toNat, 40),
    (l.lane1.fom.toNat, 32), (l.lane0.fom.toNat, 24), (l.ver.toNat / 256 % 16, 20), (l.ver.toNat % 16, 16),
    (stairCaps l.ver, 12), (l.attempts, 9), (b2n long, 8), (if l.state == .refused then l.reason else 0, 5),
    (l.state.code, 0)]

/-- The unit blocks of Table 21-3, by offset within the manager region: the value that follows from the units. -/
def liveReg (off : Nat) (s : State) : Option Word :=
  let nat := fun (n : Nat) => some (BitVec.ofNat 64 n)
  if off % 8 != 0 then none
  else if 0x40020 ≤ off && off < 0x40040 then
    match (off - 0x40020) / 8 with
    | 0 => nat s.cel.ctr0
    | 1 => nat s.cel.ctr1
    | 2 => nat s.cel.ctr2
    | _ => nat s.cel.ctr3
  else if 0x60040 ≤ off && off < 0x60080 then some (scuDigestReg ((off - 0x60040) / 8) s)
  else if 0x70100 ≤ off && off < 0x70140 then nat (b2n (s.port ((off - 0x70100) / 8)).paused)
  else if 0x70140 ≤ off && off < 0x70180 then some (portStatusReg (s.port ((off - 0x70140) / 8)))
  else if 0x70180 ≤ off && off < 0x701C0 then
    some (regOf [((s.port ((off - 0x70180) / 8)).bwR, 32), ((s.port ((off - 0x70180) / 8)).bwW, 0)])
  else if 0x701C0 ≤ off && off < 0x70200 then
    nat ((s.port ((off - 0x701C0) / 8)).wrs.filter (·.quar)).length
  else
    (List.lookup off ([
      (0x10000, fun _ : Unit => (txnReg s.txn)),
      (0x10100, fun _ : Unit => BitVec.ofNat 64 s.boot.addr),
      (0x10108, fun _ : Unit => BitVec.ofNat 64 s.boot.len),
      (0x10110, fun _ : Unit => BitVec.ofNat 64 s.boot.scratch),
      (0x10118, fun _ : Unit => BitVec.ofNat 64 0),
      (0x10120, fun _ : Unit => (bootStatusReg s.boot)),
      (0x10200, fun _ : Unit => (regOf [(s.fw.base, 0), (b2n s.fw.enable, 0)])),
      (0x10208, fun _ : Unit => BitVec.ofNat 64 (b2n s.fw.reloadAtStart)),
      (0x10210, fun _ : Unit => (fwStatusReg s)),
      (0x10218, fun _ : Unit => BitVec.ofNat 64 (if s.fw.state == .armed then s.fw.tick else 0)),
      (0x10220, fun _ : Unit => BitVec.ofNat 64 s.fw.chain.toNat),
      (0x10300, fun _ : Unit => BitVec.ofNat 64 0),
      (0x10308, fun _ : Unit => (regOf [(s.pwr.idleDelay, 16), (b2n s.pwr.wakeOnDb, 8), (s.pwr.target, 0)])),
      (0x10310, fun _ : Unit => (regOf [(s.pwr.lastWake, 40), (s.pwr.refuse, 32), (s.pwr.code, 0)])),
      (0x10400, fun _ : Unit => (eccReg s.ecc)),
      (0x10408, fun _ : Unit => (diagReg s)),
      (0x20000, fun _ : Unit => BitVec.ofNat 64 s.instSel),
      (0x20008, fun _ : Unit => (instStateReg s)),
      (0x20010, fun _ : Unit => (instSchedReg s)),
      (0x20100, fun _ : Unit => (regOf [(s.sched.depth, 8), (b2n s.sched.specEn, 0)])),
      (0x20108, fun _ : Unit => (regOf [(s.sched.evictRate, 16), (s.sched.missMax, 0)])),
      (0x20110, fun _ : Unit => s.sched.snap),
      (0x20200, fun _ : Unit => BitVec.ofNat 64 (b2n s.rooms.ratio)),
      (0x20208, fun _ : Unit => (roomStatusReg s)),
      (0x30000, fun _ : Unit => (regOf [(s.instPinMax, 32), (s.pinMax, 0)])),
      (0x30008, fun _ : Unit => (panStatusReg s)),
      (0x30100, fun _ : Unit => (larStatusReg s)),
      (0x30108, fun _ : Unit => (regOf [(s.lar.failStatus, 32), (s.lar.failIndex, 0)])),
      (0x40000, fun _ : Unit => (keyStatusReg s)),
      (0x40008, fun _ : Unit => BitVec.ofNat 64 s.keys.idSel)] ++
      [
      (0x40010, fun _ : Unit => (idDataReg s)),
      (0x40040, fun _ : Unit => (kekStateReg s)),
      (0x40100, fun _ : Unit => BitVec.ofNat 64 0),
      (0x40108, fun _ : Unit => BitVec.ofNat 64 0),
      (0x40110, fun _ : Unit => (keyinStatusReg s)),
      (0x40200, fun _ : Unit => BitVec.ofNat 64 s.cel.alarmCfg.toNat),
      (0x40208, fun _ : Unit => (regOf [(s.cel.faultWindow, 16), (s.cel.faultLimit, 0)])),
      (0x40210, fun _ : Unit => (tamperReg s.cel)),
      (0x40218, fun _ : Unit => (lockStatusReg s)),
      (0x50000, fun _ : Unit => (heaStatusReg s)),
      (0x50008, fun _ : Unit => BitVec.ofNat 64 s.hearth.engSel),
      (0x50010, fun _ : Unit => (engineReg s)),
      (0x50018, fun _ : Unit => (heaInstReg s)),
      (0x60000, fun _ : Unit => BitVec.ofNat 64 s.scu.sel),
      (0x60008, fun _ : Unit => BitVec.ofNat 64 0),
      (0x60010, fun _ : Unit => BitVec.ofNat 64 0),
      (0x60018, fun _ : Unit => (scuStatusReg s)),
      (0x70000, fun _ : Unit => (regOf [(s.hwy.writeTimeout, 32), (s.hwy.readTimeout, 0)])),
      (0x70008, fun _ : Unit => BitVec.ofNat 64 s.hwy.bwWindow),
      (0x80000, fun _ : Unit => (regOf [(s.stair.fomMin, 8), (s.stair.presetFirst, 0)])),
      (0x80008, fun _ : Unit => (linkReg s.stair.up s.upLong)),
      (0x80010, fun _ : Unit => (linkReg s.stair.dn s.dnLong)),
      (0x80018, fun _ : Unit => BitVec.ofNat 64 s.tickNow)])).map (fun f => f ())

/-- The registers that the Study updates: STU_TXN_STATUS, STU_FW_STATUS, STU_FW_TICK, STU_FW_CHAIN, STU_PWR_STATUS,
STU_ECC_STATUS, STU_DIAG_STATUS, STA_UP_STATUS and STA_DN_STATUS (R685). DEDUCED: log entry 112. -/
def studyRegs : List Nat := [0x10000, 0x10210, 0x10218, 0x10220, 0x10310, 0x10400, 0x10408, 0x80008, 0x80010]

/-- The registers that the Study updates keep their values from now until cmd_rdy rises (R685). DEDUCED: log entry 112. -/
def holdRegs (s : State) : State :=
  { s with study := { s.study with held := studyRegs.filterMap (fun o => (liveReg o s).map (fun v => (o, v))) } }

/-- What a unit register reads as: its own value, or the one that it keeps while cmd_rdy is low (R685). -/
def unitReg (off : Nat) (s : State) : Option Word :=
  match List.lookup off s.study.held with
  | some v => some v
  | none => liveReg off s

/-! ### cmd_rdy (R40 to R45) -/

/-- Lowers cmd_rdy: packet reads that are outstanding are discarded (R29, R41). -/
def lowerCmdRdy (s : State) : State :=
  let s := (s.insts.map (·.1)).foldl (fun s q => dropPacketRead q s) (if s.study.cmdRdy then holdRegs s else s)
  { s with study := { s.study with cmdRdy := false } }

/-- Raises cmd_rdy. A block that is locked with no lock sequence to run reaches LOCK_DONE (R577). -/
def raiseCmdRdy (s : State) : State :=
  { s with
    study := { s.study with cmdRdy := true, held := [] },
    cel := { s.cel with lockDone := s.cel.lockDone || (s.cel.locked && s.cel.step == .idle) } }

/-! ### The Porch (R495, R496, Table 3-1) -/

/-- Where a Porch address points (Table 14-7). -/
inductive Target where
  | page (i off : Nat)
  | unit (off : Nat)
  | nothing
  deriving DecidableEq, Repr

/-- The address decode of Table 14-7; bits [2:0] are no part of an address. -/
def porchTarget (addr : Nat) (s : State) : Target :=
  let a := addr / 8 * 8
  if a < 0x10000000 then
    if a / 0x10000 + 1 ≤ s.build.insts then .page (a / 0x10000 + 1) (a % 0x10000) else .nothing
  else if a < 0x10010000 then .page 0 (a - 0x10000000)
  else if a < 0x11000000 then .unit (a - 0x10000000)
  else .nothing

/-- What a read of the Porch answers: a response code of Table 14-8 and the data. -/
def readRegister (addr : Nat) (s : State) : BitVec 2 × Word :=
  if !s.pins.mainUp then (1, 0)
  else
    match porchTarget addr s with
    | .nothing => (2, 0)
    | .unit off => (match unitReg off s with
      | some v => (0, v)
      | none => (2, 0))
    | .page i off => (match pageReg i off s with
      | some v => (0, if (s.inst i).served then v else 0)
      | none => (2, 0))

/-- The response to a write: OK, ABSENT or NOMAP, with data 0; with por_n low there is none (R503). DESIGN CHOICE: log entry
71. DESIGN CHOICE: log entry 72. -/
def answerWrite (addr : Nat) (s : State) : State :=
  { s with porch := if s.pins.porN then some ((readRegister addr s).1, 0) else s.porch }

/-- A write reaches its register: MAIN is up, the page is served and all byte enables are set (R498, Table 3-1). -/
def writable (addr : Nat) (strb : BitVec 8) (s : State) : Bool :=
  s.pins.mainUp && strb == 0xFF &&
  (match porchTarget addr s with
   | .page i _ => (s.inst i).served
   | .unit _ => true
   | .nothing => false)

end Sys2Proof.Machine
end

