-- ==== Sys2Proof/Machine/Alarm.lean ====
section
/-!
DEFINITION. Alarms and their responses, lock events, the lock sequence and zeroisation (16_tamper.md), and the
operations of the Stair that they use: positions and messages to the neighbours.
-/

namespace Sys2Proof.Machine

/-! ### Stair positions and messages (R545, R546) -/

/-- The link carries messages. -/
def Link.carries (l : Link) : Bool := l.state == .up || l.state == .degraded

/-- Position in the chain (R545). -/
def State.position (s : State) : Nat := if s.upEn && s.stair.up.carries then s.stair.up.nbrPos + 1 else 0

/-- LONG_HOPS (R545). -/
def State.longHops (s : State) : Nat :=
  if s.upEn && s.stair.up.carries then s.stair.up.nbrLong + b2n s.upLong else 0

/-- The fields of a HELLO that its signature covers. -/
def HelloOut.fields (h : HelloOut) : List Byte :=
  leBytes 2 h.verMin.toNat ++ leBytes 2 h.verMax.toNat ++ leBytes 2 h.pos ++ leBytes 2 h.longHops ++ leBytes 8 h.tick ++
    h.deviceId ++ h.key

/-- The kind of a report as a byte. -/
def reportCode : ReportKind → Nat
  | .staged => 0
  | .stageFailed => 1
  | .armed => 2
  | .armFailed => 3

/-- A message as the bytes of its kind and fields, which `Config.stairFrame` frames. DESIGN CHOICE: log entry 85. -/
def StairMsg.fields : StairMsg → List Byte
  | .hello h => leBytes 1 0 ++ h.fields ++ h.sig
  | .alarm pos z => leBytes 1 1 ++ leBytes 1 pos ++ leBytes 1 (b2n z)
  | .block i b last => leBytes 1 2 ++ leBytes 4 i ++ leBytes 1 (b2n last) ++ b
  | .abortStage => leBytes 1 3
  | .report r pos => leBytes 1 4 ++ leBytes 1 (reportCode r) ++ leBytes 1 pos
  | .arm m => leBytes 1 5 ++ leBytes 1 (b2n m.cancel) ++ leBytes 8 m.tick ++ m.digest
  | .confirm => leBytes 1 6

/-- The self-synchronising scrambler x^58 + x^39 + 1 over 64 payload bits, the lowest first: the scrambled bits, and the
last 58 of them (R511). -/
def scramble (st : BitVec 58) (w : BitVec 64) : BitVec 64 × BitVec 58 :=
  (List.range 64).foldl (fun a k =>
    let b := (w.getLsbD k).xor ((a.2.getLsbD 38).xor (a.2.getLsbD 57))
    (if b then a.1 ||| ((1 : BitVec 64) <<< k) else a.1, (a.2 <<< 1) ||| (if b then 1 else 0))) (0, st)

/-- The lanes of a link that are in service. -/
def Link.lanes (l : Link) : List Nat :=
  (if l.lane0.inService then [0] else []) ++ (if l.lane1.inService then [1] else [])

/-- Sends one 64-bit block on a lane, with its sync header: 0b01 for data, 0b10 for control (R511). -/
def Link.block (lane : Nat) (ctl : Bool) (w : BitVec 64) (l : Link) : Link :=
  let x := scramble (if lane == 0 then l.scr0 else l.scr1) w
  let l : Link := { l with line := l.line ++ [(⟨lane, if ctl then 2 else 1, x.1⟩ : LineBlock)] }
  if lane == 0 then { l with scr0 := x.2 } else { l with scr1 := x.2 }

/-- Puts a message on a link: its blocks alternate over the lanes in service, block 0 on the first of them (R511, R542).
DESIGN CHOICE: log entry 85. -/
def Link.put (m : StairMsg) (l : Link) : Link :=
  let lanes := l.lanes
  let l := (Config.stairFrame m.fields).zipIdx.foldl (fun l p =>
    Link.block (lanes.getD (p.2 % lanes.length) 0) p.1.1 p.1.2 l) l
  { l with out := l.out ++ [m] }

/-- The link carries the features of a Stair version: its chosen version is no lower (R546). -/
def Link.allows (ver : BitVec 16) (l : Link) : Bool := l.carries && l.ver.toNat ≥ ver.toNat

/-- Sends a message on a link that carries the feature of a Stair version (R546). DESIGN CHOICE: log entry 63. -/
def Link.send (ver : BitVec 16) (m : StairMsg) (l : Link) : Link := if l.allows ver then l.put m else l

/-- Changes the upstream or the downstream link. -/
def modLink (down : Bool) (f : Link → Link) (s : State) : State :=
  if down then { s with stair := { s.stair with dn := f s.stair.dn } }
  else { s with stair := { s.stair with up := f s.stair.up } }

/-- The upstream or the downstream link. -/
def State.link (s : State) (down : Bool) : Link := if down then s.stair.dn else s.stair.up

/-- A HELLO is due on a link that carries messages. -/
def Link.helloAgain (l : Link) : Link := if l.carries then { l with helloDue := true } else l

/-- The HELLO that the block sends now, signed by its identity key (15_bringup.md, R373). The signature's random number is
requested with prediction resistance (R402). -/
def helloOut (s : State) : HelloOut × State :=
  let g := generate drbgStudy 56 [] true s
  let d := s.ecPrivate "WID-EC"
  let h : HelloOut :=
    { verMin := BitVec.ofNat 16 s.fw.stairMin, verMax := BitVec.ofNat 16 s.fw.stairMax, pos := s.position,
      longHops := s.longHops, tick := s.tickNow, deviceId := s.deviceId, key := ecPointBytes (ecMul p384 d p384.g),
      sig := [] }
  let rs := ecdsaSign p384 d (beNat (sha384 (Config.helloBytes h.fields))) (1 + beNat g.1 % (p384.n - 1))
  ({ h with sig := beBytes 48 rs.1 ++ beBytes 48 rs.2 }, g.2)

/-- Sends the HELLO that is due on a link, once it can be signed (R403). DESIGN CHOICE: log entry 63. -/
def sendHello (down : Bool) (s : State) : State :=
  let l := s.link down
  if l.helloDue && s.keys.rngOk && s.keys.identReady && (l.state == .negotiating || l.carries) then
    let h := helloOut s
    modLink down (fun l => { l.put (.hello h.1) with helloDue := false }) h.2
  else s

/-- Sends the HELLOs that are due. -/
def sendHellos (s : State) : State := sendHello true (sendHello false s)

/-- Sends on both links. -/
def sendBoth (ver : BitVec 16) (m : StairMsg) (s : State) : State :=
  modLink true (Link.send ver m) (modLink false (Link.send ver m) s)

/-! ### Sources and responses (R550, R560, Tables 16-1 and 16-6) -/

/-- The response of a source on main power: 0 Notify, 1 Lock, 2 Zeroise. -/
def State.response (s : State) (src : Nat) : Nat :=
  if src ≥ 8 then 2 else min 2 (s.cel.alarmCfg.toNat / 2 ^ (2 * src) % 4)

/-- The STATUS of an ALARM record (R564). -/
def alarmStatus (level : Nat) : Status :=
  if level == 0 then .alarmNotify else if level == 1 then .locked else .zeroised

/-- A source is watched in the present supply (Table 16-1): CLOCK, FAULT_RATE and NEIGHBOUR need MAIN. -/
def watched (src : Nat) (s : State) : Bool :=
  src ≤ 8 && (s.pins.mainUp || !(src == 4 || src == 6 || src == 7))

/-! ### Zeroisation (R571, R572) -/

/-- Step 1 of R571. -/
def zeroiseCellar (s : State) : State :=
  { s with cel := { s.cel with
      root := List.replicate 32 0, rootPresent := false, ownerEc := [], ownerPq := [], owned := false,
      valid := false, zeroised := true } }

/-- R380: a new root secret, requested with prediction resistance (R402), and the key pairs that follow from it. -/
def newRoot (s : State) : State :=
  let g := generate drbgStudy 32 [] true s
  { g.2 with
    cel := { g.2.cel with root := g.1, rootPresent := true, enrolNum := (g.2.cel.enrolNum + 1) % 2 ^ 32,
                          zeroRuns := false },
    keys := { g.2.keys with identReady := true } }

/-- The units of the build that have a CTR_DRBG (R402). -/
def State.drbgUnits (s : State) : List Nat :=
  List.range s.build.rooms ++ (List.range s.build.engines).map drbgEngine ++ [drbgStudy]

/-- Every CTR_DRBG that holds no state is instantiated, once the entropy source serves (R403). -/
def seedDrbgs (s : State) : State :=
  if s.keys.rngOk then s.drbgUnits.foldl (fun s u => if (s.drbg u).key.isEmpty then seedDrbg u s else s) s else s

/-- An Alcove draws a new dummy key from the CTR_DRBG of its Room (R325). -/
def newDummyKey (n : Nat) (s : State) : State :=
  let g := generate (drbgRoom (n / 2)) 32 [] false s
  { g.2 with rooms := { g.2.rooms with
      alcoves := modAt (fun a => { a with dummies := 0, dummyKey := g.1 }) n g.2.rooms.alcoves } }

/-- Every CTR_DRBG is instantiated again; the Alcoves' dummy keys are drawn anew (Table 10-16). -/
def newDrbgs (s : State) : State :=
  let s := seedDrbgs { s with keys := { s.keys with drbgs := s.keys.drbgs.map (fun _ => Drbg.cold) } }
  (List.range (2 * s.build.rooms)).foldl (fun s n => newDummyKey n s) s

/-- Zero-fills the key store, the key table and the KEYIN buffer (step 2 of R571). -/
def clearKeys (s : State) : State :=
  { s with
    insts := s.insts.map (fun p => (p.1, { p.2 with kek := Kek.none })),
    keys := { s.keys with permit := none, diag := none, keyin := [], keyinOvf := false, kekPending := none } }

/-- A KEYMSG_APPLY that has been taken and has not committed is answered LOCKED, and the KEYIN buffer zero-filled
(R388, R393). -/
def dropEnvelope (s : State) : State :=
  let s := match (s.inst 0).cq.arrived with
    | some p => if pkOpcode p == 0x40 then takeArrivedPacket 0 p s else s
    | none => s
  match (s.inst 0).cq.serving with
  | some v =>
    if pkOpcode v.pkt == 0x40 && v.reply.isNone && v.wait != .kekSet then
      reply 0 .locked 0 [] { s with keys := { s.keys with keyin := [], keyinOvf := false, keyinBusy := false } }
    else s
  | none => s

/-- Zeroisation while MAIN is up: the steps of R571; no blob and no node is written any more. -/
def zeroise (s : State) : State :=
  let s := clearKeys (zeroiseCellar (dropEnvelope s))
  let res := match s.lar.flush with
    | some .lock => none
    | some _ => some true
    | none => s.lar.flushRes
  let s := dropWrites Owner.larder (makeStale { s with lar := { s.lar with flush := none, flushRes := res } })
  newDrbgs { s with
    keys := { s.keys with identReady := false },
    cel := { s.cel with zeroRuns := true, step := if s.cel.step == .flush then .completions else s.cel.step } }

/-! ### The lock sequence (R567 to R571) -/

/-- Marks one operation locked (step 3 of Table 16-4, log entry 30): it issues no more output, and one whose completion is not
issued yet completes with LOCKED, unless a check of it has failed before. -/
def lockOp (o : Op) (s : State) : State :=
  if o.posted || o.phase == .scrub || (o.phase == .post && !o.status.success) then s
  else
    let s := mapSlots (fun _ x => if x.retireOp == some o.id then { x with retireOp := none } else x) s
    let s := dropOutput o s
    let s := modOp o.id (fun x => { x with lockMark := true, ref := none, pin := none }) s
    match o.phase with
    | .fetch _ => s
    | .reread _ => s
    | _ =>
      if s.hearth.engines.any (fun e => e.op == some o.id) then
        mapEngines (fun e => if e.op == some o.id then { e.stop none with after := some .locked } else e)
          (dropReads (fun w => w == .pkIn o.id || w == .pkBody o.id) s)
      else if o.phase.undispatched then failUndispatched o .locked s
      else endOp o.id .locked 0 s

/-- The SEED_ID of an instance has changed (R337, R361, Table 9-15): its resident contexts retire, its parked misses are
released without any write, and its installs that wait look their index up again. -/
def seedChanged (i : Nat) (s : State) : State :=
  let s := dropDoorWork i (retireResident i s)
  let parked := s.ops.filter (fun o => o.inst == i && (match o.phase with
    | .parked _ => true
    | _ => false))
  let waits := (s.ops.filter (fun o => o.inst == i)).filterMap (fun o => match o.phase with
    | .waitIndex n => some n
    | _ => none)
  let s := waits.foldl (fun s n => wakeIndex n s) (parked.foldl (fun s o => releaseOp o.id s) s)
  (parked.map (·.ring)).foldl (fun s r => tryPost r s) s

/-- A committed KEK_SET takes effect (R398). A changed SEED_ID starts a new life of the instance's contexts (R337), also where
the key store has lost the seed that the resident ones belong to. -/
def applyKek (s : State) : State :=
  match s.keys.kekPending with
  | none => s
  | some (i, ver, key, seedId, seed) =>
    let k := (s.inst i).kek
    let s := { s with keys := { s.keys with kekPending := none } }
    let pinned := (s.instOps i).any (fun o => o.pin == some k.curVer)
    let s := modInst i (fun x => { x with kek := ⟨ver, key,
      if k.curVer != 0 && pinned then k.curVer else 0, if k.curVer != 0 && pinned then k.cur else [], seedId, seed⟩ }) s
    let other := s.pan.slots.any (fun p => p.2.owner == i && p.2.state != .companion && p.2.seedId != seedId)
    if (k.seedId != 0 && k.seedId != seedId) || other then seedChanged i s else s

/-- Answers the KEYMSG_APPLY whose KEK_SET has taken effect (R392): KIND and COUNTER of the envelope. -/
def answerKek (s : State) : State :=
  match (s.inst 0).cq.serving with
  | some v =>
    if v.wait == .kekSet then reply 0 .ok 0 (leBytes 8 2 ++ leBytes 8 s.cel.ctr1)
      { s with keys := { s.keys with keyinBusy := false } }
    else s
  | none => s

/-- Commands that a lock leaves alone: those of Table 2-6 step 5, and those whose commit point has passed (R568): a committed
KEK_SET, a FW_ACTIVATE that has lowered cmd_rdy, and an INST_RESET or INST_DESTROY whose round boundary has passed. DEDUCED:
log entry 31. -/
def lockKeeps (s : State) (_q : Nat) (p : List Byte) (w : Wait) : Bool :=
  let op := pkOpcode p
  op == 1 || op == 0x40 || op == 0x41 ||
  (match w with
   | .share _ _ _ _ => false
   | .counter _ _ _ _ _ => false
   | .resume _ => false
   | .commit => false
   | .handover => false
   | .attach => false
   | .stage => false
   | .quiesce _ => false
   | .ringEnd _ => false
   | .abort _ _ => false
   | .reset i => !(s.inst i).genStep
   | .destroy i => !(s.inst i).genStep
   | _ => true)

/-- A drain that has not come to its end has no effect: its instance or ring goes back to the state that it had (R568). DEDUCED:
log entry 31. -/
def undoDrain (s : State) (w : Wait) : State :=
  match w with
  | .quiesce i => if (s.inst i).state == .quiescing then modInst i (fun x => { x with state := .active, stopFetch := false }) s else s
  | .reset i => if (s.inst i).genStep then modInst i (fun x => { x with state := x.was, genStep := false, work := false }) s else s
  | .destroy i => if (s.inst i).genStep then modInst i (fun x => { x with state := x.was, genStep := false, work := false }) s else s
  | .ringEnd n => modRing n (fun r =>
      if r.state == .resetting || r.state == .destroying then { r with state := r.was } else r) s
  | _ => s

/-- The waits of the packets that a lock is about to answer. DEDUCED: log entry 31. -/
def undoDrains (s : State) : State :=
  (s.insts.map (·.1)).foldl (fun s q => match (s.inst q).cq.serving with
    | some v => if v.reply.isNone then undoDrain s v.wait else s
    | none => s) s

/-- Nothing more is read or written of a bundle. -/
def dropImages (s : State) : State := disownWrites Owner.firmware (dropReads Owner.firmware s)

/-- A FW_STAGE ends before its bundle is accepted: the slot that it wrote stays invalid, and a forwarded stage is aborted
downstream (R592, R608). DEDUCED: log entry 61. -/
def dropStage (st : Status) (s : State) : State :=
  match s.fw.copy with
  | none => s
  | some c =>
    let s := dropImages { s with fw := { s.fw with copy := none, state := .idle, lastStatus := st.code.toNat } }
    if c.target == 1 then modLink true (Link.send 0x0101 .abortStage) s else s

/-- Steps 1 to 4 of Table 16-4 at the decision. DESIGN CHOICE: log entry 30. DEDUCED: log entry 31. -/
def startLock (s : State) : State :=
  let s := { s with
    cel := { s.cel with locked := true, lockDone := false, alarmN := true, step := .completions },
    diag := { s.diag with armed := [] },
    fw := if s.fw.state == .armed then
        { s.fw with state := .idle, lastStatus := Status.locked.code.toNat, byChain := false, armedHere := false }
      else s.fw }
  let s := answerTaken .locked (lockKeeps s) (undoDrains <| dropStage .locked (dropEnvelope s))
  let s := endTxn 6 true s
  let s := answerKek (applyKek s)
  let s := { s with specs := [], lar := { s.lar with fetches := [], misses := [] } }
  let s := dropReads (fun w => match w with
    | .spec _ _ => true
    | .larBlob _ => true
    | _ => false) s
  s.ops.foldl (fun s o => lockOp o s) s

/-- The Pantry, the node cache and Hearth operand memory are zero-filled and the lock sequence ends (steps 6 and 7
of Table 16-4); regions whose flush has failed become stale then (R570). In bring-up LOCK_DONE waits for cmd_rdy (R577). -/
def endLock (s : State) : State :=
  let s := mapEngines (fun e => { e with hdr := [], data := [], regs := EngRegs.zero }) (clearPantry s)
  let s := if s.lar.staleDue then makeStale { s with lar := { s.lar with staleDue := false } } else s
  { s with cel := { s.cel with step := .idle, lockDone := s.boot.step == 0x0A } }

/-- The zero-filling of step 6 of Table 16-4 begins. It ends at the next millisecond (log entry 30). -/
def toClear (s : State) : State := { s with cel := { s.cel with step := .clear } }

/-- A millisecond ends the zero-filling of step 6 and, once the entropy source serves, the zeroisation (step 4 of
R571). -/
def wipesEnd (s : State) : State :=
  if !s.pins.mainUp then s
  else
    let s := if s.cel.step == .clear then endLock s else s
    if s.cel.zeroRuns && !s.cel.rootPresent && s.keys.rngOk && s.boot.step == 0x0A then sendHellos (newRoot s) else s

/-- What of the lock sequence can go on (steps 4 to 7 of Table 16-4). -/
def lockProgress (s : State) : State :=
  match s.cel.step with
  | .idle => s
  | .clear => s
  | .completions =>
    if s.ops.all (fun o => (s.port (portOf o.ring)).halted) && s.lar.flush.isNone &&
        s.pwr.softReset != some 4 && !(s.pwr.entry.isSome && s.pwr.step == 3) then
      if s.cel.level ≥ 2 || !s.lar.attached || s.lar.stale then toClear s
      else
        startFlush .lock { s with cel := { s.cel with step := .flush }, lar := { s.lar with flushRes := none } }
    else s
  | .flush =>
    match s.lar.flushRes with
    | none => s
    | some ok =>
      toClear { s with lar := { s.lar with flushRes := none, staleDue := !ok } }

/-! ### Raising an alarm (R552, R558, R560 to R566, R572, R631) -/

/-- Records a lock event in the Cellar (R561, R563). -/
def lockEventOf (src : Nat) (s : State) : State :=
  { s with cel := { s.cel with
      lockEvent := (s.cel.lockEvent + 1) % 2 ^ 32, lockCause := src, locked := true } }

/-- Sends the ALARM message of an event that starts or escalates (R558); an event that NEIGHBOUR started sends
none (R559). -/
def sendAlarm (level : Nat) (s : State) : State :=
  if s.cel.lockCause == 7 then s else sendBoth 0x0100 (.alarm s.position (level ≥ 2)) s

/-- The alarm of a source while the Cellar runs on vbat alone (R572). -/
def vbatAlarm (src : Nat) (s : State) : State :=
  let s := { s with cel := { s.cel with flags := setBit src true s.cel.flags } }
  if src == 5 then s
  else
    let joins := s.cel.lockOnWake && s.cel.vbatUs < 1000
    let s := zeroiseCellar (if joins then s else lockEventOf src s)
    { s with cel := { s.cel with locked := true, lockDone := false, lockOnWake := true, level := 2, alarmN := true,
                                 vbatUs := 0 } }

/-- The alarm of a source while MAIN is off or in reset on vdd_aon (R565, R631). -/
def sleepAlarm (src : Nat) (s : State) : State :=
  let level := s.response src
  let s := { s with cel := { s.cel with flags := setBit src true s.cel.flags } }
  if level == 0 then s
  else
    let joins := s.cel.locked && !s.cel.lockDone
    let s := if joins then s else lockEventOf src s
    let s := if level ≥ 2 then zeroiseCellar s else s
    { s with
      diag := { s.diag with armed := [] },
      cel := { s.cel with locked := true, lockDone := false, alarmN := true,
                          level := max level (if joins then s.cel.level else 0), step := .completions },
      pwr := if s.pwr.state == .retain then { s.pwr with alarmWake := true } else s.pwr,
      pins := if s.pwr.state == .retain then { s.pins with mainReq := true } else s.pins }

/-- Doze ends, and its entry, for an alarm (R626). DEDUCED: log entry 54. -/
def alarmWake (s : State) : State := wake 4 s

/-- The alarm of a source while MAIN runs. -/
def mainAlarm (src : Nat) (s : State) : State :=
  let level := s.response src
  let rose := !s.cel.flags.getLsbD src
  let s := { s with
    cel := { s.cel with flags := setBit src true s.cel.flags },
    pwr := if s.pwr.state == .idle then { s.pwr with state := .active } else s.pwr }
  let record := fun (s : State) => evWrite 0 0x31 (alarmStatus level).code.toNat 0 src s.cel.lockEvent s
  if level == 0 then (if rose then record s else s)
  else
    let s := alarmWake s
    if !s.cel.locked then
      let s := lockEventOf src s
      let s := startLock (record { s with cel := { s.cel with level := level } })
      sendAlarm level (if level ≥ 2 then zeroise s else s)
    else if !s.cel.lockDone then
      let rises := s.cel.level < level
      let s := record { s with cel := { s.cel with level := max s.cel.level level } }
      if rises && level ≥ 2 then sendAlarm level (zeroise s) else s
    else
      let s := lockEventOf src s
      let s := record { s with cel := { s.cel with level := level } }
      sendAlarm level (if level ≥ 2 then zeroise s else s)

/-- An alarm of a source, wherever the block is powered. Only a Roof pass that begins after it counts as clean (Table
16-5 step 5). -/
def raiseAlarm (src : Nat) (s : State) : State :=
  let s := { s with cel := { s.cel with passPattern := false, passImpedance := false, alarmUs := 0 } }
  if s.cel.onVbat then vbatAlarm src s else if s.pins.mainUp then mainAlarm src s else sleepAlarm src s

/-- µs for which a source has been quiet, 1,000 at most (R552). -/
def Cellar.quietFor (src : Nat) (c : Cellar) : Nat := c.quietUs.getD src 0

/-- An injection makes the source assert (R645). -/
def Diag.holds (src : Nat) (d : Diag) : Bool := d.asserted.any (fun p => p.1 == src)

/-- A source asserts; it raises an alarm when it has been quiet for 1 ms (R552). DESIGN CHOICE: log entry 47. -/
def assertSource (src : Nat) (s : State) : State :=
  if !watched src s || s.cel.asserting.getLsbD src then s
  else
    let ready := s.cel.quietFor src ≥ 1000
    let s := { s with cel := { s.cel with
      asserting := setBit src true s.cel.asserting, quietUs := s.cel.quietUs.set src 0 } }
    if ready then raiseAlarm src s else s

/-- A source no longer asserts. -/
def quietSource (src : Nat) (s : State) : State :=
  { s with cel := { s.cel with asserting := setBit src false s.cel.asserting } }

/-- FAULT_RATE follows the count of its window (R557). -/
def checkFaultRate (s : State) : State :=
  if s.cel.faultCount ≥ s.cel.faultLimit then assertSource 6 s
  else if s.diag.holds 6 then s else quietSource 6 s

/-- A microsecond passes for the times that the Cellar measures, and for its pattern generator: a new pattern every 2 µs, or
every 8 ms on vbat (R552, R553, R572, Table 16-3). -/
def Cellar.micro (c : Cellar) : Cellar :=
  let due := (if c.onVbat then 8000 else 2) ≤ c.roofUs + 1
  { c with
    quietUs := c.quietUs.zipIdx.map (fun p => if c.asserting.getLsbD p.2 then 0 else min 1000 (p.1 + 1)),
    alarmUs := min 1000000 (c.alarmUs + 1), vbatUs := min 1000 (c.vbatUs + 1),
    roofGen := if due then Config.roofNext c.roofGen else c.roofGen, roofUs := if due then 0 else c.roofUs + 1 }

/-- The pattern that the Roof's drivers send on the 128 nets (R553). -/
def Cellar.pattern (c : Cellar) : List Bool := (List.range 128).map (fun n => Config.roofBit c.roofGen n)

/-- A microsecond of the Cellar; an injected assertion ends after its 1 ms (R645). -/
def cellarMicro (s : State) : State :=
  let ended := (s.diag.asserted.filter (fun p => p.2 ≤ 1)).map (·.1)
  let s := { s with
    cel := { s.cel.micro with asserting := ended.foldl (fun a n => setBit n false a) s.cel.asserting },
    diag := { s.diag with asserted := (s.diag.asserted.filter (fun p => 1 < p.2)).map (fun p => (p.1, p.2 - 1)) } }
  if ended.contains 6 then checkFaultRate s else s

/-- A report to the fault-rate source (R322, R422, R557). -/
def faultReport (s : State) : State := checkFaultRate (faultTally s)

end Sys2Proof.Machine
end

