-- ==== Sys2Proof/Machine/Bundle.lean ====
section
/-!
DEFINITION. Firmware bundles (17_firmware.md): block checks, the layout of block 0, signatures, the payload digest,
the compatibility matrix.
-/

namespace Sys2Proof.Machine

/-- The CRC-32C of a block is right (R581). -/
def blockOk (b : List Byte) : Bool := b.length == 4096 && (crc32c (b.take 4092)).toNat == field 4092 4 b

/-- Offset of the bit of BUILD_MASK that names a build (Table 17-1). -/
def Build.bit : Build → Nat
  | .w6400 => 0
  | .w3200 => 1
  | .w1600 => 2

/-- The matrix entries of a block 0 (Table 17-2). -/
def compatEntry (h : List Byte) (i : Nat) : List Byte := slice (128 + 24 * i) 24 h

/-- Step 2 of Table 17-3 on a block 0, for a bundle of `n` blocks. DEDUCED: log entry 50. -/
def layoutOk (b : Build) (n : Nat) (h : List Byte) : Bool :=
  let study := field 40 4 h
  let uc := field 48 4 h
  let cnt := field 26 1 h
  h.take 4 == [0x57, 0x49, 0x4C, 0x46] && field 4 2 h == 1 && field 8 4 h == n &&
  field 36 4 h == 1 && 1 ≤ study && study ≤ 256 && field 44 4 h == 1 + study && 1 ≤ uc && uc ≤ 63 &&
  n == 1 + study + uc && cnt ≤ 20 &&
  field 27 1 h == 0 && field 52 12 h == 0 && field 112 16 h == 0 && field 4013 79 h == 0 &&
  field 6 2 h / 2 ^ b.bit % 2 == 1 && field 6 2 h < 8 &&
  (List.range 20).all (fun i =>
    let e := compatEntry h i
    if i < cnt then field 19 5 e == 0 && field 18 1 e < 4 else leNat e == 0)

/-- DETAIL of a signature failure: 1 for SIG_EC, 2 for SIG_PQ, 3 for both; 0 when both verify. -/
def sigDetail (h : List Byte) : Nat :=
  let m := h.take 608
  let ec := verifyP384 Config.fwKeyEc m (slice 608 96 h)
  let pq := dsaVerify dsa65 Config.fwKeyPq (ascii "Wilto-FW") m (slice 704 3309 h)
  b2n (!ec) + 2 * b2n (!pq)

/-- PAYLOAD_DIGEST of a block 0 matches the blocks after it. -/
def digestOk (h : List Byte) (rest : List (List Byte)) : Bool :=
  sha384 ((rest.map (fun b => b.take 4092)).flatten) == slice 64 48 h

/-- Steps 2 to 5 of Table 17-3 on blocks whose CRCs are right; `floor` is none where step 5 does not apply. DEDUCED:
log entry 50. -/
def bundleFault (b : Build) (floor : Option Nat) (blocks : List (List Byte)) : Option (Status × Nat) :=
  let h := blocks.headD []
  if !layoutOk b blocks.length h then some (.fwImageFormat, 0)
  else if sigDetail h != 0 then some (.fwImageSig, sigDetail h)
  else if !digestOk h (blocks.drop 1) then some (.fwImageSig, 0)
  else
    match floor with
    | some f => if field 20 2 h < f then some (.fwSecVersion, 0) else none
    | none => none

/-- STATE_FORMAT of a block 0. -/
def stateFormat (h : List Byte) : Nat := field 24 2 h

/-- A matrix entry of a staged block 0 matches the running image (R586, R587). -/
def entryMatches (new run e : List Byte) : Bool :=
  field 0 4 e ≤ field 12 4 run && field 12 4 run ≤ field 4 4 e && field 16 2 e == stateFormat run &&
  field 8 4 e ≤ field 16 4 new && field 16 4 new ≤ field 12 4 e

/-- The staged bundle is compatible for a mode: `rebuild` selects the FLAGS bit (R587). -/
def compatible (s : State) (rebuild : Bool) : Bool :=
  let new := s.fw.freeHdr
  let run := s.fw.sram.headD []
  match ((List.range (field 26 1 new)).map (compatEntry new)).find? (entryMatches new run) with
  | none => false
  | some e =>
    field 18 1 e / (if rebuild then 2 else 1) % 2 == 1 &&
    (s.fw.reloadAtStart ||
      s.engines.all (fun x => x.state == .failed || (field 8 4 e ≤ x.ucode && x.ucode ≤ field 12 4 e)))

/-- SEC_FLOOR of a block 0. -/
def secFloor (h : List Byte) : Nat := field 22 2 h

/-- The protocol range of an image includes a version. -/
def protoIn (h : List Byte) (v : BitVec 16) : Bool := field 28 2 h ≤ v.toNat && v.toNat ≤ field 30 2 h

end Sys2Proof.Machine
end

