-- ==== Sys2Proof/Machine/Staging.lean ====
section
/-!
DEFINITION. How the blocks of a bundle come in from host memory and go to the Attic (R529, R588): the copy that FW_STAGE
makes (R591 to R593), and the end of a forwarded stage (R607 to R609).
-/

namespace Sys2Proof.Machine

/-- The address of an Attic slot: of the running one, or of the free one (R588, R589). -/
def State.slotAddr (s : State) (running : Bool) : Nat :=
  s.fw.base + (if s.fw.runSlot == running then 2097152 else 0)

/-- Reads block i of a bundle through hw0 under tag 0 (R529, R588). -/
def askBlock (addr i : Nat) (s : State) : State := readReq 0 (addr + 4096 * i) 4096 0 (.image i) 0 s

/-- Writes block i of a bundle to an Attic slot (R588). -/
def putBlock (addr i : Nat) (b : List Byte) (s : State) : State := writeReq 0 (addr + 4096 * i) b 0 (.attic i) s

/-! ### FW_STAGE -/

/-- A FW_STAGE does not succeed. -/
def copyFails (st : Status) (d : Nat) (s : State) : State := reply 0 st d [] (dropStage st s)

/-- Reads the next block of the bundle that is copied. A halted hw0 fails the read. DESIGN CHOICE: log entry 94. -/
def copyNext (c : Copy) (s : State) : State :=
  if (s.port 0).halted then copyFails .fwFabric c.blocks.length s else askBlock c.addr c.blocks.length s

/-- A block of the bundle that is copied has come in: its CRC-32C is checked, it is forwarded, and it goes to the slot (R592,
R607). -/
def copyBlock (c : Copy) (b : List Byte) (s : State) : State :=
  let i := c.blocks.length
  if !blockOk b then copyFails .fwImageFormat i s
  else if (s.port 0).halted then copyFails .fwFabric i s
  else
    let s := { s with fw := { s.fw with copy := some { c with blocks := c.blocks ++ [b] } } }
    let s := if c.target == 1 then modLink true (Link.send 0x0101 (.block i b (i + 1 == c.n))) s else s
    putBlock (s.slotAddr (c.target == 2)) i b s

/-- Every block has been written: Table 17-3, and for KEEP the comparison with the running bundle, decide (R591, R593). -/
def copyDone (c : Copy) (s : State) : State :=
  match bundleFault s.build (if c.target == 2 then none else some s.fw.floor) c.blocks with
  | some (st, d) => copyFails st d s
  | none =>
    if c.target == 2 && (c.blocks.headD []).take 608 != (s.fw.sram.headD []).take 608 then
      copyFails .fwNotRunningImage 0 s
    else
      let f := { s.fw with copy := none, state := .idle }
      reply 0 .ok 0 (leBytes 4 c.n ++ leBytes 4 0) { s with fw :=
        if c.target == 2 then { f with runValid := true } else { f with freeValid := true, freeHdr := c.blocks.headD [] } }

/-- A block has been written to the slot; the next is read. -/
def copyWritten (c : Copy) (s : State) : State :=
  let s := { s with fw := { s.fw with stageBlocks := c.blocks.length } }
  if c.blocks.length < c.n then copyNext c s else copyDone c s

/-! ### Forwarded stages -/

/-- Sends a report upstream with this block's position. -/
def reportUp (ver : BitVec 16) (r : ReportKind) (s : State) : State :=
  modLink false (Link.send ver (.report r s.position)) s

/-- A forwarded stage ends, its free slot invalid. -/
def endForward (s : State) : State :=
  if s.fw.fwding then
    dropImages { s with fw := { s.fw with state := .idle, fwding := false, fwdLast := false, fwd := [], freeValid := false } }
  else s

/-- A forwarded stage ends without success (R609). -/
def fwdFails (st : Status) (s : State) : State :=
  let s := endForward s
  reportUp 0x0101 .stageFailed { s with fw := { s.fw with lastStatus := st.code.toNat } }

/-- Every forwarded block has been written: Table 17-3 decides, against this block's own floor (R607). -/
def fwdDone (s : State) : State :=
  match bundleFault s.build (some s.fw.floor) s.fw.fwd with
  | some (st, _) => fwdFails st s
  | none => reportUp 0x0101 .staged { s with fw := { s.fw with
      state := .idle, fwding := false, fwdLast := false, fwd := [], freeValid := true, freeHdr := s.fw.fwd.headD [] } }

/-- Blocks of a forwarded stage that have been written (Table 17-11). -/
def State.fwdWritten (s : State) : Nat :=
  ((List.range s.fw.fwd.length).filter (fun i => writesLeft s 0 (fun w => w == .attic i) == 0)).length

/-- A write to the Attic has been acknowledged; the blocks written so far may be all that were asked for. -/
def atticWritten (s : State) : State :=
  let s := if s.fw.fwding then { s with fw := { s.fw with stageBlocks := s.fwdWritten } } else s
  if writesLeft s 0 Owner.firmware != 0 then s
  else
    match s.fw.copy with
    | some c => copyWritten c s
    | none => if s.fw.fwding && s.fw.fwdLast then fwdDone s else s

end Sys2Proof.Machine
end

