-- ==== Sys2Proof/Machine/Bringup.lean ====
section
/-!
DEFINITION. Resets and bring-up: what each reset leaves of every item (Table 18-7), the steps of Table 15-1 from the
image to cmd_rdy, the start of a device soft reset, and Landing: rebuilds and fallbacks of the Study image.
-/

namespace Sys2Proof.Machine

/-! ### What a reset of the MAIN units leaves (R636, Table 18-7) -/

/-- A port after a reset of MAIN; HALTS counts since cold power-on. -/
def Port.cleared (keep : Bool) (p : Port) : Port := { Port.cold with halts := if keep then p.halts else 0 }

/-- Every MAIN item at the value of Table 18-7: for a device soft reset (`soft`), a block reset, or a cold power-on
(`cold`). STEP, ERR and DETAIL are kept by a device soft reset but that STEP reads 0x02 (R524). Of the Cellar only
FAULT_COUNT has a cold value (Table 16-9); the tie-offs and the pins are not touched. The numbers of transactions that
Wilto rolled back are kept but for a cold power-on (R69). DESIGN CHOICE: log entry 97. -/
def clearMain (soft cold : Bool) (s : State) : State :=
  let keep := !cold
  let o := if soft then s.boot else State.reset.boot
  { s with
    study := State.reset.study
    txn := { State.reset.txn with
      aborted := if keep then (if s.txn.opened then [s.txn.num] else []) ++ s.txn.aborted else [] }
    insts := State.reset.insts
    instSel := 0
    rings := []
    specs := []
    ops := []
    nextOp := 0
    sched := State.reset.sched
    core := 0
    rooms := { ratio := false, ratioNow := false, faults := if keep then s.rooms.faults else 0,
               alcoves := s.rooms.alcoves.map (fun _ => ⟨0, 0, [], [], 0, 0⟩), chachas := s.rooms.chachas.map (fun _ => 0),
               linger := [] }
    pan := { State.reset.pan with pinMax := s.build.slots / 4 }
    lar := { State.reset.lar with
      integrity := if keep then s.lar.integrity else 0, failStatus := if keep then s.lar.failStatus else 0,
      failIndex := if keep then s.lar.failIndex else 0 }
    keys := State.reset.keys
    hearth := { State.reset.hearth with
      faults := if keep then s.hearth.faults else 0, engines := s.hearth.engines.map (fun _ => Engine.cold) }
    scu := State.reset.scu
    hwy := { State.reset.hwy with ports := s.hwy.ports.map (Port.cleared keep) }
    boot := { o with goIgnored := false, step := if soft then 2 else 1, snapshot64 := false, run := none, lines := [] }
    fw := { State.reset.fw with floor := s.romFloor, sram := if soft then s.fw.sram else [] }
    pwr := { State.reset.pwr with
      lastWake := if soft then s.pwr.lastWake else 0, refuse := if soft then s.pwr.refuse else 0 }
    stair := { State.reset.stair with tick := 0, fromCellar := true }
    ecc := if keep then { s.ecc with upsets := [] } else ⟨0, 0, 0, []⟩
    diag := ⟨if keep then s.diag.fired else 0, [], s.diag.asserted⟩
    cel := if keep then s.cel else { s.cel with faultLog := [] }
    wraps := [], sampQ := [] }

/-- MAIN has left reset, or a device soft reset has come to its end: a lock sequence that was running has nothing left to do
(R577). -/
def romStarts (s : State) : State := { s with cel := { s.cel with step := .idle, lockDone := false } }

/-- Bring-up ends in STOPPED (R521). -/
def bootStop (err : Nat) (s : State) : State :=
  { s with boot := { s.boot with step := 0xFF, err := err, detail := 0, run := none, lines := [] } }

/-! ### Bring-up from the image on (R520 to R536) -/

/-- A failed step returns to step 5 with Study SRAM zero-filled (R522). -/
def bootFail (err detail : Nat) (s : State) : State :=
  dropImages { s with
    boot := { s.boot with step := 4, err := err, detail := detail, run := none, lines := [] },
    fw := { s.fw with sram := [], imageRuns := false } }

/-- Sends one fault report for each unit that fails its self-test (R322). -/
def reportUnits (n : Nat) (s : State) : State := (List.range n).foldl (fun s _ => faultReport s) s

/-- Step 7: microcode is loaded into every engine, and every unit and Scullery core that passes its self-test is in service
(R531). -/
def startUnits (b : BringUp) (s : State) : State :=
  let na := 2 * s.build.rooms
  let bad := fun (n : Nat) (ok : List Nat) => ((List.range n).filter (fun i => !ok.contains i)).length
  let s := { s with
    scu := { s.scu with cores := (List.range 16).filter b.coresOk.contains }
    fw := { s.fw with rollout := [] }
    rooms := { s.rooms with
      alcoves := s.rooms.alcoves.zipIdx.map (fun p => ⟨if b.alcovesOk.contains p.2 then 0 else 2, 0, [], [], 0, 0⟩),
      chachas := s.rooms.chachas.zipIdx.map (fun p => if b.chachasOk.contains p.2 then 0 else 2) },
    hearth := { s.hearth with engines := s.hearth.engines.zipIdx.map (fun p =>
      { Engine.cold with state := if b.enginesOk.contains p.2 then .idle else .failed, ucode := s.fw.ucode }) } }
  reportUnits (bad na b.alcovesOk + bad s.build.rooms b.chachasOk + bad s.build.engines b.enginesOk) s

/-- Step 8 once the startup test has passed: the CTR_DRBGs, the root secret and the key pairs (R532). DESIGN CHOICE: log entry
56. -/
def startKeys (fails : Nat) (s : State) : State :=
  let s := newDrbgs { s with keys := { s.keys with rngFail := s.keys.rngFail || fails != 0, rngOk := true } }
  let s := if s.cel.rootPresent then s else newRoot s
  { s with keys := { s.keys with identReady := true }, cel := { s.cel with zeroRuns := false } }

/-- The fabric record is right (Table 15-5). -/
def recordOk (b : List Byte) : Bool :=
  b.length == 64 && b.take 4 == [0x48, 0x57, 0x59, 0x46] && field 4 2 b == 1 && field 6 2 b < 4 && field 12 52 b == 0

/-- The scratch line as one port has read it in step 9. -/
def Boot.line (b : Boot) (p : Nat) : Option (List Byte) := (b.lines.find? (fun x => x.1 == p)).bind (·.2)

/-- The lowest port on which the reads of step 9 fail (R533). -/
def exchangeFault (b : Boot) : Option Nat :=
  match b.line 0 with
  | none => some 0
  | some rec =>
    if !recordOk rec then some 0 else (List.range 8).find? (fun p => b.line p != some rec)

/-- A link that is tied on starts training (R538). -/
def Link.train (en : Bool) : Link := if en then { Link.cold with state := .training } else Link.cold

/-- Step 8: after three startup tests that fail, ERR RNG (R532); otherwise the keys, and then `k`. -/
def entropyRuns (fails : Nat) (k : State → State) (s : State) : State :=
  if 3 ≤ fails then bootFail 7 0 { s with keys := { s.keys with rngFail := true, rngOk := false } } else k (startKeys fails s)

/-- Step 8 runs again where a zeroisation has fallen since, and then `k` (R527). DESIGN CHOICE: log entry 65. -/
def entropyAgain (b : BringUp) (k : State → State) (s : State) : State :=
  if s.cel.rootPresent then k s else entropyRuns b.againFails k s

/-- Step 9 starts: Stair training, and the tick from the Cellar's value (R538, R547). Links that an earlier GO has started go
on. -/
def startStair (s : State) : State :=
  if s.stair.trained then s
  else
    { s with
      stair := { s.stair with
        up := Link.train s.upEn, dn := Link.train s.dnEn, tick := s.cel.tick, fromCellar := false, holdUntil := 0,
        trained := true } }

/-- The exchange of step 9 has ended well: SNAPSHOT64 (R534), and step 10. -/
def serviceEnd (b : BringUp) (s : State) : State :=
  entropyAgain b (fun s => { s with boot := { s.boot with
    snapshot64 := field 6 2 ((s.boot.line 0).getD []) % 2 == 1, step := 9, lines := [] } }) s

/-- Every command queue and event queue is disabled (R536). -/
def closeQueues (s : State) : State :=
  { s with insts := s.insts.map (fun p => (p.1, { p.2 with
      cq := { p.2.cq with enable := false }, eq := { p.2.eq with enable := false } })) }

/-- Step 10 ends (R535), and cmd_rdy rises (R536). -/
def pantryEnd (b : BringUp) (s : State) : State :=
  if !b.pantryOk then bootStop 9 { s with fw := { s.fw with imageRuns := false } }
  else
    entropyAgain b (fun s => raiseCmdRdy (closeQueues { s with
      boot := { s.boot with run := none, step := 0x0A },
      fw := { s.fw with floor := max s.romFloor (secFloor (s.fw.sram.headD [])) },
      pan := { s.pan with slots := [] }, lar := { s.lar with nodes := [] },
      pwr := { s.pwr with grants := true } })) s

/-- Bytes 64 to 127 of the scratch line (Table 15-5); the measured round trips are free values. -/
def ourLine (s : State) : List Byte :=
  [0x57, 0x4C, 0x54, 0x43] ++ leBytes 2 s.build.code ++ leBytes 2 0 ++ leBytes 4 s.fw.version ++ leBytes 4 s.fw.ucode ++
    ((List.range 8).map (fun p => leBytes 2 (Config.freeNat (s.freeCtr + p)))).flatten ++ leBytes 32 0

/-- The scratch line has been read through a port, or the read has failed; after the eighth, the records are compared and
Wilto writes its own (R533). -/
def lineCame (p : Nat) (x : Option (List Byte)) (s : State) : State :=
  let s := { s with boot := { s.boot with lines := s.boot.lines ++ [(p, x)] } }
  if s.boot.lines.length < 8 then s
  else
    match exchangeFault s.boot with
    | some n => bootFail 8 n s
    | none =>
      if (s.port 0).halted then bootFail 8 0 s
      else
        let line := ourLine s
        writeReq 0 (s.boot.scratch + 64) line 0 .lineW (draw { s with freeCtr := s.freeCtr + 7 })

/-- Reads the scratch line through a port (R533). A halted port fails the read. DESIGN CHOICE: log entry 94. -/
def askLine (p : Nat) (s : State) : State :=
  if (s.port p).halted then lineCame p none s else readReq p s.boot.scratch 64 0 (.line p) 0 s

/-- Wilto's half of the scratch line has been written, or not. -/
def lineWritten (ok : Bool) (s : State) : State :=
  match s.boot.run with
  | some b => if ok then serviceEnd b s else bootFail 8 0 s
  | none => s

/-- Step 7 of Table 15-1: the image in Study SRAM starts, and the units. DESIGN CHOICE: log entry 65. -/
def serviceFrom (b : BringUp) (s : State) : State :=
  startUnits b (holdRegs { s with
    fw := { s.fw with imageRuns := true }, boot := { s.boot with step := 6, run := some b, lines := [] } })

/-- Step 9: Stair training starts, and the reads of the scratch line (R533, R538). -/
def exchangeStarts (s : State) : State :=
  (List.range 8).foldl (fun s p => askLine p s) (startStair { s with boot := { s.boot with step := 8 } })

/-- The image is in Study SRAM: the acceptance rules, with the floor of Foundation ROM in step 5 of Table 17-3, and
the steps from 7 on (R530, R585). DESIGN CHOICE: log entry 65. -/
def bootImage (b : BringUp) (s : State) : State :=
  match bundleFault s.build (some s.romFloor) s.fw.sram with
  | some _ => bootFail 6 0 s
  | none => serviceFrom b s

/-- Reads the next block of the image (R529). -/
def bootAsk (s : State) : State :=
  if (s.port 0).halted then bootFail 4 s.fw.sram.length s else askBlock s.boot.addr s.fw.sram.length s

/-- Bring-up from the bundle held in Study SRAM (R621). -/
def bootFromSram (b : BringUp) (s : State) : State :=
  if s.fw.sram.isEmpty || !s.fw.sram.all blockOk then bootFail 6 0 s else bootImage b s

/-- Step 5: Foundation ROM waits for GO; a device soft reset ends with ERR IMAGE (R601, R630), or goes on with the image that it
has kept (R621). -/
def toWaitGo (s : State) : State :=
  let p := s.pwr
  let s := { s with boot := { s.boot with step := 4 }, pwr := { p with romAfter := false, keepImage := false, bring := none } }
  if p.romAfter then bootFail 6 0 s
  else match p.keepImage, p.bring with
    | true, some b => bootFromSram b s
    | _, _ => s

/-- A microsecond of bring-up: a step that no other row ends comes to its end (R520). DESIGN CHOICE: log entry 111.
DEDUCED: log entry 37. -/
def bootTick (s : State) : State :=
  if s.fw.landing.isSome || s.pwr.softReset.isSome then s
  else match s.boot.step, s.boot.run with
    | 1, _ => { s with boot := { s.boot with step := 2 } }
    | 2, _ => if s.boot.rom.cellarOk && !s.cel.asserting.getLsbD 8 then { s with boot := { s.boot with step := 3 } } else bootStop 1 s
    | 3, _ => if s.boot.rom.romOk then toWaitGo s else bootStop 2 s
    | 6, some _ => { s with boot := { s.boot with step := 7 } }
    | 7, some b => entropyRuns b.startupFails exchangeStarts s
    | 9, some b => pantryEnd b s
    | _, _ => s

/-- What GO starts once it is taken (R524, R528, R529). DESIGN CHOICE: log entry 65. -/
def bootFromHost (b : BringUp) (s : State) : State :=
  let len := s.boot.len
  let s := { s with boot := { s.boot with err := 0, detail := 0 } }
  if len % 4096 != 0 || len < 4096 || len > 16777216 || s.boot.addr + len > 2 ^ 52 then bootFail 3 0 s
  else bootAsk { s with boot := { s.boot with step := 5, run := some b }, fw := { s.fw with sram := [] } }

/-- A block of the image has come in (R529). -/
def bootBlock (b : BringUp) (blk : List Byte) (s : State) : State :=
  if !blockOk blk then bootFail 5 s.fw.sram.length s
  else
    let s := { s with fw := { s.fw with sram := s.fw.sram ++ [blk] } }
    if s.fw.sram.length < s.boot.len / 4096 then bootAsk s else bootImage b s

/-! ### A device soft reset starts (step 1 of Table 18-3) -/

/-- No packet has been taken that is not answered, but for one queue's. -/
def quietStudy (except : Option Nat) (s : State) : Bool :=
  s.insts.all (fun p => except == some p.1 || (p.2.cq.arrived.isNone && p.2.cq.serving.isNone))

/-- Step 1 of Table 18-3: no grant, no speculative copy, no transaction; the tick goes to the Cellar exactly (R548).
Doze ends. `r` is what Foundation ROM will meet, `b` what the bring-up will if KEEP_IMAGE is set. DESIGN CHOICE: log entry
92. -/
def startSoftReset (keep rom : Bool) (b : Option BringUp) (r : RomTest) (s : State) : State :=
  let s := (if s.fw.copy.isSome || s.fw.fwding then fun s => s else dropImages) { s with
    cel := { s.cel with tick := s.tickNow }, stair := { s.stair with fromCellar := true }, specs := [],
    fw := { s.fw with landing := none }, boot := { s.boot with rom := r, run := none, lines := [] },
    pwr := { s.pwr with state := .active, step := 0, softReset := some 1, keepImage := keep, romAfter := rom, softUs := 0, bring := b,
                        grants := false, entry := none, target := 0 },
    diag := { s.diag with armed := [] } }
  let s := dropReads (fun w => match w with
    | .spec _ _ => true
    | _ => false) s
  endTxn 5 true s

/-! ### The Study image restarts: rebuilds, activations, fallbacks (R596, R599 to R605, R618) -/

/-- The engines whose microcode the image will replace: every engine under RELOAD_AT_START (R604), otherwise those
whose microcode is not the bundle's (R603). They take no new work where `hold` says so, and where they took none before
(R605). -/
def startRollout (hold : Bool) (s : State) : State :=
  let nums := (List.range s.build.engines).filter (fun i =>
    match s.hearth.engines[i]? with
    | some e => e.state != .failed && (s.fw.reloadAtStart || e.ucode != s.fw.ucode)
    | none => false)
  let s := { s with fw := { s.fw with rollout := nums } }
  { s with hearth := { s.hearth with engines := s.hearth.engines.zipIdx.map (fun p =>
    { p.1 with drain := nums.contains p.2 && (hold || p.1.drain || s.fw.reloadAtStart || nums.head? == some p.2) }) } }

/-- Packets that a Study restart answers with STUDY_RESTARTED: taken and not applied (R44). -/
def restartKeeps (_q : Nat) (_p : List Byte) (w : Wait) : Bool :=
  match w with
  | .none => false
  | .envDone => false
  | .engine => false
  | .handover => false
  | .attach => false
  | .stage => false
  | .share _ _ _ _ => false
  | .counter _ _ _ _ _ => false
  | .resume _ => false
  | .commit => false
  | _ => true

/-- cmd_rdy falls for a restart: the transaction rolls back with LAST_END 5 (R68), and a stage that runs ends. DESIGN CHOICE:
log entry 66. -/
def imageStops (s : State) : State :=
  let s := endTxn 5 true (lowerCmdRdy (endForward (dropStage .studyRestarted s)))
  { s with fw := { s.fw with imageRuns := false } }

/-- The image in Study SRAM starts as a rebuild (Table 17-8): protocol (R50), Scullery contexts of the Study, its
CTR_DRBG, KEYIN, a new HELLO on each link, replies of R44, microcode. DESIGN CHOICE: log entry 66. -/
def rebuildImage (hold : Bool) (s : State) : State :=
  let s := { s with
    study := { s.study with proto := if protoIn (s.fw.sram.headD []) s.study.proto then s.study.proto else 0x0100 },
    scu := { s.scu with ctxs := s.scu.ctxs.zipIdx.map (fun p => if p.2 < 48 then p.1 else ScuCtx.free) },
    keys := { s.keys with keyin := [], keyinOvf := false, keyinBusy := s.keys.kekPending.isSome },
    stair := { s.stair with up := s.stair.up.helloAgain, dn := s.stair.dn.helloAgain },
    fw := { s.fw with imageRuns := true } }
  let s := sendHellos (seedDrbgs (setDrbg drbgStudy Drbg.cold s))
  startRollout hold (answerTaken .studyRestarted restartKeeps (raiseCmdRdy s))

/-- Records the status of a stage, activation or fallback that did not succeed. DEDUCED: log entry 61. -/
def fwLast (st : Status) (s : State) : State := { s with fw := { s.fw with lastStatus := st.code.toNat } }

/-- The reply that a FW_ACTIVATE still has to get from the image that now runs (R600, step 5 of Table 17-7). -/
def answerActivate (st : Status) (s : State) : State :=
  if s.fw.replyDue then
    reply 0 st 0 (leBytes 4 s.fw.version ++ leBytes 4 0) { s with fw := { s.fw with replyDue := false } }
  else s

/-- The slots change their roles, each with its validity and with FROM_STAIR. -/
def swapSlots (f : Fw) : Fw := { f with
  runSlot := !f.runSlot, runValid := f.freeValid, freeValid := f.runValid, fromStair := f.runStair, runStair := f.fromStair }

/-- A restart ends in a device soft reset (R601): what was taken and not applied is answered first (R44). -/
def giveUp (r : RomTest) (s : State) : State :=
  startSoftReset false true none r (answerTaken .studyRestarted restartKeeps { s with fw := { s.fw with sram := [] } })

/-- Landing has the bundle that ran before, and starts it (R599 to R601). -/
def fallEnd (l : Landing) (s : State) : State :=
  let s := { s with fw := { s.fw with state := .idle } }
  if (bundleFault s.build none l.got).isSome then giveUp l.run.rom s
  else answerActivate .fwFellBack (rebuildImage true { s with fw := { s.fw with sram := l.got } })

/-- Landing starts the staged image (Table 17-7 step 5, R596): `handover`, with a handover record of the old one. -/
def startStaged (handover : Bool) (l : Landing) (s : State) : State :=
  let f := swapSlots { s.fw with freeHdr := s.fw.sram.headD [], sram := l.got }
  let s := { s with fw := { f with state := .trial, tick := 0 } }
  answerActivate .ok (
    if handover then
      startRollout false (raiseCmdRdy { s with
        study := { s.study with
          proto := if protoIn (s.fw.sram.headD []) s.study.proto then s.study.proto else 0x0100 },
        fw := { s.fw with imageRuns := true } })
    else rebuildImage false s)

/-- The running image starts again, in bring-up from step 7 of Table 15-1 (R618). -/
def imageAgain (s : State) : State :=
  match s.boot.run with
  | some b => serviceFrom b s
  | none => rebuildImage false s

/-- The running image starts again: from the copy in Study SRAM, or from the running slot, or R601 (R618). -/
def restartEnd (l : Landing) (s : State) : State :=
  if l.run.sramOk then imageAgain s
  else if (bundleFault s.build none l.got).isSome then giveUp l.run.rom s
  else imageAgain { s with fw := { s.fw with sram := l.got } }

/-- What Landing comes to, by the kind of its run. -/
def landingEnd (l : Landing) (s : State) : State :=
  let s := { s with fw := { s.fw with landing := none } }
  match l.kind with
  | 0 => startStaged true l s
  | 1 => startStaged false l s
  | 2 => fallEnd l s
  | _ => restartEnd l s

/-- Landing has all it needs, and runs on, with cmd_rdy low, for the time that its run takes; doorbells, grants, dispatches
and completions go on (R12). DESIGN CHOICE: log entry 66. -/
def land (l : Landing) (s : State) : State :=
  if l.us == 0 then landingEnd l s else { s with fw := { s.fw with landing := some { l with reading := false } } }

/-- A microsecond of Landing passes. -/
def landingTick (s : State) : State :=
  match s.fw.landing with
  | none => s
  | some l =>
    if l.reading then s
    else if l.us ≤ 1 then landingEnd l s
    else { s with fw := { s.fw with landing := some { l with us := l.us - 1 } } }

/-- Blocks of the bundle that Landing reads: block 0 says how many. -/
def Landing.total (l : Landing) : Nat :=
  match l.got with
  | [] => 1
  | h :: _ => min 320 (field 8 4 h)

/-- Landing reads the next block: the staged bundle from the free slot, any other from the running one (R599, R618). -/
def landAsk (l : Landing) (s : State) : State :=
  askBlock (s.slotAddr (2 ≤ l.kind)) l.got.length { s with fw := { s.fw with landing := some l } }

/-- Landing cannot read the bundle that should run: R601. -/
def landLost (r : RomTest) (s : State) : State :=
  giveUp r { s with fw := { s.fw with
    landing := none, state := if s.fw.state == .fallingBack then .idle else s.fw.state } }

/-- Landing reads the running slot from its block 0. A halted hw0 fails the read. DESIGN CHOICE: log entry 94. -/
def readSlot (kind : Nat) (x : LandingRun) (s : State) : State :=
  if (s.port 0).halted then landLost x.rom s else landAsk ⟨x.us, kind, x, true, []⟩ s

/-- Landing falls back to the bundle that ran before (R599 to R601). `swapped`: the roles had changed, and the slot of the
failed bundle, whose block 0 Study SRAM holds, is the free one again. -/
def fallBack (swapped : Bool) (x : LandingRun) (s : State) : State :=
  let s := imageStops (dropImages s)
  let f := if swapped then swapSlots { s.fw with freeHdr := s.fw.sram.headD [] } else s.fw
  readSlot 2 x (fwLast .fwFellBack { s with fw := { f with
    state := .fallingBack, armedHere := false, byChain := false } })

/-- A read or a check of Landing has failed (R599, R601). -/
def landFails (l : Landing) (s : State) : State :=
  if l.kind < 2 then fallBack false l.run { s with fw := { s.fw with freeValid := false, landing := none } }
  else landLost l.run.rom (dropImages s)

/-- Landing has the whole bundle: a staged one is checked against the block 0 accepted at staging, and checks itself (Table
17-7 steps 3 and 4). -/
def landRead (l : Landing) (s : State) : State :=
  if 2 ≤ l.kind then land l s
  else if !digestOk (l.got.headD []) (l.got.drop 1) then landFails l s
  else if !l.run.selfCheck then fallBack false l.run { s with fw := { s.fw with landing := none } }
  else land l s

/-- A block has come in for Landing. -/
def landBlock (l : Landing) (b : List Byte) (s : State) : State :=
  let l' := { l with got := l.got ++ [b] }
  if !blockOk b then landFails l s
  else if l'.got.length ≥ l'.total then landRead l' s
  else if (s.port 0).halted then landFails l s
  else landAsk l' s

/-- An activation (Table 17-7 steps 2 and 3, R596): cmd_rdy falls, and Landing reads the staged bundle from block 1 on.
`handover`: the old image leaves a handover record. -/
def activate (handover : Bool) (x : LandingRun) (s : State) : State :=
  let s := imageStops s
  let l : Landing := ⟨x.us, if handover then 0 else 1, x, true, [s.fw.freeHdr]⟩
  if (s.port 0).halted then landFails l s else landAsk l s

/-- Nothing more is read or written of the scratch line. -/
def dropLines (s : State) : State :=
  let line := fun (w : Owner) => match w with
    | .line _ => true
    | .lineW => true
    | _ => false
  { disownWrites line (dropReads line s) with boot := { s.boot with lines := [] } }

/-- The running image restarts (R618). -/
def restartImage (x : LandingRun) (s : State) : State :=
  if x.sramOk then land ⟨x.us, 3, x, false, []⟩ s else readSlot 3 x s

/-- A Study restart (R618); in TRIAL, or while a handover, an activation or a fallback runs, the fallback (R599, R619). -/
def restartStudy (x : LandingRun) (s : State) : State :=
  match s.fw.landing with
  | some l => if l.kind == 3 then restartImage x (dropImages s) else fallBack false x s
  | none => if s.fw.state == .trial then fallBack true x s else restartImage x (imageStops (dropLines s))

/-! ### Blocks that come in -/

/-- Block i of a bundle has come in for the bring-up, for Landing, or for FW_STAGE. -/
def imageCame (b : List Byte) (s : State) : State :=
  match s.fw.landing, s.boot.run, s.fw.copy with
  | some l, _, _ => landBlock l b s
  | none, some x, _ => bootBlock x b s
  | none, none, some c => copyBlock c b s
  | none, none, none => s

/-- The read of block i, or its write to the Attic, has failed. These errors halt no port (R529, R592). -/
def imageFailed (i : Nat) (s : State) : State :=
  match s.fw.landing, s.boot.run, s.fw.copy with
  | some l, _, _ => landFails l (dropImages s)
  | none, some _, _ => bootFail 4 i s
  | none, none, some _ => copyFails .fwFabric i s
  | none, none, none => if s.fw.fwding then fwdFails .fwFabric s else s

/-- A read or a write of the firmware on hw n has failed. -/
def firmwareFailed (n : Nat) (w : Owner) (s : State) : State :=
  match w with
  | .image i => imageFailed i s
  | .attic i => imageFailed i s
  | .line _ => lineCame n none (dropReads (fun v => v == w) s)
  | .lineW => lineWritten false s
  | _ => s

/-- hw n, as it was until now, halts: firmware reads and writes that it has not issued or not answered fail. DESIGN CHOICE:
log entry 94. -/
def firmwareHalted (n : Nat) (p : Port) (s : State) : State :=
  let waits := (p.rds.filter (fun r => !r.quar && !r.drop)).map (·.owner) ++ p.rdQ.map (·.owner) ++ p.wrQ.map (·.owner)
  match waits.find? Owner.firmware with
  | some w => firmwareFailed n w s
  | none => s

end Sys2Proof.Machine
end

