-- ==== Sys2Proof/Machine/Lifecycle.lean ====
section
/-!
DEFINITION. The sequences that go on by themselves as their conditions come true: the lock sequence, the device soft
reset (Table 18-3), the entries to the power states (Table 18-5); and `finish`, with which a command ends that may
have brought one of them forward.
-/

namespace Sys2Proof.Machine

/-! ### The device soft reset (R620, R621) -/

/-- Answers with DRAIN_PENDING every packet in service whose drain outlasts step 1; the commands go on as late ones (R39,
log entry 33). -/
def answerDrains (s : State) : State :=
  answerTaken .drainPending (fun _ _ w => match w with
    | .abort _ _ => false
    | _ => true) ((s.insts.map (·.1)).foldl (fun s q => drainLate q s) (dropStage .drainPending s))

/-- Steps 5 and 6 of Table 18-3: every MAIN item as Table 18-7 gives, and bring-up from step 3 of Table 15-1. -/
def softEnd (s : State) : State :=
  let p := s.pwr
  let s := romStarts (clearMain true false s)
  { s with
    pwr := { s.pwr with romAfter := p.romAfter, keepImage := p.keepImage, bring := p.bring },
    fw := if p.keepImage then s.fw else { s.fw with sram := [] } }

/-- Step 3 of Table 18-3: operations that still hold entries are abandoned as old-generation ones. -/
def abandonOps (s : State) : State :=
  let s := s.ops.foldl (fun s o => makeOld o s) s
  (s.insts.map (·.1)).foldl (fun s i => dropTagged i s) s

/-- The flush of a soft reset starts once no lock flush runs; references that remain belong to abandoned
operations. -/
def softFlush (s : State) : State :=
  if s.lar.flush.isSome then s
  else
    let s := releaseAll (fun _ => true) s
    startFlush .softReset { s with pwr := { s.pwr with softReset := some 4 }, lar := { s.lar with flushRes := none } }

/-- What of a device soft reset can go on. DEDUCED: log entry 33. -/
def softProgress (s : State) : State :=
  match s.pwr.softReset with
  | some 1 =>
    if quietStudy none s || s.pwr.softUs ≥ 1000 then
      let s := lowerCmdRdy (answerDrains s)
      { s with pwr := { s.pwr with softReset := some 2, softUs := 0 } }
    else s
  | some 2 =>
    if s.ops.isEmpty then softFlush s
    else if s.pwr.softUs ≥ 10000 then
      let s := abandonOps s
      { s with pwr := { s.pwr with softReset := some 3, softUs := 0 } }
    else s
  | some 3 => if s.hearth.engines.all (fun e => e.op.isNone) || s.pwr.softUs ≥ 12 then softFlush s else s
  | some 4 => if s.lar.flushRes.isSome && s.lar.flush.isNone then softEnd s else s
  | _ => s

/-! ### Power states (R624 to R634) -/

/-- A refused or failed entry (Table 18-6): Wilto stays in its state (R624). -/
def refusePower (code : Nat) (s : State) : State :=
  { s with pwr := { s.pwr with entry := none, step := 0, target := 0, refuse := code,
                               state := if s.pwr.state == .doze then .doze else .active } }

/-- Nothing of a port outlives the loss of MAIN but its settings and its count of halts (Table 18-7). -/
def Port.quietened (p : Port) : Port := { p with rds := [], wrs := [], rdQ := [], wrQ := [] }

/-- A port has nothing outstanding and nothing to issue; a halted one issues nothing. -/
def Port.atRest (p : Port) : Bool := p.halted || (p.rds.isEmpty && p.wrs.isEmpty && p.rdQ.isEmpty && p.wrQ.isEmpty)

/-- Steps 4 to 6 of Table 18-5: memories are zero-filled, the clamps engage, MAIN loses power (R487, R516). In Off the
key store, the permits, KEYIN and the CTR_DRBGs are lost (Table 10-16). The tick
goes to the Cellar exactly (R548). -/
def mainOff (retain : Bool) (s : State) : State :=
  let t := s.tickNow
  let s := mapEngines (fun e => { e with owner := none, hdr := [], data := [], regs := EngRegs.zero }) s
  let s := if retain then s else
    { s with
      insts := s.insts.map (fun p => (p.1, { p.2 with kek := Kek.none })), keys := State.reset.keys,
      rooms := { s.rooms with alcoves := s.rooms.alcoves.map (fun a => { a with dummyKey := [], dummyIn := [] }) } }
  { s with
    study := { s.study with cmdRdy := false }, specs := [], rooms := { s.rooms with linger := [] },
    hwy := { s.hwy with ports := s.hwy.ports.map Port.quietened, pieces := [], arrived := [] }, pan := { s.pan with slots := [] },
    lar := { s.lar with nodes := [], fetches := [], misses := [], flushRes := none },
    cel := { s.cel with tick := t },
    stair := { s.stair with fromCellar := true, up := Link.cold, dn := Link.cold, trained := false },
    fw := if retain then s.fw else { s.fw with sram := [] },
    pins := { s.pins with iso := true, mainReq := false, memRet := retain, mainUp := false },
    pwr := { s.pwr with entry := none, step := 0, state := if retain then .retain else .off, tickAtEntry := t } }

/-- A port that holds a quarantined ID (REFUSE 8). -/
def quarantined (s : State) : Bool :=
  s.hwy.ports.any (fun p => p.rds.any (·.quar) || p.wrs.any (·.quar))

/-- What of an entry to Doze, Retain or Off can go on; the grants have stopped at a round boundary (R625). Step 6 of Table 18-5
waits for the transfers that are outstanding (R624). -/
def powerProgress (s : State) : State :=
  match s.pwr.entry with
  | none => s
  | some t =>
    match s.pwr.step with
    | 1 =>
      if s.pwr.grants || !s.ops.isEmpty || s.rings.any (fun r => r.2.harvOut.isSome) then s
      else if t == .doze then { s with pwr := { s.pwr with entry := none, step := 0, state := .doze } }
      else if quarantined s then refusePower 8 s
      else { s with pwr := { s.pwr with step := 2, state := .active, softUs := 0 } }
    | 2 =>
      if quietStudy none s || s.pwr.softUs ≥ 1000 then
        if s.lar.flush.isSome || s.fw.landing.isSome then s
        else
          let s := lowerCmdRdy (answerDrains s)
          startFlush .power { s with pwr := { s.pwr with step := 3 }, lar := { s.lar with flushRes := none } }
      else s
    | 3 =>
      match s.lar.flushRes with
      | some true => if s.hwy.ports.all Port.atRest then mainOff (t == .retain) s else s
      | some false =>
        let s := raiseCmdRdy (refusePower 6 { s with lar := { s.lar with flushRes := none } })
        { s with pwr := { s.pwr with grants := true } }
      | none => s
    | _ => s

/-! ### Lost memories (Table 19-3) -/

/-- A lost directory, or a lost dirty node: once no reference is held, the Pantry and the node cache go without a flush
and the store is stale. -/
def dirProgress (s : State) : State :=
  if s.pan.dirFault && s.ops.all (fun o => o.ref.isNone) && s.lar.flush.isNone then
    let s := (s.pan.slots.filter (fun p => retireDue s p.2)).foldl (fun s p => zeroiseRetired p.2 s) s
    clearPantry (makeStale s)
  else s

/-- A key store lost in both copies: once no reference is held the Larder is flushed, then every KEK, seed and permit
is gone. DEDUCED: log entry 60. -/
def keyProgress (s : State) : State :=
  if s.pan.keyFault == 1 && s.ops.all (fun o => o.ref.isNone) && s.lar.flush.isNone then
    startFlush .keyStore { s with pan := { s.pan with keyFault := 2 }, lar := { s.lar with flushRes := none } }
  else if s.pan.keyFault == 2 && s.lar.flush.isNone then
    { s with
      pan := { s.pan with keyFault := 0 }, lar := { s.lar with flushRes := none },
      insts := s.insts.map (fun p => (p.1, { p.2 with kek := Kek.none })),
      keys := { s.keys with permit := none, diag := none } }
  else s

/-! ### Microcode (R603, R604) -/

/-- An engine that takes no new work and holds none is loaded next (R431): all at once under RELOAD_AT_START, otherwise
the lowest still to load (R603, R604). -/
def loadProgress (s : State) : State :=
  { s with hearth := { s.hearth with engines := s.hearth.engines.zipIdx.map (fun p =>
    if p.1.drain && p.1.state == .idle && (s.fw.reloadAtStart || s.fw.rollout.head? == some p.2) then
      { p.1 with state := .loading } else p.1) } }

/-- An engine that a halt has kept with its operation is free once the operation's writes have been issued (R426,
Table 11-9). -/
def releaseProgress (s : State) : State :=
  mapEngines (fun e =>
    if e.state == .release && !s.hwy.ports.any (fun p => p.wrQ.any (fun w => w.owner.op? == e.op)) then
      { e with state := .idle, op := none } else e) s

/-- Everything that follows by itself from a change of state. DESIGN CHOICE: log entry 8. -/
def finish (s : State) : State :=
  let s := issueSamples (settle s)
  if s.pins.mainUp then
    let s := softProgress (lockProgress (keyProgress (dirProgress (flushStep (loadProgress (releaseProgress s))))))
    let s := powerProgress (softProgress s)
    if s.pins.mainUp then settle (softProgress (powerProgress s)) else s
  else s

/-- Any activity returns an idle block to Active (R623). -/
def stir (s : State) : State :=
  if s.pwr.state == .idle then { s with pwr := { s.pwr with state := .active } } else s

/-- A command that needs a stopped unit ends Doze (R626). DEDUCED: log entry 54. -/
def wakeForCommand (s : State) : State := wake 3 s

end Sys2Proof.Machine
end

