-- ==== Sys2Proof/Machine/Parts.lean ====
section
/-!
DEFINITION. What the part of an AEAD operation computes on its unit (Tables 7-2 and 7-3, R268 to R272), and how its blocks
pass their checks one after another (R299, R304).
-/

namespace Sys2Proof.Machine

/-- The operation runs on the ChaCha20-Poly1305 unit of its Room. -/
def Op.chacha (o : Op) : Bool :=
  match o.key with
  | some k => k.alg == 2
  | none => false

/-- A chain payload of more than 2,048 bytes (R298, R299, R309). -/
def Op.long (o : Op) : Bool := o.payload > 2048

/-- The block of the unit that runs an operation (Table 8-1). -/
def Op.unitBlock (o : Op) : Nat := if o.chacha then 64 else 16

/-- The IV: salt, then packet number (R272). -/
def Op.iv (o : Op) (k : KeyCopy) : List Byte := fillTo 4 k.salt ++ beBytes 8 (o.pn.getD 0)

/-- Data from the byte `o.done` of the part on, XOR its keystream (Table 7-3, R272): GCM counts payload blocks from counter
2, CTR and ChaCha20 from 1. -/
def xorPart (o : Op) (k : KeyCopy) (data : List Byte) : List Byte :=
  let block := (16384 * o.part + o.done) / o.unitBlock
  if k.alg == 2 then chachaXor k.key (o.iv k) (1 + block) data
  else ctrXor k.key (o.iv k) ((if o.head.d.opcode == 5 then 1 else 2) + block) data

/-- The AAD of the operation as it arrived. -/
def Op.aadBytes (o : Op) : List Byte := arrivedBytes o.aad 0 o.head.d.aadLen

/-- The tag of T bytes over AAD and processed data (R268, R269, Table 7-3). -/
def Op.tagBytes (o : Op) (k : KeyCopy) : List Byte :=
  (if k.alg == 2 then chachaTag k.key (o.iv k) o.aadBytes o.acc
   else if o.head.d.opcode == 1 || o.head.d.opcode == 2 then gcmTag k.key k.sub (o.iv k) o.aadBytes o.acc
   else gcmTag k.key k.sub (o.iv k) (o.aadBytes ++ o.acc) []).take o.head.d.t

/-- The tag that a receiving operation was given (R296). -/
def Op.givenTag (o : Op) : List Byte :=
  if o.head.d.aux == 0 then arrivedBytes o.buf o.payload o.head.d.t else arrivedBytes o.tag 0 o.head.d.t

/-- Source bytes of the part that runs or comes next. -/
def Op.partData (o : Op) : List Byte := arrivedBytes o.buf (16384 * o.part) o.partLen

/-- The part that runs or comes next is the last. -/
def Op.lastPart (o : Op) : Bool := o.part + 1 ≥ o.parts

/-- The operation writes its output as blocks pass, and does not hold it in a staging place (R298, R299, R304). -/
def Op.streams (o : Op) : Bool := writesPayload o.head.d.opcode && o.place.isNone

/-- Destination bytes that the lists read so far show, counted from the start of the part. -/
def Op.partRoom (o : Op) : Nat :=
  (knownSegs o.head.d true o.entries).foldl (fun a x => a + x.2) 0 - 16384 * o.part

/-- The place in the part up to which blocks may pass now: whole blocks, the last one partial, once the AAD is there and as
far as it is known where their output goes. DESIGN CHOICE: log entry 18. -/
def Op.passable (o : Op) : Nat :=
  if o.aadBytes.length != o.head.d.aadLen then 0
  else
    let got := o.partData.length
    let n := if o.streams then min got o.partRoom else got
    if n == o.partLen then n else n / o.unitBlock * o.unitBlock

/-- The blocks of a part whose input has arrived pass the checks of its unit: they join the accumulators, and their output
is written, or goes to the staging place (R298, R299, R304). DESIGN CHOICE: log entry 18. -/
def advancePart (id : Nat) (s : State) : State :=
  match s.op? id with
  | none => s
  | some o =>
    match o.key with
    | none => s
    | some k =>
      if o.phase != .run || o.old || o.unit.isNone || !o.head.d.aead || o.passable ≤ o.done then s
      else
        let data := (o.partData.take o.passable).drop o.done
        let out := if writesPayload o.head.d.opcode then xorPart o k data else []
        let ct := if o.head.d.opcode == 1 then out else data
        let s := modOp id (fun x => { x with
          done := o.passable, acc := if o.head.d.opcode == 5 then x.acc else x.acc ++ ct,
          stage := if x.place.isSome then x.stage ++ out else x.stage }) s
        let s := if o.chacha then s else rotateLanes (o.unit.getD 0) ((out.length + 15) / 16) s
        if o.streams then emit id (16384 * o.part + o.done) out s else s

end Sys2Proof.Machine
end

