-- ==== Sys2Proof/Machine/Dispatching.lean ====
section
/-!
DEFINITION. Dispatch: which checked operation may go (R211, R240, R241), the context checks (Tables 9-8, 9-12, R359),
the AEAD checks (Table 7-4), packet numbers and key copies (R275 to R287), the Room (R307), the parks on a miss.
-/

namespace Sys2Proof.Machine

/-! ### Order of dispatch -/

/-- The absolute index that an operation names (R84). -/
def State.ctxOf (s : State) (o : Op) : Nat := (s.inst o.inst).ctxBase + o.head.d.ctx

/-- The absolute index of an operation that waits parked: on a Pantry miss, or on an index that is being retired. DESIGN CHOICE:
log entry 106. -/
def Phase.parkedOn : Phase → Option Nat
  | .parked i => some i
  | .waitIndex i => some i
  | _ => none

/-- A later entry may pass this parked one (R240). -/
def mayPass (s : State) (o p : Op) : Bool :=
  match p.phase.parkedOn with
  | none => false
  | some i => (!o.head.d.hasCtx || s.ctxOf o != i) && p.passed < 32

/-- Operations of an instance in this state are dispatched (Table 3-1). -/
def Inst.dispatches (i : Inst) : Bool := i.state == .active || i.state == .quiescing

/-- An operation that waited on the same context and was accepted earlier has not been dispatched yet (R15). It does not count
while an earlier entry of its ring that was accepted later keeps it from its turn. DESIGN CHOICE: log entry 75. -/
def wokenBefore (s : State) (o : Op) : Bool :=
  s.ops.any (fun p => p.miss && p.phase == .ready && !p.ran && !p.old && !p.lockMark && s.ctxOf p == s.ctxOf o && p.seq < o.seq &&
    !(s.ringOps p.ring).any (fun e => e.phase == .ready && idxBefore e.head.idx p.head.idx && p.seq < e.seq))

/-- Threshold may dispatch this checked operation now (R15, Table 3-1, R211, R212, R240, R241; Table 19-3 code 2); a lookup waits
while a node of its path is authenticated again (R348). -/
def dispatchable (s : State) (o : Op) : Bool :=
  let before := (s.ringOps o.ring).filter (fun x => idxBefore x.head.idx o.head.idx)
  let held := before.filter (fun x => x.phase.undispatched)
  o.phase == .ready && !o.old && !o.lockMark && !o.returned && (s.inst o.inst).dispatches &&
  !(o.miss && !o.ran && wokenBefore s o) &&
  (!o.head.d.fence || before.isEmpty) &&
  held.all (mayPass s o) &&
  !before.any (fun x => x.head.d.fence && held.any (fun p => idxBefore p.head.idx x.head.idx)) &&
  (!o.head.d.hasCtx || (!s.pan.dirFault && s.pan.keyFault == 0 && !pathBusy s (s.ctxOf o)))

/-! ### What every dispatch records -/

/-- Numbers a dispatch in one sampling buffer (R662). -/
def sampleIn (b id : Nat) (s : State) : State :=
  let x := (s.inst b).samp
  if x.enable then
    let n := x.dispatches + 1
    let s := modInst b (fun y => { y with samp := { y.samp with dispatches := n } }) s
    if n % 2 ^ x.k == 0 then modOp id (fun o => { o with sample := o.sample ++ [(b, n / 2 ^ x.k % 2 ^ 32)] }) s else s
  else s

/-- The first dispatch of an operation: counters (Tables 20-1 and 20-3), sampling, HALT_INDEX bookkeeping (R163, R207)
and the entries it passes (R240). -/
def noteDispatch (o : Op) (s : State) : State :=
  let s := fixedOp 16 1 o (countOp 2 1 o s)
  let s := if o.head.d.aead || o.head.d.opcode == 0x10 then fixedOp 19 o.payload o s else s
  let s := if o.inst != 0 then sampleIn o.inst o.id s else s
  let s := if o.inst == 0 || (s.inst 0).samp.scope then sampleIn 0 o.id s else s
  let top := o.last.idx + 1
  let s := modRing o.ring (fun r => { r with hiDisp := match r.hiDisp with
    | none => some top
    | some h => some (if idxBefore h top then top else h) }) s
  let seq := s.nextSeq
  let t := stamp s
  draw { s with ops := s.ops.map (fun x =>
    if x.id == o.id then { x with ran := true, seq := seq, tDisp := t }
    else if x.ring == o.ring && x.phase.parkedOn.isSome && idxBefore x.head.idx o.head.idx then
      { x with passed := x.passed + 1 }
    else x) }

/-- An operation ends at a check of step 11 before it was dispatched: it is charged 1 (Table 6-1). -/
def failCheck (o : Op) (st : Status) (s : State) : State := failUndispatched o st s

/-! ### Context checks (Table 9-8, R336) -/

/-- Counts a Pantry miss, once for an operation (Tables 20-1 and 20-3). -/
def countMiss (o : Op) (s : State) : State := if o.miss then s else fixedOp 20 1 o (countOp 8 1 o s)

/-- Parks an operation on a miss of an absolute index (R14, R15). -/
def park (o : Op) (i : Nat) (s : State) : State :=
  let s := countMiss o s
  addMiss i o.inst none (modOp o.id (fun x => { x with phase := .parked i, miss := true }) s)

/-- What Table 9-8 answers. -/
inductive CtxFind where
  | fail (st : Status)
  | miss
  | hit (x : Slot)
  deriving DecidableEq, Repr

/-- Table 9-8 for an operation that names absolute index i. A slot whose write-back is outstanding answers as a miss
(Table 9-15). -/
def findCtx (s : State) (o : Op) (i : Nat) : CtxFind :=
  if !s.backed i then .fail .ctxNoLarder
  else
    match s.slotOf i with
    | none => if (s.inst o.inst).kek.seed.isEmpty then .fail .kekAbsent else .miss
    | some (_, x) =>
      if x.state == .retiring then .fail .ctxRetired
      else if x.evicting then .miss
      else if x.owner != o.inst then .fail .ctxAbsent
      else .hit x

/-- Counts a Pantry hit, once for an operation that did not miss (Table 20-3). DEDUCED: log entry 21. -/
def countHit (o : Op) (s : State) : State := if o.miss || o.ran then s else countOp 7 1 o s

/-- Runs Table 9-8, then `k` on the slot with STAMP set (R354). A lookup reads the Pantry directory, a hit the slot
array: an uncorrectable word has the outcome of Table 19-3 (codes 2 and 1). DEDUCED: log entry 21. -/
def withCtx (o : Op) (k : Slot → State → State) (s : State) : State :=
  let i := s.ctxOf o
  let (lost, s) := readDirectory s
  if lost then s
  else
    match findCtx s o i with
    | .fail st => failCheck o st (if st == .kekAbsent then countMiss o s else s)
    | .miss => park o i s
    | .hit x =>
      let (bad, s) := eccRead 1 s
      if bad then failCheck o .internalEcc (slotLost i s)
      else k x (modCtx i (fun y => { y with stamp := s.roundStamp }) s)

/-! ### AEAD checks (Table 7-4) -/

/-- OPS after R266. -/
def Slot.ops (x : Slot) : Nat :=
  if polOps x.policy / 32 % 2 == 1 then polOps x.policy / 2 % 2 * 2 + polOps x.policy / 8 % 2 * 8 + 32
  else polOps x.policy

/-- The OPS bit of an opcode (Table 7-1). -/
def opsBit (d : Desc) : Nat := if d.opcode == 5 then (if d.subop == 0 then 4 else 5) else d.opcode - 1

/-- Shortest tag of a TAG_MIN. -/
def tagMinBytes (m : Nat) : Nat := if m == 0 then 8 else if m == 1 then 12 else 16

/-- A pending switch takes effect at packet number pn (R284). -/
def Slot.switches (x : Slot) (pn : Nat) : Bool := x.policy.getLsbD 17 && x.f120 ≤ pn

/-- The key slot an operation uses (R282). -/
def keySlot (x : Slot) (d : Desc) : Bool :=
  if d.receiving then d.an
  else if d.sending then polActive x.policy ^^ x.switches x.f104
  else polActive x.policy

/-- Width of the replay window (Table 7-7). -/
def winWidth (mode : Nat) : Nat := if mode == 1 then 1 else if mode == 2 then 64 else 1024

/-- Bit k of the window map. -/
def winBit (s : State) (x : Slot) (k : Nat) : Bool :=
  if polReplay x.policy == 3 then
    (match s.companionOf x.index with
     | some (_, c) => c.map.getLsbD k
     | none => true)
  else x.f112 / 2 ^ k % 2 == 1

/-- R291. -/
def acceptable (s : State) (x : Slot) (p : Nat) : Bool :=
  polReplay x.policy == 0 || p > x.f104 ||
    (x.f104 - p < winWidth (polReplay x.policy) && !winBit s x (x.f104 - p))

/-- The packet number a descriptor carries; format 1 reads it before the payload (Tables 5-1 and 5-14). -/
def Op.descPn (o : Op) : Nat := if o.head.d.format == 1 then beNat (o.blob.take 8) else o.head.d.pn

/-- Table 7-4: the status of the first check that fails. -/
def aeadFault (s : State) (o : Op) (x : Slot) : Option Status :=
  let d := o.head.d
  let alg := polAlg x.policy
  if alg == 3 || (alg == 2 && (d.opcode == 3 || d.opcode == 4 || d.opcode == 5)) then some .ctxPolicy
  else if x.ops / 2 ^ opsBit d % 2 == 0 then some .ctxPolicy
  else if d.opcode != 5 && (d.t < tagMinBytes (polTagMin x.policy) || (alg == 2 && d.t != 16)) then
    some .ctxPolicy
  else if !polPresent x.policy (keySlot x d) then some .keySlotEmpty
  else if d.sending && x.f104 == 2 ^ 64 - 1 then some .counterExhausted
  else if d.receiving && !acceptable s x o.descPn then some .replay
  else none

/-! ### Rooms (R300, R307) -/

/-- Records taken in a Room: until the last output of the operation is acknowledged, but in Wilto 6400, where a record goes
with its in-flight entry (Table 8-2). -/
def roomRecords (s : State) (r : Nat) : Nat :=
  (s.ops.filter (fun o => o.room == some r)).length +
    (if s.build == .w6400 then 0 else (s.rooms.linger.filter (fun x => x.room == r)).length)

/-- A staging place of a Room is taken. -/
def placeTaken (s : State) (r p : Nat) : Bool :=
  s.ops.any (fun o => o.room == some r && o.place == some p) ||
    s.rooms.linger.any (fun x => x.room == r && x.place == some p)

/-- The lowest free staging place of a Room (R329). DESIGN CHOICE: log entry 100. -/
def freePlace (s : State) (r : Nat) : Option Nat := (List.range 256).find? (fun p => !placeTaken s r p)

/-- Blocks of an operation that wait to issue (R310, Table 7-3): the payload blocks that its cipher has not passed, none for
a GMAC, and one for the tag mask or the one-time key until its first part starts, none for CTR. DEDUCED: log entry 19. -/
def Op.blocksLeft (o : Op) : Nat :=
  let data := o.payload - 16384 * o.part - o.done
  (if writesPayload o.head.d.opcode then (data + o.unitBlock - 1) / o.unitBlock else 0) +
    (if o.head.d.opcode == 5 || o.part != 0 || o.unit.isSome || o.avoid.isSome then 0 else 1)

/-- Blocks of a Room's operations that wait to issue. DEDUCED: log entry 19. -/
def roomBlocks (s : State) (r : Nat) : Nat :=
  (s.ops.filter (fun o => o.room == some r && o.phase == .run)).foldl (fun a o => a + o.blocksLeft) 0

/-- An operation holds its plaintext in a staging place (R298, R329). -/
def Op.stages (o : Op) : Bool := o.head.d.opcode == 2 && o.payload ≤ 2048

/-- The Room may take the operation (R300, R307). DEDUCED: log entry 19. -/
def roomOk (s : State) (o : Op) (alg r : Nat) : Bool :=
  let svc := fun (n : Nat) => match s.rooms.alcoves[n]? with
    | some a => a.svc == 0
    | none => false
  roomRecords s r < 512 &&
  (if alg == 2 then s.rooms.chachas[r]? == some 0 else svc (2 * r) || svc (2 * r + 1)) &&
  (!o.stages || (freePlace s r).isSome)

/-- The Room that Threshold chooses: the fewest blocks waiting, a tie to the lowest number (R307). -/
def chooseRoom (s : State) (o : Op) (alg : Nat) : Option Nat :=
  ((List.range s.build.rooms).filter (roomOk s o alg)).foldl (fun m r =>
    match m with
    | none => some r
    | some q => if roomBlocks s r < roomBlocks s q then some r else some q) none

/-! ### Packet numbers and key copies (R275 to R287) -/

/-- The key state of a slot as an operation copies it. -/
def copyKey (x : Slot) (slot1 : Bool) : KeyCopy :=
  let k := if slot1 then x.key1 else x.key0
  ⟨polAlg x.policy, if polAlg x.policy == 0 then k.take 16 else k, if slot1 then x.sub1 else x.sub0,
    if slot1 then x.salt1 else x.salt0⟩

/-- Steps 1 to 3 of R275 on a slot: NEXT_PN, a switch, SOFT_HIT. -/
def Slot.advance (x : Slot) : Slot :=
  let pn := x.f104
  let pol := if x.switches pn then polSet 17 false (polSet 13 (!polActive x.policy) x.policy) else x.policy
  let pol := if x.f112 != 0 && !x.policy.getLsbD 16 && x.f112 ≤ pn then polSet 16 true pol else pol
  { x with f104 := pn + 1, policy := pol, dirty := true }

/-- The soft-limit event fires at this dispatch (R280). -/
def Slot.softFires (x : Slot) : Bool := x.f112 != 0 && !x.policy.getLsbD 16 && x.f112 ≤ x.f104

/-- Writes a type 0x10 record (R280, R284). -/
def ctxRecord (o : Op) (st : Status) (pn : Nat) (s : State) : State :=
  evWrite o.inst 0x10 st.code.toNat o.ring o.head.d.ctx (pn % 2 ^ 32) s

/-- Steps 1 to 4 of R275 for a sending operation on context x: the packet number, the switch, the soft limit with
their records, and the key copy. -/
def assignPn (o : Op) (x : Slot) (s : State) : State :=
  let pn := x.f104
  let y := x.advance
  let soft := x.softFires
  let sw := x.switches pn
  let s := markDirty (modCtx x.index (fun z => { z with f104 := y.f104, policy := y.policy, dirty := true }) s)
  let s := modOp o.id (fun z => { z with
    pn := some pn, firstPn := if z.firstPn.isNone then some pn else z.firstPn,
    switched := z.switched || sw, softHit := z.softHit || soft,
    key := some (copyKey y (polActive y.policy)) }) s
  let s := if soft then ctxRecord o .okSoftLimit pn (countOp 0xD 1 o s) else s
  if sw then ctxRecord o .okKeySwitched pn (countOp 0xE 1 o s) else s

/-- Reads one block of a list of entry `ent` (R188, R194): a short list reads SEGS × 16 bytes, a long list whole
blocks. DESIGN CHOICE: log entry 17. -/
def readList (id ent : Nat) (dst : Bool) (s : State) : State :=
  match s.op? id with
  | none => s
  | some o =>
    match o.entries[ent]? with
    | none => s
    | some e =>
      let l := if dst then e.dst else e.src
      let segs := if dst then e.d.dstSegs else e.d.srcSegs
      let first := if dst then e.d.dst else e.d.src
      let n := if segs ≤ 16 then segs * 16 else 256
      match (if l.blocks == 0 then some first else l.next) with
      | some a => if l.ended then s else readReq (portOf o.ring) a n o.inst (.list id ent dst) 0 s
      | none => s

/-- Reads the next block of every long list of an operation that has been dispatched. -/
def readLists (id : Nat) (s : State) : State :=
  match s.op? id with
  | none => s
  | some o =>
    (List.range o.entries.length).foldl (fun s n =>
      match o.entries[n]? with
      | some e =>
        let s := if e.d.sgSrc && !e.src.ended then readList id n false s else s
        if e.d.sgDst && !e.dst.ended then readList id n true s else s
      | none => s) s

/-- A digest operation joins the part queue once the first block of its part has arrived (R308, R438). -/
def joinPartQ (id : Nat) (s : State) : State :=
  match s.op? id with
  | none => s
  | some o =>
    let n := min (digestBlock o.head.d.subop) o.partLen
    if o.head.d.opcode == 0x10 && o.phase == .run && o.unit.isNone && o.charged && !s.scu.partQ.contains id &&
        (arrivedBytes o.buf (16384 * o.part) n).length ≥ n then
      { s with scu := { s.scu with partQ := s.scu.partQ ++ [id] } }
    else s

/-- Starts the work of a dispatched operation: its reads of AAD, tag and source (R180 to R183, R192), with every
record of an earlier attempt cleared but the bytes that it wrote (R196, R475). -/
def startReads (id : Nat) (s : State) : State :=
  let s := modOp id (fun x => { x with
    phase := .run, unit := none, avoid := none, part := 0, done := 0, charged := true, need := 0, buf := [], aad := [], tag := [],
    acc := [], stage := [] }) s
  match s.op? id with
  | none => s
  | some o =>
    let d := o.head.d
    let p := portOf o.ring
    let s := if d.aead && d.aadLen != 0 then readReq p (aadAddress d) d.aadLen o.inst (.aad id) 0 s else s
    let s := if d.receiving && d.aux != 0 then readReq p d.aux d.t o.inst (.tagIn id) 0 s else s
    joinPartQ id (issueSrc id (readLists id s))

/-- Marks an operation that is dispatched again (R248, R665). It keeps the place of its first dispatch in the dispatch order
(R309). DESIGN CHOICE: log entry 107. -/
def noteAgain (o : Op) (s : State) : State :=
  if o.ran then modOp o.id (fun x => { x with reDisp := true, returned := false }) s else noteDispatch o s

/-- Dispatch of one of the five AEAD opcodes on its context (R273 to R287, R292, R307). An operation that finds no
Room waits (R300). -/
def dispatchAead (o : Op) (x : Slot) (s : State) : State :=
  let held := fun (s : State) => modOp o.id (fun y => { y with ref := some x.index }) s
  match aeadFault s o x with
  | some st =>
    let st := if st == .replay && !o.written.isEmpty then .replayScrubbed else st
    failCheck o st (countHit o (held (modOp o.id (fun y => { y with returned := false, dropRef := true, reDisp := y.reDisp || y.ran }) s)))
  | none =>
    match (if o.room.isSome then o.room else chooseRoom s o (polAlg x.policy)) with
    | none => s
    | some r =>
      let s := noteAgain o (countHit o (held s))
      let p := freePlace s r
      let s := modOp o.id (fun y => { y with
        room := some r, place := if !o.stages then none else if y.place.isSome then y.place else p }) s
      let s :=
        if o.head.d.sending then assignPn o x s
        else modOp o.id (fun y => { y with
          pn := some o.descPn, key := some (copyKey x (keySlot x o.head.d)) }) s
      startReads o.id s

/-! ### Context descriptors (Tables 9-12 and 9-14, R357 to R360) -/

/-- The KEK of the version a blob names, for an operation of the instance that may have pinned it (R399). -/
def kekFor (s : State) (o : Op) (ver : Nat) : Option (List Byte) :=
  let k := (s.inst o.inst).kek
  if ver != 0 && ver == k.curVer then some k.cur
  else if ver != 0 && ver == k.drainVer && o.pin == some ver then some k.drain
  else none

/-- RSVD bytes of an install plaintext are 0 (Table 9-11). -/
def installRsvd (pt : List Byte) : Bool := field 74 2 pt == 0 && field 76 4 pt == 0 && field 96 8 pt == 0

/-- RSVD bytes of a rekey plaintext are 0 (Table 9-13). -/
def rekeyRsvd (pt : List Byte) : Bool := field 37 1 pt < 2 && field 38 2 pt == 0 && leNat (slice 56 48 pt) == 0

/-- Steps 1 to 5 of Table 9-12 for a blob of a kind: the plaintext, or the first failure, with the version to pin. -/
def openBlob (s : State) (o : Op) (kind : Nat) (rsvd : List Byte → Bool) : Except (Status × Option Nat) (List Byte) :=
  let b := o.blob
  let ver := field 4 2 b
  if !s.backed (s.ctxOf o) then .error (.ctxNoLarder, none)
  else
    match kekFor s o ver with
    | none => .error (.kekAbsent, none)
    | some key =>
      match gcmOpen key (slice 24 12 b) (b.take 40) (slice 40 104 b) (slice 144 16 b) with
      | none => .error (.ctxBlobAuth, some ver)
      | some pt =>
        if field 0 1 b != 1 || field 1 1 b != kind || field 6 2 b != 0 || field 36 4 b != 0 || !rsvd pt then
          .error (.ctxBlobFormat, some ver)
        else if field 2 2 b != o.inst || field 8 4 b != o.head.d.ctx || field 12 4 b != s.cel.storeGen then
          .error (.ctxBlobBinding, some ver)
        else .ok pt

/-- Pins the KEK version that passed step 2 (R399). -/
def pinKek (o : Op) (ver : Option Nat) (s : State) : State :=
  match ver with
  | some v => modOp o.id (fun x => { x with pin := some v }) s
  | none => s

/-- A key field that ALG allows: AES-128 keys have zero upper bytes. -/
def keyFits (alg : Nat) (key : List Byte) : Bool := alg != 0 || leNat (slice 16 16 key) == 0

/-- Step 6 of Table 9-12, with a nonzero SOFT_LIMIT of a receiving context taken as malformed (Table 9-11). DEDUCED:
log entry 51. -/
def installPolicyOk (subop : Nat) (pt : List Byte) : Bool :=
  let p := BitVec.ofNat 19 (field 72 2 pt)
  let alg := polAlg p
  polOk p && (!(polDir p && polReplay p == 3) || subop == 1) &&
  keyFits alg (slice 0 32 pt) && keyFits alg (slice 32 32 pt) &&
  (polPresent p false || (leNat (slice 0 32 pt) == 0 && field 64 4 pt == 0)) &&
  (polPresent p true || (leNat (slice 32 32 pt) == 0 && field 68 4 pt == 0)) &&
  (alg != 3 || (!polPresent p false && !polPresent p true)) &&
  (polDir p || polOps p == 0 || polPresent p (polActive p)) &&
  (!polDir p || field 88 8 pt == 0)

/-- The slot that a passed install makes (R358), and its map when it is WIDE. -/
def installedSlot (s : State) (o : Op) (pt : List Byte) : Slot × Bool :=
  let p := polSet 18 (o.head.d.subop == 1) (BitVec.ofNat 19 (field 72 2 pt))
  let seq := field 80 8 pt
  let windowed := polReplay p == 1 || polReplay p == 2
  (mkSlot s (s.ctxOf o) o.inst (s.inst o.inst).kek.seedId (field 16 8 o.blob) p (slice 0 32 pt) (slice 32 32 pt)
     (slice 64 4 pt) (slice 68 4 pt) seq
     (if polDir p then (if windowed && seq != 0 then 2 ^ 64 - 1 else 0) else field 88 8 pt) 0 true,
   seq != 0)

/-- A passed install has its slot: the install completes OK with its SERIAL (R358). -/
def installDone (id : Nat) (serial : Nat) (s : State) : State :=
  match s.op? id with
  | none => s
  | some o => endOp id .ok serial (noteDispatch o (markDirty s))

/-- Steps 9 and 10 of Table 9-12 once step 8 has found the index EMPTY, or RETIRED with a SERIAL. The context goes to
a free slot or waits at the Pantry door for a victim's. -/
def installRest (id : Nat) (tomb : Option Nat) (s : State) : State :=
  match s.op? id with
  | none => s
  | some o =>
    match openBlob s o 1 installRsvd with
    | .error (st, _) => failCheck o st (wakeIndex (s.ctxOf o) (dropFetch (s.ctxOf o) s))
    | .ok pt =>
      let i := s.ctxOf o
      let (x, m) := installedSlot s o pt
      if (match tomb with
          | some t => decide (x.serial ≤ t)
          | none => false) == true then failCheck o .ctxSerial (wakeIndex i (dropFetch i s))
      else if !pinOk s o.inst (pinsOf x) && polPinned x.policy then
        failCheck o .ctxPinLimit (wakeIndex i (dropFetch i s))
      else
        let (done, s) := placeFetch i 3 (modFetch i (fun f => { f with inc := some x, incMap := m }) s)
        if done then wakeIndex i (installDone id x.serial (modOp id (fun y => { y with phase := .ready }) s)) else s

/-- Dispatch of CTX_INSTALL: steps 1 to 8 of Table 9-12. When no slot holds the index the Pantry door reads its state;
a RETIRING index is waited for. -/
def dispatchInstall (o : Op) (s : State) : State :=
  match openBlob s o 1 installRsvd with
  | .error (st, ver) => failCheck o st (pinKek o ver s)
  | .ok pt =>
    let s := pinKek o (some (field 4 2 o.blob)) s
    let i := s.ctxOf o
    let (lost, s) := readKeyStore s
    if lost then failCheck o .kekAbsent s
    else if !installPolicyOk o.head.d.subop pt then failCheck o .ctxBlobFormat s
    else if (s.inst o.inst).kek.seed.isEmpty then failCheck o .kekAbsent s
    else
      let (lost, s) := readDirectory s
      if lost then s else
      let wait := fun (s : State) => modOp o.id (fun x => { x with phase := .waitIndex i, miss := true }) s
      match s.slotOf i with
      | some (_, x) => if x.state == .live && !x.evicting then failCheck o .ctxOccupied s else wait s
      | none => addMiss i o.inst (some o.id) (wait s)

/-- R359: the status of the first check of a rekey that fails. -/
def rekeyFault (x : Slot) (subop serial : Nat) (pt : List Byte) : Option Status :=
  let recv := polDir x.policy
  let target := field 36 1 pt
  if (recv && subop != 0) || (!recv && subop == 0) then some .ctxPolicy
  else if polAlg x.policy == 3 then some .ctxPolicy
  else if (recv && target > 1) || (!recv && target != 2) then some .ctxPolicy
  else if recv && field 37 1 pt % 2 == 1 then some .ctxPolicy
  else if !keyFits (polAlg x.policy) (slice 0 32 pt) then some .ctxBlobFormat
  else if serial ≤ x.serial then some .ctxSerial
  else none

/-- What a passed rekey does to its context (R283, R285, R359). -/
def Slot.rekey (subop serial : Nat) (pt : List Byte) (x : Slot) : Slot :=
  let t1 := if polDir x.policy then field 36 1 pt == 1 else !polActive x.policy
  let key := slice 0 32 pt
  let sub := subkeyOf (polAlg x.policy) key
  let salt := slice 32 4 pt
  let soft := field 37 1 pt % 2 == 1
  let lim := if soft then field 48 8 pt else x.f112
  let pol := polSet (if t1 then 15 else 14) true x.policy
  let pol := if soft then polSet 16 false pol else pol
  let sw := if subop == 1 then field 40 8 pt else if subop == 2 then lim else x.f104
  let x := if t1 then { x with key1 := key, sub1 := sub, salt1 := salt } else { x with key0 := key, sub0 := sub, salt0 := salt }
  let x := { x with serial := serial, policy := pol, dirty := true }
  if polDir x.policy then x else { x with f112 := lim, f120 := sw, policy := polSet 17 true pol }

/-- RESULT of a passed rekey (Table 9-14). -/
def rekeyResult (subop serial : Nat) (x : Slot) : Nat := if subop == 0 then serial else x.f120

/-- Dispatch of CTX_REKEY: the blob, then Table 9-8, then R359. Once Table 9-8 has passed it holds its reference until its
completion write is acknowledged (R354). -/
def dispatchRekey (o : Op) (s : State) : State :=
  match openBlob s o 2 rekeyRsvd with
  | .error (st, ver) => failCheck o st (pinKek o ver s)
  | .ok pt =>
    let s := pinKek o (some (field 4 2 o.blob)) s
    let (lost, s) := readKeyStore s
    if lost || (s.inst o.inst).kek.seed.isEmpty then failCheck o .kekAbsent s
    else
      withCtx o (fun x s =>
        let serial := field 16 8 o.blob
        match rekeyFault x o.head.d.subop serial pt with
        | some st => failCheck o st (countHit o (modOp o.id (fun z => { z with ref := some x.index }) s))
        | none =>
          let s := countHit o s
          let y := x.rekey o.head.d.subop serial pt
          let s := markDirty (modCtx x.index (fun z => { y with stamp := z.stamp }) s)
          let s := modOp o.id (fun z => { z with ref := some x.index }) s
          endOp o.id .ok (rekeyResult o.head.d.subop serial y) (noteDispatch o s)) s

/-- Dispatch of CTX_RETIRE (R360): the slot enters RETIRING; the rest follows when its last reference goes. -/
def dispatchRetire (o : Op) (s : State) : State :=
  withCtx o (fun x s =>
    let s := markDirty (modCtx x.index (fun z => { z with state := .retiring, retireOp := some o.id }) s)
    let s := mapFetches (fun f => match f.victim.bind (fun v => tget v s.pan.slots) with
      | some y => if y.index == x.index then { f with victim := none } else f
      | none => f) s
    modOp o.id (fun y => { y with phase := .retire x.index }) (noteDispatch o (countHit o s))) s

/-! ### Dispatch of any operation -/

/-- Dispatch of a digest (R438): no context, no packet number. -/
def dispatchDigest (o : Op) (s : State) : State := startReads o.id (noteAgain o s)

/-- Every engine is out of service, and none is in self-test or loading (Table 11-9). -/
def hearthGone (s : State) : Bool := s.engines.all (fun e => e.state == .failed)

/-- Dispatch of a PK operation to its instance's list of the Hearth queue (R407, R430). -/
def dispatchPk (o : Op) (s : State) : State :=
  if hearthGone s then endOp o.id .hearthUnavailable 0 (noteDispatch o s) else
  let s := modOp o.id (fun x => { x with phase := .hearth }) (noteDispatch o s)
  { s with hearth := { s.hearth with queue := s.hearth.queue ++ [(o.inst, o.id)] } }

/-- Dispatch of a checked operation by its opcode. A returned AEAD operation keeps its reference and does not meet
Table 9-8 again (R474). -/
def dispatchOp (o : Op) (s : State) : State :=
  let d := o.head.d
  if d.aead then
    (match o.ref.bind s.slotOf with
     | some (_, x) =>
       let (bad, s) := eccRead 1 s
       if bad then failCheck o .internalEcc (slotLost x.index s) else dispatchAead o x s
     | none => withCtx o (dispatchAead o) s)
  else if d.opcode == 0x10 then dispatchDigest o s
  else if d.opcode == 0x20 then dispatchInstall o s
  else if d.opcode == 0x21 then dispatchRekey o s
  else if d.opcode == 0x22 then dispatchRetire o s
  else if d.opcode == 0x30 then dispatchPk o s
  else endOp o.id .ok 0 (noteDispatch o s)

/-- Dispatches woken operations one after another, each at most once. DESIGN CHOICE: log entry 75. -/
def redispatchLoop : Nat → List Nat → State → State
  | 0, _, s => s
  | n + 1, tried, s =>
    match ((s.ops.filter (fun o => o.miss && !tried.contains o.id && dispatchable s o)).foldl
        (fun (m : Option Op) o => match m with
          | none => some o
          | some p => if o.seq < p.seq then some o else some p) none) with
    | none => s
    | some o => redispatchLoop n (o.id :: tried) (dispatchOp o s)

/-- Operations woken from a miss are dispatched in the order in which they were accepted (R15). DESIGN CHOICE: log entry 75.
-/
def redispatch (s : State) : State := redispatchLoop s.ops.length [] s

/-! ### The dispatch rows -/

/-- The dispatch row of one opcode: the operation is checked, carries the opcode and may be dispatched. -/
def dispatchRow (op : Nat) (mine : Desc → Bool) (s : State) : State :=
  match s.op? op with
  | none => s
  | some o => if mine o.head.d && dispatchable s o then finish (redispatch (dispatchOp o s)) else s

/-- SEAL (R275). -/
def execSeal (op : Nat) (s : State) : Host.Outcome State Fault Refusal :=
  .next (dispatchRow op (fun d => d.opcode == 1) s)

/-- OPEN (R292). -/
def execOpenOp (op : Nat) (s : State) : Host.Outcome State Fault Refusal :=
  .next (dispatchRow op (fun d => d.opcode == 2) s)

/-- GMAC_SIGN (R268, R275). -/
def execGmacSign (op : Nat) (s : State) : Host.Outcome State Fault Refusal :=
  .next (dispatchRow op (fun d => d.opcode == 3) s)

/-- GMAC_CHECK (R268, R292). -/
def execGmacCheck (op : Nat) (s : State) : Host.Outcome State Fault Refusal :=
  .next (dispatchRow op (fun d => d.opcode == 4) s)

/-- CTR (R272, R275). -/
def execCtr (op : Nat) (s : State) : Host.Outcome State Fault Refusal :=
  .next (dispatchRow op (fun d => d.opcode == 5) s)

/-- DIGEST (R438). -/
def execDigest (op : Nat) (s : State) : Host.Outcome State Fault Refusal :=
  .next (dispatchRow op (fun d => d.opcode == 0x10) s)

/-- CTX_INSTALL (R357). -/
def execCtxInstall (op : Nat) (s : State) : Host.Outcome State Fault Refusal :=
  .next (dispatchRow op (fun d => d.opcode == 0x20) s)

/-- CTX_REKEY (R359). -/
def execCtxRekey (op : Nat) (s : State) : Host.Outcome State Fault Refusal :=
  .next (dispatchRow op (fun d => d.opcode == 0x21) s)

/-- CTX_RETIRE (R360). -/
def execCtxRetire (op : Nat) (s : State) : Host.Outcome State Fault Refusal :=
  .next (dispatchRow op (fun d => d.opcode == 0x22) s)

/-- PK (R407). -/
def execPk (op : Nat) (s : State) : Host.Outcome State Fault Refusal :=
  .next (dispatchRow op (fun d => d.opcode == 0x30) s)

/-- NOP (R215). -/
def execNop (op : Nat) (s : State) : Host.Outcome State Fault Refusal :=
  .next (dispatchRow op (fun d => d.opcode == 0) s)

/-- FENCE (R213). -/
def execFence (op : Nat) (s : State) : Host.Outcome State Fault Refusal :=
  .next (dispatchRow op (fun d => d.opcode == 0x3F) s)

end Sys2Proof.Machine
end

