-- ==== Sys2Proof/Machine/Threshold.lean ====
section
/-!
DEFINITION. Threshold: grants and the scheduler (06_scheduling.md), fetching and checking entries (Table 5-8), list
blocks, the acknowledged completion, sampling records.
-/

namespace Sys2Proof.Machine

/-! ### Checking an entry (Table 5-8) -/

/-- R139 for format 2, R222 for format 1. -/
def entryCounts (r : Ring) (i : Idx) (d : Desc) : Bool :=
  !d.isDone && (r.fmt == 1 || d.lap == i.toNat / r.size % 4)

/-- Steps 1 to 7 of Table 5-8 on an entry; `head`: the head of the open chain, `n`: entries it holds so far. -/
def entryFault (r : Ring) (head : Option Desc) (n : Nat) (d : Desc) : Option Status :=
  let cont := head.isSome
  let u := if cont then contFields d.opcode else headFields d.opcode d.subop
  if d.format != r.fmt then some .descFormat
  else if !opcodeListed r.fmt d.opcode then some .descOpcode
  else if r.fmt == 2 && !cont && !d.first then some .chainOrphan
  else if r.fmt == 2 && n + 1 ≥ min 64 r.size && !d.last then some .chainUnterminated
  else if r.fmt == 2 && cont && d.first then some .chainUnterminated
  else if r.fmt == 2 && (match head with
      | none => !chainable d.opcode && !d.last
      | some h => d.opcode != h.opcode || d.subop != h.subop) then some .chainOpcode
  else if !subopListed d.opcode d.subop then some .descSubop
  else if !(if r.fmt == 1 then rsvdZero1 u d else rsvdZero u d) then some .descRsvd
  else if !fieldsOk r.fmt (!cont) d then some .descField
  else none

/-- A checked entry: format 1 in the places of format 2, lists not yet read. -/
def checkedEntry (fmt : Nat) (i : Idx) (d : Desc) : Entry :=
  let d := if fmt == 1 then d.ofFormat1 else d
  ⟨i, d, if d.sgSrc then SegList.start else SegList.none, if d.sgDst then SegList.start else SegList.none⟩

/-- An entry that fails a check of steps 1 to 10 completes before dispatch, charged 1 (R165, R228, Table 6-1). -/
def failEntry (o : Op) (st : Status) (s : State) : State := endOp o.id st 0 (correctCharge o 1 s)

/-- Steps 1 to 10 have passed: the charge is corrected, and the operation is accepted. -/
def acceptOp (id : Nat) (s : State) : State :=
  match s.op? id with
  | none => s
  | some o =>
    let seq := s.nextSeq
    modOp id (fun x => { x with phase := .ready, seq := seq }) (correctCharge o o.firstCost s)

/-- Step 10 of Table 5-8, then the reads that come before dispatch: a blob (Table 9-10) or the packet number of a
format-1 source (Table 5-14). -/
def afterLists (id : Nat) (s : State) : State :=
  match s.op? id with
  | none => s
  | some o =>
    let d := o.head.d
    if d.hasCtx && d.ctx ≥ (s.inst o.inst).ctxLimit then failEntry o .ctxOutOfWindow s
    else
      let n := if d.opcode == 0x20 || d.opcode == 0x21 then 160
        else if d.format == 1 && (d.opcode == 2 || (d.opcode == 5 && d.subop == 1)) then 8 else 0
      if n == 0 then acceptOp id s
      else readReq (portOf o.ring) d.src n o.inst (.blob id) 0 (modOp id (fun x => { x with phase := .blob }) s)

/-- The first list of an operation, in the order of step 9, of which no block has been checked: entry and side. An entry's
source list stands before its destination list. DESIGN CHOICE: log entry 103. -/
def firstUnread (o : Op) : Option (Nat × Bool) :=
  ((o.entries.zipIdx.map (fun p =>
    (if p.1.d.sgSrc && p.1.src.blocks == 0 then [(p.2, false)] else []) ++
      (if p.1.d.sgDst && p.1.dst.blocks == 0 then [(p.2, true)] else []))).flatten).head?

/-- Step 8 once every entry through LAST has passed steps 1 to 7, then the reads of step 9. -/
def afterEntries (id : Nat) (s : State) : State :=
  match s.op? id with
  | none => s
  | some o =>
    if o.head.d.aead && o.payload > 16777215 then failEntry o .lenLimit s
    else if (firstUnread o).isNone then afterLists id s
    else
      let s := modOp id (fun x => { x with phase := .lists }) s
      (List.range o.entries.length).foldl (fun s n =>
        match o.entries[n]? with
        | some e =>
          let s := if e.d.sgSrc then readList id n false s else s
          if e.d.sgDst then readList id n true s else s
        | none => s) s

/-! ### Fetching (R139 to R145, R201 to R203) -/

/-- Fetches entry i of a ring for an operation: a speculative copy that counts stands in, otherwise the slot is read.
DESIGN CHOICE: log entry 14. DEDUCED: log entry 36. -/
def fetchEntry (id ring : Nat) (i : Idx) (s : State) : State :=
  match tget ring s.rings, s.op? id with
  | some r, some o =>
    let copy := s.specs.find? (fun x => x.ring == ring && x.idx == i)
    let s := { s with specs := s.specs.filter (fun x => !(x.ring == ring && x.idx == i)) }
    let s := modOp id (fun x => { x with phase := .fetch 1 }) s
    match copy with
    | some c =>
      if entryCounts r i (Desc.ofBytes c.data) then arrive (.desc id) c.data s
      else count 1 1 ⟨o.inst, some ring, none, none, none⟩
        (readReq (portOf ring) (r.slot i) r.entBytes o.inst (.desc id) 0 s)
    | none => count 1 1 ⟨o.inst, some ring, none, none, none⟩
        (readReq (portOf ring) (r.slot i) r.entBytes o.inst (.desc id) 0 s)
  | _, _ => s

/-- The fetch of a later grant goes over to the chain that takes its entry: what is outstanding or has arrived for the
entry, how often it was read, and a failure of its read. Its table entry and its charge are given back (R201).
DEDUCED: log entry 10. DEDUCED: log entry 15. -/
def takeGrant (id : Nat) (x : Op) (s : State) : State :=
  let own := fun (w : Owner) => if w == .desc x.id then Owner.desc id else w
  let port := fun (p : Port) => { p with
    rds := p.rds.map (fun r => { r with owner := own r.owner }), rdQ := p.rdQ.map (fun r => { r with owner := own r.owner }) }
  let hwy := { s.hwy with
    ports := s.hwy.ports.map port,
    pieces := s.hwy.pieces.map (fun q => (own q.1, q.2)),
    arrived := s.hwy.arrived.map (fun a => { a with owner := own a.owner }) }
  let s := modOp id (fun o => { o with phase := x.phase, status := x.status, lockMark := o.lockMark || x.lockMark })
    { s with hwy := hwy }
  releaseOp x.id (refundInst x.inst x.charge s)

/-- Takes the next entry of an open chain: from the grant that already fetches it, or, when it lies below TAIL and is not
granted, by a fetch of its own (R201, R202). In a ring that has stopped no entry follows, and the chain ends. DEDUCED: log
entry 15. DESIGN CHOICE: log entry 81. -/
def extendChain (id : Nat) (s : State) : State :=
  match s.op? id with
  | none => s
  | some o =>
    match tget o.ring s.rings with
    | none => s
    | some r =>
      if o.phase != .chain then s
      else
        match (s.ringOps o.ring).find? (fun x => x.id != id && x.head.idx == o.last.idx + 1) with
        | some x => takeGrant id x s
        | none =>
          if r.state != .running then failUndispatched o .chainUnterminated s
          else if r.consumed != r.tail then
            fetchEntry id o.ring r.consumed (modRing o.ring (fun r => { r with
              consumed := r.consumed + 1, advanced := r.advanced + 1 }) s)
          else s

/-- A head or a continuation without LAST leaves its chain open (R201, R202). -/
def openChain (id : Nat) (s : State) : State := extendChain id (modOp id (fun x => { x with phase := .chain }) s)

/-- An operation whose next entry has not been checked. -/
def Phase.fetches : Phase → Bool
  | .fetch _ => true
  | .reread _ => true
  | .chain => true
  | _ => false

/-- The head of an operation has been checked, so that what is fetched now is a continuation. -/
def Op.openHead (o : Op) : Bool := o.head.d.format != 0

/-- The entry that an operation fetches. -/
def Op.nextIdx (o : Op) : Idx := if o.openHead then o.last.idx + 1 else o.head.idx

/-- The slot of an entry gave no usable copy after 16 reads, or its read failed (R140, R165): the ring stops at the
head, which is neither checked nor completed, so its charge stands (R228); a sound head completes alone with the
status. -/
def slotFailed (o : Op) (st : Status) (s : State) : State :=
  if o.openHead then failUndispatched o st s
  else stopRing o.ring o.head.idx st true (releaseOp o.id s)

/-- An earlier entry of the ring is not checked yet: copies are taken in index order. -/
def earlierFetch (o : Op) (s : State) : Bool :=
  (s.ringOps o.ring).any (fun x => x.phase.fetches && idxBefore x.head.idx o.head.idx)

/-- The read of a slot has failed. Behind an earlier entry that is not checked yet the failure waits its turn, since
that entry may open a chain that takes this slot. -/
def slotReadFailed (o : Op) (st : Status) (s : State) : State :=
  if earlierFetch o s then arrive (.desc o.id) [] (modOp o.id (fun x => { x with status := st }) s)
  else slotFailed o st s

/-- A blank operation for the head entry of a grant. -/
def newOp (id inst ring gen charge : Nat) (i : Idx) : Op where
  id := id
  inst := inst
  ring := ring
  entries := [⟨i, ⟨0, 0, 0, 0, 0, 0, 0, 0⟩, SegList.none, SegList.none⟩]
  phase := .fetch 1
  old := false
  gen := gen
  lockMark := false
  returned := false
  ran := false
  charge := charge
  pn := none
  firstPn := none
  key := none
  ref := none
  dropRef := false
  pin := none
  switched := false
  softHit := false
  miss := false
  passed := 0
  room := none
  place := none
  unit := none
  avoid := none
  part := 0
  done := 0
  charged := true
  need := 0
  buf := []
  aad := []
  tag := []
  acc := []
  stage := []
  wrote := []
  prior := []
  blob := []
  status := .ok
  result := 0
  posted := false
  complLeft := 0
  seq := 0
  sample := []
  tDisp := 0
  tData := 0
  reDisp := false

/-- An operation has the entry that it fetches, as read: the head, or a continuation that its chain takes. -/
def takeEntry (o : Op) (r : Ring) (d : Desc) (s : State) : State :=
  let e := checkedEntry r.fmt o.nextIdx d
  modOp o.id (fun x => { x with blob := [], entries := if o.openHead then x.entries ++ [e] else [e] }) s

/-- As `takeEntry` for an operation that ends with it: a continuation at or above CONSUMED is fetched again after the resume and
does not end with its chain (R164, R208). -/
def takeLastEntry (o : Op) (r : Ring) (d : Desc) (s : State) : State :=
  if o.openHead && !idxBefore o.nextIdx r.consumed then s else takeEntry o r d s

/-- A fetched copy of a head is checked (Table 5-8). -/
def checkHead (o : Op) (r : Ring) (d : Desc) (s : State) : State :=
  let s := takeEntry o r d s
  match entryFault r none 0 d with
  | some st => failEntry o st s
  | none => if d.last then afterEntries o.id s else openChain o.id s

/-- The entry that has ended an open chain by its FIRST = 1 (R204) is the head of an operation of its own; in a ring whose stop
has put CONSUMED back to it or before it, it is fetched again after the resume. -/
def headAfter (o : Op) (d : Desc) (s : State) : State :=
  match tget o.ring s.rings with
  | none => s
  | some r =>
    if !idxBefore o.nextIdx r.consumed then s
    else
      let x := newOp s.nextOp o.inst o.ring o.gen r.estimate o.nextIdx
      checkHead x r d (chargeInst o.inst r.estimate { s with nextOp := s.nextOp + 1, ops := s.ops ++ [x] })

/-- A fetched copy that counts is checked (Table 5-8). A continuation that fails ends its chain, with itself (R208) but for the
next head (R204). -/
def checkCopy (o : Op) (r : Ring) (d : Desc) (s : State) : State :=
  if !o.openHead then checkHead o r d s
  else
    match entryFault r (some o.head.d) o.entries.length d with
    | some st =>
      if r.fmt == 2 && d.first && d.format == r.fmt && opcodeListed r.fmt d.opcode then
        headAfter o d (failEntry o .chainUnterminated s)
      else failEntry o st (takeLastEntry o r d s)
    | none =>
      let s := takeEntry o r d s
      if d.last then afterEntries o.id s else openChain o.id s

/-- DESCRIPTOR_READ_RETURN: takes an arrived copy, entries of a ring in index order. A locked operation completes with
LOCKED (Table 16-4). -/
def descriptorReturn (id : Nat) (s : State) : State :=
  match s.op? id, s.arrived? (.desc id) with
  | some o, some bytes =>
    match tget o.ring s.rings with
    | none => s
    | some r =>
      if earlierFetch o s then s
      else
        let s := takeArrived (.desc id) s
        let d := Desc.ofBytes bytes
        if o.status != .ok then slotFailed o o.status s
        else if o.lockMark then failUndispatched o .locked (takeLastEntry o r d s)
        else
          let owned := s.injected 12 (fun a => bits a 15 0 == o.ring && bits a 17 16 == 0)
          let rsvd := s.injected 12 (fun a => bits a 15 0 == o.ring && bits a 17 16 == 1)
          if entryCounts r o.nextIdx d && !owned then
            if rsvd then checkCopy o r { d with w1 := d.w1 ||| (1 <<< 63) } (fireAt 12 s) else checkCopy o r d s
          else
            match o.phase with
            | .fetch n =>
              if n ≥ 16 then slotFailed o .descNotOwned (if owned then fireAt 12 s else s)
              else modOp id (fun x => { x with phase := .reread n, blob := bytes }) s
            | _ => s
  | _, _ => s

/-- DESC_REREAD: the entry is read again 1 µs later (R140); a locked one is read no more and completes with what the last read
gave (Table 16-4). -/
def descReread (id : Nat) (s : State) : State :=
  match s.op? id with
  | none => s
  | some o =>
    match o.phase, tget o.ring s.rings with
    | .reread n, some r =>
      if o.lockMark then failUndispatched o .locked (takeLastEntry o r (Desc.ofBytes o.blob) s)
      else count 1 1 ⟨o.inst, some o.ring, none, none, none⟩
        (readReq (portOf o.ring) (r.slot o.nextIdx) r.entBytes o.inst (.desc id) 0
          (modOp id (fun x => { x with phase := .fetch (n + 1) }) s))
    | _, _ => s

/-- LIST_BLOCK_RETURN: a block of a list is checked (R193 to R196). Before dispatch the lists are taken in the order
of step 9; after it the next block is read at once. DESIGN CHOICE: log entry 17. -/
def listReturn (id ent : Nat) (dst : Bool) (s : State) : State :=
  match s.op? id, s.arrived? (.list id ent dst) with
  | some o, some blk =>
    match o.entries[ent]? with
    | none => s
    | some e =>
      if !(o.phase == .run || (o.phase == .lists && firstUnread o == some (ent, dst))) then s
      else
        let s := takeArrived (.list id ent dst) s
        let l := if dst then e.dst else e.src
        let segs := if dst then e.d.dstSegs else e.d.srcSegs
        let total := if dst then dstTotal o.head.d e.d.last e.d else srcTotal o.head.d e.d.last e.d
        match listBlock segs total l blk with
        | .error st => if o.phase == .lists then failEntry o st s else endOp id st 0 s
        | .ok l =>
          let s := modOp id (fun x => { x with entries := modAt (fun e =>
            if dst then { e with dst := l } else { e with src := l }) ent x.entries }) s
          if o.phase == .lists then
            match s.op? id with
            | some o => if (firstUnread o).isNone then afterLists id s else s
            | none => s
          else advancePart id (issueSrc id (if l.ended then s else readList id ent dst s))
  | _, _ => s

/-! ### What may be granted (R237 to R239) -/

/-- A fenced entry that still waits for the acknowledgement of an earlier one (R211). -/
def fenceWaits (s : State) (o : Op) : Bool :=
  o.head.d.fence && o.phase.undispatched && (s.ringOps o.ring).any (fun x => idxBefore x.head.idx o.head.idx)

/-- The conditions of R237 on one ring; R97 holds back a ring that was resumed while its instance was QUIESCING. -/
def ringGrantable (s : State) (n : Nat) (r : Ring) : Bool :=
  r.consumed != r.tail && r.state == .running && !r.quiet && r.weight != 0 && !(s.port (portOf n)).halted &&
  !(s.ringOps n).any (fun o =>
    (fenceWaits s o || o.phase == .chain || (o.openHead && o.phase.fetches) ||
      (match o.phase with
       | .reread _ => true
       | _ => false)))

/-- Rings of an instance with a grantable entry, in ascending order. -/
def grantRings (s : State) (i : Nat) : List (Nat × Ring) :=
  s.rings.filter (fun p => p.2.owner == i && ringGrantable s p.1 p.2)

/-- In-flight entries of the current generation. -/
def ownInFlight (s : State) (i : Nat) : Nat := ((s.instOps i).filter (fun o => !o.old)).length

/-- QUOTA and R238 let the instance take an entry. -/
def tableOk (s : State) (i : Nat) : Bool :=
  let x := s.inst i
  let tot := (s.insts.filter (fun p => p.2.eligible)).foldl (fun a p => a + p.2.weight) 0
  let own := ownInFlight s i
  own < x.quota && s.ops.length < 8192 &&
  (8192 - s.ops.length ≥ 1024 || own < max 4 (8192 * x.weight / max 1 tot))

/-- The instance may make new grants: it is eligible, and grants are not stopped by a lock, an entry to a power state or a
soft reset (R567, R620, R625). -/
def mayGrant (s : State) (i : Nat) : Bool := (s.inst i).eligible && s.pwr.grants && !s.cel.locked

/-- The instance has a grantable entry. -/
def hasGrant (s : State) (i : Nat) : Bool := mayGrant s i && !(grantRings s i).isEmpty && tableOk s i

/-- An entry of the instance is held back by QUOTA or R238. -/
def heldBack (s : State) (i : Nat) : Bool := mayGrant s i && !(grantRings s i).isEmpty && !tableOk s i

/-- The next instance to visit after the last one, in ascending order (R232). -/
def nextVisit (s : State) : Option Nat :=
  let due := (s.insts.filter (fun p => hasGrant s p.1 || laterWaits s p.1)).map (·.1)
  match due.find? (fun i => i > s.sched.last) with
  | some i => some i
  | none => due.head?

/-- The ring that the instance's round robin serves next (R234, R236): the run goes on, or the next ring with a
grantable entry and a rest of its cycle; a finished cycle starts anew. -/
def pickRing (s : State) (i : Nat) : Option (Nat × Bool × Bool) :=
  let x := s.inst i
  let c := grantRings s i
  let budget := fun (p : Nat × Ring) => (tget p.1 x.cycle).getD 0 < p.2.weight * p.2.burst
  let fresh := !c.any budget
  let c := if fresh then c else c.filter budget
  match c.find? (fun p => p.1 == x.ringPtr && x.run < p.2.burst) with
  | some p => some (p.1, true, fresh)
  | none =>
    match c.find? (fun p => p.1 > x.ringPtr) with
    | some p => some (p.1, false, fresh)
    | none => c.head?.map (fun p => (p.1, false, fresh))

/-- Reads speculative copies at and above TAIL (R142 to R145). DESIGN CHOICE: log entry 14. DEDUCED: log entry 36. -/
def prefetch (n : Nat) (s : State) : State :=
  match tget n s.rings with
  | none => s
  | some r =>
    if !s.sched.specEn || r.fmt != 2 || r.specOff || (s.port (portOf n)).halted then s
    else
      (List.range s.sched.depth).foldl (fun s k =>
        let i := r.tail + BitVec.ofNat 32 k
        let known := s.specs.any (fun x => x.ring == n && x.idx == i) ||
          0 < readsLeft s (portOf n) (fun w => w == .spec n i)
        let room := s.specs.length + (s.hwy.ports.foldl (fun a p =>
          a + ((p.rds ++ p.rdQ).filter (fun x => match x.owner with
            | .spec _ _ => true
            | _ => false)).length) 0) < 4096
        if known || !room then s
        else
          count 1 1 ⟨r.owner, some n, none, none, none⟩
            (readReq (portOf n) (r.slot i) r.entBytes r.owner (.spec n i) 0 s)) s

/-- Grants the next entry of the instance's round robin: in-flight entry, estimate, fetch (R14, R228, R234). DEDUCED:
log entry 10. -/
def grantEntry (i : Nat) (s : State) : State :=
  match pickRing s i with
  | none => s
  | some (n, same, fresh) =>
    match tget n s.rings with
    | none => s
    | some r =>
      let s := modInst i (fun x =>
        let cyc := if fresh then [] else x.cycle
        { x with ringPtr := n, run := if same then x.run + 1 else 1,
                 cycle := tset n ((tget n cyc).getD 0 + 1) cyc }) s
      let s := chargeInst i r.estimate s
      let id := s.nextOp
      let s := { s with nextOp := id + 1, ops := s.ops ++ [newOp id i n (s.inst i).gen r.estimate r.consumed] }
      let s := modRing n (fun r => { r with consumed := r.consumed + 1, advanced := r.advanced + 1 }) s
      prefetch n (fetchEntry id n r.consumed s)

/-- Charges the oldest waiting later part of the instance (R229). -/
def chargeLater (i : Nat) (s : State) : State :=
  match ((s.ops.filter (laterDue s i)).foldl (fun (m : Option Op) o => match m with
        | none => some o
        | some p => if o.seq < p.seq then some o else some p) none) with
  | none => s
  | some o => joinPartQ o.id (modOp o.id (fun x => { x with charged := true }) (chargeInst i o.laterCost s))

/-- The visit of an instance ends (R233, R239). -/
def endVisit (i : Nat) (s : State) : State :=
  let held := heldBack s i && 0 < (s.inst i).deficit
  let done := !hasGrant s i && !laterWaits s i && !heldBack s i
  let s := if held then count 9 1 ⟨i, (pickRing s i).map (·.1), none, none, none⟩ s else s
  let s := if done then modInst i (fun x => { x with deficit := min x.deficit x.quantum }) s else s
  { s with sched := { s.sched with visit := none, last := i } }

/-- One step of the round robin: a visit begins if none is under way, then one later part is charged or one entry
granted, and the visit ends when nothing more may be done (R229, R232). Later parts are charged while grants are stopped
too: work in flight runs to its end. DESIGN CHOICE: log entry 34. -/
def schedulerStep (s : State) : State :=
  if !s.pins.mainUp then s
  else
    let s := match s.sched.visit with
      | some _ => s
      | none =>
        match nextVisit s with
        | none => s
        | some i => modInst i (fun x => { x with deficit := x.deficit + (x.quantum : Int) })
            { s with sched := { s.sched with visit := some i } }
    match s.sched.visit with
    | none => s
    | some i =>
      let s :=
        if (s.inst i).deficit ≤ 0 then s
        else if laterWaits s i then chargeLater i s
        else if hasGrant s i then grantEntry i s else s
      if (s.inst i).deficit ≤ 0 || !(hasGrant s i || laterWaits s i) then endVisit i s else s

/-! ### Acknowledged completions (R14, R155, R208, R665) -/

/-- The stamp of the doorbell that first put an entry below TAIL (R664). -/
def doorStamp (r : Ring) (i : Idx) : Nat :=
  match r.dbStamps.find? (fun p => idxBefore i p.1) with
  | some p => p.2
  | none => 0

/-- Forgets the doorbell stamps that no entry needs any more. -/
def pruneStamps (n : Nat) (s : State) : State :=
  let live := (s.ringOps n).map (·.head.idx)
  modRing n (fun r =>
    let need := fun (p : Idx × Nat) => idxBefore r.consumed p.1 || live.any (fun i => idxBefore i p.1)
    { r with dbStamps := r.dbStamps.filter need }) s

/-- The 64 bytes of a sampling record (Table 20-8), PHASE 0. -/
def sampleBytes (o : Op) (r : Ring) (n tCompl : Nat) : List Byte :=
  let flags := b2n o.miss * 2 + b2n o.reDisp * 4 + b2n (o.entries.length > 1) * 8
  leBytes 2 o.ring ++ leBytes 1 flags ++ leBytes 1 o.head.d.opcode ++ leBytes 4 o.head.idx.toNat ++
    leBytes 8 (r.slot o.head.idx) ++ leBytes 4 (if o.head.d.hasCtx then o.head.d.ctx else 2 ^ 32 - 1) ++
    leBytes 2 o.status.code.toNat ++ leBytes 2 o.inst ++ leBytes 8 (doorStamp r o.head.idx) ++ leBytes 8 o.tDisp ++
    leBytes 8 o.tData ++ leBytes 8 tCompl ++ leBytes 4 o.payload ++ leBytes 4 n

/-- The sampling record of an operation for buffer b waits to be written, or is skipped (R666). DEDUCED: log entry 45. -/
def writeSample (o : Op) (r : Ring) (tCompl b n : Nat) (s : State) : State :=
  let x := (s.inst b).samp
  if !x.enable || x.fabErr || (x.tail - x.head).toNat ≥ 2 ^ x.log2 || s.sampQ.length ≥ 64 then skipSample b s
  else { s with sampQ := s.sampQ ++ [⟨b, sampleBytes o r n tCompl⟩] }

/-- Counts one acknowledged completion write (Tables 20-1 and 20-3). -/
def countCompletion (o : Op) (s : State) : State :=
  let cls := o.status.cls
  let tag : EvTag := { o.tag' with cls := some cls }
  let s := if o.old then countIn 0 3 1 tag s else count 3 1 tag s
  let s := fixedOp 17 1 o s
  if cls ≥ 2 then fixedOp 18 1 o s else s

/-- Everything that follows from the acknowledgement of an operation's last completion write. -/
def completed (o : Op) (s : State) : State :=
  let d := o.head.d
  let s := if d.opcode == 0x30 then fixedOp 22 1 o s else s
  let t := stamp s
  let s := draw s
  let s := match tget o.ring s.rings with
    | some r =>
      let s := o.sample.foldl (fun s p => writeSample o r t p.1 p.2 s) s
      let s := if d.irq || d.opcode == 0x30 then
        evWrite o.inst 1 o.status.code.toNat o.ring o.last.idx.toNat o.last.d.cookie s else s
      dueErrorRecord o.ring o.head.idx s
    | none => s
  pruneStamps o.ring (releaseOp o.id (modOp o.id (fun x => { x with sample := [] }) s))

/-- COMPLETION_ACK: one completion write of an operation has been acknowledged. -/
def completionAck (id : Nat) (s : State) : State :=
  match s.op? id, s.arrived? (.compl id) with
  | some o, some _ =>
    let s := countCompletion o (takeArrived (.compl id) s)
    if o.complLeft ≤ 1 then completed o s else modOp id (fun x => { x with complLeft := x.complLeft - 1 }) s
  | _, _ => s

/-! ### Rows -/

/-- SCHEDULER_GRANT (R232). -/
def execSchedulerGrant (s : State) : Host.Outcome State Fault Refusal := .next (finish (schedulerStep s))

/-- DESCRIPTOR_READ_RETURN (R215). -/
def execDescriptorReadReturn (op : Nat) (s : State) : Host.Outcome State Fault Refusal :=
  .next (finish (descriptorReturn op s))

/-- DESC_REREAD (R140). -/
def execDescReread (op : Nat) (s : State) : Host.Outcome State Fault Refusal := .next (finish (descReread op s))

/-- LIST_BLOCK_RETURN (R194). -/
def execListBlockReturn (op : Nat) (ent : Nat) (dst : Bool) (s : State) : Host.Outcome State Fault Refusal :=
  .next (finish (listReturn op ent dst s))

/-- COMPLETION_ACK (R14). -/
def execCompletionAck (op : Nat) (s : State) : Host.Outcome State Fault Refusal :=
  .next (finish (redispatch (completionAck op s)))

end Sys2Proof.Machine
end

