-- ==== Sys2Proof/Machine/Ringing.lean ====
section
/-!
DEFINITION. Doorbells and harvest reads (R132 to R138), event queues and interrupt messages (R150 to R158).
-/

namespace Sys2Proof.Machine

/-- The Porch address of an offset of an instance page; page 0 is the manager region. -/
def pageAddr (page off : Nat) : Nat := (if page == 0 then 0x10000000 else (page - 1) * 0x10000) + off

/-- A register write of a page: answered, and `k` acts when it reaches its register (R498). -/
def pageWrite (page off : Nat) (strb : BitVec 8) (k : State → State) (s : State) : State :=
  let ok := page ≤ s.build.insts && writable (pageAddr page off) strb s
  let s := answerWrite (pageAddr page off) s
  if ok then finish (k (stir s)) else s

/-! ### Doorbells -/

/-- The open chain of a ring takes its next entry, or ends. -/
def pushChain (n : Nat) (s : State) : State :=
  match (s.ringOps n).find? (fun o => o.phase == .chain) with
  | some o => extendChain o.id s
  | none => s

/-- The tail of a ring moves; `st`: the stamp of its doorbell (R664). -/
def moveTail (n : Nat) (t : Idx) (st : Nat) (s : State) : State :=
  match tget n s.rings with
  | none => s
  | some r =>
    let s := modRing n (fun r => { r with tail := t, dbStamps := r.dbStamps ++ [(t, st)] }) s
    pushChain n (fixedCount r.owner 21 1 s)

/-- A ring stops at CONSUMED, and no completion reports it (R137, R162): at a doorbell or at a fabric error of its index
block. DESIGN CHOICE: log entry 86. -/
def stopConsumed (n : Nat) (st : Status) (s : State) : State :=
  match tget n s.rings with
  | none => s
  | some r => pushChain n (stopAt n r.consumed r.consumed st true s)

/-- stop(status) of R135. -/
def doorStop (n : Nat) (st : Status) (s : State) : State :=
  match tget n s.rings with
  | none => s
  | some r =>
    if r.state == .error || r.state == .resuming then dbFlag r.owner n (fun d => { d with refused := true }) s
    else stopConsumed n st s

/-- Of two doorbells, tail and stamp, the one further ahead of TAIL (R136). -/
def further (tail : Idx) (a b : Idx × Nat) : Idx × Nat := if (a.1 - tail).toInt < (b.1 - tail).toInt then b else a

/-- Threshold handles a doorbell that reached it at `st` (R135, R664). -/
def handleDoorbell (page ring : Nat) (t : Idx) (st : Nat) (s : State) : State :=
  match tget ring s.rings with
  | none => addCounter 0 64 1 (dbFlag page ring (fun d => { d with foreign := true }) s)
  | some r =>
    if r.owner != page then addCounter 0 64 1 (dbFlag page ring (fun d => { d with foreign := true }) s)
    else if r.state == .resetting || r.state == .destroying then
      dbFlag page ring (fun d => { d with stale := true }) s
    else if r.harvOut.isSome then
      modRing ring (fun r => { r with held := some (match r.held with
        | some h => further r.tail h (t, st)
        | none => (t, st)) }) s
    else
      let d := t - r.tail
      if d == 0 || d.toNat ≥ 0x80000000 then dbFlag page ring (fun d => { d with behind := true }) s
      else if (t - r.harvest).toNat > r.size then
        readReq (portOf ring) r.iblk 4 r.owner (.harvest ring) 0
          (modRing ring (fun r => { r with harvOut := some (t, st) }) s)
      else moveTail ring t st s

/-- The held doorbell of a ring is handled after its harvest read (R136). -/
def releaseHeld (ring : Nat) (s : State) : State :=
  match tget ring s.rings with
  | none => s
  | some r =>
    match r.held with
    | some (t, st) => handleDoorbell r.owner ring t st (modRing ring (fun r => { r with held := none }) s)
    | none => s

/-- The harvest read of a ring has failed on the fabric (R135). -/
def harvestFailed (ring : Nat) (st : Status) (s : State) : State :=
  releaseHeld ring (doorStop ring st (modRing ring (fun r => { r with harvOut := none }) s))

/-- The harvest read of a ring has returned h (R135 to R137). -/
def harvestReturn (ring : Nat) (h : Idx) (s : State) : State :=
  match tget ring s.rings with
  | none => s
  | some r =>
    match r.harvOut with
    | none => s
    | some (t, st) =>
      let s := modRing ring (fun r => { r with harvOut := none }) s
      let s :=
        if (r.consumed - h).toNat > r.size || (h - r.harvest).toNat > r.size then doorStop ring .ringHarvestBad s
        else
          let s := modRing ring (fun r => { r with harvest := h }) s
          if (t - h).toNat > r.size then doorStop ring .ringOverrun s else moveTail ring t st s
      releaseHeld ring s

/-- A doorbell ends Doze while WAKE_ON_DB is 1 (R626). -/
def wakeForDoorbell (s : State) : State :=
  if s.pwr.wakeOnDb then wake 2 s else s

/-- A write to PCH_DOORBELL (R132): a narrow one only sets PARTIAL. -/
def doorbellWrite (page : Nat) (strb : BitVec 8) (data : Word) (s : State) : State :=
  if strb != 0xFF && page ≤ s.build.insts && writable (pageAddr page 0) 0xFF s then
    finish (modInst page (fun x => { x with db := { x.db with partialW := true } })
      (stir (answerWrite (pageAddr page 0) s)))
  else
    pageWrite page 0 strb (fun s =>
      handleDoorbell page (bits data 47 32) (BitVec.ofNat 32 (bits data 31 0)) (stamp s) (draw (wakeForDoorbell s))) s

/-- DOORBELL (R132, R135). -/
def execDoorbell (page : Nat) (strb : BitVec 8) (data : Word) (s : State) : Host.Outcome State Fault Refusal :=
  .next (doorbellWrite page strb data s)

/-- HARVEST_READ_RETURN (R136). -/
def execHarvestReadReturn (ring : Nat) (s : State) : Host.Outcome State Fault Refusal :=
  .next (match s.arrived? (.harvest ring) with
    | none => s
    | some b => finish (harvestReturn ring (BitVec.ofNat 32 (field 0 4 b)) (takeArrived (.harvest ring) s)))

/-! ### Event queues -/

/-- A write to TH_EQ_BASE (Table 4-8, R150). Records that are outstanding when ENABLE goes to 0 still count in TAIL; a
later rise of ENABLE starts the count anew, and what is then outstanding belongs to nobody. DESIGN CHOICE: log entry 87. -/
def eqBaseWrite (i : Nat) (data : Word) (s : State) : State :=
  let e := (s.inst i).eq
  let en := data.getLsbD 0
  let base := if e.enable then e.base else bits data 51 16 * 65536
  if en && !e.enable then
    disownWrites (fun w => match w with
      | .eventRec j _ => j == i
      | _ => false) (modEq i (fun e => { e with
        base := base, enable := true, tail := 0, head := 0, fabErr := false, overflow := false, armed := true,
        issued := 0, acked := [], inFlight := [], unsig := 0, flagSet := false, due := false }) s)
  else modEq i (fun e => { e with base := base, enable := en }) s

/-- A write to TH_EQ_HEAD (R151, R156). -/
def eqHeadWrite (i : Nat) (v : Idx) (s : State) : State :=
  let e := (s.inst i).eq
  if (v - e.head).toNat ≤ 4096 && (e.tail - v).toNat ≤ 4096 then
    irqCheck i (modEq i (fun e => { e with head := v, armed := true }) s)
  else modEq i (fun e => { e with headBad := true }) s

/-- A write to TH_EQ_IRQ (Table 4-8); under a longer TIME the oldest record has not reached it yet. -/
def eqIrqWrite (i : Nat) (data : Word) (s : State) : State :=
  let time := min 10000 (bits data 47 32)
  irqCheck i (modEq i (fun e => { e with
    mask := data.getLsbD 63, time := time, due := e.due && time ≤ e.time,
    count := max 1 (min 4096 (bits data 12 0)) }) s)

/-- EVENT_QUEUE_ENABLE (R150): the write of TH_EQ_BASE that sets ENABLE. -/
def execEventQueueEnable (page : Nat) (strb : BitVec 8) (data : Word) (s : State) :
    Host.Outcome State Fault Refusal :=
  .next (pageWrite page 0x1200 strb (fun s => if data.getLsbD 0 then eqBaseWrite page data s else s) s)

/-- EVENT_QUEUE_HEAD_WRITE (R151). -/
def execEventQueueHeadWrite (page : Nat) (strb : BitVec 8) (data : Word) (s : State) :
    Host.Outcome State Fault Refusal :=
  .next (pageWrite page 0x1210 strb (eqHeadWrite page (BitVec.ofNat 32 (bits data 31 0))) s)

/-- The lowest record of an instance whose acknowledgement has arrived and is not yet counted. -/
def arrivedRecord (i : Nat) (s : State) : Option Idx :=
  s.hwy.arrived.findSome? (fun a => match a.owner with
    | .eventRec j n => if j == i then some n else none
    | _ => none)

/-- EVENT_RECORD_ACK (R152): TAIL and the interrupt message. -/
def execEventRecordAck (inst : Nat) (s : State) : Host.Outcome State Fault Refusal :=
  .next (match arrivedRecord inst s with
    | none => s
    | some n => finish (evAck inst n (takeArrived (.eventRec inst n) s)))

/-- COALESCING_TIMEOUT (R156): the oldest unsignalled record has reached TIME. DESIGN CHOICE: log entry 80. -/
def execCoalescingTimeout (inst : Nat) (s : State) : Host.Outcome State Fault Refusal :=
  .next (if s.pins.mainUp then finish (irqCheck inst (modEq inst (fun e => { e with due := e.due || 0 < e.unsig }) s)) else s)

/-- TH_PREFETCH_CFG (Table 4-6). -/
def prefetchCfg (data : Word) (s : State) : State :=
  { s with sched := { s.sched with depth := max 1 (bits data 11 8), specEn := data.getLsbD 0 && s.boot.snapshot64 } }

/-- A register write of a unit block: answered, and `k` acts when it reaches its register. -/
def unitWrite (off : Nat) (strb : BitVec 8) (k : State → State) (s : State) : State :=
  let ok := writable (0x10000000 + off) strb s
  let s := answerWrite (0x10000000 + off) s
  if ok then finish (k (stir s)) else s

/-- PREFETCH_CFG_WRITE (Table 4-6, R534): SPEC_EN only if the fabric record's SNAPSHOT64 allows it. DEDUCED: log entry
53. -/
def execPrefetchCfgWrite (strb : BitVec 8) (data : Word) (s : State) : Host.Outcome State Fault Refusal :=
  .next (unitWrite 0x20100 strb (prefetchCfg data) s)

end Sys2Proof.Machine
end

