-- ==== Sys2Proof/Machine/Hallway.lean ====
section
/-!
DEFINITION. The Hallway: responses, acknowledgements, timeouts, who owns an error (Table 13-3), halts, drains and
resumes (13_hallway.md).
-/

namespace Sys2Proof.Machine

/-! ### Halts (R467 to R470, Table 13-4) -/

/-- Puts an operation back into the Hearth queue: ahead of every operation of its instance that was dispatched after it, so
that the list keeps its dispatch order (R248, R407). -/
def requeuePk (s : State) (o : Op) : List (Nat × Nat) → List (Nat × Nat)
  | [] => [(o.inst, o.id)]
  | p :: t =>
    if p.1 == o.inst && (match s.op? p.2 with
        | some x => o.seq < x.seq
        | none => false) then (o.inst, o.id) :: p :: t
    else p :: requeuePk s o t

/-- A PK operation whose operand read is abandoned goes back to the head of its instance's list; its engine wipes
(Table 11-9). -/
def returnPk (o : Op) (s : State) : State :=
  let s := dropReads (fun w => w.op? == some o.id) s
  let s := mapEngines (fun e => if e.op == some o.id then
    { e with op := none, state := .wipe, hdr := [], data := [], regs := EngRegs.zero, valDone := none } else e) s
  let q := requeuePk s o s.hearth.queue
  { modOp o.id (fun x => { x with returned := true, phase := .hearth }) s with hearth := { s.hearth with queue := q } }

/-- A dispatched operation with a read outstanding is returned for re-dispatch: its partial state goes, it keeps its
Room and its staging place, zeroed (R468, Table 13-4). -/
def returnOp (o : Op) (s : State) : State :=
  if o.phase == .hearth then returnPk o s
  else
    let s := dropOutput o (dropReads (fun w => w.op? == some o.id) s)
    let s := { s with scu := { s.scu with partQ := s.scu.partQ.filter (fun q => q != o.id) } }
    modOp o.id (fun x => { x with
      phase := .ready, returned := true, unit := none, part := 0, done := 0, charged := true, need := 0, buf := [], aad := [],
      tag := [], acc := [], stage := [], key := none }) s

/-- A dispatched operation whose reads a halt abandons: on a Room, in the Scullery or on an engine. -/
def Op.onUnit (o : Op) : Bool := o.phase == .run || o.phase == .hearth

/-- Reads that a halt keeps for a new read after the resume (Table 13-4). -/
def keptRead (s : State) (w : Owner) : Bool :=
  match w with
  | .harvest _ => true
  | .node _ _ => true
  | .larBlob _ => true
  | .child _ _ _ => true
  | .desc _ => true
  | .list o _ _ => (match s.op? o with
    | some o => !o.onUnit
    | none => false)
  | .blob _ => true
  | _ => false

/-- A LARDER_ATTACH whose node read has failed, or stands on a port that has halted, ends: the store is stale. DESIGN CHOICE:
log entry 58. -/
def attachHalted (n : Nat) (s : State) : State :=
  let node := fun (r : Rd) => match r.owner with
    | .node _ _ => !r.quar
    | _ => false
  if s.attaching && ((s.port n).rds.any node || (s.port n).rdQ.any node) then attachEnd false s else s

/-- A port halts (R467, R468); an error during a halt only adds to HALTS (R469). `ring`: the ring of a failed
speculative read. -/
def haltPort (n cause : Nat) (st : Status) (ring : Nat) (s : State) : State :=
  let p := s.port n
  let s := modPort n (fun p => { p with halts := min 0xFFFF (p.halts + 1) }) s
  if p.halted then s
  else
    let s := addCounter 0 67 1 s
    let s := modPort n (fun p => { p with halted := true, cause := cause, first := some (st, ring), told := false }) s
    let back := s.ops.filter (fun o => portOf o.ring == n && o.onUnit && !o.old &&
      p.rds.any (fun r => !r.quar && !r.drop && r.owner.op? == some o.id))
    let s := back.foldl (fun s o => returnOp o s) s
    let again := ((s.port n).rds.filter (fun r => !r.quar && !r.drop && keptRead s r.owner))
    let s := modPort n (fun p => { p with
      rds := p.rds.map (fun r => if r.owner.study then r else { r with drop := true }),
      rdQ := again ++ p.rdQ.filter (fun r => match r.owner with
        | .spec _ _ => false
        | _ => true) }) s
    firmwareHalted n p
      (attachHalted n { s with specs := s.specs.filter (fun x => portOf x.ring != n) })

/-- A DRAINED port writes its MOVER_HALT record (R470). -/
def tellDrained (n : Nat) (s : State) : State :=
  let p := s.port n
  match p.first with
  | some (st, ring) =>
    if p.halted && !p.told && p.readsOut == 0 && p.writesOut == 0 then
      evWrite 0 0x30 st.code.toNat ring n p.halts (modPort n (fun p => { p with told := true }) s)
    else s
  | none => s

/-! ### Errors and their owners (Table 13-3) -/

/-- A packet read or a reply write of a command queue has failed: the queue is not served until ENABLE goes from 0
to 1 (R30). -/
def queueFailed (q : Nat) (s : State) : State :=
  let s := disownWrites (fun w => w == .replyBody q || w == .replyWord2 q) (dropReads (fun w => w == .cmdPacket q) s)
  modCq q (fun c => { c with fabErr := true, rdOut := false, arrived := none, serving := none }) s

/-- The engine that holds an operation stops, and the operation ends with a status after the wipe (R428). -/
def stopEngine (id : Nat) (st : Status) (s : State) : State :=
  mapEngines (fun e => if e.op == some id then e.stop (some st) else e)
    (dropReads (fun w => w == .pkIn id || w == .pkBody id) s)

/-- A read request of an owner has failed. -/
def readFailed (n : Nat) (r : Rd) (st : Status) (s : State) : State :=
  let unread := fun (o : Op) (s : State) => if o.onUnit then failRead o.id st s else failEntry o st s
  let withOp := fun (id : Nat) (f : Op → State → State) (s : State) => match s.op? id with
    | some o => f o s
    | none => s
  match r.owner with
  | .cmdPacket q => queueFailed q s
  | .desc o => withOp o (fun x s => slotReadFailed x st (dropReads (fun w => w == .desc o) s)) s
  | .spec ring _ => haltPort n 1 st ring s
  | .harvest ring => harvestFailed ring st s
  | .list o _ _ => withOp o unread s
  | .blob o => withOp o unread s
  | .aad o => withOp o unread s
  | .src o => withOp o unread s
  | .tagIn o => withOp o unread s
  | .pkIn o => stopEngine o st s
  | .pkBody o => stopEngine o st s
  | .node _ _ => haltPort n 3 st 0 (modPort n (fun p => { p with rdQ := r :: p.rdQ }) s)
  | .larBlob _ => haltPort n 3 st 0 (modPort n (fun p => { p with rdQ := r :: p.rdQ }) s)
  | .child _ _ _ => haltPort n 3 st 0 (modPort n (fun p => { p with rdQ := r :: p.rdQ }) s)
  | w => firmwareFailed n w s

/-- A write charged to an entry that is not in flight any more: its ring stops, unless its instance is being reset or
destroyed (R104, R466). -/
def lateWriteFailed (ring : Nat) (e : Idx) (st : Status) (s : State) : State :=
  match tget ring s.rings with
  | none => s
  | some r =>
    let x := (s.inst r.owner).state
    if x == .resetting || x == .destroying then s else stopRing ring e st true s

/-- The completion write of an entry has failed: no speculation until a reset, and the ring stops at the entry
(R145, Table 13-3). -/
def complFailed (id : Nat) (st : Status) (s : State) : State :=
  match s.op? id with
  | none => s
  | some o =>
    let s := modRing o.ring (fun r => { r with complBad := true }) s
    let s := match tget o.ring s.rings with
      | some r =>
        if r.state == .running then stopRing o.ring o.head.idx st true s
        else dueErrorRecord o.ring o.head.idx s
      | none => s
    if o.complLeft ≤ 1 then
      releaseOp id s
    else modOp id (fun x => { x with complLeft := x.complLeft - 1 }) s

/-- A write request of an owner has failed. A Larder write is made again after the resume (Table 13-4). DESIGN CHOICE:
log entry 86. -/
def writeFailed (n : Nat) (w : Wr) (st : Status) (s : State) : State :=
  let again := fun (s : State) => haltPort n 4 st 0 (modPort n (fun p => { p with wrQ := w :: p.wrQ }) s)
  match w.owner with
  | .replyBody q => queueFailed q s
  | .replyWord2 q => queueFailed q s
  | .eventRec i _ => evFail i s
  | .irqMsg i => irqCheck i (modEq i (fun e => { e with armed := true }) (addCounter 0 66 1 s))
  | .idxBlock ring => (match tget ring s.rings with
    | some r => if r.state == .running && (s.inst r.owner).served then stopConsumed ring st s else s
    | none => s)
  | .dst o ring e => (match s.op? o with
    | none => freeRecords (match ring with
      | some r => lateWriteFailed r e st s
      | none => s)
    | some x =>
      if x.old then s
      else if s.hearth.engines.any (fun g => g.op == some o) then
        stopEngine o st (dropWrites (fun v => v == .dst o ring e) s)
      else failWrite o x.ring e st s)
  | .zero o => (match s.op? o with
    | some x => failWrite o x.ring x.head.idx st s
    | none => s)
  | .compl o => complFailed o st s
  | .victim _ => again s
  | .nodeWb _ _ => again s
  | .tomb _ => again s
  | .reauth => again s
  | .flushSlot _ => flushWritten w.owner false (flushFabricError (haltPort n 4 st 0 s))
  | .flushNode _ _ => flushWritten w.owner false (flushFabricError (haltPort n 4 st 0 s))
  | .samp i => modInst i (fun x => { x with samp := { x.samp with fabErr := true } }) s
  | v => firmwareFailed n v s

/-! ### Transfers that arrive -/

/-- Marks the first data of an operation (R664). -/
def firstData (id : Nat) (s : State) : State :=
  match s.op? id with
  | some o => if o.tData == 0 then draw (modOp id (fun x => { x with tData := stamp s }) s) else s
  | none => s

/-- Bytes of source, AAD or tag reach the operation they were read for. -/
def deliverPiece (w : Owner) (off : Nat) (data : List Byte) (s : State) : State :=
  match w with
  | .src id =>
    let s := firstData id (modOp id (fun x => { x with buf := x.buf ++ [(off, data)] }) s)
    (match s.op? id with
     | some o => joinPartQ id (advancePart id (countOp 4 (min data.length (o.payload - off)) o s))
     | none => s)
  | .aad id =>
    let s := firstData id (modOp id (fun x => { x with aad := x.aad ++ [(off, data)] }) s)
    (match s.op? id with
     | some o => advancePart id (countOp 6 data.length o s)
     | none => s)
  | .tagIn id => firstData id (modOp id (fun x => { x with tag := x.tag ++ [(off, data)] }) s)
  | _ => s

/-- A TXN_COMMIT is taken once its packet has arrived whole and passes the checks: from then on nothing ends its transaction
(R29, R70). -/
def commitTaken (q : Nat) (p : List Byte) (s : State) : State :=
  if q == 0 && pkOpcode p == 0x31 && (packetFault s 0 p).isNone then { s with txn := { s.txn with taken := true } } else s

/-- A descriptor read counts for the filters that match its opcode once the slot's opcode is known (Table 20-4). DESIGN
CHOICE: log entry 110. -/
def countRead (i ring : Nat) (data : List Byte) (s : State) : State :=
  countIf (fun f => f.getLsbD 24) 1 1 ⟨i, some ring, some (Desc.ofBytes data).opcode, none, none⟩ s

/-- The whole of a transfer has arrived: it goes to its queue, its operation, or to the unit whose row takes it. -/
def deliverWhole (w : Owner) (data : List Byte) (s : State) : State :=
  match w with
  | .cmdPacket q => commitTaken q data (noteTaken q (modCq q (fun c => { c with rdOut := false, arrived := some data }) s))
  | .blob id => acceptOp id (firstData id (modOp id (fun x => { x with blob := data }) s))
  | .desc id => arrive w data (match s.op? id with
    | some o => countRead o.inst o.ring data s
    | none => s)
  | .child level _ _ => arrive w data (if level == 0 then s else addCounter 0 70 1 s)
  | .spec ring i => (match tget ring s.rings with
    | some r =>
      let s := countRead r.owner ring data s
      if r.state == .running && !idxBefore i r.consumed && s.specs.length < 4096 then
        { s with specs := s.specs ++ [⟨ring, i, data⟩] } else s
    | none => s)
  | .pkIn id => arrive w data (firstData id s)
  | .image _ => imageCame data s
  | .line p => lineCame p (some data) s
  | _ => arrive w data s

/-- One request's data has come in; the transfer is whole when no request of its owner is still to come. DESIGN
CHOICE: log entry 76. -/
def takeData (n : Nat) (r : Rd) (data : List Byte) (s : State) : State :=
  match r.owner with
  | .src _ => deliverPiece r.owner r.off data s
  | .aad _ => deliverPiece r.owner r.off data s
  | .tagIn _ => deliverPiece r.owner r.off data s
  | w =>
    let s := { s with hwy := { s.hwy with pieces := s.hwy.pieces ++ [(w, r.off, data)] } }
    if 0 < readsLeft s n (fun v => v == w) then s
    else
      let mine := (s.hwy.pieces.filter (fun x => x.1 == w)).map (fun x => (x.2.1, x.2.2))
      let s := { s with hwy := { s.hwy with pieces := s.hwy.pieces.filter (fun x => x.1 != w) } }
      deliverWhole w (gather mine mine.length 0) s

/-- Reads that point 11 may fail (Table 19-5). -/
def Owner.injectable : Owner → Bool
  | .desc _ => true
  | .spec _ _ => true
  | .list _ _ _ => true
  | .src _ => true
  | .aad _ => true
  | .tagIn _ => true
  | .pkIn _ => true
  | .pkBody _ => true
  | _ => false

/-- Point 11 is armed for a port with a kind. -/
def fabricInjected (s : State) (n kind : Nat) : Bool :=
  s.injected 11 (fun a => bits a 2 0 == n && bits a 9 8 == kind)

/-- The status of a failed read request, and of a failed write request. -/
def readStatus (late : Bool) : Status := if late then .fabricTimeout else .fabricReadError
/-- As above, for writes. -/
def writeStatus (late : Bool) : Status := if late then .fabricWriteTimeout else .fabricWriteError

/-- CAUSE and ring of the halt that a failed read of an owner makes (Tables 13-3 and 13-7); none when it is charged to
someone. DEDUCED: log entry 52. -/
def Owner.haltCause : Owner → Option (Nat × Nat)
  | .spec ring _ => some (1, ring)
  | .node _ _ => some (3, 0)
  | .larBlob _ => some (3, 0)
  | .child _ _ _ => some (3, 0)
  | _ => none

/-- A read that nobody wants any more has failed: one of an old-generation operation is counted (R104), one that Table 13-3
charges to no one halts its port, or adds to HALTS (R469). DEDUCED: log entry 52. -/
def absorbRead (n : Nat) (r : Rd) (st : Status) (s : State) : State :=
  if r.old then addCounter 0 65 1 s
  else
    match r.owner.haltCause with
    | some (cause, ring) => haltPort n cause st ring s
    | none => s

/-- Read data beats that carried OK are counted, whatever becomes of their data (R661, Table 20-7). -/
def readBeats (n : Nat) (r : Rd) (s : State) : State :=
  countIn 0 0x20 (beats r.addr r.len) ⟨0, none, none, none, some n⟩
    (modPort n (fun p => { p with rBeats := p.rBeats + beats r.addr r.len }) s)

/-- HALLWAY_READ_RESPONSE on a port (R457, R463, R506). A read that point 11 times out is quarantined and counted, and the
response that has come is its late one (R463, R646). -/
def readResponse (n id : Nat) (parityOk : Bool) (status : BitVec 2) (data : List Byte) (s : State) : State :=
  let corrupt := fabricInjected s n 3
  let s := if corrupt then fireAt 11 s else s
  match (if parityOk && !corrupt then (s.port n).rds.find? (fun r => r.id == id) else none) with
  | none => haltPort n 2 .fabricReadError 0 s
  | some r =>
    let s := modPort n (fun p => { p with rds := p.rds.filter (fun x => x.id != id) }) s
    if r.quar then (if status == 0 then readBeats n r s else s)
    else
      let inj0 := status == 0 && r.owner.injectable && fabricInjected s n 0
      let inj1 := status == 0 && !inj0 && r.owner.injectable && fabricInjected s n 1
      let s := if inj0 || inj1 then fireAt 11 s else s
      let s := if inj1 then countIn 0 0x22 1 ⟨0, none, none, none, some n⟩ s else s
      let bad := status != 0 || inj0 || inj1
      let s := if status == 0 then readBeats n r s else s
      if r.drop then (if bad then absorbRead n r (readStatus inj1) s else s)
      else if bad then readFailed n r (readStatus inj1) s
      else takeData n r (fillTo r.len (data.take r.len)) s

/-- After acknowledged output, a staging place that has been written out is freed, and a record with no output left
(R330, Table 8-2). -/
def freePlaces (id : Nat) (s : State) : State :=
  match s.op? id with
  | some o =>
    if (o.phase == .post || o.phase == .compl) && !outputLeft s o then
      modOp id (fun x => { x with place := none, stage := [], room := none }) s
    else s
  | none => s

/-- The last zero write of an operation has been acknowledged: its completion may be posted (R196, R299). -/
def scrubbed (id : Nat) (s : State) : State :=
  match s.op? id with
  | some o =>
    if o.phase == .scrub && writesLeft s (portOf o.ring) (fun w => w == .zero id) == 0 then
      tryPost o.ring (modOp id (fun x => { x with phase := .post }) s)
    else s
  | none => s

/-- A node whose write-back is acknowledged leaves the cache, unless it has changed again (R349). -/
def nodeWritten (level n : Nat) (s : State) : State :=
  let s := modNode level n (fun x => { x with wbOut := false }) s
  match s.node? level n with
  | some x => if !x.dirty && evictable s x then dropNode level n s else s
  | none => s

/-- The last new authentication of children has been acknowledged: the re-authentications written so far end, and
lookups go on (R348). -/
def reauthDone (s : State) : State :=
  if s.hwy.ports.any (fun p => p.wrs.any (fun w => w.owner == .reauth && !w.quar) || p.wrQ.any (fun w => w.owner == .reauth))
  then s
  else { s with lar := { s.lar with nodes := (s.lar.nodes.filter (fun x => !(x.level == 4 && x.rewrap))).map endRewrap } }

/-- A write has been acknowledged (R460). -/
def writeAcked (n : Nat) (w : Wr) (s : State) : State :=
  let last := fun (s : State) => writesLeft s n (fun v => v == w.owner) == 0
  match w.owner with
  | .replyBody q => replyWord2 q s
  | .dst o ring _ =>
    let s := freeRecords (freePlaces o s)
    (match ring with
     | some r => tryPost r s
     | none => s)
  | .zero o => scrubbed o s
  | .nodeWb l k => if last s then nodeWritten l k s else s
  | .victim _ => if last s then arrive w.owner [] s else s
  | .tomb _ => if last s then arrive w.owner [] s else s
  | .flushSlot _ => if last s then flushWritten w.owner true s else s
  | .flushNode _ _ => if last s then flushWritten w.owner true s else s
  | .reauth => reauthDone s
  | .replyWord2 _ => arrive w.owner [] s
  | .eventRec _ _ => arrive w.owner [] s
  | .compl _ => arrive w.owner [] s
  | .attic _ => atticWritten s
  | .lineW => if last s then lineWritten true s else s
  | _ => s

/-- A write that point 11 may fail. -/
def Owner.outputs : Owner → Bool
  | .dst _ _ _ => true
  | _ => false

/-- HALLWAY_WRITE_ACK on a port (R460, R463, R506). -/
def writeAck (n id : Nat) (parityOk : Bool) (status : BitVec 2) (s : State) : State :=
  match (if parityOk then (s.port n).wrs.find? (fun w => w.id == id) else none) with
  | none => haltPort n 2 .fabricWriteError 0 s
  | some w =>
    let s := modPort n (fun p => { p with wrs := p.wrs.filter (fun x => x.id != id) }) s
    if w.quar then s
    else
      let inj := status == 0 && w.owner.outputs && fabricInjected s n 2
      let s := if inj then fireAt 11 s else s
      if status != 0 || inj then writeFailed n w (writeStatus false) s else writeAcked n w s

/-- Everything a port does after a beat or a timeout: waiting requests issue, a drained halt is told. -/
def afterPort (n : Nat) (s : State) : State :=
  finish (tellDrained n (redispatch (pump n s)))

/-- READ_TIMEOUT of a read (R462, R463). -/
def readLate (n id : Nat) (s : State) : State :=
  match (s.port n).rds.find? (fun r => r.id == id && !r.quar) with
  | none => s
  | some r =>
    let s := modPort n (fun p => { p with rds := p.rds.map (fun x =>
      if x.id == id then { x with quar := true } else x) }) s
    let s := countIn 0 0x22 1 ⟨0, none, none, none, some n⟩ s
    afterPort n (if r.drop then absorbRead n r (readStatus true) s else readFailed n r (readStatus true) s)

/-- WRITE_TIMEOUT of a write (R462, R463). -/
def writeLate (n id : Nat) (s : State) : State :=
  match (s.port n).wrs.find? (fun w => w.id == id && !w.quar) with
  | none => s
  | some w =>
    let s := modPort n (fun p => { p with wrs := p.wrs.map (fun x =>
      if x.id == id then { x with quar := true } else x) }) s
    afterPort n (writeFailed n w (writeStatus true) s)

/-! ### Resume (R478) -/

/-- Puts an operation into an ordered list. -/
def insertOp (before : Op → Op → Bool) (o : Op) : List Op → List Op
  | [] => [o]
  | p :: t => if before o p then o :: p :: t else p :: insertOp before o t

/-- Orders operations. -/
def orderOps (before : Op → Op → Bool) (l : List Op) : List Op := l.foldr (insertOp before) []

/-- Operations of a port that a halt has returned, in the order of their re-dispatch: the rings take turns in the first
dispatch order of their operations, and each ring sends its own in index order (R248). DEDUCED: log entry 88. -/
def returnedOps (n : Nat) (s : State) : List Op :=
  let turns := orderOps (fun a b => a.seq < b.seq) (s.ops.filter (fun o => portOf o.ring == n && o.returned))
  turns.zipIdx.filterMap (fun p =>
    let mine := fun (x : Op) => x.ring == p.1.ring
    (orderOps (fun a b => idxBefore a.head.idx b.head.idx) (turns.filter mine))[((turns.take p.2).filter mine).length]?)

/-- Completions that waited for a port to issue writes again, and the interrupt messages that waited for hw0 (R471). -/
def writesResume (n : Nat) (s : State) : State :=
  let s := (s.rings.map (·.1)).foldl (fun s r => if portOf r == n then tryPost r s else s) s
  if n == 0 then (s.insts.map (·.1)).foldl (fun s i => irqCheck i s) s else s

/-- The resume of a halted port at a round boundary (R478): held writes, re-dispatches, held reads. A port that is paused goes
on to issue nothing (R480). DEDUCED: log entry 88. -/
def resumePort (n : Nat) (s : State) : State :=
  let back := returnedOps n s
  let held := (s.port n).rdQ
  let s := modPort n (fun p => { p with halted := false, cause := 0, first := none, hush := p.paused, rdQ := [] }) s
  let s := issueWrites n s
  let s := back.foldl (fun s o =>
    let s := modOp o.id (fun x => { x with returned := false }) s
    if o.phase == .hearth then s
    else match s.op? o.id with
      | some x => dispatchOp x s
      | none => s) s
  let s := modPort n (fun p => { p with rdQ := p.rdQ ++ held.filter (fun r => match r.owner.op? with
    | some id => (s.op? id).isSome
    | none => true) }) s
  writesResume n (pump n s)

/-! ### Rows -/

/-- HALLWAY_READ_RESPONSE (R506). DESIGN CHOICE: log entry 76. -/
def execHallwayReadResponse (port id : Nat) (parityOk : Bool) (status : BitVec 2) (data : List Byte) (s : State) :
    Host.Outcome State Fault Refusal :=
  .next (if s.pins.mainUp && port < 8 then afterPort port (readResponse port id parityOk status data s) else s)

/-- HALLWAY_WRITE_ACK (R460). -/
def execHallwayWriteAck (port id : Nat) (parityOk : Bool) (status : BitVec 2) (s : State) :
    Host.Outcome State Fault Refusal :=
  .next (if s.pins.mainUp && port < 8 then afterPort port (writeAck port id parityOk status s) else s)

/-- READ_TIMEOUT (R462). DESIGN CHOICE: log entry 77. -/
def execReadTimeout (port id : Nat) (s : State) : Host.Outcome State Fault Refusal := .next (readLate port id s)

/-- WRITE_TIMEOUT (R462). DESIGN CHOICE: log entry 77. -/
def execWriteTimeout (port id : Nat) (s : State) : Host.Outcome State Fault Refusal := .next (writeLate port id s)

/-- A write to HWY_PORT_CTRLn (Table 13-6); with PAUSE cleared a port that R480 held issues again. -/
def portCtrlWrite (port : Nat) (data : Word) (s : State) : State :=
  let on := data.getLsbD 0
  let freed := (s.port port).hush && !on
  let s := pump port (modPort port (fun p => { p with paused := on, hush := p.hush && on }) s)
  if freed then writesResume port s else s

/-- PAUSE (R479): the write of HWY_PORT_CTRLn. -/
def execPause (port : Nat) (strb : BitVec 8) (data : Word) (s : State) : Host.Outcome State Fault Refusal :=
  .next (if port < 8 then unitWrite (0x70100 + 8 * port) strb (portCtrlWrite port data) s else s)

/-- A write to HWY_BW_CFG (Table 20-6): a change of WINDOW starts a new window at once. -/
def bwCfgWrite (data : Word) (s : State) : State :=
  let w := max 1 (min 1000000 (bits data 19 0))
  if w == s.hwy.bwWindow then s
  else { s with hwy := { s.hwy with
    bwWindow := w, ports := s.hwy.ports.map (fun p => { p with rBeats := 0, wBeats := 0 }) } }

/-- BW_WINDOW_WRITE (R661). -/
def execBwWindowWrite (strb : BitVec 8) (data : Word) (s : State) : Host.Outcome State Fault Refusal :=
  .next (unitWrite 0x70008 strb (bwCfgWrite data) s)

/-- BW_WINDOW_END (R661). -/
def execBwWindowEnd (s : State) : Host.Outcome State Fault Refusal :=
  .next { s with hwy := { s.hwy with ports := s.hwy.ports.map (fun p =>
    { p with bwR := p.rBeats % 2 ^ 32, bwW := p.wBeats % 2 ^ 32, rBeats := 0, wBeats := 0 }) } }

end Sys2Proof.Machine
end

