-- ==== Sys2Proof/Machine/Commands.lean ====
section
/-!
DEFINITION. The commands of chapters 02 to 04, 11, 13, 19 and 20: device, instances, rings, transactions, ports,
aborts, injections and counters; replies and the registers of the command queues.
-/

namespace Sys2Proof.Machine

/-- Serves one command: the arrived packet of a queue, when it carries an opcode of the row and every check of
Table 2-6 passes; then whatever can go on goes on. -/
def command (q : Nat) (mine : List Byte → Bool) (k : List Byte → State → State) (s : State) : State :=
  if s.study.cmdRdy then finish (serve q mine k (stir s)) else s

/-- The packet carries an opcode. -/
def isOp (op : Nat) (p : List Byte) : Bool := pkOpcode p == op

/-! ### Device (R46 to R51) -/

/-- The reply of DEV_QUERY (Table 2-12). -/
def devQueryBody (q : Nat) (s : State) : List Byte :=
  let h := s.fw.sram.headD []
  let x := s.inst q
  leBytes 2 s.build.code ++ leBytes 2 (b2n s.build.guard + 2) ++ leBytes 1 s.build.rooms ++
    leBytes 1 s.build.engines ++ leBytes 1 (b2n s.cel.locked) ++ leBytes 1 s.position ++
    leBytes 4 s.build.rings ++ leBytes 4 s.build.insts ++ leBytes 4 s.build.slots ++ leBytes 4 67108864 ++
    leBytes 4 s.fw.version ++ leBytes 4 s.fw.ucode ++ slice 28 4 h ++ leBytes 2 s.study.proto.toNat ++
    leBytes 2 0 ++ leBytes 2 q ++ leBytes 2 (if q == 0 then 0 else x.ringQuota) ++ leBytes 4 x.quota ++
    leBytes 4 x.ctxBase ++ leBytes 4 x.ctxLimit ++ leBytes 1 (if s.build.guard then x.gen else 0) ++
    leBytes 1 (b2n (q == 0 && s.txn.opened)) ++ leBytes 6 0

/-- DEV_QUERY (R51). -/
def execDevQuery (q : Nat) (s : State) : Host.Outcome State Fault Refusal :=
  .next (command q (isOp 0x01) (fun _ s => reply q .ok 0 (devQueryBody q s) s) s)

/-- Negotiates the protocol version (R48). -/
def negotiate (q : Nat) (p : List Byte) (s : State) : State :=
  let h := s.fw.sram.headD []
  let top := min (par 2 2 p) (field 30 2 h)
  if max (par 0 2 p) (field 28 2 h) ≤ top then
    reply q .ok 0 (leBytes 2 top ++ leBytes 6 0) { s with study := { s.study with proto := BitVec.ofNat 16 top } }
  else reply q .cmdVersion 0 [] s

/-- DEV_CAPS_NEGOTIATE (R48). -/
def execDevCapsNegotiate (q : Nat) (s : State) : Host.Outcome State Fault Refusal :=
  .next (command q (isOp 0x02) (negotiate q) s)

/-! ### Instances (R79 to R117) -/

/-- INST_CREATE (R80). -/
def execInstCreate (q : Nat) (s : State) : Host.Outcome State Fault Refusal :=
  .next (command q (isOp 0x10) (fun p s =>
    stageOrRun q p (fun r s => reply q .ok 0 [] (applyStaged ⟨p, r⟩ s)) s) s)

/-- An immediate INST_DESTROY starts: with work in flight, which is remembered, the boundary of R102 comes first (R113,
R114). -/
def startDestroy (q i : Nat) (s : State) : State :=
  let work := !(s.instOps i).isEmpty
  let s := dropPacketRead i (abandonQuiesce i s)
  let s := modInst i (fun x => { x with state := .destroying, genStep := true, work := work }) s
  waitFor q (.destroy i) (if work then s else generationStep i s)

/-- INST_DESTROY (R113). It waits, unserved, while a committed KEK_SET for its instance waits for its boundary
(R392). -/
def execInstDestroy (q : Nat) (s : State) : Host.Outcome State Fault Refusal :=
  .next (command q (fun p => isOp 0x11 p && (match s.keys.kekPending with
      | some (i, _) => i != par 0 2 p
      | none => true)) (fun p s =>
    stageOrRun q p (fun _ s => startDestroy q (par 0 2 p) (wakeForCommand s)) s) s)

/-- The first check of an immediate instance command that its state fails. -/
def instBusy (x : Inst) : Status × Nat :=
  if x.state == .absent then (.instAbsent, 0) else (.instBusy, x.state.code)

/-- Quiesces an instance (R93, R95, R96). -/
def quiesce (q i : Nat) (s : State) : State :=
  let x := s.inst i
  if x.state == .active then waitFor q (.quiesce i) (modInst i (fun x => { x with state := .quiescing }) s)
  else if x.state == .quiesced then reply q .ok 0 (leBytes 8 0) s
  else reply q (instBusy x).1 (instBusy x).2 [] s

/-- INST_QUIESCE (R93). -/
def execInstQuiesce (q : Nat) (s : State) : Host.Outcome State Fault Refusal :=
  .next (command q (isOp 0x12) (fun p s => quiesce q (par 0 2 p) s) s)

/-- Resets an instance, with generation guard (R101, R110) or without (R111, R112). In a build without generation guard an
instance that is ABSENT, RESETTING or DESTROYING gets the status of Table 3-4 ahead of INST_NOT_QUIESCED; a QUIESCED one whose
guest packet is in service is RESETTING until that packet is answered. DESIGN CHOICE: log entries 89 and 90. -/
def resetInst (q i : Nat) (s : State) : State :=
  let x := s.inst i
  if !x.served then reply q (instBusy x).1 (instBusy x).2 [] s
  else if !s.build.guard && x.state != .quiesced then reply q .instNotQuiesced 0 [] s
  else if genClash s i then reply q .instBusy x.state.code [] s
  else if s.build.guard then
    let s := dropPacketRead i (abandonQuiesce i s)
    waitFor q (.reset i) (modInst i (fun x => { x with state := .resetting, was := x.state, genStep := true }) s)
  else
    let s := dropPacketRead i s
    if x.cq.serving.isNone && x.cq.arrived.isNone then reply q .ok 0 (leBytes 8 0) (endReset i (generationStep i s))
    else waitFor q (.reset i) (generationStep i (modInst i (fun x => { x with state := .resetting }) s))

/-- INST_RESET (R101). -/
def execInstReset (q : Nat) (s : State) : Host.Outcome State Fault Refusal :=
  .next (command q (isOp 0x13) (fun p s => resetInst q (par 0 2 p) s) s)

/-- SHARE_SET (R87): an immediate one takes effect at the next round boundary (R88). -/
def execShareSet (q : Nat) (s : State) : Host.Outcome State Fault Refusal :=
  .next (command q (isOp 0x14) (fun p s =>
    stageOrRun q p (fun _ s => waitFor q (.share (par 0 2 p) (par 4 2 p) (par 8 4 p) (par 2 2 p)) s) s) s)

/-! ### Rings (R168 to R176) -/

/-- RING_CREATE (R174). -/
def execRingCreate (q : Nat) (s : State) : Host.Outcome State Fault Refusal :=
  .next (command q (isOp 0x20) (fun p s =>
    stageOrRun q p (fun r s => reply q .ok 0 (leBytes 2 r ++ leBytes 6 0) (applyStaged ⟨p, r⟩ s)) s) s)

/-- RING_DESTROY (R170). -/
def execRingDestroy (q : Nat) (s : State) : Host.Outcome State Fault Refusal :=
  .next (command q (isOp 0x21) (fun p s =>
    stageOrRun q p (fun _ s => waitFor q (.ringEnd (par 0 2 p)) (drainRing (par 0 2 p) .destroying s)) s) s)

/-- Resumes a ring (R168). -/
def resumeRing (q n : Nat) (s : State) : State :=
  match tget n s.rings with
  | none => reply q .ringAbsent 0 [] s
  | some r =>
    if r.state != .error then reply q .ringNotStopped 0 [] s
    else reply q .ok 0 (leBytes 4 (s.ringOps n).length ++ leBytes 4 0)
      (modRing n (fun r => { r with state := .resuming }) s)

/-- RING_RESUME (R168). -/
def execRingResume (q : Nat) (s : State) : Host.Outcome State Fault Refusal :=
  .next (command q (isOp 0x22) (fun p s => resumeRing q (par 0 2 p) s) s)

/-- Resets a ring (R170, R171). -/
def resetRing (q n : Nat) (s : State) : State :=
  match tget n s.rings with
  | none => reply q .ringAbsent 0 [] s
  | some r =>
    if r.state == .resetting || r.state == .destroying then reply q .ringBusy 0 [] s
    else waitFor q (.ringEnd n) (drainRing n .resetting s)

/-- RING_RESET (R170). -/
def execRingReset (q : Nat) (s : State) : Host.Outcome State Fault Refusal :=
  .next (command q (isOp 0x23) (fun p s => resetRing q (par 0 2 p) s) s)

/-! ### Transactions (R55 to R70) -/

/-- The number after a transaction number (R56). -/
def txnAfter (n : Nat) : Nat := if n ≥ 0xFFFFFFFF then 1 else n + 1

/-- Opens a transaction (R55, R56, R59). DESIGN CHOICE: log entry 97. -/
def beginTxn (q : Nat) (p : List Byte) (s : State) : State :=
  if s.txn.opened then reply q .txnOpen 0 [] s
  else
    let n := s.txn.next
    reply q .ok 0 (leBytes 4 n ++ leBytes 4 0) { s with txn := { s.txn with
      opened := true, num := n, next := txnAfter n, staged := [], taken := false,
      timeoutMs := if par 0 4 p == 0 then 2000 else par 0 4 p,
      aborted := s.txn.aborted.filter (fun k => k != n) } }

/-- TXN_BEGIN (R55). -/
def execTxnBegin (q : Nat) (s : State) : Host.Outcome State Fault Refusal :=
  .next (command q (isOp 0x30) (beginTxn q) s)

/-- Body of a TXN_COMMIT reply. -/
def commitBody (n tick : Nat) : List Byte := leBytes 4 n ++ leBytes 4 0 ++ leBytes 8 tick

/-- Takes a TXN_COMMIT: the re-check of R64; with nothing staged it ends at once (R66). -/
def commitTxn (q : Nat) (s : State) : State :=
  let s := { s with txn := { s.txn with taken := true } }
  if s.txn.staged.isEmpty then reply q .ok 0 (commitBody 0 s.tickNow) (endTxn 1 false s)
  else
    match recheck 0 s.txn.staged s with
    | some n => reply q .txnConflict n [] (endTxn 7 false s)
    | none => waitFor q .commit s

/-- TXN_COMMIT (R64). -/
def execTxnCommit (q : Nat) (s : State) : Host.Outcome State Fault Refusal :=
  .next (command q (isOp 0x31) (fun _ s => commitTxn q s) s)

/-- TXN_ROLLBACK (R67). -/
def execTxnRollback (q : Nat) (s : State) : Host.Outcome State Fault Refusal :=
  .next (command q (isOp 0x32) (fun _ s =>
    reply q .ok 0 (leBytes 4 s.txn.staged.length ++ leBytes 4 0) (endTxn 2 false s)) s)

/-- TXN_TIMEOUT (R68, R70): TIMEOUT_MS has elapsed and no TXN_COMMIT has been taken. -/
def execTxnTimeout (s : State) : Host.Outcome State Fault Refusal :=
  .next (if s.txn.opened && !s.txn.taken then finish (endTxn 3 true s) else s)

/-! ### Ports, aborts, counters (R427, R429, R477, R654) -/

/-- Checks a MOVER_RESUME (R477); it takes effect at the next round boundary (R478). -/
def resumeMover (q : Nat) (p : List Byte) (s : State) : State :=
  let n := par 0 1 p
  if n > 7 then reply q .cmdParam 32 [] s
  else if !(s.port n).halted then reply q .moverNotHalted 0 [] s
  else if !(s.port n).drained then reply q .moverDraining 0 [] s
  else waitFor q (.resume n) s

/-- MOVER_RESUME (R477). -/
def execMoverResume (q : Nat) (s : State) : Host.Outcome State Fault Refusal :=
  .next (command q (isOp 0x60) (resumeMover q) s)

/-- An operation that HEARTH_ABORT may abort: in Hearth, which it is until its completion is written, not past its point of
no return, which is the issue of its first result write (R425), not stopping already. DEDUCED: log entry 40. -/
def abortable (s : State) (o : Op) : Bool :=
  o.head.d.opcode == 0x30 && (o.phase == .hearth || (o.phase == .post && o.ran && (issuedOutput s o).isEmpty)) &&
  !o.old && !o.lockMark &&
  (match s.hearth.engines.find? (fun e => e.op == some o.id) with
   | some e => e.after.isNone && !e.abort
   | none => true)

/-- Aborts one operation (R427, R428): result writes that have not issued never do. -/
def abortOp (o : Op) (s : State) : State :=
  if s.hearth.engines.any (fun e => e.op == some o.id) then
    stopEngine o.id .pkAborted (dropWrites (fun w => w == .dst o.id (some o.ring) o.head.idx) s)
  else failWrite o.id o.ring o.head.idx .pkAborted s

/-- Aborts the named operations of a ring, later entries first, so that the end of none lets another complete; the reply
follows the wipes (R429). -/
def abortRing (q : Nat) (p : List Byte) (s : State) : State :=
  let n := par 0 2 p
  let idx := par 4 4 p
  if (tget n s.rings).isNone then reply q .ringAbsent 0 [] s
  else
    let l := s.ops.filter (fun o => o.ring == n && abortable s o && (idx == 0xFFFFFFFF || o.head.idx.toNat == idx))
    waitFor q (.abort (l.map (·.id)) l.length) (l.reverse.foldl (fun s o => abortOp o s) s)

/-- HEARTH_ABORT (R427). -/
def execHearthAbort (q : Nat) (s : State) : Host.Outcome State Fault Refusal :=
  .next (command q (isOp 0x70) (abortRing q) s)

/-- COUNTER_CONFIG (R654): an immediate one applies at the next round boundary. -/
def execCounterConfig (q : Nat) (s : State) : Host.Outcome State Fault Refusal :=
  .next (command q (isOp 0x90) (fun p s =>
    stageOrRun q p (fun _ s => waitFor q
      (.counter (par 0 2 p) (par 2 1 p) (par 3 1 p) (par 4 2 p) (BitVec.ofNat 64 (par 8 8 p))) s) s) s)

/-! ### DIAG_INJECT (R645 to R649) -/

/-- Largest COUNT of a point, and whether its ARG is allowed (Table 19-5). -/
def injectRange (point : Nat) (a : Word) : Nat × Bool :=
  match point with
  | 4 => (1, a.toNat ≤ 4)
  | 9 => (64, a.toNat ≤ 4)
  | 10 => (64, 1 ≤ bits a 3 0 && bits a 3 0 ≤ 8 && bits a 7 4 == 0 && bits a 63 9 == 0)
  | 11 => (64, bits a 7 3 == 0 && bits a 63 10 == 0)
  | 12 => (64, bits a 17 16 ≤ 1 && bits a 63 18 == 0)
  | _ => (1, a.toNat == 0)

/-- The first failed check of Table 19-6. -/
def injectFault (s : State) (p : List Byte) : Option (Status × Nat) :=
  let point := par 0 2 p
  let cnt := par 2 2 p
  let a := BitVec.ofNat 64 (par 8 8 p)
  if point > 14 then some (.cmdParam, 32)
  else if cnt == 0 || cnt > (injectRange point a).1 then some (.cmdParam, 34)
  else if !(injectRange point a).2 then some (.cmdParam, 40)
  else
    match s.keys.diag with
    | none => some (.diagNoPermit, 0)
    | some d =>
      if !d.points.getLsbD point then some (.diagPointDenied, 0)
      else if s.tickNow > d.notAfter then some (.diagExpired, 0)
      else if cnt > d.left then some (.diagExhausted, 0)
      else if point == 12 && (tget (bits a 15 0) s.rings).isNone then some (.ringAbsent, 0)
      else if (s.armed? point).isSome then some (.diagBusy, 0)
      else none

/-- The entropy health test fails (R403). -/
def rngFails (s : State) : State := { s with keys := { s.keys with rngFail := true, rngOk := false } }

/-- Points that act at once when they are armed: the alarm sources, which assert for 1 ms, the health test,
and correctable errors of the Study SRAM that the image runs from. -/
def injectNow (point : Nat) (s : State) : State :=
  if point ≤ 8 then
    let s := fireAt point s
    if s.cel.asserting.getLsbD point then s
    else assertSource point { s with diag := { s.diag with asserted := s.diag.asserted ++ [(point, 1000)] } }
  else if point == 13 then rngFails (fireAt point s)
  else if point == 10 && s.injected 10 (fun a => bits a 3 0 == 6 && !a.getLsbD 8) then
    (List.range 64).foldl (fun s _ => (eccRead 6 s).2) s
  else s

/-- Arms a point and takes COUNT from the permit (R648); a permit with nothing left is zeroised. -/
def inject (q : Nat) (p : List Byte) (s : State) : State :=
  match injectFault s p with
  | some (st, d) => reply q st d [] s
  | none =>
    let point := par 0 2 p
    let cnt := par 2 2 p
    let s := { s with
      keys := { s.keys with diag := s.keys.diag.bind (fun d =>
        if d.left ≤ cnt then none else some { d with left := d.left - cnt }) },
      diag := { s.diag with armed := s.diag.armed ++ [⟨point, cnt, BitVec.ofNat 64 (par 8 8 p)⟩] } }
    injectNow point (reply q .ok 0 [] s)

/-- DIAG_INJECT (R647). -/
def execDiagInject (q : Nat) (s : State) : Host.Outcome State Fault Refusal :=
  .next (command q (isOp 0x80) (fun p s => inject q p (wakeForCommand s)) s)

/-! ### Replies and drains (R27, R33, R34, R39) -/

/-- Answers a packet whose STATE is not POSTED or whose opcode is not listed (steps 1 to 3 of Table 2-6). -/
def serveUnknown (q : Nat) (s : State) : State :=
  match (s.inst q).cq.arrived with
  | none => s
  | some p =>
    if pkState p == 1 && (cmdInfo (pkOpcode p)).isSome then s
    else
      match packetFault s q p with
      | some (st, d) => reply q st d [] (takeArrivedPacket q p (commitRefused q p (keyinDone q p s)))
      | none => s

/-- CMD_UNKNOWN (R34). -/
def execCmdUnknown (q : Nat) (s : State) : Host.Outcome State Fault Refusal :=
  .next (if s.study.cmdRdy then finish (serveUnknown q (stir s)) else s)

/-- The write of a reply's word 2 has been acknowledged: HEAD advances (R27), and the CMD_DONE record follows (R33).
DEDUCED: log entry 23. DEDUCED: log entry 62. -/
def replyDone (q : Nat) (s : State) : State :=
  match (s.inst q).cq.serving with
  | none => s
  | some v =>
    let c := (s.inst q).cq
    let s := modCq q (fun c => { c with head := c.head + 1, serving := none }) s
    match v.reply with
    | some r => if pkIrq v.pkt then evWrite q 4 r.status.code.toNat 0 c.head.toNat (pkSeq v.pkt) s else s
    | none => s

/-- CMD_REPLY_ACK (R27). -/
def execCmdReplyAck (q : Nat) (s : State) : Host.Outcome State Fault Refusal :=
  .next (if (s.arrived? (.replyWord2 q)).isSome then finish (replyDone q (takeArrived (.replyWord2 q) s)) else s)

/-- DRAIN_PENDING (R39). -/
def execDrainPending (q : Nat) (s : State) : Host.Outcome State Fault Refusal := .next (finish (drainLate q s))

/-! ### Registers of the command queues (R23 to R26, R42) -/

/-- A write to STU_MCQ_BASE or STU_GCQ_BASE. -/
def cqBaseWrite (q : Nat) (data : Word) (s : State) : State :=
  let c := (s.inst q).cq
  let en := data.getLsbD 0
  let base := if c.enable then c.base else bits data 51 12 * 4096
  if en && !c.enable then
    modCq q (fun c => { c with base := base, enable := true, tail := 0, head := 0, fabErr := false, overrun := false }) s
  else if !en && c.enable then
    let s := modCq q (fun c => { c with enable := false }) (dropPacketRead q s)
    if q == 0 && !s.txn.taken then endTxn 4 true s else s
  else modCq q (fun c => { c with base := base }) s

/-- CMD_QUEUE_ENABLE (R24). DEDUCED: log entry 62. -/
def execCmdQueueEnable (page : Nat) (strb : BitVec 8) (data : Word) (s : State) : Host.Outcome State Fault Refusal :=
  .next (pageWrite page 0x1100 strb (fun s => if data.getLsbD 0 then cqBaseWrite page data s else s) s)

/-- CMD_QUEUE_DISABLE (R25). -/
def execCmdQueueDisable (page : Nat) (strb : BitVec 8) (data : Word) (s : State) : Host.Outcome State Fault Refusal :=
  .next (pageWrite page 0x1100 strb (fun s => if data.getLsbD 0 then s else cqBaseWrite page data s) s)

/-- A write to STU_MCQ_TAIL or STU_GCQ_TAIL (R26). -/
def cqTailWrite (q : Nat) (v : Idx) (s : State) : State :=
  let c := (s.inst q).cq
  if (v - c.head).toNat ≤ queueSize q && (v - c.tail).toNat ≤ queueSize q then modCq q (fun c => { c with tail := v }) s
  else modCq q (fun c => { c with overrun := true }) s

/-- CMD_QUEUE_TAIL_WRITE (R26). -/
def execCmdQueueTailWrite (page : Nat) (strb : BitVec 8) (data : Word) (s : State) :
    Host.Outcome State Fault Refusal :=
  .next (pageWrite page 0x1108 strb (cqTailWrite page (BitVec.ofNat 32 (bits data 31 0))) s)

end Sys2Proof.Machine
end

