-- ==== Sys2Proof/Machine/Authority.lean ====
section
/-!
DEFINITION. KEYIN and Abaoft envelopes (10_keys.md), UNLOCK (16_tamper.md), the attachment and the reset of the Larder
(09_contexts.md), and the entropy source.
-/

namespace Sys2Proof.Machine

/-! ### KEYIN (Table 10-9, R386 to R388) -/

/-- A write to a KEYIN register: ignored, with IGNORED set, when it is narrow or BUSY is 1 (R387). DEDUCED: log entry
70. -/
def keyinWrite (off : Nat) (strb : BitVec 8) (k : Keys → Keys) (s : State) : State :=
  let ok := writable (0x10000000 + off) 0xFF s
  let s := answerWrite (0x10000000 + off) s
  if !ok then s
  else if strb != 0xFF || s.keyinServed then { s with keys := { s.keys with keyinIgn := true } }
  else finish { stir s with keys := k s.keys }

/-- Appends a word to the KEYIN buffer. -/
def keyinAppend (w : Word) (k : Keys) : Keys :=
  if k.keyin.length ≥ 1024 then { k with keyinOvf := true } else { k with keyin := k.keyin ++ [w] }

/-- Zero-fills the KEYIN buffer. -/
def keyinEmpty (k : Keys) : Keys := { k with keyin := [], keyinOvf := false }

/-- KEYIN_DATA_WRITE (R387). -/
def execKeyinDataWrite (strb : BitVec 8) (data : Word) (s : State) : Host.Outcome State Fault Refusal :=
  .next (keyinWrite 0x40100 strb (keyinAppend data) s)

/-- KEYIN_CLEAR (R388): a write of 1 to CLEAR. -/
def execKeyinClear (strb : BitVec 8) (data : Word) (s : State) : Host.Outcome State Fault Refusal :=
  .next (keyinWrite 0x40108 strb (fun k => if data.getLsbD 0 then keyinEmpty k else k) s)

/-! ### Envelopes (R383 to R397) -/

/-- The bytes in the KEYIN buffer. -/
def Keys.envelope (k : Keys) : List Byte := (k.keyin.map (fun w => leBytes 8 w.toNat)).flatten

/-- BODY_LEN and ENV_LEN of a kind (Table 10-8). -/
def kindLens (kind : Nat) : Option (Nat × Nat) :=
  if kind == 1 then some (2056, 5528)
  else if kind == 2 then some (1768, 5240)
  else if kind == 0x10 then some (16, 3488)
  else if kind == 0x11 then some (24, 3496)
  else none

/-- The class of a kind. -/
def kindClass (kind : Nat) : Nat := if kind == 1 then 0 else if kind == 2 then 1 else if kind == 0x10 then 2 else 3

/-- RSVD runs of a kind's body, as envelope offset and length. -/
def kindRsvd (kind : Nat) : Nat × Nat :=
  if kind == 0x10 then (68, 12) else if kind == 0x11 then (80, 8) else (161, 7)

/-- Step 2 of Table 10-10: the offset of the lowest field that is wrong. -/
def envLayout (e : List Byte) : Option Nat :=
  let kind := field 6 2 e
  if e.take 4 != [0x41, 0x42, 0x46, 0x31] then some 0
  else if field 4 2 e != 1 then some 4
  else
    match kindLens kind with
    | none => some 6
    | some (body, len) =>
      if field 8 4 e != len || e.length != len then some 8
      else if field 12 4 e != body then some 12
      else if kind != 2 && field 56 2 e != 0 then some 56
      else if field 58 6 e != 0 then some 58
      else if kind == 1 && (ecPoint p384 (slice 64 97 e)).isNone then some 64
      else if field (kindRsvd kind).1 (kindRsvd kind).2 e != 0 then some (kindRsvd kind).1
      else if leNat (e.drop (3469 + body)) != 0 then some (3469 + body)
      else none

/-- Which signatures of an envelope fail: 1 for SIG_EC, 2 for SIG_PQ, 3 for both (R379, R383). -/
def envSigs (c : Cellar) (e : List Byte) : Nat :=
  let body := field 12 4 e
  let m := e.take (64 + body)
  let ec := if c.owned then c.ownerEc else Config.enrolKeyEc
  let pq := if c.owned then c.ownerPq else Config.enrolKeyPq
  b2n (!verifyP384 ec m (slice (64 + body) 96 e)) +
    2 * b2n (!dsaVerify dsa65 pq (ascii "Abaoft") m (slice (160 + body) 3309 e))

/-- The class counter of a kind. -/
def Cellar.ctr (c : Cellar) (kind : Nat) : Nat :=
  match kindClass kind with
  | 0 => c.ctr0
  | 1 => c.ctr1
  | 2 => c.ctr2
  | _ => c.ctr3

/-- Sets the class counter of a kind (R382). -/
def Cellar.setCtr (kind v : Nat) (c : Cellar) : Cellar :=
  match kindClass kind with
  | 0 => { c with ctr0 := v }
  | 1 => { c with ctr1 := v }
  | 2 => { c with ctr2 := v }
  | _ => { c with ctr3 := v }

/-- The secret of a KEK_SET (R395). -/
def kekSecret (s : State) (e : List Byte) : Option (List Byte) :=
  match ecPoint p384 (slice 64 97 e) with
  | none => none
  | some q =>
    match ecMul p384 (s.ecPrivate "WXP-EC") (some q) with
    | none => none
    | some (x, _) =>
      let z := kemDecaps kem1024 s.kemPair.2 (slice 168 1568 e)
      let kt := sha3_256 ([0, 0, 0, 1] ++ beBytes 48 x ++ z ++ e.take 64)
      gcmOpen kt (List.replicate 12 0) (e.take 1736) (slice 1736 80 e) (slice 1816 16 e)

/-- Table 10-12: the first failed check, or the secret. DESIGN CHOICE: log entry 93. -/
def kekFault (s : State) (e : List Byte) : Except (Status × Nat) (List Byte) :=
  let i := field 56 2 e
  let x := s.inst i
  if i == 0 || i > s.build.insts || x.state == .absent || x.state == .destroying then .error (.instAbsent, 56)
  else
    match kekSecret s e with
    | none => .error (.keymsgDecrypt, 0)
    | some t =>
      if field 64 4 t == 0 || field 68 2 t == 0 || field 70 10 t != 0 then .error (.keymsgFormat, 0)
      else if field 68 2 t ≤ x.kek.curVer then .error (.keymsgVersion, 0)
      else if x.kek.drainVer != 0 then .error (.kekDraining, 0)
      else if x.kek.seedId == field 64 4 t && x.kek.seed != slice 32 32 t then .error (.keymsgSeed, 0)
      else .ok t

/-- Steps 1 to 4 of Table 10-10, which need no engine. -/
def envEarly (s : State) (p e : List Byte) : Option (Status × Nat) :=
  if par 0 4 p != e.length || s.keys.keyinOvf then some (.keymsgFormat, 32)
  else
    match envLayout e with
    | some d => some (.keymsgFormat, d)
    | none =>
      if !s.keys.identReady || slice 24 32 e != s.deviceId then some (.keymsgDevice, 0)
      else if !s.cel.owned && field 6 2 e != 1 then some (.keymsgNoOwner, 0)
      else none

/-- Steps 5 to 7 of Table 10-10. -/
def envLate (s : State) (e : List Byte) : Except (Status × Nat) (List Byte) :=
  let sigs := envSigs s.cel e
  if sigs != 0 then .error (.keymsgSig, sigs)
  else if field 16 8 e ≤ s.cel.ctr (field 6 2 e) then .error (.keymsgCounter, 0)
  else if field 6 2 e == 2 then kekFault s e
  else .ok []

/-- The reply of a KEYMSG_APPLY, with the buffer zero-filled (R388). -/
def replyEnvelope (q : Nat) (st : Status) (d : Nat) (body : List Byte) (s : State) : State :=
  reply q st d body { s with keys := { keyinEmpty s.keys with keyinBusy := false } }

/-- KIND and COUNTER. -/
def envBody (e : List Byte) : List Byte := leBytes 8 (field 6 2 e) ++ leBytes 8 (field 16 8 e)

/-- An envelope commits: the class counter, then its effect; a KEK_SET's at the next round boundary, or at once while
the block is locked (R392). -/
def commitEnvelope (q : Nat) (e secret : List Byte) (s : State) : State :=
  let kind := field 6 2 e
  let s := { s with cel := s.cel.setCtr kind (field 16 8 e) }
  if kind == 2 then
    let s := { s with keys := { keyinEmpty s.keys with
      kekPending := some (field 56 2 e, field 68 2 secret, slice 0 32 secret, field 64 4 secret, slice 32 32 secret) } }
    if s.cel.locked then replyEnvelope q .ok 0 (envBody e) (applyKek s) else waitFor q .kekSet s
  else
    let s :=
      if kind == 1 then
        { s with cel := { s.cel with ownerEc := slice 64 97 e, ownerPq := slice 168 1952 e, owned := true } }
      else if kind == 0x10 then { s with keys := { s.keys with permit := some (field 64 4 e) } }
      else { s with keys := { s.keys with
        diag := some ⟨BitVec.ofNat 32 (field 64 4 e), field 68 4 e, field 72 8 e⟩ } }
    replyEnvelope q .ok 0 (envBody e) s

/-- The lowest engine in service that is free. -/
def State.idleEngine (s : State) : Option Nat :=
  (s.engines.zipIdx.find? (fun p => p.1.inService && p.1.state == .idle)).map (·.2)

/-- An engine wipes before and after the work of an envelope, which leaves its last owner NONE (R390, R413). -/
def envelopeEngine (n : Nat) (s : State) : State :=
  { s with hearth := { s.hearth with
      engines := modAt (fun e => { e with owner := none, hdr := [], data := [], regs := EngRegs.zero }) n
        s.hearth.engines } }

/-- Steps 5 to 7, and the commit. The work reads the key store. DEDUCED: log entry 60. -/
def finishEnvelope (q : Nat) (s : State) : State :=
  let e := s.keys.envelope
  let s := (readKeyStore s).2
  match envLate s e with
  | .error (st, d) => replyEnvelope q st d [] s
  | .ok secret => commitEnvelope q e secret s

/-- The work of an envelope goes to an engine that is free; with engines in service and none of them free it waits for
the next, ahead of the Hearth queue; with none in service the Study's cores do it (R390). DESIGN CHOICE: log entry 59. -/
def envWork (q : Nat) (s : State) : State :=
  match s.idleEngine with
  | some n => finishEnvelope q (envelopeEngine n s)
  | none =>
    if s.engines.any Engine.inService then waitFor q .engine { s with keys := { s.keys with engineMs := 0 } }
    else finishEnvelope q s

/-- The packet in service of a queue waits for `w`. -/
def servingWaits (q : Nat) (w : Wait) (s : State) : Bool :=
  match (s.inst q).cq.serving with
  | some v => v.wait == w
  | none => false

/-- A millisecond passes for an envelope that waits for an engine: with none in service, or after the whole of one
millisecond, the Study's cores do the work (R390). DESIGN CHOICE: log entry 59. -/
def envTick (s : State) : State :=
  if servingWaits 0 .engine s then
    if !s.engines.any Engine.inService || 0 < s.keys.engineMs then finishEnvelope 0 s
    else { s with keys := { s.keys with engineMs := 1 } }
  else s

/-- A lock sequence runs. -/
def State.locking (s : State) : Bool := s.cel.locked && !s.cel.lockDone

/-- Takes a KEYMSG_APPLY (R389, R390): while a lock sequence runs, its work waits for LOCK_DONE. -/
def applyEnvelope (q : Nat) (p : List Byte) (s : State) : State :=
  let s := { s with keys := { s.keys with keyinBusy := true } }
  match envEarly s p s.keys.envelope with
  | some (st, d) => replyEnvelope q st d [] s
  | none => if s.locking then waitFor q .envDone s else envWork q s

/-- A KEYMSG_APPLY has waited for LOCK_DONE, or for an engine, and may go on. -/
def envWaits (q : Nat) (s : State) : Bool :=
  (!s.locking && servingWaits q .envDone s) || (s.idleEngine.isSome && servingWaits q .engine s)

/-- KEYMSG_APPLY (R389): the arrived packet is served, or one that has waited for LOCK_DONE or for an engine goes on. -/
def execKeymsgApply (q : Nat) (s : State) : Host.Outcome State Fault Refusal :=
  .next (if envWaits q s then finish (envWork q s)
    else command q (isOp 0x40) (fun p s => applyEnvelope q p (wakeForCommand s)) s)

/-! ### UNLOCK (R574, R575) -/

/-- The first failed check of Table 16-5. -/
def unlockFault (s : State) : Option Status :=
  if !s.cel.locked then some .unlockNotLocked
  else if !s.cel.lockDone || s.cel.zeroRuns then some .unlockBusy
  else
    match s.keys.permit with
    | none => some .unlockNoPermit
    | some e =>
      if e != s.cel.lockEvent then some .unlockEvent
      else if s.cel.asserting != 0 || !s.cel.passPattern || !s.cel.passImpedance then some .unlockAlarmActive
      else none

/-- Unlocks the block; grants resume, and the reply follows, at the next round boundary (R575). -/
def unlockBlock (q : Nat) (s : State) : State :=
  match unlockFault s with
  | some st => reply q st 0 [] s
  | none =>
    waitFor q .unlock { s with
      keys := { s.keys with permit := none },
      cel := { s.cel with locked := false, lockDone := false, lockOnWake := false, zeroised := false, flags := 0,
                          level := 0, alarmN := false },
      pwr := { s.pwr with grants := false } }

/-- UNLOCK (R574). -/
def execUnlock (q : Nat) (s : State) : Host.Outcome State Fault Refusal :=
  .next (command q (isOp 0x41) (fun _ s => unlockBlock q s) s)

/-! ### The store (R343, R369, R370) -/

/-- The regions of a LARDER_ATTACH that are wrong: the offset of the lowest field (R343). -/
def attachFault (p : List Byte) : Option Nat :=
  let b := par 0 8 p
  let t := par 8 8 p
  let n := par 16 4 p
  let bEnd := b + n * 160
  let tEnd := t + 0x04104100
  if b % 4096 != 0 || bEnd > 2 ^ 52 then some 32
  else if t % 4096 != 0 || tEnd > 2 ^ 52 || (b < tEnd && t < bEnd) then some 40
  else if n < 64 || n > 67108864 || n % 64 != 0 then some 48
  else none

/-- Attaches the regions: stale when the Cellar's record does not answer them, otherwise once every written top and level-2
node has been read and verified (R369). DESIGN CHOICE: log entry 58. -/
def attachStore (q : Nat) (p : List Byte) (s : State) : State :=
  match attachFault p with
  | some d => reply q .cmdParam d [] s
  | none =>
    if s.lar.attached then reply q .larderAttached 0 [] s
    else
      let s := { s with lar := { s.lar with
        attached := true, stale := true, blobBase := par 0 8 p, treeBase := par 8 8 p, blobCount := par 16 4 p,
        nodes := [] } }
      if !s.cel.valid || s.cel.dirty || s.cel.blobCount != par 16 4 p then reply q .larderStale 0 [] s
      else attachStep (waitFor q .attach s)

/-- LARDER_ATTACH (R369). -/
def execLarderAttach (q : Nat) (s : State) : Host.Outcome State Fault Refusal :=
  .next (command q (isOp 0xA0) (fun p s => attachStore q p (wakeForCommand s)) s)

/-- Starts a new store generation (R370). -/
def newStore (s : State) : State :=
  let n := s.lar.blobCount
  let s := disownWrites Owner.larder (dropReads Owner.larder s)
  { s with
    cel := { s.cel with
      storeGen := s.cel.storeGen + 1, treeRoot := Ctrs.zero, blobCount := n, valid := true, dirty := false },
    pan := { s.pan with slots := [] },
    lar := { s.lar with stale := false, nodes := [], fetches := [], misses := [] } }

/-- Resets the store (R370). -/
def resetStore (q : Nat) (s : State) : State :=
  if !s.lar.attached then reply q .larderNotAttached 0 [] s
  else if s.insts.any (fun p => p.1 != 0 && p.2.state != .absent && p.2.state != .quiesced) ||
      s.ops.any (fun o => o.ref.isSome) then reply q .larderBusy 0 [] s
  else if s.cel.storeGen ≥ 0xFFFFFFFF then reply q .larderExhausted 0 [] s
  else
    let s := newStore s
    reply q .ok 0 (leBytes 4 s.cel.storeGen ++ leBytes 4 0) s

/-- LARDER_RESET (R370). -/
def execLarderReset (q : Nat) (s : State) : Host.Outcome State Fault Refusal :=
  .next (command q (isOp 0xA1) (fun _ s => resetStore q (wakeForCommand s)) s)

/-! ### The entropy source (R402, R403) -/

/-- RNG_HEALTH_FAIL (R403). -/
def execRngHealthFail (s : State) : Host.Outcome State Fault Refusal :=
  .next (if s.pins.mainUp then rngFails s else s)

/-- RNG_STARTUP_PASS (R403): the startup test passes again: CTR_DRBGs that hold no state are seeded, a new root secret is
drawn where one is due (R380, R571), and HELLOs that waited for their signature leave. -/
def execRngStartupPass (s : State) : Host.Outcome State Fault Refusal :=
  .next (if s.pins.mainUp && !s.keys.rngOk && (s.boot.step == 0x0A || s.keys.rngFail) then
    let s := seedDrbgs { s with keys := { s.keys with rngOk := true } }
    finish (sendHellos (if s.cel.zeroRuns && !s.cel.rootPresent then newRoot s else s))
  else s)

/-- DRBG_RESEED (R402): units 0 to 15 are the Rooms, 16 to 23 the engines, 24 the Study. -/
def execDrbgReseed (unit : Nat) (s : State) : Host.Outcome State Fault Refusal :=
  .next (if s.pins.mainUp && s.keys.rngOk && s.drbgUnits.contains unit then reseedDrbg unit [] s else s)

end Sys2Proof.Machine
end

