-- ==== Sys2Proof/Machine/Firmware.lean ====
section
/-!
DEFINITION. Firmware bundles: staging, keeping, activation, confirmation, the chain, and microcode loads
(17_firmware.md).
-/

namespace Sys2Proof.Machine

/-! ### FW_STAGE (R591 to R593) -/

/-- The checks of FW_STAGE before anything is copied (R591, R592). -/
def stageFaultFw (s : State) (p : List Byte) : Option (Status × Nat) :=
  let len := par 16 4 p
  if par 0 1 p > 2 then some (.cmdParam, 32)
  else if !s.fw.enable then some (.fwNoAttic, 0)
  else if s.fw.state == .trial then some (.fwTrial, 0)
  else if s.fw.state != .idle then some (.fwBusy, 0)
  else if len % 4096 != 0 || len < 8192 || len > 1310720 then some (.cmdParam, 48)
  else if par 8 8 p + len > 2 ^ 52 then some (.cmdParam, 40)
  else none

/-- FW_STAGE after its checks: the slot that TARGET names becomes invalid, and the copy starts (R592). The command waits
for its end. -/
def stageBundle (q : Nat) (p : List Byte) (s : State) : State :=
  match stageFaultFw s p with
  | some (st, d) => reply q st d [] s
  | none =>
    let target := par 0 1 p
    let c : Copy := ⟨target, par 8 8 p, par 16 4 p / 4096, []⟩
    let f := { s.fw with state := .staging, stageBlocks := 0, copy := some c }
    copyNext c (waitFor q .stage { s with fw :=
      if target == 2 then { f with runValid := false, runStair := false }
      else { f with freeValid := false, fromStair := false, fwdHere := s.fw.fwdHere || target == 1,
                    chain := if target == 1 then s.fw.chain &&& 0xFFFF0000 else s.fw.chain } })

/-- STAGE (R592): FW_STAGE with TARGET 0, or with one that is out of range. -/
def execStage (q : Nat) (s : State) : Host.Outcome State Fault Refusal :=
  .next (command q (fun p => isOp 0x50 p && par 0 1 p != 1 && par 0 1 p != 2) (stageBundle q) s)

/-- STAGE_FORWARD (R607): FW_STAGE with TARGET 1. -/
def execStageForward (q : Nat) (s : State) : Host.Outcome State Fault Refusal :=
  .next (command q (fun p => isOp 0x50 p && par 0 1 p == 1) (stageBundle q) s)

/-- KEEP (R591): FW_STAGE with TARGET 2. -/
def execKeep (q : Nat) (s : State) : Host.Outcome State Fault Refusal :=
  .next (command q (fun p => isOp 0x50 p && par 0 1 p == 2) (stageBundle q) s)

/-! ### FW_ACTIVATE (R594 to R596, R610) -/

/-- Steps 2 to 8 of Table 17-6 for modes 0 to 2; `rebuild` is false for mode 0. DEDUCED: log entry 57. -/
def activateFault (s : State) (rebuild : Bool) : Option Status :=
  if !s.fw.enable then some .fwNoAttic
  else if s.fw.state == .trial then some .fwTrial
  else if s.fw.state != .idle then some .fwBusy
  else if !rebuild && !s.study.late.isEmpty then some .fwBusy
  else if !s.fw.freeValid then some .fwNotStaged
  else if !s.fw.runValid then some .fwNoFallback
  else if !compatible s rebuild then some .fwIncompatible
  else none

/-- Table 17-6 for a packet, with R72. DEDUCED: log entry 57. -/
def activateCheck (s : State) (p : List Byte) : Option (Status × Nat) :=
  let mode := par 0 1 p
  let tick := par 8 8 p
  if mode > 3 then some (.cmdParam, 32)
  else if (mode == 0 || mode == 3) && tick != 0 then some (.cmdParam, 40)
  else if s.txn.opened then some (.txnOpen, 0)
  else if mode == 3 then
    if s.fw.state != .armed then some (.fwNotPending, 0)
    else if s.fw.tick ≤ s.tickNow then some (.fwTickRange, 0) else none
  else
    match activateFault s (mode != 0) with
    | some st => some (st, 0)
    | none =>
      if mode != 0 && (tick < s.tickNow + 100000 || tick > s.tickNow + 3600000000) then some (.fwTickRange, 0)
      else none

/-- IMAGE_VERSION of a reply. -/
def imageBody (v : Nat) : List Byte := leBytes 4 v ++ leBytes 4 0

/-- FW_VERSION of the staged bundle. -/
def Fw.staged (f : Fw) : Nat := field 12 4 f.freeHdr

/-- A HANDOVER: once its checks pass and the old image owes no other reply (R43), cmd_rdy falls, Landing loads the staged
image, and the new image replies (Table 17-7). Until then it waits, and holds its own queue only (R37). -/
def handOver (q : Nat) (x : LandingRun) (p : List Byte) (s : State) : State :=
  match activateCheck s p with
  | some (st, d) => reply q st d [] s
  | none =>
    if quietStudy (some q) s then
      activate true x (waitFor q .newImage (wakeForCommand { s with fw := { s.fw with replyDue := true } }))
    else waitFor q .handover s

/-- A HANDOVER that waited for the other replies goes on, if it can. -/
def handOverOn (q : Nat) (x : LandingRun) (s : State) : State :=
  match (s.inst q).cq.serving with
  | some v => if s.study.cmdRdy && quietStudy (some q) s then finish (handOver q x v.pkt (stir s)) else s
  | none => s

/-- HANDOVER (R595): FW_ACTIVATE with MODE 0, or with one that is out of range; or one that has waited goes on. -/
def execHandover (q : Nat) (x : LandingRun) (s : State) : Host.Outcome State Fault Refusal :=
  .next (if servingWaits q .handover s then handOverOn q x s
    else command q (fun p => isOp 0x51 p && (par 0 1 p == 0 || par 0 1 p > 3)) (handOver q x) s)

/-- Arms a rebuild (Table 17-5, R610). -/
def armRebuild (q : Nat) (chain : Bool) (p : List Byte) (s : State) : State :=
  match activateCheck s p with
  | some (st, d) => reply q st d [] s
  | none =>
    let tick := par 8 8 p
    let s := { s with fw := { s.fw with
      state := .armed, tick := tick, armedHere := true, byChain := chain,
      chain := if chain then s.fw.chain &&& 0x0000FFFF else s.fw.chain } }
    let s := if chain then modLink true (Link.send 0x0102 (.arm ⟨false, tick, slice 64 48 s.fw.freeHdr⟩)) s else s
    reply q .fwScheduled 0 (imageBody s.fw.staged) s

/-- REBUILD_AT (R596). -/
def execRebuildAt (q : Nat) (s : State) : Host.Outcome State Fault Refusal :=
  .next (command q (fun p => isOp 0x51 p && par 0 1 p == 1) (armRebuild q false) s)

/-- REBUILD_CHAIN (R610). -/
def execRebuildChain (q : Nat) (s : State) : Host.Outcome State Fault Refusal :=
  .next (command q (fun p => isOp 0x51 p && par 0 1 p == 2) (armRebuild q true) s)

/-- Disarms; a chain activation is cancelled downstream as well. -/
def disarm (s : State) : State :=
  let s := if s.fw.byChain then
      modLink true (Link.send 0x0102 (.arm ⟨true, s.fw.tick, slice 64 48 s.fw.freeHdr⟩)) s else s
  { s with fw := { s.fw with state := .idle, tick := 0, armedHere := false, byChain := false } }

/-- CANCEL (R594). -/
def execCancel (q : Nat) (s : State) : Host.Outcome State Fault Refusal :=
  .next (command q (fun p => isOp 0x51 p && par 0 1 p == 3) (fun p s =>
    match activateCheck s p with
    | some (st, d) => reply q st d [] s
    | none => reply q .ok 0 (imageBody 0) (disarm s)) s)

/-- TRIAL ends with a confirmation (R598); the floor of the running bundle comes into force (R585). -/
def confirmImage (s : State) : State :=
  { s with fw := { s.fw with
      state := .idle, floor := max s.romFloor (secFloor (s.fw.sram.headD [])), freeValid := false,
      armedHere := false, byChain := false } }

/-- FW_CONFIRM in TRIAL: the block that started a chain activation sends CONFIRM downstream (R598, R612). -/
def confirmHere (s : State) : State :=
  confirmImage (if s.fw.byChain && s.fw.armedHere then modLink true (Link.send 0x0102 .confirm) s else s)

/-- FW_CONFIRM (R598). -/
def execFwConfirm (q : Nat) (s : State) : Host.Outcome State Fault Refusal :=
  .next (command q (isOp 0x52) (fun _ s =>
    if s.fw.state == .trial then reply q .ok 0 [] (confirmHere s) else reply q .fwNotPending 0 [] s) s)

/-! ### Along the chain (R607 to R612) -/

/-- Messages of the chain are handled while a Study image runs. -/
def chainMessage (k : State → State) (s : State) : State :=
  if s.pins.mainUp && s.fw.imageRuns then finish (k (stir s)) else s

/-- A message with a feature of a Stair version can come in over the hop (R546). -/
def State.hop (down : Bool) (ver : BitVec 16) (s : State) : Bool :=
  (if down then s.dnEn else s.upEn) && (s.link down).allows ver

/-- A forwarded block that this block takes: checked, written, forwarded (R607). -/
def takeFwdBlock (b : FwdBlock) (s : State) : State :=
  if !blockOk b.bytes || b.index ≥ 320 then fwdFails .fwImageFormat s
  else if (s.port 0).halted then fwdFails .fwFabric s
  else
    let blocks := s.fw.fwd ++ [b.bytes]
    let s := { s with fw := { s.fw with fwd := blocks, fwdLast := b.last } }
    putBlock (s.slotAddr false) b.index b.bytes (modLink true (Link.send 0x0101 (.block b.index b.bytes b.last)) s)

/-- A forwarded block arrives from upstream (R607, R608). -/
def forwardedBlock (b : FwdBlock) (s : State) : State :=
  if !s.hop false 0x0101 then s
  else if b.index == 0 then
    if !s.fw.enable || s.cel.locked || s.fw.state != .idle then reportUp 0x0101 .stageFailed s
    else
      takeFwdBlock b { s with fw := { s.fw with
        state := .staging, fwding := true, fwd := [], freeValid := false, fromStair := true, fwdHere := false,
        stageBlocks := 0 } }
  else if !s.fw.fwding || s.fw.fwdLast || b.index != s.fw.fwd.length then s
  else if s.cel.locked then fwdFails .locked s
  else takeFwdBlock b s

/-- FORWARDED_BLOCK (R607). -/
def execForwardedBlock (b : FwdBlock) (s : State) : Host.Outcome State Fault Refusal :=
  .next (chainMessage (forwardedBlock b) s)

/-- STAGE_ABORT (R608): the free slot is invalid; the message travels on. -/
def stageAbort (s : State) : State :=
  if !s.hop false 0x0101 then s
  else
    let s := endForward (modLink true (Link.send 0x0101 .abortStage) s)
    { s with fw := { s.fw with freeValid := false } }

/-- STAGE_ABORT (R608). -/
def execStageAbort (s : State) : Host.Outcome State Fault Refusal := .next (chainMessage stageAbort s)

/-- Bits of STU_FW_CHAIN of a kind of report (Table 17-12). -/
def reportBase : ReportKind → Nat
  | .staged => 0
  | .stageFailed => 8
  | .armed => 16
  | .armFailed => 24

/-- The report answers something that this block started (R609). -/
def startedHere (s : State) : ReportKind → Bool
  | .staged => s.fw.fwdHere
  | .stageFailed => s.fw.fwdHere
  | _ => s.fw.armedHere

/-- A report from downstream is recorded by the block that started the stage or the activation, and passed up by the
others (R609, R610). -/
def chainReport (r : ReportKind) (pos : Nat) (s : State) : State :=
  let ver : BitVec 16 := if reportBase r < 16 then 0x0101 else 0x0102
  if !s.hop true ver then s
  else if !startedHere s r then modLink false (Link.send ver (.report r pos)) s
  else if pos < 8 then
    { s with fw := { s.fw with chain := s.fw.chain ||| ((1 : BitVec 32) <<< (reportBase r + pos)) } }
  else s

/-- CHAIN_REPORT (R609). -/
def execChainReport (r : ReportKind) (pos : Nat) (s : State) : Host.Outcome State Fault Refusal :=
  .next (chainMessage (chainReport r pos) s)

/-- An ARM or CANCEL message from upstream (R610, R611). DEDUCED: log entry 69. -/
def armMessage (m : ArmMsg) (s : State) : State :=
  if !s.hop false 0x0102 then s
  else
    let s := modLink true (Link.send 0x0102 (.arm m)) s
    if m.cancel then
      if s.fw.state == .armed && s.fw.byChain && !s.fw.armedHere then
        { s with fw := { s.fw with state := .idle, tick := 0, byChain := false } } else s
    else if s.cel.locked || slice 64 48 s.fw.freeHdr != m.digest || (activateFault s true).isSome then
      reportUp 0x0102 .armFailed s
    else
      reportUp 0x0102 .armed { s with fw := { s.fw with
        state := .armed, tick := m.tick, armedHere := false, byChain := true } }

/-- ARM (R610). -/
def execArm (m : ArmMsg) (s : State) : Host.Outcome State Fault Refusal := .next (chainMessage (armMessage m) s)

/-- CONFIRM (R612): a block that an ARM message activated leaves TRIAL; the message travels on. -/
def execConfirm (s : State) : Host.Outcome State Fault Refusal :=
  .next (chainMessage (fun s =>
    if !s.hop false 0x0102 then s
    else
      let s := modLink true (Link.send 0x0102 .confirm) s
      if s.fw.state == .trial && s.fw.byChain && !s.fw.armedHere then confirmImage s else s) s)

/-! ### Time (R599, R611) -/

/-- ARMED_TICK (R611): the armed tick has been reached. -/
def execArmedTick (x : LandingRun) (s : State) : Host.Outcome State Fault Refusal :=
  .next (if s.pins.mainUp && s.fw.landing.isNone && s.pwr.softReset.isNone && s.fw.state == .armed && s.fw.tick ≤ s.tickNow then
    finish (activate false x (stir s)) else s)

/-- TRIAL_TIMEOUT (R597, R599): 10 s of TRIAL have passed unlocked. -/
def execTrialTimeout (x : LandingRun) (s : State) : Host.Outcome State Fault Refusal :=
  .next (if s.pins.mainUp && s.fw.landing.isNone && s.pwr.softReset.isNone && s.fw.state == .trial && !s.cel.locked then
    finish (fallBack true x (stir s)) else s)

/-! ### Microcode (R431, R603 to R605) -/

/-- Changes one engine. -/
def modEngine (n : Nat) (f : Engine → Engine) (s : State) : State :=
  { s with hearth := { s.hearth with engines := modAt f n s.hearth.engines } }

/-- MICROCODE_LOAD (R603): an engine that waits for its load is wiped, loaded and goes into self-test. -/
def execMicrocodeLoad (engine : Nat) (s : State) : Host.Outcome State Fault Refusal :=
  .next (match s.engines[engine]? with
    | none => s
    | some e =>
      if e.state == .loading && s.fw.imageRuns && s.unitsRun then
        modEngine engine (fun e => { e with
          owner := none, op := none, hdr := [], data := [], regs := EngRegs.zero, valDone := none, state := .test, drain := false,
          ucode := s.fw.ucode }) s
      else s)

/-! ### STU_ATTIC and STU_FW_CFG (R606, R613) -/

/-- A write to STU_ATTIC (Table 17-9). -/
def atticWrite (data : Word) (s : State) : State :=
  if s.fw.state != .idle then s
  else
    let en := data.getLsbD 0
    let rise := en && !s.fw.enable
    { s with fw := { s.fw with
        base := if s.fw.enable then s.fw.base else bits data 51 22 * 2 ^ 22, enable := en,
        runValid := s.fw.runValid && !rise, freeValid := s.fw.freeValid && !rise } }

/-- ATTIC_WRITE (R613). -/
def execAtticWrite (strb : BitVec 8) (data : Word) (s : State) : Host.Outcome State Fault Refusal :=
  .next (unitWrite 0x10200 strb (atticWrite data) s)

/-- A write to STU_FW_CFG (Table 17-10). -/
def fwCfgWrite (data : Word) (s : State) : State :=
  if s.fw.state == .idle && s.fw.rollout.isEmpty then { s with fw := { s.fw with reloadAtStart := data.getLsbD 0 } }
  else s

end Sys2Proof.Machine
end

