-- ==== Sys2Proof/Machine/Pk.lean ====
section
/-!
DEFINITION. What a Hearth engine checks and computes: the operand block header (Table 11-3), the checks of Table
11-5, the results of Table 11-4, the result checks of Table 11-8, the nominal times of Table 11-6.
-/

namespace Sys2Proof.Machine

/-! ### The header (Table 11-3, R415, step 1 of Table 11-5) -/

/-- OUT_ADDR. -/
def pkOutAddr (hdr : List Byte) : Nat := field 0 8 hdr % 2 ^ 52
/-- IN_LEN. -/
def pkInLen (hdr : List Byte) : Nat := field 8 4 hdr
/-- OUT_LEN. -/
def pkOutLen (hdr : List Byte) : Nat := field 12 4 hdr
/-- MOD_LEN. -/
def pkModLen (hdr : List Byte) : Nat := field 16 2 hdr
/-- E. -/
def pkE (hdr : List Byte) : Nat := field 20 4 hdr

/-- Fixed operand bytes of a subop, a CTX_LEN byte included; RSA lengths follow MOD_LEN. -/
def pkFixed (i : PkInfo) (l : Nat) : Nat :=
  if i.rsa == 1 then 2 * l else if i.rsa == 2 then 5 * (l / 2) + l else i.fixed + b2n i.ctx

/-- Result bytes of a subop. -/
def pkResultLen (i : PkInfo) (l : Nat) : Nat := if i.rsa == 0 then i.result else l

/-- MOD_LEN and E are as R415 requires. -/
def pkRsaOk (i : PkInfo) (l e : Nat) : Bool :=
  if i.rsa == 0 then l == 0 && e == 0
  else [128, 256, 384, 512].contains l && e % 2 == 1 && 3 ≤ e

/-- Step 1 of Table 11-5, as far as the header decides it. -/
def pkHeaderOk (subop : Nat) (hdr : List Byte) : Bool :=
  match pkInfo subop with
  | none => false
  | some i =>
    let l := pkModLen hdr
    let n := pkInLen hdr
    let out := pkResultLen i l
    pkRsaOk i l (pkE hdr) && (out == 0 || field 0 8 hdr < 2 ^ 52) && field 18 2 hdr == 0 && field 24 8 hdr == 0 &&
      1 ≤ n && n ≤ 32736 && (if i.msg then pkFixed i l ≤ n else n == pkFixed i l) && out ≤ pkOutLen hdr

/-- CTX_LEN of ML-DSA operands. -/
def pkCtxLen (i : PkInfo) (x : List Byte) : Nat := if i.ctx then field i.fixed 1 x else 0

/-- CTX_LEN fits (step 1 of Table 11-5). -/
def pkCtxOk (i : PkInfo) (x : List Byte) : Bool := !i.ctx || i.fixed + 1 + pkCtxLen i x ≤ x.length

/-- ctx of ML-DSA operands. -/
def pkCtx (i : PkInfo) (x : List Byte) : List Byte := slice (i.fixed + 1) (pkCtxLen i x) x

/-- M of a subop that takes one. -/
def pkMsg (i : PkInfo) (x : List Byte) : List Byte := x.drop (i.fixed + b2n i.ctx + pkCtxLen i x)

/-! ### Nominal time (Table 11-6) -/

/-- Set bits of a number below 2^32. -/
def setBits (e : Nat) : Nat := ((List.range 32).filter (fun k => e.testBit k)).length

/-- The nominal time in ns of a subop with modulus length l, exponent e and `m` bytes of message. -/
def pkNominal (i : PkInfo) (l e m : Nat) : Nat :=
  if i.rsa == 1 then 1000 + (2 + (Nat.log2 e + 1) + setBits e) * 25 * (l / 128) ^ 2
  else if i.rsa == 2 then
    (if l == 128 then 55000 else if l == 256 then 333000 else if l == 384 then 1000000 else 2400000)
  else i.nominal + i.perKiB * ((m + 1023) / 1024)

/-! ### Checks 2 to 9 of Table 11-5 -/

/-- The big-endian number at an offset. -/
def beAt (off n : Nat) (x : List Byte) : Nat := beNat (slice off n x)

/-- Points among the operands of a NIST curve. -/
def pkPoints (subop : Nat) (x : List Byte) : List (Curve × Nat × Nat) :=
  if subop == 0x02 then [(p256, beAt 0 32 x, beAt 32 32 x)]
  else if subop == 0x04 then [(p384, beAt 0 48 x, beAt 48 48 x)]
  else if subop == 0x14 then [(p256, beAt 32 32 x, beAt 64 32 x)]
  else if subop == 0x15 then [(p384, beAt 48 48 x, beAt 96 48 x)]
  else []

/-- Encoded Ed25519 points: A and R of a verify. -/
def pkEdPoints (subop : Nat) (x : List Byte) : List (List Byte) :=
  if subop == 0x09 then [slice 0 32 x, slice 32 32 x] else []

/-- The encoded coefficients of an ML-KEM encapsulation key among the operands. -/
def pkEk (subop : Nat) (x : List Byte) : List Byte :=
  if subop == 0x31 then x.take 1152 else if subop == 0x35 then x.take 1536
  else if subop == 0x32 then slice 1152 1152 x else if subop == 0x36 then slice 1536 1536 x else []

/-- The 12-bit coefficients of FIPS 203 ByteDecode. -/
def pkCoeffs (bs : List Byte) : List Nat :=
  ((blocksOf 3 bs).map (fun b => [leNat b % 4096, leNat b / 4096])).flatten

/-- Scalars with the group order they must lie below: d, then r and s. -/
def pkScalars (subop : Nat) (x : List Byte) : List (Nat × Nat) :=
  if subop == 0x01 || subop == 0x14 then [(p256.n, beAt 0 32 x)]
  else if subop == 0x03 || subop == 0x15 then [(p384.n, beAt 0 48 x)]
  else if subop == 0x02 then [(p256.n, beAt 96 32 x), (p256.n, beAt 128 32 x)]
  else if subop == 0x04 then [(p384.n, beAt 144 48 x), (p384.n, beAt 192 48 x)]
  else []

/-- Step 2. -/
def pkEven (subop l : Nat) (x : List Byte) : Bool :=
  if subop == 0x20 then beAt 0 l x % 2 == 0
  else subop == 0x21 && (beAt 0 (l / 2) x % 2 == 0 || beAt (l / 2) (l / 2) x % 2 == 0)

/-- Step 3. -/
def pkCoordBad (subop : Nat) (x : List Byte) : Bool :=
  (pkPoints subop x).any (fun p => p.2.1 ≥ p.1.p || p.2.2 ≥ p.1.p) ||
  (subop == 0x10 && leNat (slice 32 32 x) % 2 ^ 255 ≥ p25519) ||
  (pkEdPoints subop x).any (fun b => leNat b % 2 ^ 255 ≥ p25519) ||
  (pkCoeffs (pkEk subop x)).any (fun c => c ≥ 3329)

/-- Step 4. -/
def pkRangeBad (subop l : Nat) (x : List Byte) : Bool :=
  if subop == 0x20 then beAt l l x ≥ beAt 0 l x
  else subop == 0x21 && beAt (5 * (l / 2)) l x ≥ beAt 0 (l / 2) x * beAt (l / 2) (l / 2) x

/-- Step 5. -/
def pkInfinite (subop : Nat) (x : List Byte) : Bool := (pkPoints subop x).any (fun p => p.2.1 == 0 && p.2.2 == 0)

/-- Step 6. -/
def pkOffCurve (subop : Nat) (x : List Byte) : Bool :=
  (pkPoints subop x).any (fun p => !onCurve p.1 p.2.1 p.2.2) || (pkEdPoints subop x).any (fun b => (edDecode b).isNone)

/-- Step 7. -/
def pkScalarBad (subop : Nat) (x : List Byte) : Bool :=
  (pkScalars subop x).any (fun p => p.2 == 0 || p.2 ≥ p.1) || (subop == 0x09 && leNat (slice 64 32 x) ≥ ed25519Order)

/-- Step 8. -/
def pkSmall (subop : Nat) (x : List Byte) : Bool :=
  (pkEdPoints subop x).any (fun b => match edDecode b with
    | some q => edSmall q
    | none => false)

/-- Step 9 for RSA: E·dp ≡ 1 mod (p − 1), E·dq ≡ 1 mod (q − 1), q·qinv ≡ 1 mod p. -/
def pkCrtBad (l e : Nat) (x : List Byte) : Bool :=
  let h := l / 2
  let p := beAt 0 h x
  let q := beAt h h x
  e * beAt (2 * h) h x % (p - 1) != 1 % (p - 1) || e * beAt (3 * h) h x % (q - 1) != 1 % (q - 1) ||
    q * beAt (4 * h) h x % p != 1 % p

/-- Step 9. -/
def pkKeyBad (subop l e : Nat) (x : List Byte) : Bool :=
  if subop == 0x38 then slice 64 64 x != shake256 64 (slice 4032 1952 x)
  else if subop == 0x3A then slice 64 64 x != shake256 64 (slice 4896 2592 x)
  else if subop == 0x32 then slice 2336 32 x != sha3_256 (slice 1152 1184 x)
  else if subop == 0x36 then slice 3104 32 x != sha3_256 (slice 1536 1568 x)
  else subop == 0x21 && pkCrtBad l e x

/-- Steps 2 to 9 of Table 11-5: the status of the first check that fails, OK when none does (R417, R418). -/
def pkValidate (subop l e : Nat) (x : List Byte) : Status :=
  if pkEven subop l x then .evenModulus
  else if pkCoordBad subop x then .invalidCoord
  else if pkRangeBad subop l x then .inputRange
  else if pkInfinite subop x then .pointAtInfinity
  else if pkOffCurve subop x then .notOnCurve
  else if pkScalarBad subop x then .invalidScalar
  else if pkSmall subop x then .lowOrder
  else if pkKeyBad subop l e x then .pkKeyCheck
  else .ok

/-! ### Results (Table 11-4) -/

/-- The curve of a NIST subop. -/
def pkCurve (subop : Nat) : Curve :=
  if subop == 0x03 || subop == 0x04 || subop == 0x15 || subop == 0x17 then p384 else p256

/-- A scalar from 1 to n − 1 out of random bytes, by the extra-random-bits method. -/
def pkScalar (c : Curve) (rnd : List Byte) : Nat := 1 + beNat rnd % (c.n - 1)

/-- The affine coordinates of a point as bytes. -/
def pointBytes (c : Curve) : Option (Nat × Nat) → List Byte
  | some (x, y) => beBytes c.bytes x ++ beBytes c.bytes y
  | none => []

/-- ML-KEM parameter set of a subop. -/
def pkKem (subop : Nat) : KemSet := if subop ≤ 0x32 then kem768 else kem1024

/-- RSA by the Chinese remainder theorem. -/
def pkCrt (l : Nat) (x : List Byte) : Nat :=
  let h := l / 2
  let p := beAt 0 h x
  let q := beAt h h x
  let c := beAt (5 * h) l x
  let m1 := powMod c (beAt (2 * h) h x) p
  let m2 := powMod c (beAt (3 * h) h x) q
  m2 + beAt (4 * h) h x * subMod p m1 m2 % p * q

/-- The base point u = 9 of X25519. -/
def x25519Base : List Byte := 9 :: List.replicate 31 0

/-- ML-DSA parameter set of a subop. -/
def pkDsa (subop : Nat) : DsaSet := if subop ≤ 0x39 then dsa65 else dsa87

/-- Random bytes that a subop asks of the engine's CTR_DRBG (Table 11-4). DESIGN CHOICE: log entry 41. -/
def pkRandLen (subop : Nat) : Nat :=
  if subop == 0x01 || subop == 0x16 then 40
  else if subop == 0x03 || subop == 0x17 then 56
  else if subop == 0x30 || subop == 0x34 then 64
  else if [0x11, 0x31, 0x35, 0x38, 0x3A].contains subop then 32
  else 0

/-- ADDIN of the operands of a key generation (Table 11-4). -/
def pkAddin (subop : Nat) (x : List Byte) : List Byte :=
  if [0x11, 0x16, 0x17, 0x30, 0x34].contains subop then x.take 32 else []

/-- The request is made with prediction resistance: the random number of an ECDSA signature. -/
def pkFresh (subop : Nat) : Bool := subop == 0x01 || subop == 0x03

/-- The result of a subop on operands x with the random bytes of the engine's CTR_DRBG (Table 11-4). DESIGN CHOICE: log
entry 41. -/
def pkResult (subop l e : Nat) (x rnd : List Byte) : List Byte :=
  match pkInfo subop with
  | none => []
  | some i =>
    let c := pkCurve subop
    let b := c.bytes
    if subop == 0x01 || subop == 0x03 then
      let rs := ecdsaSign c (beAt 0 b x) (beAt b b x) (pkScalar c rnd)
      beBytes b rs.1 ++ beBytes b rs.2
    else if subop == 0x08 then edSign (x.take 32) (pkMsg i x)
    else if subop == 0x10 then x25519 (x.take 32) (slice 32 32 x)
    else if subop == 0x11 then rnd ++ x25519 rnd x25519Base
    else if subop == 0x14 || subop == 0x15 then
      (pointBytes c (ecMul c (beAt 0 b x) (some (beAt b b x, beAt (2 * b) b x)))).take b
    else if subop == 0x16 || subop == 0x17 then
      beBytes b (pkScalar c rnd) ++ pointBytes c (ecMul c (pkScalar c rnd) c.g)
    else if subop == 0x20 then beBytes l (powMod (beAt l l x) e (beAt 0 l x))
    else if subop == 0x21 then beBytes l (pkCrt l x)
    else if subop == 0x30 || subop == 0x34 then
      let k := kemKeyGen (pkKem subop) (rnd.take 32) (rnd.drop 32)
      k.1 ++ k.2
    else if subop == 0x31 || subop == 0x35 then
      let k := kemEncaps (pkKem subop) x rnd
      k.1 ++ k.2
    else if subop == 0x32 || subop == 0x36 then
      kemDecaps (pkKem subop) (x.take (pkKem subop).dkLen) (x.drop (pkKem subop).dkLen)
    else if subop == 0x38 || subop == 0x3A then
      (dsaSign (pkDsa subop) (x.take (pkDsa subop).skLen) (pkCtx i x) (pkMsg i x) rnd).getD []
    else []

/-- A verify finds its signature good (step 11 of Table 11-5). -/
def pkVerifies (subop : Nat) (x : List Byte) : Bool :=
  match pkInfo subop with
  | none => false
  | some i =>
    let b := (pkCurve subop).bytes
    let d := pkDsa subop
    if subop == 0x02 || subop == 0x04 then
      ecdsaVerify (pkCurve subop) (beAt 0 b x) (beAt b b x) (beAt (2 * b) b x) (beAt (3 * b) b x) (beAt (4 * b) b x)
    else if subop == 0x09 then edVerify (x.take 32) (slice 32 32 x) (leNat (slice 64 32 x)) (pkMsg i x)
    else if subop == 0x39 || subop == 0x3B then
      dsaVerify d (x.take d.pkLen) (pkCtx i x) (pkMsg i x) (slice d.pkLen d.sigLen x)
    else true

/-- Steps 10 and 11 of Table 11-5 on a computed result. -/
def pkOutcome (subop : Nat) (x result : List Byte) : Status :=
  if subop == 0x10 && leNat result == 0 then .lowOrder
  else if !pkVerifies subop x then .sigInvalid
  else .ok

/-! ### Result checks (Table 11-8) -/

/-- The subop has a result check. -/
def pkChecked (subop : Nat) : Bool :=
  [0x01, 0x03, 0x08, 0x11, 0x16, 0x17, 0x21, 0x30, 0x34, 0x38, 0x3A].contains subop

/-- The check of an ECDSA signature: the x-coordinate of (u1 + u2·d)·G is r modulo n. -/
def pkCheckEcdsa (c : Curve) (x r : List Byte) : Bool :=
  let b := c.bytes
  let w := powMod (beAt b b r) (c.n - 2) c.n
  let u := beAt b b x * w + beAt 0 b r * w * beAt 0 b x
  match ecMul c (u % c.n) c.g with
  | some (px, _) => px % c.n == beAt 0 b r
  | none => false

/-- The public key of an Ed25519 seed. -/
def edPublic (seed : List Byte) : List Byte :=
  edEncode (edMul (leNat ((sha512 seed).take 32) % 2 ^ 254 / 8 * 8 + 2 ^ 254) edBase)

/-- The pairwise consistency test of FIPS 203 on a new key pair, with the random bytes m. DEDUCED: log entry 42. -/
def pkCheckKem (p : KemSet) (r m : List Byte) : Bool :=
  let k := kemEncaps p (r.take p.ekLen) m
  kemDecaps p (r.drop p.ekLen) k.1 == k.2

/-- The result check of a subop on operands x and result r (Table 11-8); `m`: the random bytes of the pairwise test.
DEDUCED: log entry 42. -/
def pkCheck (subop l e : Nat) (x r m : List Byte) : Bool :=
  match pkInfo subop with
  | none => false
  | some i =>
    let c := pkCurve subop
    let d := pkDsa subop
    if subop == 0x01 || subop == 0x03 then pkCheckEcdsa c x r
    else if subop == 0x08 then edVerify (edPublic (x.take 32)) (r.take 32) (leNat (slice 32 32 r)) (pkMsg i x)
    else if subop == 0x11 then x25519 (r.take 32) x25519Base == r.drop 32
    else if subop == 0x16 || subop == 0x17 then
      pointBytes c (ecMul c (beAt 0 c.bytes r) c.g) == r.drop c.bytes
    else if subop == 0x21 then
      powMod (beNat r) e (beAt 0 (l / 2) x * beAt (l / 2) (l / 2) x) == beAt (5 * (l / 2)) l x
    else if subop == 0x30 || subop == 0x34 then pkCheckKem (pkKem subop) r m
    else if subop == 0x38 || subop == 0x3A then
      dsaVerify d (slice d.skLen d.pkLen x) (pkCtx i x) (pkMsg i x) r
    else true

end Sys2Proof.Machine
end

