-- ==== Sys2Proof/Machine/Rooms.lean ====
section
/-!
DEFINITION. The Rooms (08_rooms.md): parts on Alcoves and ChaCha20-Poly1305 units, tags, the final step of the replay window (R293), mismatches, self-tests, dummy keys.
-/

namespace Sys2Proof.Machine

/-! ### The final step (R293) -/

/-- The map after packet number p has been marked in a window of width w whose highest number was h. -/
def markMap (w h p m : Nat) : Nat :=
  if p > h then (if p - h ≥ w then 1 else m * 2 ^ (p - h) % 2 ^ w ||| 1) else m ||| 2 ^ (h - p)

/-- Marks an acceptable packet number in the window of a context. -/
def markWindow (x : Slot) (p : Nat) (s : State) : State :=
  let mode := polReplay x.policy
  if mode == 0 then s
  else
    let w := winWidth mode
    let s := markDirty (modCtx x.index (fun y => { y with
      f104 := max y.f104 p, f112 := if mode == 3 then y.f112 else markMap w y.f104 p y.f112, dirty := true }) s)
    if mode == 3 then
      mapSlots (fun _ y => if y.index == x.index && y.state == .companion then
        { y with map := BitVec.ofNat 1024 (markMap w x.f104 p y.map.toNat) } else y) s
    else s

/-! ### The end of an operation in its Room -/

/-- The success status of R289. -/
def Op.okStatus (o : Op) : Status := if o.switched then .okKeySwitched else if o.softHit then .okSoftLimit else .ok

/-- Writes a tag: behind the last ciphertext byte, or at AUX (R296). -/
def emitTag (o : Op) (tag : List Byte) (s : State) : State :=
  if o.head.d.opcode == 1 && o.head.d.aux == 0 then emit o.id o.payload tag s
  else countOp 5 tag.length o (emitAt o.id o.head.d.aux tag s)

/-- The status of a receiving operation whose tag fails, or whose final step fails (Table 7-8). -/
def failTag (o : Op) (replayed : Bool) : Status :=
  let scrub := o.head.d.opcode == 2 && o.long
  if replayed then (if scrub then .replayScrubbed else .replay) else (if scrub then .tagFailScrubbed else .tagFail)

/-- After the tag of a receiving operation verifies: staged plaintext is read, the window re-tested and marked, and
the plaintext released (R293 to R298). -/
def releasePlain (o : Op) (s : State) : State :=
  let (bad, s) := if o.place.isSome then eccRead 5 s else (false, s)
  if bad then endOp o.id .internalEcc 0 s
  else
    match o.ref.bind s.slotOf with
    | none => endOp o.id (failTag o true) 0 s
    | some (_, x) =>
      let p := o.pn.getD 0
      let (bad, s) := eccRead 1 s
      if bad then endOp o.id .internalEcc 0 (slotLost x.index s)
      else if acceptable s x p then
        let s := markWindow x p s
        let s := if o.place.isSome then emit o.id 0 o.stage s else s
        endOp o.id .ok (if o.head.d.opcode == 2 then o.payload else 0) s
      else endOp o.id (failTag o true) 0 s

/-- The last part has ended: the tag is formed or checked (R197, R292 to R299). -/
def closeOp (id : Nat) (s : State) : State :=
  match s.op? id with
  | none => s
  | some o =>
    match o.key with
    | none => s
    | some k =>
      let d := o.head.d
      if d.opcode == 5 then endOp id o.okStatus o.payload s
      else if d.receiving then
        if o.givenTag == o.tagBytes k then releasePlain o s else endOp id (failTag o false) 0 s
      else endOp id o.okStatus 0 (emitTag o (o.tagBytes k) s)

/-! ### Parts (R302, R303, R308, R309) -/

/-- The first block of the part that comes next has arrived (R308). -/
def firstBlockIn (o : Op) : Bool :=
  let n := min (if o.chacha then 64 else 16) o.partLen
  (arrivedBytes o.buf (16384 * o.part) n).length ≥ n

/-- A part that waits in its Room's queue (R309): charged, not on a unit, first block there, not held by a halt between parts
(Table 13-4). -/
def readyPart (s : State) (o : Op) : Bool :=
  o.phase == .run && o.head.d.aead && o.unit.isNone && o.charged && !o.old && o.key.isSome && firstBlockIn o &&
    !o.betweenHeld s

/-- Operations with a part on a unit. -/
def partsOn (s : State) (chacha : Bool) (u : Nat) : List Op :=
  s.ops.filter (fun o => o.head.d.aead && o.unit == some u && o.chacha == chacha)

/-- A unit is in service. -/
def unitServes (s : State) (chacha : Bool) (u : Nat) : Bool :=
  if chacha then s.rooms.chachas[u]? == some 0
  else match s.rooms.alcoves[u]? with
    | some a => a.svc == 0
    | none => false

/-- A unit has a place for a part: 8 in all, 4 of them long (R309). -/
def unitHasPlace (s : State) (chacha long : Bool) (u : Nat) : Bool :=
  unitServes s chacha u && (partsOn s chacha u).length < 8 &&
  (!long || ((partsOn s chacha u).filter Op.long).length < 4)

/-- The units of a Room: Alcoves 2r and 2r + 1, ChaCha20-Poly1305 unit r. Every part of an operation runs on a unit of its
own Room (R308). DEDUCED: log entry 99. -/
def roomUnits (chacha : Bool) (r : Nat) : List Nat := if chacha then [r] else [2 * r, 2 * r + 1]

/-- Waiting parts start in dispatch order; a short one passes long ones that only the limit of 4 holds back
(R309). -/
def partTurn (s : State) (o : Op) : Bool :=
  let r := o.room.getD 0
  (s.ops.filter (fun p => readyPart s p && p.room == o.room && p.chacha == o.chacha && p.seq < o.seq)).all (fun p =>
    p.long && !o.long && !(roomUnits o.chacha r).any (unitHasPlace s o.chacha true))

/-- The service state of a unit. -/
def serviceOf (s : State) (chacha : Bool) (u : Nat) : Nat :=
  if chacha then s.rooms.chachas.getD u 2
  else match s.rooms.alcoves[u]? with
    | some a => a.svc
    | none => 2

/-- The other Alcove of a Room. -/
def otherAlcove (u : Nat) : Nat := if u % 2 == 0 then u + 1 else u - 1

/-- The part may start on this unit: it does not restart on the Alcove that it had to leave, unless the other one is out of
service for good (R319). DEDUCED: log entry 29. -/
def mayUse (s : State) (o : Op) (u : Nat) : Bool :=
  o.chacha || o.avoid != some u || serviceOf s false (otherAlcove u) == 2

/-- PART_START: the part takes its unit; the unit reads the operation's record (Table 19-3 code 4), and blocks whose
input is there pass. DEDUCED: log entry 99. -/
def startPart (id u : Nat) (s : State) : State :=
  match s.op? id with
  | none => s
  | some o =>
    match o.room with
    | none => s
    | some r =>
      if readyPart s o && (roomUnits o.chacha r).contains u && unitHasPlace s o.chacha o.long u && mayUse s o u &&
          partTurn s o then
        let (bad, s) := eccRead 4 s
        if bad then endOp id .internalEcc 0 s
        else
          let mask := !o.chacha && o.head.d.opcode != 5 && o.part == 0 && o.avoid.isNone
          advancePart id (modOp id (fun x => { x with unit := some u, avoid := none })
            (if mask then rotateLanes u 1 s else s))
      else s

/-- Every block of the part has passed; a last part waits for the ends of the lists (R197) and for the tag. DESIGN CHOICE:
log entry 18. -/
def partComplete (o : Op) : Bool :=
  let d := o.head.d
  o.done == o.partLen && o.aadBytes.length == d.aadLen &&
  (!o.lastPart || (o.listsDone && (!d.receiving || o.givenTag.length == d.t)))

/-! ### Mismatches (R317 to R322) -/

/-- Adds fault reports, one after another. -/
def reports (n : Nat) (s : State) : State := (List.range n).foldl (fun s _ => faultReport s) s

/-- Sets the service state of a unit. -/
def setService (chacha : Bool) (u v : Nat) (s : State) : State :=
  { s with rooms := if chacha then { s.rooms with chachas := modAt (fun _ => v) u s.rooms.chachas }
    else { s.rooms with alcoves := modAt (fun a => { a with svc := v }) u s.rooms.alcoves } }

/-- A part goes on after a mismatch of its unit (R319): on the other Alcove of the Room if that has a place for it (R309),
else in the queue of the Room. The internal work of an old-generation operation moves over or ends. -/
def movePart (chacha : Bool) (u id : Nat) (s : State) : State :=
  match s.op? id with
  | none => s
  | some o =>
    if !chacha && unitHasPlace s false o.long (otherAlcove u) then modOp id (fun x => { x with unit := some (otherAlcove u) }) s
    else if o.old then releaseOp id s
    else modOp id (fun x => { x with unit := none, avoid := some u }) s

/-- A mismatch of a unit: the operations in `bad` end with FAULT_DETECTED, the others go on, the unit leaves service
for its self-test, and each mismatch is counted and reported, that of a dummy block too (R317 to R322). DEDUCED: log
entry 29. -/
def unitMismatch (chacha : Bool) (u : Nat) (dummy : Bool) (bad : List Nat) (s : State) : State :=
  let n := bad.length + b2n dummy
  let s := setService chacha u 1 { s with rooms := { s.rooms with faults := min 0xFFFFFFFF (s.rooms.faults + n) } }
  let s := bad.foldl (fun s id => endOp id .faultDetected 0 s) s
  reports n ((partsOn s chacha u).foldl (fun s o => movePart chacha u o.id s) s)

/-- The injection at point 9 that acts on the part of an operation, by kind (Table 19-5). -/
def partInjected (s : State) (o : Op) : Bool :=
  let is := fun (k : Nat) => s.injected 9 (fun a => bits a 2 0 == k)
  (is 0 && !o.chacha && writesPayload o.head.d.opcode && o.partLen != 0) ||
  (is 1 && !o.chacha && o.head.d.opcode != 5) || (is 2 && o.chacha)

/-- A part ends soundly: the operation's state is saved and the next part's reads go out, or the operation is closed (R302
to R304). -/
def savePart (o : Op) (s : State) : State :=
  if o.lastPart then closeOp o.id (modOp o.id (fun x => { x with unit := none }) s)
  else issueSrc o.id (modOp o.id (fun x => { x with part := x.part + 1, done := 0, unit := none, charged := false }) s)

/-- PART_END: an old-generation operation's internal work ends (R107); otherwise the part is saved, unless an
injected mismatch ends the operation. -/
def endPart (id : Nat) (s : State) : State :=
  let s := advancePart id s
  match s.op? id with
  | none => s
  | some o =>
    match o.unit with
    | some u =>
      if !o.head.d.aead then s
      else if o.old then releaseOp id s
      else if o.phase != .run || !partComplete o then s
      else if partInjected s o then unitMismatch o.chacha u false [id] (fireAt 9 s)
      else savePart o s
    | none => s

/-- MISMATCH on a unit in service: of a block of an operation's part there, or of a dummy block of an Alcove. DEDUCED:
log entry 29. -/
def mismatch (m : MismatchAt) (s : State) : State :=
  let here := (partsOn s m.chacha m.unit).map (·.id)
  let bad := m.op.toList ++ m.alsoFail.eraseDups.filter (fun id => m.op != some id)
  if unitServes s m.chacha m.unit && bad.all here.contains && (m.op.isSome || !m.chacha) then
    unitMismatch m.chacha m.unit m.op.isNone bad s
  else s

/-! ### Rows -/

/-- PART_START (R308). -/
def execPartStart (op : Nat) (alcove : Nat) (s : State) : Host.Outcome State Fault Refusal :=
  .next (finish (startPart op alcove s))

/-- PART_END (R303). -/
def execPartEnd (op : Nat) (s : State) : Host.Outcome State Fault Refusal := .next (finish (redispatch (endPart op s)))

/-- MISMATCH (R317). -/
def execMismatch (m : MismatchAt) (s : State) : Host.Outcome State Fault Refusal :=
  .next (finish (redispatch (mismatch m s)))

/-- SELF_TEST_END (R321): the unit returns to service, or stays out and is reported (R322). -/
def execSelfTestEnd (chacha : Bool) (unit : Nat) (pass : Bool) (s : State) : Host.Outcome State Fault Refusal :=
  .next (if serviceOf s chacha unit == 1 && s.unitsRun then
    finish (if pass then setService chacha unit 0 s else faultReport (setService chacha unit 2 s)) else s)

/-- The Alcove replaces its dummy key; dummy blocks beyond the 4,096 count for the next key. -/
def replaceDummyKey (n left : Nat) (s : State) : State :=
  let s := newDummyKey n s
  { s with rooms := { s.rooms with alcoves := modAt (fun a => { a with dummies := left }) n s.rooms.alcoves } }

/-- DUMMY_KEY_REPLACE (R325): after 4,096 dummy blocks the Alcove draws a new key. -/
def execDummyKeyReplace (alcove : Nat) (s : State) : Host.Outcome State Fault Refusal :=
  .next (match s.rooms.alcoves[alcove]? with
    | some a =>
      if a.dummies ≥ 4096 then replaceDummyKey alcove (a.dummies - 4096) s else s
    | none => s)

end Sys2Proof.Machine
end

