-- ==== Sys2Proof/Machine/Rounds.lean ====
section
/-!
DEFINITION. The round boundary (R224 to R226): what a round counts, and every change that the spec applies at a
boundary.
-/

namespace Sys2Proof.Machine

/-! ### What a round counts (Tables 20-1 and 20-3, R325) -/

/-- A parked operation that a counter of instance i counts (event 0x000B). DEDUCED: log entry 27. -/
def parkedMatch (s : State) (i : Nat) (f : Word) : Bool :=
  s.ops.any (fun o => o.phase.parkedOn.isSome && (i == 0 || (o.inst == i && !o.old)) && filterMatch s i f o.tag')

/-- Counts the cycles of a round in which an operation is parked. -/
def countParked (s : State) : State :=
  s.insts.foldl (fun s p =>
    (List.range (progCounters p.1)).foldl (fun s n =>
      match (s.inst p.1).counters[n]? with
      | some c => if c.event == 0xB && parkedMatch s p.1 c.filter then addCounter p.1 n 512 s else s
      | none => s) s) s

/-- Dummy blocks that an Alcove in service issues in a round: one or two in each of 32 groups (R324, R326); none while the clocks
of the Rooms are gated or stopped (R623, R625). -/
def dummiesPerRound (s : State) : Nat :=
  if s.pwr.state == .doze || s.pwr.state == .idle then 0 else if s.rooms.ratioNow then 64 else 32

/-- An Alcove issues n dummy blocks, each with a random input from the CTR_DRBG of its Room (R325) and its rotations (R327);
State keeps the last. DESIGN CHOICE: log entry 91. -/
def issueDummy (n a : Nat) (s : State) : State :=
  if n == 0 || !unitServes s false a then s
  else
    let g := generate (drbgRoom (a / 2)) (16 * n) [] false s
    rotateLanes a n { g.2 with rooms := { g.2.rooms with
        alcoves := modAt (fun x => { x with dummies := x.dummies + n, dummyIn := g.1.drop (16 * n - 16) }) a g.2.rooms.alcoves } }

/-- Issues the dummy blocks of a round; a change of the ratio takes effect from here on (R326). DESIGN CHOICE: log entry 91.
-/
def issueDummies (s : State) : State :=
  let n := dummiesPerRound s
  let live := (s.rooms.alcoves.filter (fun a => a.svc == 0)).length
  let s := (List.range s.rooms.alcoves.length).foldl (fun s a => issueDummy n a s) s
  countIn 0 0x30 (n * live) ⟨0, none, none, none, none⟩ { s with rooms := { s.rooms with ratioNow := s.rooms.ratio } }

/-- A mismatch injected on dummy blocks fires on Alcoves in service, from the lowest (Table 19-5, point 9 kind 3).
DESIGN CHOICE: log entry 28. -/
def injectDummies (s : State) : State :=
  if dummiesPerRound s == 0 then s
  else
    (List.range s.rooms.alcoves.length).foldl (fun s a =>
      if unitServes s false a && s.injected 9 (fun x => bits x 2 0 == 3) then unitMismatch false a true [] (fireAt 9 s) else s) s

/-- The cycles of the round that ends. DEDUCED: log entry 27. -/
def countRound (s : State) : State :=
  let s := addCounter 0 71 512 { s with core := (s.core + 512) % 2 ^ 64 }
  injectDummies (issueDummies (countParked (s.ops.foldl (fun s o => countOp 0xA 512 o s) s)))

/-! ### Hearth quanta (R409, R411) -/

/-- Instances with queued PK work and a nonzero HEARTH_SHARE, with their shares. -/
def heaShares (s : State) : List (Nat × Nat) :=
  (s.insts.filter (fun p => p.2.hshare != 0 && s.hearth.queue.any (fun q => q.1 == p.1))).map (fun p =>
    (p.1, p.2.hshare))

/-- The Hearth quantum of an instance, in ns, for the shares `l` of total `tot` (R409). -/
def heaQuantum (l : List (Nat × Nat)) (tot i : Nat) : Nat :=
  match tget i l with
  | some h => 1000 * max 1 ((h * 1024 + tot - 1) / tot)
  | none => 0

/-- Recomputes the Hearth quanta (R409). -/
def setHeaQuanta (s : State) : State :=
  let l := heaShares s
  let tot := l.foldl (fun a p => a + p.2) 0
  { s with insts := s.insts.map (fun p => (p.1, { p.2 with hquantum := heaQuantum l tot p.1 })) }

/-- The clamp of a Hearth deficit to its quantum (R411). -/
def clampHea (i : Nat) (s : State) : State := modInst i (fun x => { x with hdeficit := min x.hdeficit x.hquantum }) s

/-! ### Changes that wait for the boundary (R225) -/

/-- Applies a committed transaction and answers it (R65). A transaction that has been rolled back meanwhile applies nothing and
answers OK. DESIGN CHOICE: log entry 92. -/
def applyCommit (q : Nat) (s : State) : State :=
  let n := s.txn.staged.length
  let tick := s.tickNow
  let s := applyInOrder s.txn.staged s
  reply q .ok 0 (commitBody n tick) (endTxn 1 false s)

/-- Applies and answers what the command in service of a queue waits for (R65, R88, R478, R575, R654). -/
def applyWait (q : Nat) (s : State) : State :=
  match (s.inst q).cq.serving with
  | some v =>
    match v.wait with
    | .share i w n h => reply q .ok 0 [] (applyShare i w n h s)
    | .counter i n en ev f => reply q .ok 0 [] (applyCounter i n en ev f s)
    | .resume n => reply q .ok 0 [] (resumePort n s)
    | .unlock => reply q .ok 0 [] s
    | .commit => applyCommit q s
    | _ => s
  | none => s

/-- The start of a quiesce (R93) and the generation step (R102) of every instance that waits for one. DEDUCED: log
entry 12. -/
def instanceSteps (s : State) : State :=
  (s.insts.map (·.1)).foldl (fun s i =>
    let x := s.inst i
    if x.genStep then generationStep i s
    else if x.state == .quiescing then modInst i (fun x => { x with stopFetch := true }) s
    else s) s

/-- Grants stop at the boundary for an entry to a power state, and resume at it otherwise (R575, R624, R625). -/
def setGrants (s : State) : State :=
  { s with pwr := { s.pwr with
    grants := s.pwr.entry.isNone && s.pwr.softReset.isNone && (s.pwr.state == .active || s.pwr.state == .idle) } }

/-- What waits for an index waits under R260, for a turn within INST_MISS_MAX, or under R261, for an eviction token. -/
def waitsDoor (s : State) (i : Nat) : Bool :=
  s.lar.misses.any (fun m => m.1 == i && missActive s m.2.1 ≥ max 1 s.sched.missMax) ||
    s.lar.fetches.any (fun f => f.index == i && !f.token && f.victim.isNone && s.lar.tokens == 0 &&
      (match f.inc with
       | some x => decide (s.pan.slots.length + (if x.wide then 2 else 1) > s.build.slots)
       | none => false))

/-- TH_SCHED_STATUS as the boundary takes it (Table 6-6, R262). -/
def schedSnap (s : State) : Word :=
  let held := (s.ops.filter (fun o => match o.phase.parkedOn with
    | some i => waitsDoor s i
    | none => false)).length
  regOf [(held, 48), (s.lar.fetches.length, 32), (s.ops.length, 16), (s.sched.round, 0)]

/-- Counts the round and takes the snapshot. -/
def markRound (s : State) : State :=
  let s := { s with sched := { s.sched with round := (s.sched.round + 1) % 65536 } }
  { s with sched := { s.sched with snap := schedSnap s } }

/-- A round boundary (R224, R225): what the round counts, the changes, the quanta, the snapshot. While no Study image runs no
waiting command is applied (R44). -/
def boundary (s : State) : State :=
  let s := countRound s
  let s := answerKek (applyKek (instanceSteps s))
  let s := if s.fw.imageRuns then (s.insts.map (·.1)).foldl (fun s q => applyWait q s) s else s
  markRound (setGrants (clampShares (setHeaQuanta (setQuanta s))))

/-- ROUND_BOUNDARY (R224). -/
def execRoundBoundary (s : State) : Host.Outcome State Fault Refusal :=
  .next (if s.pins.mainUp then finish (redispatch (boundary s)) else s)

end Sys2Proof.Machine
end

