-- ==== Sys2Proof/Machine/Hearth.lean ====
section
/-!
DEFINITION. The Hearth: the scheduler's visits and hand-offs, the operand read, validation, results, aborts, wipes and
self-tests of the engines (11_hearth.md).
-/

namespace Sys2Proof.Machine

/-! ### The scheduler (R409 to R413) -/

/-- The operation at the head of an instance's list. -/
def hearthHead (s : State) (i : Nat) : Option Op :=
  (s.hearth.queue.find? (fun q => q.1 == i)).bind (fun q => s.op? q.2)

/-- The scheduler may visit the instance: a nonzero share, and an operation at the head of its list that a mover
resume is not awaited for (R410, Table 11-9). -/
def hearthWork (s : State) (i : Nat) : Bool :=
  (s.inst i).hshare != 0 && (match hearthHead s i with
    | some o => !o.returned
    | none => false)

/-- The next instance to visit after instance `last`, wrapping from the highest to 0 (R410). -/
def nextUser (s : State) (last : Nat) : Option Nat :=
  let l := (s.insts.map (·.1)).filter (hearthWork s)
  match l.find? (fun i => i > last) with
  | some i => some i
  | none => l.head?

/-- The engine for an operation of an instance: one whose last owner is the same instance, else the lowest free one
(R412). -/
def chooseEngine (s : State) (i : Nat) : Option Nat :=
  let free := s.engines.zipIdx.filter (fun p => p.1.inService && p.1.state == .idle)
  match free.find? (fun p => p.1.owner == some i) with
  | some p => some p.2
  | none => free.head?.map (·.2)

/-- Charges nominal time to an instance's Hearth deficit; event 0x000C counts the whole µs by which the deficit falls
(R410, log entry 22). -/
def chargeHearth (o : Op) (ns : Nat) (s : State) : State :=
  let d := (s.inst o.inst).hdeficit
  let s := modInst o.inst (fun x => { x with hdeficit := x.hdeficit - (ns : Int) }) s
  countOp 0xC (d / 1000 - (d - (ns : Int)) / 1000).toNat o s

/-- Gives nominal time back, with the count of the event. -/
def refundHearth (o : Op) (ns : Nat) (s : State) : State :=
  let d := (s.inst o.inst).hdeficit
  let s := modInst o.inst (fun x => { x with hdeficit := x.hdeficit + (ns : Int) }) s
  let n := ((d + (ns : Int)) / 1000 - d / 1000).toNat
  uncountIn 0 0xC n o.tag' (if o.old || o.inst == 0 then s else uncountIn o.inst 0xC n o.tag' s)

/-- The longest nominal time of the operation's subop (Table 11-6); the nominal time itself where the subop decides
it. DEDUCED: log entry 22. -/
def pkMost (o : Op) : Nat :=
  match pkInfo o.head.d.subop with
  | some i => pkNominal i 512 (2 ^ 32 - 1) (32736 - i.fixed)
  | none => 0

/-- An engine begins to read the operand block of the operation it holds: its header first (R419). DEDUCED: log entry
39. -/
def fetchOperands (n : Nat) (o : Op) (s : State) : State :=
  readReq (portOf o.ring) o.head.d.aux 32 o.inst (.pkIn o.id) 0
    (modEngine n (fun e => { e with state := .fetch, owner := some o.inst, op := some o.id }) s)

/-- The whole nominal time of the operation is decided by its subop. -/
def pkBaseOnly (o : Op) : Bool := match pkInfo o.head.d.subop with
  | some i => i.rsa == 0 && i.perKiB == 0
  | none => true

/-- The nominal time `t`, which the header or the operands decide, stands in for the longest one. DEDUCED: log entry 22. -/
def chargeRest (o : Op) (t : Nat) (s : State) : State :=
  if o.part == 1 then refundHearth o (pkMost o - t) (modOp o.id (fun y => { y with part := 2 }) s) else s

/-- Hands an operation to an engine, which wipes first for a change of owner (R412, R413). It is charged its nominal
time, or the longest one of its subop until its operand block has shown the nominal time (R410, R414). DEDUCED: log entry 22. -/
def giveEngine (n : Nat) (o : Op) (s : State) : State :=
  let s := { s with hearth := { s.hearth with queue := s.hearth.queue.filter (fun q => q.2 != o.id) } }
  let s := if o.part == 0 then
      chargeHearth o (pkMost o) (modOp o.id (fun x => { x with part := if pkBaseOnly o then 2 else 1 }) s) else s
  match s.engines[n]? with
  | none => s
  | some e =>
    if e.owner.isNone || e.owner == some o.inst then fetchOperands n o s
    else modEngine n (fun e => { e with state := .wipe, op := some o.id, abort := false, after := none }) s

/-- The end of a visit: one that has found the list empty clamps the deficit (R411). -/
def closeVisit (s : State) : State :=
  let i := s.hearth.visit
  let s := { s with hearth := { s.hearth with inVisit := false } }
  if (hearthHead s i).isNone then clampHea i s else s

/-- A visit begins: the quantum is added to the deficit (R410). -/
def openVisit (i : Nat) (s : State) : State :=
  { modInst i (fun x => { x with hdeficit := x.hdeficit + x.hquantum }) s with
    hearth := { s.hearth with visit := i, inVisit := true } }

/-- Goes through visits until one hands an operation to a free engine. -/
def visitLoop : Nat → State → State
  | 0, s => s
  | f + 1, s =>
    let i := s.hearth.visit
    if s.hearth.inVisit then
      (if hearthWork s i && 0 < (s.inst i).hdeficit then
         match hearthHead s i, chooseEngine s i with
         | some o, some n => giveEngine n o s
         | _, _ => s
       else visitLoop f (closeVisit s))
    else
      match nextUser s i with
      | some j => visitLoop f (openVisit j s)
      | none => s

/-- Visits that an instance needs before its deficit is above 0; none when its quantum is 0. -/
def visitsNeeded (x : Inst) : Option Nat :=
  if 0 < x.hdeficit then some 0
  else if x.hquantum == 0 then none
  else some ((0 - x.hdeficit).toNat / x.hquantum + 1)

/-- Visits within which the scheduler finds an operation to hand off, or ends the visit of an emptied list (R411). -/
def visitBound (s : State) : Nat :=
  let l := (s.insts.map (·.1)).filter (hearthWork s)
  match (l.filterMap (fun i => visitsNeeded (s.inst i))).min? with
  | none => 2
  | some m => 2 * (m + 2) * (l.length + 1)

/-- HEARTH_HANDOFF (R410): an engine is free; it takes the envelope that waits for one (R390), or the scheduler hands it an
operation. DESIGN CHOICE: log entry 34. -/
def execHearthHandoff (s : State) : Host.Outcome State Fault Refusal :=
  .next (if s.pins.mainUp && (chooseEngine s 0).isSome then
    finish (if servingWaits 0 .engine s then envWork 0 s else visitLoop (visitBound s) s) else s)

/-! ### Ends -/

/-- The engine has nothing left to do for its operation; while a halt holds the operation's writes it keeps it (R426,
Table 11-9). -/
def freeEngine (n : Nat) (o : Op) (s : State) : State :=
  let held := (s.port (portOf o.ring)).wrQ.any (fun w => w.owner.op? == some o.id)
  modEngine n (fun e => { e with
    state := if held then .release else .idle, op := if held then some o.id else none, hdr := [], data := [],
    valDone := none, abort := false, after := none }) s

/-- The operation on an engine completes (R420, R421, R424). -/
def endPk (n : Nat) (o : Op) (st : Status) (len : Nat) (s : State) : State := freeEngine n o (endOp o.id st len s)

/-- The engine's work ends with FAULT_DETECTED: a report, a wipe, and then a self-test (R422). DEDUCED: log entry 42.
-/
def faultPk (n : Nat) (o : Op) (s : State) : State :=
  let s := endOp o.id .faultDetected 0 s
  let s := { s with hearth := { s.hearth with faults := min 0xFFFFFFFF (s.hearth.faults + 1) } }
  faultReport (modEngine n (fun e => { e with
    state := .wipe, op := none, hdr := [], data := [], regs := EngRegs.zero, valDone := none, abort := false,
    after := some .faultDetected }) s)

/-- Runs `f` on the operation that engine n of the build holds in a state, unless it has been ordered to stop, and
what follows. -/
def onEngine (n : Nat) (st : EngState) (f : Engine → Op → State → State) (s : State) : State :=
  match s.engines[n]? with
  | none => s
  | some e =>
    match e.op.bind s.op? with
    | none => s
    | some o => if e.state == st && !e.abort then finish (f e o s) else s

/-! ### Operands (R408, R417, R419) -/

/-- The nominal time that a header decides: all of it but the message of an operation with a context string, whose length
stands in the operands. -/
def chargeHeader (o : Op) (hdr : List Byte) (s : State) : State :=
  match pkInfo o.head.d.subop with
  | some i => if i.ctx then s else chargeRest o (pkNominal i (pkModLen hdr) (pkE hdr) (pkInLen hdr - i.fixed)) s
  | none => s

/-- The header is in operand memory: step 1 of Table 11-5, and the read of the operands. DEDUCED: log entry 39. -/
def takeHeader (n : Nat) (o : Op) (hdr : List Byte) (s : State) : State :=
  let s := modEngine n (fun e => { e with hdr := hdr }) (takeArrived (.pkIn o.id) s)
  if pkHeaderOk o.head.d.subop hdr then
    let s := chargeHeader o hdr s
    readReq (portOf o.ring) (o.head.d.aux + 32) (pkInLen hdr) o.inst (.pkBody o.id) 0 s
  else endPk n o .pkOperandFormat 0 s

/-- What the working registers of an engine hold while it runs is free. DESIGN CHOICE: log entry 78. -/
def engineRegs (n : Nat) (s : State) : State :=
  let k := s.freeCtr
  draw (modEngine n (fun e => { e with
    regs := ⟨Config.freeNat k, Config.freeNat (k + 1), Config.freeNat (k + 2)⟩ }) { s with freeCtr := k + 2 })

/-- The operands are in operand memory. -/
def takeOperands (n : Nat) (e : Engine) (o : Op) (x : List Byte) (s : State) : State :=
  let s := takeArrived (.pkBody o.id) s
  match pkInfo o.head.d.subop with
  | none => s
  | some i =>
    if pkCtxOk i x then
      chargeRest o (pkNominal i (pkModLen e.hdr) (pkE e.hdr) (pkMsg i x).length)
        (engineRegs n (modEngine n (fun e => { e with state := .run, data := x, valDone := none }) s))
    else endPk n o .pkOperandFormat 0 s

/-- What of an operand block has arrived is taken. -/
def takeBlock (n : Nat) (e : Engine) (o : Op) (s : State) : State :=
  match s.arrived? (.pkIn o.id) with
  | some hdr => takeHeader n o hdr s
  | none =>
    match s.arrived? (.pkBody o.id) with
    | some x => takeOperands n e o x s
    | none => s

/-- PK_OPERANDS_ARRIVED (R419). -/
def execPkOperandsArrived (engine : Nat) (s : State) : Host.Outcome State Fault Refusal :=
  .next (onEngine engine .fetch (takeBlock engine) s)

/-! ### Validation and results (R418 to R422) -/

/-- The validation phase ends: every check is evaluated; a public-input operation that fails completes. A lost word of
operand memory is a fault (Table 19-3 code 7). -/
def validate (n : Nat) (e : Engine) (o : Op) (s : State) : State :=
  if e.valDone.isSome then s
  else
    let (bad, s) := eccRead 7 s
    let sub := o.head.d.subop
    let v := pkValidate sub (pkModLen e.hdr) (pkE e.hdr) e.data
    let pub := !((pkInfo sub).map (·.secret)).getD true
    if bad then faultPk n o s
    else if pub && v != .ok then endPk n o v 0 s
    else modEngine n (fun e => { e with valDone := some v }) s

/-- VALIDATION_PHASE_END (R421). -/
def execValidationPhaseEnd (engine : Nat) (s : State) : Host.Outcome State Fault Refusal :=
  .next (onEngine engine .run (validate engine) s)

/-- The random bytes of an operation, from the CTR_DRBG of its engine (R402, Table 11-4); and those of the pairwise test
of a new ML-KEM key pair (Table 11-8). DESIGN CHOICE: log entry 41. -/
def pkRandom (n sub : Nat) (x : List Byte) (s : State) : (List Byte × List Byte) × State :=
  if pkRandLen sub == 0 then (([], []), s)
  else
    let g := generate (drbgEngine n) (pkRandLen sub) (pkAddin sub x) (pkFresh sub) s
    if sub == 0x30 || sub == 0x34 then
      let m := generate (drbgEngine n) 32 [] false g.2
      ((g.1, m.1), m.2)
    else ((g.1, []), g.2)

/-- The computation has ended: its outcome, the result check, the result writes, the completion. A random number that must
be fresh waits for the entropy source (R403). -/
def deliver (n : Nat) (e : Engine) (o : Op) (s : State) : State :=
  let sub := o.head.d.subop
  if pkFresh sub && !s.keys.rngOk then s
  else
    let l := pkModLen e.hdr
    let g := pkRandom n sub e.data s
    let s := g.2
    let r := pkResult sub l (pkE e.hdr) e.data g.1.1
    let out := pkOutcome sub e.data r
    let inj := pkChecked sub && out == .ok && s.injected 9 (fun a => bits a 2 0 == 4)
    let s := if inj then fireAt 9 s else s
    if out != .ok then endPk n o out 0 s
    else if inj || !pkCheck sub l (pkE e.hdr) e.data r g.1.2 then faultPk n o s
    else endPk n o .ok r.length (emitAt o.id (pkOutAddr e.hdr) r s)

/-- An operation reaches its nominal time. A parity error that the sequencer has met is a fault (Table 11-8). DEDUCED: log
entry 40. -/
def nominalEnd (n : Nat) (parityOk : Bool) (e : Engine) (o : Op) (s : State) : State :=
  if !parityOk then faultPk n o s
  else
  match e.valDone with
  | none => s
  | some .ok => deliver n e o s
  | some st => endPk n o st 0 s

/-- PK_NOMINAL_TIME_END (R420). -/
def execPkNominalTimeEnd (engine : Nat) (parityOk : Bool) (s : State) : Host.Outcome State Fault Refusal :=
  .next (onEngine engine .run (nominalEnd engine parityOk) s)

/-! ### Aborts and wipes (R413, R427, R428) -/

/-- PK_ABORT_BOUNDARY (R427): an operation that has been ordered to stop reaches an instruction boundary, and the wipe
starts. -/
def execPkAbortBoundary (engine : Nat) (s : State) : Host.Outcome State Fault Refusal :=
  .next (match s.engines[engine]? with
    | none => s
    | some e =>
      if e.state == .run && e.abort then
        modEngine engine (fun e => { e with
          state := .wipe, hdr := [], data := [], regs := EngRegs.zero, valDone := none }) s
      else s)

/-- A stopped operation ends once the wipe is done: without a trace when it is of an old generation, otherwise with the
status it was stopped for (R106, R428, Table 11-9). -/
def endStopped (o : Op) (st : Status) (s : State) : State :=
  if o.old then releaseOp o.id s
  else if o.phase == .hearth || st == .locked then endOp o.id st 0 s
  else failWrite o.id o.ring o.head.idx st s

/-- The wipe of an engine ends. -/
def wipeDone (n : Nat) (e : Engine) (s : State) : State :=
  match e.op.bind s.op? with
  | some o =>
    if e.abort then
      endStopped o (e.after.getD .pkAborted) (modEngine n (fun _ => { Engine.cold with ucode := e.ucode, drain := e.drain }) s)
    else fetchOperands n o (modEngine n (fun e => { e with hdr := [], data := [], regs := EngRegs.zero }) s)
  | none =>
    modEngine n (fun _ => { Engine.cold with
      ucode := e.ucode, drain := e.drain,
      state := if e.after == some .faultDetected && e.op.isNone then .test else .idle }) s

/-- ENGINE_WIPE_DONE (R413). -/
def execEngineWipeDone (engine : Nat) (s : State) : Host.Outcome State Fault Refusal :=
  .next (match s.engines[engine]? with
    | none => s
    | some e => if e.state == .wipe && s.unitsRun then finish (redispatch (wipeDone engine e s)) else s)

/-! ### Self-tests (R422, R430, R603) -/

/-- The microcode rollout goes on with the next engine once engine n is done or out of service (R603); one that holds the new
microcode already, and under RELOAD_AT_START every one (R604), is not drained again. DEDUCED: log entry 43. -/
def rolloutNext (n : Nat) (s : State) : State :=
  let left := s.fw.rollout.filter (fun i => i != n)
  let s := { s with fw := { s.fw with rollout := left } }
  match left.head? with
  | some m =>
    if s.fw.reloadAtStart then s
    else modEngine m (fun e => if e.ucode == s.fw.ucode then e else { e with drain := true }) s
  | none => s

/-- Once no engine is left, every queued operation completes with HEARTH_UNAVAILABLE (Table 11-9). -/
def failQueue (s : State) : State :=
  if hearthGone s then
    s.hearth.queue.foldl (fun s (q : Nat × Nat) => endOp q.2 .hearthUnavailable 0 s) s
  else s

/-- The self-test of engine n ends. DEDUCED: log entry 43. -/
def testDone (n : Nat) (pass : Bool) (e : Engine) (s : State) : State :=
  let loaded := !e.drain && e.ucode == s.fw.ucode
  let s := modEngine n (fun e => { e with
    state := if pass then .idle else .failed, owner := none, drain := e.drain && pass }) s
  let s := if pass then s else faultReport s
  let s := if s.fw.rollout.contains n && (loaded || !pass) then rolloutNext n s else s
  failQueue s

/-- HEARTH_SELF_TEST_END (R422). -/
def execHearthSelfTestEnd (engine : Nat) (pass : Bool) (s : State) : Host.Outcome State Fault Refusal :=
  .next (match s.engines[engine]? with
    | none => s
    | some e => if e.state == .test && s.unitsRun then finish (testDone engine pass e s) else s)

end Sys2Proof.Machine
end

