-- ==== Sys2Proof/Machine/PantryDoor.lean ====
section
/-!
DEFINITION. The Pantry door at work (09_contexts.md, R259 to R261): turns of the misses, node and blob reads as they
return, victims, node write-backs, re-authentications, the end of a retire, and the microsecond that refills the
eviction tokens.
-/

namespace Sys2Proof.Machine

/-! ### Fetches and installs (R15, R17, R18, Table 9-9, Table 9-12 steps 8 to 10) -/

/-- A verified context takes its place when one is free; the operations that wait on it go on. -/
def placeInc (f : Fetch) (x : Slot) (s : State) : State :=
  let (done, s) := placeFetch f.index 3 s
  if !done then s
  else
    match f.probe with
    | some id => wakeIndex f.index (installDone id x.serial (modOp id (fun o => { o with phase := .ready }) s))
    | none => wakeIndex f.index (addCounter 0 68 1 s)

/-- The context of a LIVE blob waits for a place, a PINNED one under R366. -/
def placeLive (f : Fetch) (x : Slot) (s : State) : State :=
  let pins := pinsOf x
  let excess := pins != 0 && !pinOk s x.owner pins
  if excess && x.wide then failFetch f.index .ctxPinLimit s
  else
    let x := if excess then { x with policy := polSet 18 false x.policy } else x
    let s := if excess then { s with pan := { s.pan with pinDropped := true } } else s
    let f := { f with blob := none, inc := some x, incMap := true }
    placeInc f x (modFetch f.index (fun _ => f) s)

/-- A LIVE blob that unwraps (Tables 9-1, 9-9): an install that probes meets CTX_OCCUPIED; operations parked on the index are
dispatched once the context has its place. -/
def takeLive (f : Fetch) (x : Slot) (s : State) : State :=
  match f.probe with
  | some id =>
    let s := match s.op? id with
      | some o => failCheck o .ctxOccupied s
      | none => s
    if s.ops.any (fun o => o.phase == .parked f.index) then placeLive { f with probe := none } x s
    else wakeIndex f.index (dropFetch f.index s)
  | none => placeLive f x s

/-- What the state of an index is for whoever waits on the fetch: EMPTY. -/
def takeEmpty (f : Fetch) (s : State) : State :=
  match f.probe with
  | some id => installRest id none s
  | none => failFetch f.index .ctxAbsent s

/-- The findings of Table 9-9 on a blob that has arrived. -/
def takeBlob (f : Fetch) (b : List Byte) (s : State) : State :=
  match readBlob s f.index f.inst b with
  | .bad => failFetch f.index .larderIntegrity s
  | .dead => takeEmpty f s
  | .tomb t =>
    (match f.probe with
     | some id => installRest id (some t) s
     | none => failFetch f.index .ctxRetired s)
  | .live x => takeLive f x s

/-- Nobody can use what a fetch brings: its install has gone, or its instance's life has ended. -/
def fetchGone (s : State) (f : Fetch) : Bool :=
  (match f.probe with
   | some id => !s.ops.any (fun o => o.id == id && o.phase == .waitIndex f.index)
   | none => false) ||
  (match f.inc with
   | some x => (s.inst x.owner).kek.seed.isEmpty || x.seedId != (s.inst x.owner).kek.seedId
   | none => false)

/-- Takes a fetch as far as it can go; that of an install waits while operations of its instance are not dispatched (Table 3-1).
While its instance holds no seed it ends with KEK_ABSENT, whatever it has read (R336,
Table 9-9). -/
def stepFetch (index : Nat) (s : State) : State :=
  match s.lar.fetches.find? (fun f => f.index == index) with
  | none => s
  | some f =>
    if (s.inst f.inst).kek.seed.isEmpty then failFetch index .kekAbsent s
    else if fetchGone s f then wakeIndex index (dropFetch index s)
    else
      if f.probe.isSome && !(s.inst f.inst).dispatches then s
      else match f.inc with
      | some x => placeInc f x s
      | none =>
        match advanceFetch f s with
        | (.waits, s) => s
        | (.empty, s) => takeEmpty f s
        | (.blob b, s) => takeBlob f b s

/-- Every fetch, and every tombstone, goes as far as it can. -/
def doorStep (s : State) : State :=
  let s := (s.lar.fetches.map (·.index)).foldl (fun s i => stepFetch i s) s
  (s.pan.slots.filter (fun p => p.2.tombDue)).foldl (fun s p => progressTomb p.2.index s) s

/-! ### Turns (R259, R260) -/

/-- The Pantry door may start the miss of an index: within INST_MISS_MAX, no slot or fetch of the index. -/
def missStarts (s : State) (m : Nat × Nat × Option Nat) : Bool :=
  missActive s m.2.1 < max 1 s.sched.missMax && (s.slotOf m.1).isNone &&
  !s.lar.fetches.any (fun f => f.index == m.1) && s.lar.flush.isNone

/-- Turns that an instance has left in the cycle of the weighted round robin; WEIGHT 0 counts as 1 (R259). DESIGN
CHOICE: log entry 13. -/
def turnsLeft (s : State) (i : Nat) : Nat := (tget i s.lar.credits).getD (max 1 (s.inst i).weight)

/-- LARDER_FETCH_START: the Pantry door takes a waiting miss in its instance's turn. A cycle in which no instance with
a miss has turns left starts anew. DESIGN CHOICE: log entry 13. -/
def startFetch (index : Nat) (s : State) : State :=
  match s.lar.misses.find? (fun m => m.1 == index) with
  | none => s
  | some m =>
    if !missStarts s m then s
    else
      let waiting := (s.lar.misses.filter (missStarts s)).map (fun m => m.2.1)
      let fresh := waiting.all (fun i => turnsLeft s i == 0)
      let s := if fresh then { s with lar := { s.lar with credits := [] } } else s
      if turnsLeft s m.2.1 == 0 then s
      else
        let f : Fetch := ⟨index, m.2.1, m.2.2, none, none, false, none, false⟩
        let s := { s with lar := { s.lar with
          credits := tset m.2.1 (turnsLeft s m.2.1 - 1) s.lar.credits,
          misses := s.lar.misses.filter (fun m => m.1 != index), fetches := s.lar.fetches ++ [f] } }
        stepFetch index s

/-! ### Returns (R350, R355) -/

/-- What a node that has been read goes on to, or one that has failed its check: the attach that reads it, or whatever waits
for it. -/
def nodeTaken (level n : Nat) (ok : Bool) (s : State) : State :=
  if s.attaching then (if ok then attachStep s else attachEnd false s) else doorStep (if ok then s else nodeFailed level n s)

/-- NODE_READ_RETURN: the node is verified against its parent and cached, and what waits for it goes on. -/
def nodeReturn (level n : Nat) (s : State) : State :=
  match s.arrived? (.node level n) with
  | none => s
  | some b =>
    let s := addCounter 0 70 1 (takeArrived (.node level n) s)
    match (s.parentCtrs level n).bind (fun c => c.at (childOf level n)) with
    | none => nodeTaken level n true s
    | some ctr =>
      if slice 56 8 b == nodeMac s level n ctr (b.take 56) then nodeTaken level n true (cacheNode level n (Ctrs.ofBytes b) s)
      else nodeTaken level n false s

/-- BLOB_READ_RETURN. -/
def blobReturn (index : Nat) (s : State) : State :=
  match s.arrived? (.larBlob index) with
  | none => s
  | some b =>
    stepFetch index (modFetch index (fun f => { f with blob := some b }) (takeArrived (.larBlob index) s))

/-! ### Victims and nodes written back (R18, R349, R364) -/

/-- VICTIM_WRITEBACK_ACK: the victim's slot is free for the fetch that waits for it; when none does any more, the slot
stays, clean. Operations that wait for the victim's index look it up again. -/
def victimAck (index : Nat) (s : State) : State :=
  if (s.arrived? (.victim index)).isNone then s
  else
    let s := addCounter 0 69 1 (takeArrived (.victim index) s)
    match s.slotOf index with
    | none => wakeIndex index s
    | some (n, _) =>
      match s.lar.fetches.find? (fun f => f.victim == some n) with
      | some f =>
        stepFetch f.index (wakeIndex index (modFetch f.index (fun g => { g with victim := none, token := false })
          (keepSlots (fun k _ => k != n) s)))
      | none => wakeIndex index (slotWritten index (modCtx index (fun x => { x with evicting := false, dirty := false }) s))

/-- NODE_WRITEBACK: a full cache evicts the least recently used node that may leave, and writes it back when it is dirty
(R349). -/
def nodeOut (level n : Nat) (s : State) : State :=
  if s.lar.nodes.any s.orphan then askParents s
  else match lruNode s with
  | some x =>
    if x.level == level && x.n == n && x.dirty && 16384 ≤ s.lar.nodes.length && s.lar.flush.isNone && !s.lar.stale then
      writeNode (.nodeWb level n) x (modNode level n (fun y => { y with wbOut := true }) s)
    else s
  | none => s

/-! ### Re-authentication (R348) -/

/-- Where child c of node (level, n) lies; level 4 stands for the root. -/
def childAddr (s : State) (level n c : Nat) : Nat :=
  if level == 0 then s.blobAddr (n * 64 + c) else s.nodeAddr (level - 1) (if level == 4 then c else n * 64 + c)

/-- The port of a child (R345). -/
def childPort (level n c : Nat) : Nat := if level == 0 then n % 8 else (if level == 4 then c else n * 64 + c) % 8

/-- The first blob index under a child. -/
def childIndex (level n c : Nat) : Nat := (if level == 4 then c else n * 64 + c) * 64 ^ level

/-- A Larder write to an address is under way: the child gets its new counter by it. -/
def childOut (s : State) (a : Nat) : Bool :=
  let hit := fun (w : Wr) => a ≤ w.addr && w.addr < a + 160 && (match w.owner with
    | .victim _ => true
    | .tomb _ => true
    | .nodeWb _ _ => true
    | .flushSlot _ => true
    | .flushNode _ _ => true
    | _ => false)
  s.hwy.ports.any (fun p => p.wrs.any hit || p.wrQ.any hit)

/-- Children that were written under the old counters. DEDUCED: log entry 46. -/
def childrenDue (old : Ctrs) : List Nat := (List.range 64).filter (fun c => (old.at c).isSome)

/-- The context window of an instance holds an absolute index (R84). -/
def Inst.holds (x : Inst) (i : Nat) : Bool := x.state != .absent && x.ctxBase ≤ i && i < x.ctxBase + x.ctxLimit

/-- A blob under a new counter: re-wrapped; or, of a dead life (R335) or an instance without a seed, with COUNTER and HDR_MAC
renewed. None when it fails its check under the old counter. -/
def rewrapBlob (s : State) (i octr nctr : Nat) (b : List Byte) : Option (List Byte) :=
  let st := field 1 1 b
  let owner := field 2 2 b
  let seedId := field 4 4 b
  let serial := field 16 8 b
  let k := (s.inst owner).kek
  if field 0 1 b != 1 || (st != 1 && st != 2) || field 8 8 b != octr ||
      gmac s.hdrKey (blobIv i octr) (b.take 24) 8 != slice 24 8 b then none
  else if k.seed.isEmpty || k.seedId != seedId || !(s.inst owner).holds i then
    let h := blobHeader st owner seedId nctr serial
    some (h ++ gmac s.hdrKey (blobIv i nctr) h 8 ++ slice 32 128 b)
  else
    (gcmOpen (s.blobKey owner k.seed) (blobIv i octr) (b.take 32) (slice 32 112 b) (slice 144 16 b)).map
      (wrapBlob s k.seed st owner seedId nctr serial i)

/-- A child node under a new counter; none when it fails its check under the old one. -/
def remacNode (s : State) (level n octr nctr : Nat) (b : List Byte) : Option (List Byte) :=
  let body := b.take 56
  if nodeMac s level n octr body == slice 56 8 b then some (body ++ nodeMac s level n nctr body) else none

/-- Authenticates child c again from its bytes; one that fails its check stays as it is and is counted, unless it has its new
counter already. -/
def reauthChild (level n : Nat) (old new : Ctrs) (c : Nat) (b : List Byte) (s : State) : State :=
  let octr := (old.at c).getD 0
  let nctr := (new.at c).getD 0
  let num := if level == 4 then c else n * 64 + c
  let redo := fun (o : Nat) => if level == 0 then rewrapBlob s num o nctr b else remacNode s (level - 1) num o nctr b
  match redo octr with
  | some b => writeReq (childPort level n c) (childAddr s level n c) b 0 .reauth s
  | none => if (redo nctr).isSome then s else countIntegrity (childIndex level n c) s

/-- The read of child c of a node is under way or has arrived. -/
def childComing (s : State) (level n c : Nat) : Bool :=
  (s.arrived? (.child level n c)).isSome || 0 < readsLeft s (childPort level n c) (fun w => w == .child level n c)

/-- Reads child c of a node: a blob or a node. -/
def askChild (level n c : Nat) (s : State) : State :=
  readReq (childPort level n c) (childAddr s level n c) (if level == 0 then 160 else 64) 0 (.child level n c) 0 s

/-- REAUTHENTICATION of the children of a node whose MINOR has overflowed (R348): each written child is read, and once all
have arrived they are authenticated again. It waits while a write of a child is under way, which gives the child its new
counter. DEDUCED: log entry 46. -/
def reauthenticate (level n : Nat) (s : State) : State :=
  match s.node? level n with
  | none => s
  | some x =>
    match x.old with
    | none => s
    | some old =>
      let due := childrenDue old
      let left := due.filter (fun c => !childComing s level n c)
      if x.rewrap || due.any (fun c => childOut s (childAddr s level n c)) then s
      else if !left.isEmpty then left.foldl (fun s c => askChild level n c s) s
      else if due.any (fun c => (s.arrived? (.child level n c)).isNone) then s
      else
        let new := if level == 4 then s.cel.treeRoot else x.c
        let s := due.foldl (fun s c =>
          reauthChild level n old new c ((s.arrived? (.child level n c)).getD []) (takeArrived (.child level n c) s)) s
        reauthDone (modNode level n (fun y => { y with rewrap := true }) s)

/-! ### The microsecond (R261, R547, R548) -/

/-- STA_TICK counts on; a tick that is held stands still until the upstream tick passes it (R547). -/
def Stair.count (t : Stair) : Stair :=
  if t.holdUntil == 0 then { t with tick := t.tick + 1 }
  else if t.holdUntil + 1 > t.tick then { t with tick := t.holdUntil + 1, holdUntil := 0 }
  else { t with holdUntil := t.holdUntil + 1 }

/-- The microsecond passes for the ticks and for the steps that a time bounds (Tables 18-3 and 18-5). -/
def microsecond (s : State) : State :=
  { s with
    cel := { s.cel with tick := (s.cel.tick + 1) % 2 ^ 64 }, stair := if s.stair.fromCellar then s.stair else s.stair.count,
    pwr := if s.pwr.softReset.isSome || s.pwr.entry.isSome then { s.pwr with softUs := s.pwr.softUs + 1 } else s.pwr,
    lar := { s.lar with tokens := max 1 s.sched.evictRate } }

/-- The Pantry door's part of a microsecond; in Doze its clock stands still (R625). -/
def doorTick (s : State) : State := if s.unitsRun then doorStep s else s

/-- A row of the Pantry door, which acts while its clock runs (R625). -/
def doorRow (f : State → State) (s : State) : Host.Outcome State Fault Refusal :=
  .next (if s.unitsRun then f s else s)

/-! ### Rows -/

/-- LARDER_FETCH_START (R259). -/
def execLarderFetchStart (index : Nat) (s : State) : Host.Outcome State Fault Refusal :=
  doorRow (fun s => finish (redispatch (startFetch index s))) s

/-- EVICTION_TOKEN_REFILL (R261): the microsecond in which the tokens are reset, and in which Landing and bring-up go on
(R618, R520); without MAIN it passes for the Cellar alone. DESIGN CHOICE: log entry 111. -/
def execEvictionTokenRefill (s : State) : Host.Outcome State Fault Refusal :=
  .next (if s.pins.mainUp then finish (redispatch (doorTick (bootTick (landingTick (cellarMicro (microsecond s))))))
    else cellarMicro s)

/-- NODE_READ_RETURN (R350). -/
def execNodeReadReturn (level : Nat) (node : Nat) (s : State) : Host.Outcome State Fault Refusal :=
  doorRow (fun s => finish (redispatch (nodeReturn level node s))) s

/-- BLOB_READ_RETURN (R355). -/
def execBlobReadReturn (index : Nat) (s : State) : Host.Outcome State Fault Refusal :=
  doorRow (fun s => finish (redispatch (blobReturn index s))) s

/-- VICTIM_WRITEBACK_ACK (R18). -/
def execVictimWritebackAck (index : Nat) (s : State) : Host.Outcome State Fault Refusal :=
  doorRow (fun s => finish (redispatch (victimAck index s))) s

/-- NODE_WRITEBACK (R349). -/
def execNodeWriteback (level : Nat) (node : Nat) (s : State) : Host.Outcome State Fault Refusal :=
  doorRow (fun s => finish (nodeOut level node s)) s

/-- REAUTHENTICATION (R348). -/
def execReauthentication (level : Nat) (node : Nat) (s : State) : Host.Outcome State Fault Refusal :=
  doorRow (fun s => finish (redispatch (reauthenticate level node s))) s

/-- RETIRE_REFS_ZERO (R360). -/
def execRetireRefsZero (index : Nat) (s : State) : Host.Outcome State Fault Refusal :=
  doorRow (fun s => match s.slotOf index with
    | some (_, x) => if retireDue s x then finish (redispatch (zeroiseRetired x s)) else s
    | none => s) s

/-- TOMBSTONE_WRITE_ACK (R360): the slot is free, and the retire completes. -/
def execTombstoneWriteAck (index : Nat) (s : State) : Host.Outcome State Fault Refusal :=
  doorRow (fun s => if (s.arrived? (.tomb index)).isNone then s
    else
      let s := takeArrived (.tomb index) s
      match s.slotOf index with
      | some (_, x) =>
        if x.state == .retiring && x.zeroed then finish (redispatch (wakeIndex index (endRetire x .ok (freeIndex index s))))
        else finish (redispatch (wakeIndex index s))
      | none => finish (redispatch (wakeIndex index s))) s

end Sys2Proof.Machine
end

