-- ==== Sys2Proof/Machine/Power.lean ====
section
/-!
DEFINITION. Resets and power states as commands (18_reset_power.md, 14_ports.md): GO, device soft resets and Study
restarts, the power targets, Idle, the reset pins and supplies, the exit from Retain, accesses while MAIN is away.
-/

namespace Sys2Proof.Machine

/-! ### GO (R524) -/

/-- A write to STU_BOOT_CTRL (Table 15-3). -/
def bootCtrlWrite (data : Word) (b : BringUp) (s : State) : State :=
  if !data.getLsbD 0 then s
  else if s.boot.step == 4 then bootFromHost b s
  else { s with boot := { s.boot with goIgnored := true } }

/-- GO (R524). -/
def execGo (strb : BitVec 8) (data : Word) (b : BringUp) (s : State) : Host.Outcome State Fault Refusal :=
  .next (unitWrite 0x10118 strb (bootCtrlWrite data b) s)

/-! ### STU_RESET_CTRL (Table 18-2, R618 to R621) -/

/-- A write to STU_RESET_CTRL that R619 does not ignore. -/
def resetTaken (data : Word) (s : State) : Bool :=
  bits data 31 16 == 0xA55A && !(data.getLsbD 0 && data.getLsbD 1) && s.pwr.softReset.isNone

/-- SOFT_RESET (R620): `b` is what the bring-up meets when KEEP_IMAGE is set. -/
def execSoftReset (strb : BitVec 8) (data : Word) (b : BringUp) (s : State) : Host.Outcome State Fault Refusal :=
  .next (unitWrite 0x10300 strb (fun s =>
    if resetTaken data s && data.getLsbD 1 then
      startSoftReset (data.getLsbD 2) false (if data.getLsbD 2 then some b else none) b.rom s
    else s) s)

/-- STUDY_RESTART (R618, R619): only while a Study image runs. -/
def execStudyRestart (strb : BitVec 8) (data : Word) (x : LandingRun) (s : State) :
    Host.Outcome State Fault Refusal :=
  .next (unitWrite 0x10300 strb (fun s =>
    if resetTaken data s && data.getLsbD 0 && s.fw.imageRuns then restartStudy x s else s) s)

/-- The Study restarts by itself; an interrupted device soft reset begins again at its step 1 (R619). -/
def studyFails (x : LandingRun) (s : State) : State :=
  if s.pwr.softReset.isSome then startSoftReset s.pwr.keepImage s.pwr.romAfter s.pwr.bring s.boot.rom s
  else restartStudy x s

/-- STUDY_WATCHDOG (R616, R619): it counts only while an image runs with cmd_rdy high. -/
def execStudyWatchdog (x : LandingRun) (s : State) : Host.Outcome State Fault Refusal :=
  .next (if s.pins.mainUp && s.fw.imageRuns && s.study.cmdRdy then finish (studyFails x s) else s)

/-- What has made the cores mismatch: an armed LOCKSTEP injection, or a word of Study SRAM that is lost (R642, Table
19-5), or neither. -/
def mismatchCause (s : State) : State :=
  if s.study.cmdRdy && s.injected 14 (fun _ => true) then fireAt 14 s
  else if s.ecc.upsets.any (fun u => u.mem == 6) ||
      (s.study.cmdRdy && s.injected 10 (fun a => bits a 3 0 == 6 && a.getLsbD 8)) then (eccRead 6 s).2
  else s

/-- LOCKSTEP_MISMATCH (R619): under Foundation ROM it stops bring-up, otherwise the Study restarts, or the restart or device soft
reset that runs begins again. -/
def execLockstepMismatch (x : LandingRun) (s : State) : Host.Outcome State Fault Refusal :=
  .next (
    if !s.pins.mainUp || s.boot.step == 0xFF then s
    else if s.fw.imageRuns || s.fw.landing.isSome || s.pwr.softReset.isSome then finish (studyFails x (mismatchCause s))
    else dropImages (bootStop 2 { s with fw := { s.fw with sram := [] } }))

/-! ### STU_PWR_CTRL (Table 18-6, R624 to R634) -/

/-- The refusal of a TARGET write, if any (R624). -/
def targetRefused (s : State) : Option Nat :=
  if s.txn.opened then some 1
  else if s.fw.state != .idle then some 2
  else if s.hwy.ports.any (·.halted) then some 3
  else if s.cel.locked && !s.cel.lockDone then some 4
  else none

/-- A write of TARGET = DOZE, RETAIN or OFF; grants stop at the next round boundary (R624, R625). While another entry
or a soft reset runs, and before a Study image serves the register, it has no effect. DEDUCED: log entry 55. -/
def enterPower (code : Nat) (t : PwrState) (s : State) : State :=
  if !s.fw.imageRuns || s.boot.run.isSome || s.pwr.entry.isSome || s.pwr.softReset.isSome || (t == .doze && s.pwr.state == .doze) then s
  else
    match targetRefused s with
    | some r => { s with pwr := { s.pwr with target := 0, refuse := r } }
    | none => { s with pwr := { s.pwr with target := code, entry := some t, step := 1, softUs := 0 } }

/-- A write of TARGET = ACTIVE ends Doze and its entry (R626). -/
def leaveDoze (s : State) : State := wake 1 s

/-- A write to STU_PWR_CTRL. -/
def pwrCtrlWrite (data : Word) (s : State) : State :=
  let s := { s with pwr := { s.pwr with idleDelay := bits data 31 16, wakeOnDb := data.getLsbD 8 } }
  let t := bits data 2 0
  if t == 0 then leaveDoze s
  else if t == 2 then enterPower 2 .doze s
  else if t == 3 then enterPower 3 .retain s
  else if t == 4 then enterPower 4 .off s
  else s

/-- The row of one TARGET. -/
def targetRow (t : Nat) (strb : BitVec 8) (data : Word) (s : State) : State :=
  unitWrite 0x10308 strb (fun s => if bits data 2 0 == t then pwrCtrlWrite data s else s) s

/-- DOZE (R625). -/
def execDoze (strb : BitVec 8) (data : Word) (s : State) : Host.Outcome State Fault Refusal :=
  .next (targetRow 2 strb data s)

/-- RETAIN (R627). -/
def execRetain (strb : BitVec 8) (data : Word) (s : State) : Host.Outcome State Fault Refusal :=
  .next (targetRow 3 strb data s)

/-- OFF (R634). -/
def execOff (strb : BitVec 8) (data : Word) (s : State) : Host.Outcome State Fault Refusal :=
  .next (targetRow 4 strb data s)

/-- ACTIVE (R626). -/
def execActive (strb : BitVec 8) (data : Word) (s : State) : Host.Outcome State Fault Refusal :=
  .next (targetRow 0 strb data s)

/-- POWER_REFUSE_TIMEOUT (R624): the table has not emptied within 10 ms of the write. -/
def execPowerRefuseTimeout (s : State) : Host.Outcome State Fault Refusal :=
  .next (if s.pwr.entry.isSome && s.pwr.step == 1 && !s.ops.isEmpty then finish (refusePower 5 s) else s)

/-- No packet waits to be read. -/
def noPacketWaits (s : State) : Bool :=
  s.insts.all (fun p => !p.2.cq.rdOut && !(p.2.served && p.2.cq.enable && !p.2.cq.fabErr && p.2.cq.tail != p.2.cq.head))

/-- The conditions of Idle (R623). -/
def idleDue (s : State) : Bool :=
  s.pins.mainUp && s.study.cmdRdy && s.pwr.idleDelay != 0 && s.pwr.state == .active && s.pwr.entry.isNone &&
  s.pwr.softReset.isNone && s.ops.isEmpty && s.hearth.queue.isEmpty && s.scu.partQ.isEmpty && s.lar.misses.isEmpty &&
  s.lar.fetches.isEmpty && s.lar.flush.isNone && quietStudy none s && noPacketWaits s

/-- IDLE (R623): IDLE_DELAY has passed with nothing to do. -/
def execIdle (s : State) : Host.Outcome State Fault Refusal :=
  .next (if idleDue s then { s with pwr := { s.pwr with state := .idle } } else s)

/-! ### Resets and supplies (R487, R491 to R493, R508, R616, R617) -/

/-- A free number of µs that the Cellar has counted while MAIN was away (R548). DESIGN CHOICE: log entry 49. -/
def cellarCounts (s : State) : State :=
  draw { s with cel := { s.cel with tick := s.cel.tick + Config.freeNat s.freeCtr } }

/-- MAIN goes into reset or loses power without an exact write of the tick: the Cellar adds 1,000 µs, after every block reset
(R548). DESIGN CHOICE: log entry 49. -/
def tickLost (s : State) : State :=
  if s.pins.mainUp then { s with cel := { s.cel with tick := s.cel.tick + 1000 } } else s

/-- A block reset: MAIN and the contents of MEM (R508, Table 18-7). -/
def mainReset (s : State) : State :=
  let s := clearMain false false (tickLost s)
  { s with
    porch := none,
    pins := { s.pins with blkRstN := false, mainUp := false, iso := true, mainReq := true, memRet := false } }

/-- BLOCK_RESET (R508): blk_rst_n falls. DESIGN CHOICE: log entry 67. -/
def execBlockReset (s : State) : Host.Outcome State Fault Refusal :=
  .next (if s.pins.porN && s.pins.blkRstN then mainReset s else s)

/-- PWR_MAIN_GOOD_FALL (R617): a block reset, but for the power states in which pwr_main_req has fallen. DESIGN
CHOICE: log entry 67. -/
def execPwrMainGoodFall (s : State) : Host.Outcome State Fault Refusal :=
  .next (
    let s := { s with pins := { s.pins with mainGood := false } }
    if s.pins.porN && s.pins.mainReq && s.pwr.state != .retain && s.pwr.state != .off then mainReset s else s)

/-- BLK_RST_N_RELEASE (R493, R523): MAIN leaves reset, and bring-up goes on at step 2. -/
def execBlkRstNRelease (r : RomTest) (s : State) : Host.Outcome State Fault Refusal :=
  .next (
    if s.pins.porN && !s.pins.blkRstN then
      romStarts (cellarCounts { s with
        boot := { s.boot with rom := r },
        pins := { s.pins with blkRstN := true, mainGood := true, mainUp := true, iso := false } })
    else s)

/-- POR_N_LOW (R491): the block is off (R622): AON, MAIN and MEM are in reset, and the Cellar runs on vbat (R484, log entry
38). -/
def execPorNLow (s : State) : Host.Outcome State Fault Refusal :=
  .next (
    let s := clearMain false true (tickLost s)
    { s with
      porch := none,
      pins := ⟨false, false, false, false, false, true, false⟩,
      pwr := { s.pwr with state := .off },
      cel := { s.cel with onVbat := true } })

/-- COLD_POWER_ON (R616): everything but the Cellar at its cold value, and bring-up from its start; the Roof's pattern generator
is reseeded from the entropy source (R553). DEDUCED: log entry 38. -/
def execColdPowerOn (r : RomTest) (s : State) : Host.Outcome State Fault Refusal :=
  .next (
    let s := cellarCounts (clearMain false true (tickLost s))
    romStarts (checkFaultRate (draw { s with
      porch := none,
      boot := { s.boot with rom := r },
      pins := ⟨true, true, true, true, false, false, true⟩,
      cel := { s.cel with onVbat := false, roofGen := Config.freeNat s.freeCtr, roofUs := 0 } })))

/-! ### The exit from Retain (R628 to R633) -/

/-- The exit from Retain begins (R628). -/
def retainEnds (s : State) : Bool :=
  s.pins.porN && s.pins.blkRstN && s.pwr.state == .retain && (!s.pins.mainGood || s.pwr.alarmWake)

/-- Step 1 of R629: MAIN leaves reset; LAST_WAKE. -/
def mainBack (s : State) : State :=
  { s with
    pins := { s.pins with mainGood := true, mainReq := true, memRet := false, iso := false, mainUp := true },
    pwr := { s.pwr with
      state := .active, entry := none, step := 0, target := 0, lastWake := if s.pwr.alarmWake then 4 else 5 } }

/-- What Table 18-7 returns to its cold value in a Retain cycle; the control state is kept (step 3 of R629). -/
def retainState (s : State) : State :=
  { s with
    insts := s.insts.map (fun p => (p.1, { p.2 with
      deficit := 0, hdeficit := 0, ringPtr := 0, run := 0, cycle := [], eq := { p.2.eq with due := false } })),
    sched := { s.sched with visit := none, last := 0, round := 0, snap := 0 },
    rings := s.rings.map (fun p => (p.1, { p.2 with harvOut := none, held := none })),
    specs := [], pan := { s.pan with slots := [] },
    keys := { s.keys with
      keyin := [], keyinOvf := false, keyinIgn := false, keyinBusy := false, identReady := false, idSel := 0 },
    hearth := { s.hearth with visit := 0, inVisit := false },
    scu := State.reset.scu,
    cel := { s.cel with step := .idle, lockDone := false } }

/-- An alarm that zeroised the root in Retain: the rest of R571 once the Study is back. -/
def retainZeroised (s : State) : State :=
  if s.pwr.alarmWake && s.cel.level ≥ 2 then makeStale (clearKeys s) else s

/-- The Stair after Retain: links train again, and the tick resumes with the time that the Cellar has counted (R629
step 6, R633). DESIGN CHOICE: log entry 49. -/
def retainStair (s : State) : State :=
  { s with stair := { s.stair with
      up := Link.train s.upEn, dn := Link.train s.dnEn, tick := s.cel.tick, holdUntil := 0, fromCellar := false,
      trained := true } }

/-- A step of the exit from Retain has failed, which ends as a device soft reset with KEEP_IMAGE from step 5 of Table 18-3, and
REFUSE 7 (R630); `rom`: the image itself has failed its check (R621). -/
def retainFails (rom : Bool) (b : BringUp) (s : State) : State :=
  softEnd { s with
    boot := { s.boot with rom := b.rom },
    pwr := { s.pwr with refuse := 7, keepImage := true, romAfter := rom, bring := some b } }

/-- The exit from Retain (R629, R630): the image is checked, the control state restored, the units tested, the keys derived. A
startup test that fails three times ends it with ERR RNG in the wait for GO, every MAIN item as after a device soft reset.
DESIGN CHOICE: log entry 56. -/
def leaveRetain (x : LandingRun) (b : BringUp) (s : State) : State :=
  let s := cellarCounts (mainBack s)
  if !x.sramOk then retainFails true b s
  else if !x.selfCheck then retainFails false b s
  else if 3 ≤ b.startupFails then
    bootFail 7 0 (let s := clearMain true false s; { s with keys := { s.keys with rngFail := true, rngOk := false } })
  else
    let s := startKeys b.startupFails (startUnits b (retainZeroised (retainState s)))
    raiseCmdRdy (retainStair { s with pwr := { s.pwr with alarmWake := false, grants := true } })

/-- RETAIN_EXIT (R629). -/
def execRetainExit (x : LandingRun) (b : BringUp) (s : State) : Host.Outcome State Fault Refusal :=
  .next (if retainEnds s then finish (leaveRetain x b s) else s)

/-! ### Accesses while MAIN is away, and the identity block (R501, R682) -/

/-- ABSENT (R501): the AON responder answers a request; with por_n low nothing does (R503). DESIGN CHOICE: log entry
71. -/
def execAbsent (_addr : Nat) (_write : Bool) (_data : Word) (s : State) : Host.Outcome State Fault Refusal :=
  .next (if s.pins.porN && !s.pins.mainUp then { s with porch := some (1, 0) } else s)

/-- ID_DATA_READ (R682, Table 10-4). -/
def execIdDataRead (s : State) : Host.Outcome State Fault Refusal :=
  .next (
    let s' := { s with porch := if s.pins.porN then some (readRegister 0x10040010 s) else s.porch }
    if s.pins.mainUp then
      { s' with keys := { s'.keys with idSel := if s.keys.idSel < 473 then s.keys.idSel + 1 else 0 } }
    else s')

end Sys2Proof.Machine
end

