-- ==== Sys2Proof/Machine/Scullery.lean ====
section
/-!
DEFINITION. The Scullery (12_scullery.md): DIGEST parts on its cores, and the register path.
-/

namespace Sys2Proof.Machine

/-! ### DIGEST parts (R438 to R442) -/

/-- Changes a register-path context. -/
def modScu (n : Nat) (f : ScuCtx → ScuCtx) (s : State) : State :=
  { s with scu := { s.scu with ctxs := modAt f n s.scu.ctxs } }

/-- A core cannot take a block: it is out of service (R531), or a ring part or a register-path block is on it. DESIGN CHOICE:
log entry 44. -/
def coreBusy (s : State) (core : Nat) : Bool :=
  !s.scu.cores.contains core || s.ops.any (fun o => o.head.d.opcode == 0x10 && o.unit == some core) || s.scu.ctxs.any (fun c => c.core == some core)

/-- The lowest free core of the 16 (R436). -/
def freeCore (s : State) : Option Nat := (List.range 16).find? (fun k => !coreBusy s k)

/-- A BUSY context takes a free core for its block, if there is one. -/
def giveCore (n : Nat) (s : State) : State :=
  match freeCore s with
  | some k => modScu n (fun c => { c with core := some k }) { s with scu := { s.scu with ctxQ := s.scu.ctxQ.filter (· != n) } }
  | none => s

/-- Register-path contexts that are BUSY and on no core, those that waited before first. DESIGN CHOICE: log entry 44.
-/
def coreWaits (s : State) : List Nat :=
  let l := (s.scu.ctxs.zipIdx.filter (fun p => p.1.state == .busy && p.1.core.isNone)).map (·.2)
  s.scu.ctxQ.filter l.contains ++ l.filter (fun n => !s.scu.ctxQ.contains n)

/-- Register-path blocks take the cores that are free, ahead of every ring part that waits (R450). DESIGN CHOICE: log
entry 44. -/
def settleCores (s : State) : State :=
  (coreWaits s).foldl (fun s n => giveCore n s) { s with scu := { s.scu with ctxQ := coreWaits s } }

/-- The ring part that is next: the one that became ready first, but a later part of an operation on a halted port waits for
the resume (R438, Table 13-4). -/
def nextDigest (s : State) : Option Nat :=
  s.scu.partQ.find? (fun i => match s.op? i with
    | some o => !o.betweenHeld s
    | none => true)

/-- DIGEST_PART_START: the part that became ready first takes a free core of the 16, when no register-path block waits
for one (R436, R438, R450). A parity error on the state saved by the parts before ends the operation with SCU_STATE_ERROR
(R443). DESIGN CHOICE: log entry 26. -/
def startDigest (id core : Nat) (parityOk : Bool) (s : State) : State :=
  match s.op? id with
  | none => s
  | some o =>
    if nextDigest s == some id && s.scu.ctxQ.isEmpty && core < 16 && !coreBusy s core && o.phase == .run then
      let s := { s with scu := { s.scu with partQ := s.scu.partQ.filter (fun q => q != id) } }
      if 0 < o.part && !parityOk then endOp id .scuStateError 0 s
      else modOp id (fun x => { x with unit := some core }) s
    else s

/-- DIGEST_PART_END: the state is saved, or the digest is written at the head's DST_ADDR and the operation ends
(R439, R440). -/
def endDigest (id : Nat) (s : State) : State :=
  match s.op? id with
  | none => s
  | some o =>
    if o.head.d.opcode != 0x10 || o.unit.isNone then s
    else if o.old then releaseOp id s
    else if o.phase != .run || o.partData.length != o.partLen || (o.lastPart && !o.listsDone) then s
    else
      let msg := o.acc ++ o.partData
      let s := modOp id (fun x => { x with acc := msg, unit := none }) s
      if o.lastPart then
        endOp id .ok (digestLen o.head.d.subop) (emitAt id o.head.d.dst (digestOf o.head.d.subop msg) s)
      else issueSrc id (modOp id (fun x => { x with part := x.part + 1, charged := false }) s)

/-! ### The register path (R444 to R452, Table 12-7) -/

/-- A listed algorithm code (Table 12-1). -/
def scuAlg (a : Nat) : Bool := [1, 2, 3, 0x11, 0x13].contains a

/-- An ignored write sets IGNORED. -/
def ScuCtx.ignore (c : ScuCtx) : ScuCtx := { c with ignored := true }

/-- START (Table 12-7, R451). -/
def ScuCtx.start (alg : Nat) (c : ScuCtx) : ScuCtx :=
  if !scuAlg alg || c.state == .busy then c.ignore
  else { ScuCtx.free with alg := alg, state := .opened, ignored := c.ignored, lost := c.lost }

/-- FINISH (Table 12-7, R448). -/
def ScuCtx.finish (drop : Nat) (c : ScuCtx) : ScuCtx :=
  if c.state == .opened then { c with msg := c.msg.take (c.msg.length - drop), state := .busy, fin := true }
  else c.ignore

/-- CLEAR (Table 12-7, R451). -/
def ScuCtx.clear (c : ScuCtx) : ScuCtx := { ScuCtx.free with ignored := c.ignored, lost := c.lost }

/-- A DATA word (Table 12-7, R447 to R449). -/
def ScuCtx.data (w : Word) (c : ScuCtx) : ScuCtx :=
  let b := leBytes 8 w.toNat
  match c.state with
  | .opened =>
    let m := c.msg ++ b
    { c with msg := m, state := if m.length % digestBlock c.alg == 0 then .busy else .opened }
  | .busy => { c with lost := true, lostNow := true }
  | .done => { c with msg := b, state := .opened, digest := [], fin := false, lostNow := false }
  | _ => c.ignore

/-- The core has absorbed the block of a BUSY context, and is free (Table 12-7). -/
def ScuCtx.absorbed (c : ScuCtx) : ScuCtx :=
  if c.state != .busy || c.core.isNone then c
  else
  let c := { c with core := none }
  if c.lostNow then { c with state := .failed, lostNow := false, fin := false }
  else if c.fin then { c with state := .done, fin := false, digest := digestOf c.alg c.msg }
  else { c with state := .opened }

/-- What a write of SCU_CTRL does (Table 12-3); CMD 0 does nothing. -/
def ScuCtx.ctrl (data : Word) (c : ScuCtx) : ScuCtx :=
  if bits data 1 0 == 1 then c.start (bits data 15 8)
  else if bits data 1 0 == 2 then c.finish (bits data 6 4)
  else if bits data 1 0 == 3 then c.clear else c

/-- A write of SCU_CTRL or SCU_DATA: it acts on the selected context; a narrow one, and one with SCU_SEL 48 to 63, set
IGNORED; a locked block ignores it and sets no flag (R445, R446, R452). -/
def scuWrite (off : Nat) (strb : BitVec 8) (f : ScuCtx → ScuCtx) (s : State) : State :=
  let ok := s.pins.mainUp && !s.cel.locked
  let s := answerWrite (0x10000000 + off) s
  if !ok then s
  else if strb != 0xFF || 48 ≤ s.scu.sel then modScu s.scu.sel ScuCtx.ignore (stir s)
  else settleCores (modScu s.scu.sel f (stir s))

/-! ### Rows -/

/-- DIGEST_PART_START (R439). DESIGN CHOICE: log entry 26. -/
def execDigestPartStart (op : Nat) (core : Nat) (parityOk : Bool) (s : State) : Host.Outcome State Fault Refusal :=
  .next (finish (startDigest op core parityOk (settleCores s)))

/-- DIGEST_PART_END (R439). -/
def execDigestPartEnd (op : Nat) (s : State) : Host.Outcome State Fault Refusal := .next (finish (settleCores (endDigest op s)))

/-- START (R447): a write of SCU_CTRL with CMD 1. -/
def execStart (strb : BitVec 8) (data : Word) (s : State) : Host.Outcome State Fault Refusal :=
  .next (scuWrite 0x60008 strb (fun c => if bits data 1 0 == 1 then c.ctrl data else c) s)

/-- FINISH (R448): a write of SCU_CTRL with CMD 2. -/
def execFinish (strb : BitVec 8) (data : Word) (s : State) : Host.Outcome State Fault Refusal :=
  .next (scuWrite 0x60008 strb (fun c => if bits data 1 0 == 2 then c.ctrl data else c) s)

/-- CLEAR (R451): a write of SCU_CTRL with CMD 3. -/
def execClear (strb : BitVec 8) (data : Word) (s : State) : Host.Outcome State Fault Refusal :=
  .next (scuWrite 0x60008 strb (fun c => if bits data 1 0 == 3 then c.ctrl data else c) s)

/-- SCU_DATA_WRITE (R447). -/
def execScuDataWrite (strb : BitVec 8) (data : Word) (s : State) : Host.Outcome State Fault Refusal :=
  .next (scuWrite 0x60010 strb (ScuCtx.data data) s)

/-- SCU_BLOCK_ABSORBED (R450); in Doze the cores stand still (R625). DESIGN CHOICE: log entry 44. -/
def execScuBlockAbsorbed (ctx : Nat) (s : State) : Host.Outcome State Fault Refusal :=
  .next (if s.unitsRun then settleCores (modScu ctx ScuCtx.absorbed (settleCores s)) else s)

end Sys2Proof.Machine
end

