-- ==== Sys2Proof/Machine/Sampling.lean ====
section
/-!
DEFINITION. Sampling buffers (20_counters.md, "Descriptor sampling") and the wrap of a counter.
-/

namespace Sys2Proof.Machine

/-- TH_SAMP_BASE (Table 20-9, R667, R668): BASE is ignored while ENABLE is 1; a disable discards the records that
wait; an enable clears the indices. -/
def sampBaseWrite (i : Nat) (data : Word) (s : State) : State :=
  let x := (s.inst i).samp
  let on := data.getLsbD 0
  let set := fun (y : Samp) (s : State) => modInst i (fun z => { z with samp := y }) s
  if x.enable then
    if on then s
    else
      let n := (s.sampQ.filter (fun q => q.buf == i)).length
      set { x with enable := false, skipped := min 0xFFFFFFFF (x.skipped + n) }
        { s with sampQ := s.sampQ.filter (fun q => q.buf != i) }
  else
    let base := bits data 51 12 * 4096
    if on then set { x with base := base, enable := true, tail := 0, head := 0, skipped := 0, fabErr := false, dispatches := 0 } s
    else set { x with base := base } s

/-- TH_SAMP_CFG (Table 20-9, R669). -/
def sampCfgWrite (i : Nat) (data : Word) (s : State) : State :=
  let x := (s.inst i).samp
  if x.enable then s
  else modInst i (fun z => { z with samp := { x with
    k := min 20 (bits data 20 16), log2 := max 6 (min 20 (bits data 12 8)), scope := i == 0 && data.getLsbD 0 } }) s

/-- TH_SAMP_HEAD (R668): forward by at most the size, and not beyond TAIL. -/
def sampHeadWrite (i : Nat) (v : Idx) (s : State) : State :=
  let x := (s.inst i).samp
  if (v - x.head).toNat ≤ 2 ^ x.log2 && (v - x.head).toNat ≤ (x.tail - x.head).toNat then
    modInst i (fun z => { z with samp := { x with head := v } }) s
  else s

/-- TH_SAMP_STATUS: a write of 1 clears FABRIC_ERR. -/
def sampStatusWrite (i : Nat) (data : Word) (s : State) : State :=
  if data.getLsbD 2 then modInst i (fun z => { z with samp := { z.samp with fabErr := false } }) s else s

/-- SAMPLING_ENABLE (R668): a write of TH_SAMP_BASE with ENABLE 1. -/
def execSamplingEnable (page : Nat) (strb : BitVec 8) (data : Word) (s : State) : Host.Outcome State Fault Refusal :=
  .next (pageWrite page 0x1400 strb (fun s => if data.getLsbD 0 then sampBaseWrite page data s else s) s)

/-- SAMPLING_DISABLE (R667): a write of TH_SAMP_BASE with ENABLE 0. -/
def execSamplingDisable (page : Nat) (strb : BitVec 8) (data : Word) (s : State) : Host.Outcome State Fault Refusal :=
  .next (pageWrite page 0x1400 strb (fun s => if data.getLsbD 0 then s else sampBaseWrite page data s) s)

/-- SAMPLING_HEAD_WRITE (R668). -/
def execSamplingHeadWrite (page : Nat) (strb : BitVec 8) (data : Word) (s : State) :
    Host.Outcome State Fault Refusal :=
  .next (pageWrite page 0x1418 strb (sampHeadWrite page (BitVec.ofNat 32 (bits data 31 0))) s)

/-- COUNTER_WRAP (R659). -/
def execCounterWrap (inst : Nat) (counter : Nat) (s : State) : Host.Outcome State Fault Refusal :=
  .next (if s.pins.mainUp then finish (takeWrap inst counter s) else s)

end Sys2Proof.Machine
end

