-- ==== Sys2Proof/Machine/Porch.lean ====
section
/-!
DEFINITION. Writes to the registers of the Porch (21_registers.md): each follows the access codes of its field map.
A write to a register whose write is a row of its own does what that row does; the rows that carry operands (GO,
STUDY_RESTART, SOFT_RESET with KEEP_IMAGE) stay with their rows (log entry 35).
-/

namespace Sys2Proof.Machine

/-! ### Instance pages (Table 21-1) -/

/-- PCH_DB_STATUS (Table 4-5): W1C bits 4 to 0. -/
def dbStatusWrite (i : Nat) (data : Word) : State → State :=
  modInst i (fun x => { x with db := { x.db with
    partialW := x.db.partialW && !data.getLsbD 4, refused := x.db.refused && !data.getLsbD 3,
    behind := x.db.behind && !data.getLsbD 2, stale := x.db.stale && !data.getLsbD 1,
    foreign := x.db.foreign && !data.getLsbD 0 } })

/-- STU_MCQ_STATUS and STU_GCQ_STATUS (Table 2-3): W1C OVERRUN. -/
def cqStatusWrite (i : Nat) (data : Word) : State → State :=
  modCq i (fun c => { c with overrun := c.overrun && !data.getLsbD 2 })

/-- TH_EQ_STATUS (Table 4-9): W1C bits 37 to 32, HEAD_BAD and OVERFLOW. With no flag left set, none has just been set
(R156). -/
def eqStatusWrite (i : Nat) (data : Word) : State → State :=
  modEq i (fun e => { e with
    pend := e.pend &&& ~~~ (BitVec.ofNat 6 (bits data 37 32)),
    headBad := e.headBad && !data.getLsbD 4, overflow := e.overflow && !data.getLsbD 2,
    flagSet := e.flagSet && (e.fabErr || (e.overflow && !data.getLsbD 2)) })

/-- TH_CNTn (Table 20-5): W1C OVF. -/
def counterWrite (i n : Nat) (data : Word) : State → State :=
  modInst i (fun x => { x with
    counters := modAt (fun c => { c with ovf := c.ovf && !data.getLsbD 63 }) n x.counters })

/-- TH_EQ_PENDw: W1C for the rings that the page's instance owns (R159, R677). -/
def pendWrite (i w : Nat) (data : Word) (s : State) : State :=
  { s with rings := s.rings.map (fun p =>
      if p.1 / 64 == w && p.2.owner == i && data.getLsbD (p.1 % 64) then (p.1, { p.2 with pend := false }) else p) }

/-- A full write to a register of a page that software may write; the read-only ones ignore it. -/
def pageAction (i off : Nat) (data : Word) (s : State) : State :=
  if off == 0x1000 then dbStatusWrite i data s
  else if off == 0x1100 then cqBaseWrite i data s
  else if off == 0x1108 then cqTailWrite i (BitVec.ofNat 32 (bits data 31 0)) s
  else if off == 0x1118 then cqStatusWrite i data s
  else if off == 0x1200 then eqBaseWrite i data s
  else if off == 0x1210 then eqHeadWrite i (BitVec.ofNat 32 (bits data 31 0)) s
  else if off == 0x1218 then eqIrqWrite i data s
  else if off == 0x1220 then modEq i (fun e => { e with msgAddr := bits data 51 2 * 4 }) s
  else if off == 0x1228 then modEq i (fun e => { e with msgData := bits data 31 0 }) s
  else if off == 0x1230 then eqStatusWrite i data s
  else if off == 0x1300 then modInst i (fun x => { x with ringSel := bits data 15 0 }) s
  else if off == 0x1400 then sampBaseWrite i data s
  else if off == 0x1408 then sampCfgWrite i data s
  else if off == 0x1418 then sampHeadWrite i (BitVec.ofNat 32 (bits data 31 0)) s
  else if off == 0x1420 then sampStatusWrite i data s
  else if 0x1800 ≤ off && off < 0x1A40 then counterWrite i ((off - 0x1800) / 8) data s
  else if 0x4000 ≤ off && off < 0x6000 then pendWrite i ((off - 0x4000) / 8) data s
  else s

/-! ### Unit blocks (Table 21-3) -/

/-- A value of which 0 is taken as 1. -/
def atLeast1 (n : Nat) : Nat := max 1 n

/-- STU_BOOT_ADDR, STU_BOOT_LEN and STU_BOOT_SCRATCH (Table 15-2), and GO_IGNORED (Table 15-4). -/
def bootAction (off : Nat) (data : Word) (s : State) : State :=
  { s with boot :=
      if off == 0x10100 then { s.boot with addr := bits data 51 12 * 4096 }
      else if off == 0x10108 then { s.boot with len := bits data 31 0 }
      else if off == 0x10110 then { s.boot with scratch := bits data 51 7 * 128 }
      else if off == 0x10118 then
        { s.boot with goIgnored := s.boot.goIgnored || (data.getLsbD 0 && s.boot.step != 4) }
      else if off == 0x10120 then { s.boot with goIgnored := s.boot.goIgnored && !data.getLsbD 16 }
      else s.boot }

/-- STU_RESET_CTRL without operands: a device soft reset that waits for GO (R620). -/
def resetCtrlWrite (data : Word) (s : State) : State :=
  if resetTaken data s && data.getLsbD 1 && !data.getLsbD 2 then startSoftReset false false none ⟨true, true⟩ s else s

/-- Threshold and Room registers: TH_INST_SEL, TH_PREFETCH_CFG, TH_MISS_CFG, TH_ROOM_CFG. -/
def thresholdAction (off : Nat) (data : Word) (s : State) : State :=
  if off == 0x20000 then { s with instSel := bits data 12 0 }
  else if off == 0x20100 then prefetchCfg data s
  else if off == 0x20108 then
    { s with sched := { s.sched with evictRate := atLeast1 (bits data 31 16), missMax := atLeast1 (bits data 9 0) } }
  else if off == 0x20200 then { s with rooms := { s.rooms with ratio := data.getLsbD 0 } }
  else s

/-- PAN_PIN_CFG (Table 9-16) and PIN_DROPPED of PAN_STATUS (Table 9-17). -/
def pantryAction (off : Nat) (data : Word) (s : State) : State :=
  if off == 0x30000 then
    let m := min (bits data 17 0) (s.build.slots / 4)
    { s with pan := { s.pan with pinMax := m, instPinMax := min (bits data 47 32) m } }
  else if off == 0x30008 then { s with pan := { s.pan with pinDropped := s.pan.pinDropped && !data.getLsbD 63 } }
  else s

/-- A response of CEL_ALARM_CFG for the two Roof sources: 0 is taken as 1 (Table 16-6). -/
def roofResponses (c : BitVec 16) : BitVec 16 :=
  let c := if c &&& 0x000C == 0 then c ||| 0x0004 else c
  if c &&& 0x0003 == 0 then c ||| 0x0001 else c

/-- CEL_ALARM_CFG, CEL_FAULT_CFG and CEL_TAMPER_FLAGS (Tables 16-6 to 16-8), ignored while the block is locked (R578).
DESIGN CHOICE: log entry 68. -/
def tamperAction (off : Nat) (data : Word) (s : State) : State :=
  if s.cel.locked then s
  else if off == 0x40200 then
    { s with cel := { s.cel with alarmCfg := roofResponses (BitVec.ofNat 16 (bits data 15 0)) } }
  else if off == 0x40208 then
    checkFaultRate { s with cel := { s.cel with
      faultWindow := atLeast1 (bits data 31 16), faultLimit := atLeast1 (bits data 15 0),
      faultLog := s.cel.faultLog.take (atLeast1 (bits data 31 16)) } }
  else if off == 0x40210 then
    { s with cel := { s.cel with flags := s.cel.flags &&& ~~~ (BitVec.ofNat 9 (bits data 8 0)) } }
  else s

/-- RNG_FAIL (Table 10-15), CEL_ID_SEL (Table 10-4) and IGNORED of CEL_KEYIN_STATUS (Table 10-9). -/
def keysAction (off : Nat) (data : Word) (s : State) : State :=
  { s with keys :=
      if off == 0x40000 then { s.keys with rngFail := s.keys.rngFail && !data.getLsbD 9 }
      else if off == 0x40008 then { s.keys with idSel := bits data 8 0 }
      else if off == 0x40110 then { s.keys with keyinIgn := s.keys.keyinIgn && !data.getLsbD 18 }
      else s.keys }

/-- SCU_STATUS (Table 12-5): W1C IGNORED and LOST of the selected context; with SCU_SEL 48 to 63 it sets IGNORED (Table
12-2). -/
def scuStatusWrite (data : Word) (s : State) : State :=
  if s.scu.sel ≥ 48 then modScu s.scu.sel ScuCtx.ignore s
  else modScu s.scu.sel (fun c => { c with ignored := c.ignored && !data.getLsbD 2, lost := c.lost && !data.getLsbD 1 }) s

/-- HWY_CFG (Table 13-2). -/
def hwyCfgWrite (data : Word) (s : State) : State :=
  { s with hwy := { s.hwy with
      writeTimeout := atLeast1 (bits data 47 32), readTimeout := atLeast1 (bits data 15 0) } }

/-- STA_LANE_CFG (Table 15-6). -/
def laneCfgWrite (data : Word) (s : State) : State :=
  { s with stair := { s.stair with fomMin := bits data 15 8, presetFirst := bits data 2 0 } }

/-- A full write to a register of a unit block, but for the KEYIN and Scullery ports; the read-only ones ignore it.
DESIGN CHOICE: log entry 35. -/
def unitAction (off : Nat) (data : Word) (s : State) : State :=
  if 0x10100 ≤ off && off < 0x10200 then bootAction off data s
  else if off == 0x10200 then atticWrite data s
  else if off == 0x10208 then fwCfgWrite data s
  else if off == 0x10300 then resetCtrlWrite data s
  else if off == 0x10308 then pwrCtrlWrite data s
  else if off / 0x10000 == 2 then thresholdAction off data s
  else if off / 0x10000 == 3 then pantryAction off data s
  else if 0x40200 ≤ off && off < 0x40220 then tamperAction off data s
  else if off / 0x10000 == 4 then keysAction off data s
  else if off == 0x50008 then { s with hearth := { s.hearth with engSel := bits data 2 0 } }
  else if off == 0x60000 then { s with scu := { s.scu with sel := bits data 5 0 } }
  else if off == 0x60018 then scuStatusWrite data s
  else if off == 0x70000 then hwyCfgWrite data s
  else if off == 0x70008 then bwCfgWrite data s
  else if 0x70100 ≤ off && off < 0x70140 then portCtrlWrite ((off - 0x70100) / 8) data s
  else if off == 0x80000 then laneCfgWrite data s
  else s

/-! ### The row -/

/-- A write to a Porch address (R7, R495, R498). -/
def registerWrite (addr : Nat) (strb : BitVec 8) (data : Word) (s : State) : State :=
  match porchTarget addr s with
  | .nothing => answerWrite addr s
  | .page i off =>
    if off == 0 then doorbellWrite i strb data s else pageWrite i off strb (pageAction i off data) s
  | .unit off =>
    if off == 0x40100 then keyinWrite off strb (keyinAppend data) s
    else if off == 0x40108 then keyinWrite off strb (fun k => if data.getLsbD 0 then keyinEmpty k else k) s
    else if off == 0x60008 then scuWrite off strb (ScuCtx.ctrl data) s
    else if off == 0x60010 then scuWrite off strb (ScuCtx.data data) s
    else unitWrite off strb (unitAction off data) s

/-- REGISTER_WRITE (R7). DESIGN CHOICE: log entry 35. -/
def execRegisterWrite (addr : Nat) (strb : BitVec 8) (data : Word) (s : State) : Host.Outcome State Fault Refusal :=
  .next (registerWrite addr strb data s)

end Sys2Proof.Machine
end

