-- ==== Sys2Proof/Machine/StairLinks.lean ====
section
/-!
DEFINITION. Stair links: lane training, links that come up and go down, HELLO, positions and the tick that comes from
upstream (R538 to R547, R512).
-/

namespace Sys2Proof.Machine

/-! ### Links and lanes -/

/-- The link is tied on. -/
def linkEnabled (down : Bool) (s : State) : Bool := if down then s.dnEn else s.upEn

/-- The link is a long one (R510). -/
def linkLong (down : Bool) (s : State) : Bool := if down then s.dnLong else s.upLong

/-- A lane of a link. -/
def Link.lane (n : Nat) (l : Link) : Lane := if n == 0 then l.lane0 else l.lane1

/-- Changes a lane of a link. -/
def Link.modLane (n : Nat) (f : Lane → Lane) (l : Link) : Link :=
  if n == 0 then { l with lane0 := f l.lane0 } else { l with lane1 := f l.lane1 }

/-- The lane is used: lane 1 of a long link stays idle (R510). -/
def laneUsed (long : Bool) (n : Nat) : Bool := n == 0 || (n == 1 && !long)

/-- A lane of the link is accepted: on one lane a normal link is DEGRADED (R542). -/
def Link.ready (long : Bool) (l : Link) : Bool := l.lane0.inService || (!long && l.lane1.inService)

/-- The state of a link whose HELLO exchange is done: UP, or DEGRADED on one lane (R542). -/
def Link.upState (long : Bool) (l : Link) : LinkState :=
  if long || (l.lane0.inService && l.lane1.inService) then .up else .degraded

/-- No lane that the link uses is left to train: it has FAILED (R541). -/
def Link.lost (long : Bool) (l : Link) : Bool := l.lane0.failed && (long || l.lane1.failed)

/-- A link whose lanes are accepted negotiates and sends its HELLO; one that is served already follows its lanes. -/
def Link.settle (long : Bool) (l : Link) : Link :=
  match l.state with
  | .up => { l with state := l.upState long }
  | .degraded => { l with state := l.upState long }
  | .negotiating => l
  | .refused => l
  | .disabled => l
  | _ =>
    if l.ready long then { l with state := .negotiating, out := [], helloDue := true }
    else if l.lost long then { l with state := .failed }
    else l

/-- A change of a link that may change the position, which a new HELLO tells the downstream block (R545); HELLOs that are
due go out. -/
def stairChange (f : State → State) (s : State) : State :=
  let s' := f s
  sendHellos (if s'.position == s.position && s'.longHops == s.longHops then s' else modLink true Link.helloAgain s')

/-- A row of one lane: MAIN is up, training has started, the link is tied on and uses the lane, and `when` holds. -/
def laneRow (down : Bool) (n : Nat) (when' : Link → Lane → Bool) (f : Link → Link) (s : State) : State :=
  let l := s.link down
  if s.pins.mainUp && s.stair.trained && linkEnabled down s && laneUsed (linkLong down s) n && when' l (l.lane n) then
    finish (stairChange (modLink down f) s)
  else s

/-! ### The lanes' outputs (Table 14-13, R510, R513, R516) -/

/-- MAIN runs behind open clamps, and the link is tied on. -/
def laneLive (down : Bool) (s : State) : Bool := s.pins.mainUp && !s.pins.iso && linkEnabled down s

/-- tx_eidle of a lane: 1 while it is clamped, not used, or not trained yet (R510, R513, R539). -/
def State.txEidle (down : Bool) (n : Nat) (s : State) : Bool :=
  !(laneLive down s && laneUsed (linkLong down s) n && ((s.link down).lane n).sends)

/-- mode of a lane: 1 (PAM4) on lane 0 of a long link, otherwise 0 (NRZ) (R510, R539). -/
def State.laneMode (down : Bool) (n : Nat) (s : State) : Bool := n == 0 && linkLong down s

/-- adapt_req of a lane: 1 from the start of an attempt to its end (R513, R539). DESIGN CHOICE: log entry 113. -/
def State.adaptReq (down : Bool) (n : Nat) (s : State) : Bool :=
  laneLive down s && laneUsed (linkLong down s) n && ((s.link down).lane n).trying

/-- preset of a lane (Table 14-13). -/
def State.lanePreset (down : Bool) (n : Nat) (s : State) : Nat := ((s.link down).lane n).preset

/-! ### Attempts (R539 to R541) -/

/-- The attempt starts: the transmitter sends, and adapt_req rises with the preset: PRESET_FIRST in the first of a series, the
next one in a later (R539, R541). -/
def Lane.start (first fomMin : Nat) (a : Lane) : Lane :=
  { a with sends := true, trying := true, adapted := false, attempts := a.attempts + 1, fomMin := fomMin,
           preset := if a.attempts == 0 then first else (a.preset + 1) % 8 }

/-- A link that trains: it is TRAINING when nothing of it is in service. -/
def Link.training (l : Link) : Link :=
  { l with
    attempts := max l.lane0.attempts l.lane1.attempts,
    state := if l.state == .down || l.state == .failed then .training else l.state }

/-- LANE_ATTEMPT_START (R539). -/
def execLaneAttemptStart (down : Bool) (lane : Nat) (s : State) : Host.Outcome State Fault Refusal :=
  .next (laneRow down lane (fun _ a => !a.inService && !a.trying && !a.failed && a.attempts < 5)
    (fun l => (l.modLane lane (Lane.start s.stair.presetFirst s.stair.fomMin)).training) s)

/-- ADAPT_DONE (R540). -/
def execAdaptDone (down : Bool) (lane : Nat) (s : State) : Host.Outcome State Fault Refusal :=
  .next (laneRow down lane (fun _ a => a.trying)
    (fun l => l.modLane lane (fun a => { a with adapted := true })) s)

/-- LANE_ACCEPT (R540): a link that was REFUSED is tried again (R543). -/
def execLaneAccept (down : Bool) (lane : Nat) (fom : BitVec 8) (s : State) : Host.Outcome State Fault Refusal :=
  .next (laneRow down lane (fun _ a => a.trying && fom.toNat ≥ a.fomMin)
    (fun l =>
      let l := l.modLane lane (fun a => { a with inService := true, trying := false, failed := false, fom := fom })
      (if l.state == .refused then { l with state := .training } else l).settle (linkLong down s)) s)

/-- LANE_ATTEMPT_FAIL (R540, R541): after five attempts the lane has FAILED. -/
def execLaneAttemptFail (down : Bool) (lane : Nat) (fom : BitVec 8) (s : State) :
    Host.Outcome State Fault Refusal :=
  .next (laneRow down lane (fun _ a => a.trying)
    (fun l => (l.modLane lane (fun a =>
      { a with trying := false, adapted := false, fom := fom, failed := a.attempts ≥ 5 })).settle (linkLong down s)) s)

/-- LANE_RETRY_SERIES (R541). -/
def execLaneRetrySeries (down : Bool) (lane : Nat) (s : State) : Host.Outcome State Fault Refusal :=
  .next (laneRow down lane (fun _ a => a.failed)
    (fun l => { l.modLane lane (fun a => { a with failed := false, attempts := 0 }) with
      state := if l.state == .failed then .training else l.state }) s)

/-- A link that goes DOWN loses its lanes and trains again (R542, R544). -/
def Link.drop (l : Link) : Link :=
  { l with
    state := .down, out := [], line := [], scr0 := 0, scr1 := 0, helloDue := false,
    lane0 := { l.lane0 with inService := false, attempts := 0 },
    lane1 := { l.lane1 with inService := false, attempts := 0 } }

/-- A lane of a link leaves service: a normal link goes on with its other lane, any other goes DOWN (R542). -/
def Link.loseLane (long : Bool) (n : Nat) (l : Link) : Link :=
  let l := l.modLane n (fun a => { a with inService := false, attempts := 0 })
  if !long && (l.lane (1 - n)).inService then
    { l with state := if l.state == .up then .degraded else l.state }
  else l.drop

/-- LANE_OUT_OF_SERVICE (R512, R542). -/
def execLaneOutOfService (down : Bool) (lane : Nat) (s : State) : Host.Outcome State Fault Refusal :=
  .next (laneRow down lane (fun _ a => a.inService) (Link.loseLane (linkLong down s) lane) s)

/-! ### HELLO (R543 to R547) -/

/-- The highest Stair version within both ranges: the sender's, and the one of the running image (R543, Table 15-7). -/
def stairVersion (m : HelloMsg) (f : Fw) : Option (BitVec 16) :=
  let v := min m.verMax.toNat f.stairMax
  if max m.verMin.toNat f.stairMin ≤ v then some (BitVec.ofNat 16 v) else none

/-- The REASON for which a HELLO refuses a link, lowest first (R543). -/
def helloRefused (down : Bool) (m : HelloMsg) (s : State) : Option Nat :=
  let pos := if down then s.position + 1 else m.pos + 1
  let hops := if down then s.longHops + b2n s.dnLong else m.longHops + b2n s.upLong
  if (stairVersion m s.fw).isNone then some 1
  else if pos > 7 then some 2
  else if hops > 2 then some 3
  else if !m.sigOk then some 4
  else none

/-- The upstream tick is taken; a tick that lies below the own one is waited for (R547). -/
def Stair.adopt (t : Nat) (x : Stair) : Stair :=
  if t ≥ x.tick then { x with tick := t, holdUntil := 0 } else { x with holdUntil := max 1 t }

/-- The negotiation of a link ends with a HELLO. -/
def takeHello (down : Bool) (m : HelloMsg) (s : State) : State :=
  match helloRefused down m s with
  | some r => modLink down (fun l => { l with state := .refused, reason := r, ver := 0, out := [], helloDue := false }) s
  | none =>
    let s := modLink down (fun l => { l with
      state := l.upState (linkLong down s), reason := 0, ver := (stairVersion m s.fw).getD 0, nbrId := m.deviceId,
      nbrPos := m.pos, nbrLong := m.longHops }) s
    if down then s else { s with stair := s.stair.adopt (m.tick + m.roundTrip / 2) }

/-- HELLO (R543): while the link negotiates, and again on a link that is served. -/
def execHello (down : Bool) (m : HelloMsg) (s : State) : Host.Outcome State Fault Refusal :=
  .next (
    if s.pins.mainUp && ((s.link down).state == .negotiating || (s.link down).carries) then
      finish (stairChange (takeHello down m) (stir s))
    else s)

/-- HELLO_TIMEOUT (R544). -/
def execHelloTimeout (down : Bool) (s : State) : Host.Outcome State Fault Refusal :=
  .next (
    if s.pins.mainUp && (s.link down).state == .negotiating then finish (stairChange (modLink down Link.drop) s) else s)

end Sys2Proof.Machine
end

