-- ==== Sys2Proof/Machine/Watch.lean ====
section
/-!
DEFINITION. What the Cellar watches by itself: alarm sources, neighbours' alarms, the fault window, clean Roof passes, the
tick it keeps, its own power-on, and the expiry of injections (16_tamper.md, R548, R649).
-/

namespace Sys2Proof.Machine

/-- A source that its detector asserts: FAULT_RATE follows a count and NEIGHBOUR a message (R557, R559). -/
def detected (src : Nat) : Bool := src ≤ 8 && src != 6 && src != 7

/-- A detector sees its condition. While an injection holds the source it only goes on asserting (R552, R645). -/
def sourceOn (src : Nat) (s : State) : State :=
  if !detected src || !watched src s then s
  else
    assertSource src { s with diag := { s.diag with asserted := s.diag.asserted.filter (fun p => p.1 != src) } }

/-- ALARM_SOURCE_ASSERT (R552). -/
def execAlarmSourceAssert (source : Nat) (s : State) : Host.Outcome State Fault Refusal :=
  .next (finish (sourceOn source s))

/-- Neither copy of a detector still sees its condition (R551); an injection keeps asserting for its 1 ms. -/
def sourceOff (src : Nat) (s : State) : State :=
  if detected src && !s.diag.holds src then quietSource src s else s

/-- ALARM_SOURCE_QUIET (R551). -/
def execAlarmSourceQuiet (source : Nat) (s : State) : Host.Outcome State Fault Refusal := .next (sourceOff source s)

/-- The window of the fault rate moves on by a millisecond (R557). -/
def slideWindow (s : State) : State :=
  { s with cel := { s.cel with faultLog := (0 :: s.cel.faultLog).take s.cel.faultWindow } }

/-- A link that negotiates sends its HELLO again each millisecond (15_bringup.md, HELLO). -/
def Link.helloTick (l : Link) : Link := if l.state == .negotiating then { l with helloDue := true } else l

/-- A millisecond of the units of MAIN: HELLOs of links that negotiate, and an envelope that waits for an engine (R390). -/
def mainTick (s : State) : State :=
  if s.pins.mainUp then envTick (sendHellos (modLink true Link.helloTick (modLink false Link.helloTick s))) else s

/-- Words of MAIN's memories go bad. A correctable one of the Study SRAM, from which the image runs, is met at once; the others
wait for their next read (R641, R642). DESIGN CHOICE: log entry 25. -/
def strike (upsets : List Upset) (s : State) : State :=
  if !s.pins.mainUp then s
  else
    upsets.foldl (fun s u =>
      if u.mem == 6 && !u.uncorr then eccCorr s else { s with ecc := { s.ecc with upsets := s.ecc.upsets ++ [u] } }) s

/-- FAULT_WINDOW_STEP (R557): a millisecond passes for the fault window, for a lock sequence that zero-fills and for
what waits in milliseconds. DESIGN CHOICE: log entry 68. DESIGN CHOICE: log entry 47. -/
def execFaultWindowStep (upsets : List Upset) (s : State) : Host.Outcome State Fault Refusal :=
  .next (finish (mainTick (wipesEnd (checkFaultRate (slideWindow (strike upsets s))))))

/-- An ALARM message: it goes on unchanged on the other link, and raises a NEIGHBOUR alarm (R559, R552). DEDUCED: log entry
48. -/
def neighbourAlarm (down : Bool) (pos : Nat) (zer : Bool) (s : State) : State :=
  if !s.pins.mainUp || !(s.link down).carries then s
  else
    let s := modLink (!down) (Link.send 0x0100 (.alarm pos zer)) (stir s)
    let s' := { s with cel := { s.cel with quietUs := s.cel.quietUs.set 7 0 } }
    if 1000 ≤ s.cel.quietFor 7 && !s.cel.asserting.getLsbD 7 then raiseAlarm 7 s' else s'

/-- NEIGHBOUR_ALARM (R559). -/
def execNeighbourAlarm (down : Bool) (pos : Nat) (zeroise : Bool) (s : State) : Host.Outcome State Fault Refusal :=
  .next (finish (neighbourAlarm down pos zeroise s))

/-- µs that a pass of a Roof detector takes: on main power, and on vbat (Tables 16-3 and 16-5). -/
def roofPassUs (impedance vbat : Bool) : Nat :=
  if impedance then (if vbat then 1000000 else 100) else (if vbat then 8000 else 2)

/-- ROOF_CLEAN_PASS (R574): a pass over all 128 nets ends clean. It counts when it began after the last alarm. -/
def execRoofCleanPass (impedance : Bool) (s : State) : Host.Outcome State Fault Refusal :=
  .next (
    if s.cel.alarmUs < roofPassUs impedance s.cel.onVbat then s
    else
      { s with cel :=
        if impedance then { s.cel with passImpedance := s.cel.passImpedance || !s.cel.asserting.getLsbD 1 }
        else { s.cel with passPattern := s.cel.passPattern || !s.cel.asserting.getLsbD 0 } })

/-- TICK_CELLAR_WRITE (R548). -/
def execTickCellarWrite (s : State) : Host.Outcome State Fault Refusal :=
  .next (if s.pins.mainUp then { s with cel := { s.cel with tick := s.tickNow } } else s)

/-- CELLAR_POR (R492, R576, R680): the block is locked, which disarms every injection (R649). While por_n is low the Cellar
stays on vbat (R484). -/
def execCellarPor (s : State) : Host.Outcome State Fault Refusal :=
  .next (draw { s with
    cel := { Cellar.powered with onVbat := s.cel.onVbat, roofGen := Config.freeNat s.freeCtr },
    diag := { s.diag with armed := [] } })

/-- DIAG_EXPIRY (R649): a second after arming, a point disarms. -/
def execDiagExpiry (point : Nat) (s : State) : Host.Outcome State Fault Refusal :=
  .next { s with diag := { s.diag with armed := s.diag.armed.filter (fun a => a.point != point) } }

end Sys2Proof.Machine
end

