-- ==== Sys2Proof/Machine/Dispatch.lean ====
section
/-!
DEFINITION. Dispatch: one arm for each command, each a direct call of its meaning.
-/

namespace Sys2Proof.Machine

def exec (i : Instr) (s : State) : Host.Outcome State Fault Refusal :=
  match i with
  | .devQuery q => Sys2Proof.Machine.execDevQuery q s
  | .devCapsNegotiate q => Sys2Proof.Machine.execDevCapsNegotiate q s
  | .instCreate q => Sys2Proof.Machine.execInstCreate q s
  | .instDestroy q => Sys2Proof.Machine.execInstDestroy q s
  | .instQuiesce q => Sys2Proof.Machine.execInstQuiesce q s
  | .instReset q => Sys2Proof.Machine.execInstReset q s
  | .shareSet q => Sys2Proof.Machine.execShareSet q s
  | .ringCreate q => Sys2Proof.Machine.execRingCreate q s
  | .ringDestroy q => Sys2Proof.Machine.execRingDestroy q s
  | .ringResume q => Sys2Proof.Machine.execRingResume q s
  | .ringReset q => Sys2Proof.Machine.execRingReset q s
  | .txnBegin q => Sys2Proof.Machine.execTxnBegin q s
  | .txnCommit q => Sys2Proof.Machine.execTxnCommit q s
  | .txnRollback q => Sys2Proof.Machine.execTxnRollback q s
  | .keymsgApply q => Sys2Proof.Machine.execKeymsgApply q s
  | .unlock q => Sys2Proof.Machine.execUnlock q s
  | .stage q => Sys2Proof.Machine.execStage q s
  | .stageForward q => Sys2Proof.Machine.execStageForward q s
  | .keep q => Sys2Proof.Machine.execKeep q s
  | .handover q x => Sys2Proof.Machine.execHandover q x s
  | .rebuildAt q => Sys2Proof.Machine.execRebuildAt q s
  | .rebuildChain q => Sys2Proof.Machine.execRebuildChain q s
  | .cancel q => Sys2Proof.Machine.execCancel q s
  | .fwConfirm q => Sys2Proof.Machine.execFwConfirm q s
  | .moverResume q => Sys2Proof.Machine.execMoverResume q s
  | .hearthAbort q => Sys2Proof.Machine.execHearthAbort q s
  | .diagInject q => Sys2Proof.Machine.execDiagInject q s
  | .counterConfig q => Sys2Proof.Machine.execCounterConfig q s
  | .larderAttach q => Sys2Proof.Machine.execLarderAttach q s
  | .larderReset q => Sys2Proof.Machine.execLarderReset q s
  | .cmdUnknown q => Sys2Proof.Machine.execCmdUnknown q s
  | .cmdReplyAck q => Sys2Proof.Machine.execCmdReplyAck q s
  | .drainPending q => Sys2Proof.Machine.execDrainPending q s
  | .cmdQueueEnable page strb data => Sys2Proof.Machine.execCmdQueueEnable page strb data s
  | .cmdQueueDisable page strb data => Sys2Proof.Machine.execCmdQueueDisable page strb data s
  | .cmdQueueTailWrite page strb data => Sys2Proof.Machine.execCmdQueueTailWrite page strb data s
  | .txnTimeout => Sys2Proof.Machine.execTxnTimeout s
  | .doorbell page strb data => Sys2Proof.Machine.execDoorbell page strb data s
  | .harvestReadReturn ring => Sys2Proof.Machine.execHarvestReadReturn ring s
  | .eventQueueEnable page strb data => Sys2Proof.Machine.execEventQueueEnable page strb data s
  | .eventQueueHeadWrite page strb data => Sys2Proof.Machine.execEventQueueHeadWrite page strb data s
  | .prefetchCfgWrite strb data => Sys2Proof.Machine.execPrefetchCfgWrite strb data s
  | .keyinDataWrite strb data => Sys2Proof.Machine.execKeyinDataWrite strb data s
  | .keyinClear strb data => Sys2Proof.Machine.execKeyinClear strb data s
  | .idDataRead => Sys2Proof.Machine.execIdDataRead s
  | .start strb data => Sys2Proof.Machine.execStart strb data s
  | .finish strb data => Sys2Proof.Machine.execFinish strb data s
  | .clear strb data => Sys2Proof.Machine.execClear strb data s
  | .scuDataWrite strb data => Sys2Proof.Machine.execScuDataWrite strb data s
  | .scuBlockAbsorbed ctx => Sys2Proof.Machine.execScuBlockAbsorbed ctx s
  | .go strb data b => Sys2Proof.Machine.execGo strb data b s
  | .softReset strb data b => Sys2Proof.Machine.execSoftReset strb data b s
  | .studyRestart strb data x => Sys2Proof.Machine.execStudyRestart strb data x s
  | .studyWatchdog x => Sys2Proof.Machine.execStudyWatchdog x s
  | .lockstepMismatch x => Sys2Proof.Machine.execLockstepMismatch x s
  | .doze strb data => Sys2Proof.Machine.execDoze strb data s
  | .retain strb data => Sys2Proof.Machine.execRetain strb data s
  | .off strb data => Sys2Proof.Machine.execOff strb data s
  | .active strb data => Sys2Proof.Machine.execActive strb data s
  | .powerRefuseTimeout => Sys2Proof.Machine.execPowerRefuseTimeout s
  | .idle => Sys2Proof.Machine.execIdle s
  | .pause port strb data => Sys2Proof.Machine.execPause port strb data s
  | .samplingEnable page strb data => Sys2Proof.Machine.execSamplingEnable page strb data s
  | .samplingDisable page strb data => Sys2Proof.Machine.execSamplingDisable page strb data s
  | .samplingHeadWrite page strb data => Sys2Proof.Machine.execSamplingHeadWrite page strb data s
  | .bwWindowWrite strb data => Sys2Proof.Machine.execBwWindowWrite strb data s
  | .atticWrite strb data => Sys2Proof.Machine.execAtticWrite strb data s
  | .registerWrite addr strb data => Sys2Proof.Machine.execRegisterWrite addr strb data s
  | .absent addr write data => Sys2Proof.Machine.execAbsent addr write data s
  | .roundBoundary => Sys2Proof.Machine.execRoundBoundary s
  | .schedulerGrant => Sys2Proof.Machine.execSchedulerGrant s
  | .descriptorReadReturn op => Sys2Proof.Machine.execDescriptorReadReturn op s
  | .descReread op => Sys2Proof.Machine.execDescReread op s
  | .listBlockReturn op ent dst => Sys2Proof.Machine.execListBlockReturn op ent dst s
  | .seal op => Sys2Proof.Machine.execSeal op s
  | .openOp op => Sys2Proof.Machine.execOpenOp op s
  | .gmacSign op => Sys2Proof.Machine.execGmacSign op s
  | .gmacCheck op => Sys2Proof.Machine.execGmacCheck op s
  | .ctr op => Sys2Proof.Machine.execCtr op s
  | .digest op => Sys2Proof.Machine.execDigest op s
  | .ctxInstall op => Sys2Proof.Machine.execCtxInstall op s
  | .ctxRekey op => Sys2Proof.Machine.execCtxRekey op s
  | .ctxRetire op => Sys2Proof.Machine.execCtxRetire op s
  | .pk op => Sys2Proof.Machine.execPk op s
  | .nop op => Sys2Proof.Machine.execNop op s
  | .fence op => Sys2Proof.Machine.execFence op s
  | .retireRefsZero index => Sys2Proof.Machine.execRetireRefsZero index s
  | .tombstoneWriteAck index => Sys2Proof.Machine.execTombstoneWriteAck index s
  | .larderFetchStart index => Sys2Proof.Machine.execLarderFetchStart index s
  | .evictionTokenRefill => Sys2Proof.Machine.execEvictionTokenRefill s
  | .nodeReadReturn level node => Sys2Proof.Machine.execNodeReadReturn level node s
  | .blobReadReturn index => Sys2Proof.Machine.execBlobReadReturn index s
  | .victimWritebackAck index => Sys2Proof.Machine.execVictimWritebackAck index s
  | .nodeWriteback level node => Sys2Proof.Machine.execNodeWriteback level node s
  | .reauthentication level node => Sys2Proof.Machine.execReauthentication level node s
  | .partStart op alcove => Sys2Proof.Machine.execPartStart op alcove s
  | .partEnd op => Sys2Proof.Machine.execPartEnd op s
  | .mismatch m => Sys2Proof.Machine.execMismatch m s
  | .selfTestEnd chacha unit pass => Sys2Proof.Machine.execSelfTestEnd chacha unit pass s
  | .dummyKeyReplace alcove => Sys2Proof.Machine.execDummyKeyReplace alcove s
  | .digestPartStart op core parityOk => Sys2Proof.Machine.execDigestPartStart op core parityOk s
  | .digestPartEnd op => Sys2Proof.Machine.execDigestPartEnd op s
  | .hallwayReadResponse port id parityOk status data => Sys2Proof.Machine.execHallwayReadResponse port id parityOk status data s
  | .hallwayWriteAck port id parityOk status => Sys2Proof.Machine.execHallwayWriteAck port id parityOk status s
  | .readTimeout port id => Sys2Proof.Machine.execReadTimeout port id s
  | .writeTimeout port id => Sys2Proof.Machine.execWriteTimeout port id s
  | .completionAck op => Sys2Proof.Machine.execCompletionAck op s
  | .eventRecordAck inst => Sys2Proof.Machine.execEventRecordAck inst s
  | .coalescingTimeout inst => Sys2Proof.Machine.execCoalescingTimeout inst s
  | .counterWrap inst counter => Sys2Proof.Machine.execCounterWrap inst counter s
  | .bwWindowEnd => Sys2Proof.Machine.execBwWindowEnd s
  | .hearthHandoff => Sys2Proof.Machine.execHearthHandoff s
  | .pkOperandsArrived engine => Sys2Proof.Machine.execPkOperandsArrived engine s
  | .validationPhaseEnd engine => Sys2Proof.Machine.execValidationPhaseEnd engine s
  | .pkNominalTimeEnd engine parityOk => Sys2Proof.Machine.execPkNominalTimeEnd engine parityOk s
  | .pkAbortBoundary engine => Sys2Proof.Machine.execPkAbortBoundary engine s
  | .engineWipeDone engine => Sys2Proof.Machine.execEngineWipeDone engine s
  | .hearthSelfTestEnd engine pass => Sys2Proof.Machine.execHearthSelfTestEnd engine pass s
  | .microcodeLoad engine => Sys2Proof.Machine.execMicrocodeLoad engine s
  | .coldPowerOn r => Sys2Proof.Machine.execColdPowerOn r s
  | .blockReset => Sys2Proof.Machine.execBlockReset s
  | .pwrMainGoodFall => Sys2Proof.Machine.execPwrMainGoodFall s
  | .retainExit x b => Sys2Proof.Machine.execRetainExit x b s
  | .cellarPor => Sys2Proof.Machine.execCellarPor s
  | .alarmSourceAssert source => Sys2Proof.Machine.execAlarmSourceAssert source s
  | .faultWindowStep upsets => Sys2Proof.Machine.execFaultWindowStep upsets s
  | .neighbourAlarm down pos zeroise => Sys2Proof.Machine.execNeighbourAlarm down pos zeroise s
  | .rngHealthFail => Sys2Proof.Machine.execRngHealthFail s
  | .rngStartupPass => Sys2Proof.Machine.execRngStartupPass s
  | .drbgReseed unit => Sys2Proof.Machine.execDrbgReseed unit s
  | .tickCellarWrite => Sys2Proof.Machine.execTickCellarWrite s
  | .laneAttemptStart down lane => Sys2Proof.Machine.execLaneAttemptStart down lane s
  | .adaptDone down lane => Sys2Proof.Machine.execAdaptDone down lane s
  | .laneAccept down lane fom => Sys2Proof.Machine.execLaneAccept down lane fom s
  | .laneAttemptFail down lane fom => Sys2Proof.Machine.execLaneAttemptFail down lane fom s
  | .laneRetrySeries down lane => Sys2Proof.Machine.execLaneRetrySeries down lane s
  | .laneOutOfService down lane => Sys2Proof.Machine.execLaneOutOfService down lane s
  | .hello down m => Sys2Proof.Machine.execHello down m s
  | .helloTimeout down => Sys2Proof.Machine.execHelloTimeout down s
  | .forwardedBlock b => Sys2Proof.Machine.execForwardedBlock b s
  | .stageAbort => Sys2Proof.Machine.execStageAbort s
  | .chainReport r pos => Sys2Proof.Machine.execChainReport r pos s
  | .arm m => Sys2Proof.Machine.execArm m s
  | .confirm => Sys2Proof.Machine.execConfirm s
  | .armedTick x => Sys2Proof.Machine.execArmedTick x s
  | .trialTimeout x => Sys2Proof.Machine.execTrialTimeout x s
  | .diagExpiry point => Sys2Proof.Machine.execDiagExpiry point s
  | .porNLow => Sys2Proof.Machine.execPorNLow s
  | .blkRstNRelease r => Sys2Proof.Machine.execBlkRstNRelease r s
  | .alarmSourceQuiet source => Sys2Proof.Machine.execAlarmSourceQuiet source s
  | .roofCleanPass impedance => Sys2Proof.Machine.execRoofCleanPass impedance s

end Sys2Proof.Machine
end

