-- ==== Sys2Proof/Safety.lean ====
section
/-!
DEFINITION. The terms in which claims are stated: what no command changes, what the follow-ups of a command do not
change, the invariant, a calm block, a packet that passes its checks, a reply given and a wait begun.
-/

namespace Sys2Proof.Machine

/-! ### What no command changes -/

/-- The part of a state that no command changes: the build and its straps, the ROM floor, the queue of waiting commands,
and how many ports, Alcoves, ChaCha20-Poly1305 units and engines there are. -/
structure Shape where
  build : Build
  upEn : Bool
  dnEn : Bool
  upLong : Bool
  dnLong : Bool
  romFloor : Nat
  pending : List Instr
  ports : Nat
  alcoves : Nat
  chachas : Nat
  engines : Nat
  deriving DecidableEq, Repr

/-- The shape of a state. -/
def State.shape (s : State) : Shape where
  build := s.build
  upEn := s.upEn
  dnEn := s.dnEn
  upLong := s.upLong
  dnLong := s.dnLong
  romFloor := s.romFloor
  pending := s.pending
  ports := s.hwy.ports.length
  alcoves := s.rooms.alcoves.length
  chachas := s.rooms.chachas.length
  engines := s.hearth.engines.length

/-- The invariant: the block has the ports, Alcoves, ChaCha20-Poly1305 units and Hearth engines of its build (R2,
R306, R454). -/
def State.Inv (s : State) : Prop :=
  s.hwy.ports.length = 8 ∧ s.rooms.alcoves.length = 2 * s.build.rooms ∧
    s.rooms.chachas.length = s.build.rooms ∧ s.hearth.engines.length = s.build.engines

/-! ### Frames -/

/-- The part of a state that the follow-ups of a command leave alone in a calm block. Of the Rooms: all but the records that
outlive their entries. -/
structure Still where
  pins : Pins
  porch : Option (BitVec 2 × Word)
  txn : Txn
  instSel : Nat
  nextOp : Nat
  sched : Sched
  core : Nat
  rooms : Rooms
  cel : Cellar
  keys : Keys
  boot : Boot
  fw : Fw
  pwr : Power
  stair : Stair
  ecc : Ecc
  diag : Diag
  cmdRdy : Bool
  proto : BitVec 16
  flush : Option FlushFor
  dirFault : Bool
  keyFault : Nat
  ctxs : List ScuCtx
  scuSel : Nat
  deriving DecidableEq, Repr

/-- That part of a state. -/
def State.still (s : State) : Still where
  pins := s.pins
  porch := s.porch
  txn := s.txn
  instSel := s.instSel
  nextOp := s.nextOp
  sched := s.sched
  core := s.core
  rooms := { s.rooms with linger := [] }
  cel := s.cel
  keys := s.keys
  boot := s.boot
  fw := s.fw
  pwr := s.pwr
  stair := s.stair
  ecc := s.ecc
  diag := s.diag
  cmdRdy := s.study.cmdRdy
  proto := s.study.proto
  flush := s.lar.flush
  dirFault := s.pan.dirFault
  keyFault := s.pan.keyFault
  ctxs := s.scu.ctxs
  scuSel := s.scu.sel

/-- Tables and queues that Hallway requests leave alone. -/
structure Tables where
  study : Study
  rings : List (Nat × Ring)
  specs : List Spec
  ops : List Op
  pan : Pantry
  lar : Larder
  hearth : Hearth
  scu : Scullery
  freeCtr : Nat
  deriving DecidableEq, Repr

/-- Those tables of a state. -/
def State.tables (s : State) : Tables where
  study := s.study
  rings := s.rings
  specs := s.specs
  ops := s.ops
  pan := s.pan
  lar := s.lar
  hearth := s.hearth
  scu := s.scu
  freeCtr := s.freeCtr

/-- An instance without its command queue and its counters. -/
def Inst.body (x : Inst) : Inst := { x with cq := CmdQ.cold, counters := [] }

/-- No sequence is under way that goes on by itself: MAIN is up, no soft reset and no entry to a power state, no flush,
no memory lost, no committed command that waits for its number, the lock sequence idle or waiting for its millisecond. -/
def Calm (s : State) : Prop :=
  s.pins.mainUp = true ∧ s.pwr.softReset = none ∧ s.pwr.entry = none ∧ (s.cel.step = .idle ∨ s.cel.step = .clear) ∧
    s.lar.flush = none ∧ s.pan.dirFault = false ∧ s.pan.keyFault = 0 ∧ s.txn.later = []

/-- No injection is armed, and no word of a memory has an ECC error (R641, R645). -/
def Sound (s : State) : Prop := s.diag.armed = [] ∧ s.ecc.upsets = []

/-! ### Packets -/

/-- A POSTED packet with an opcode has arrived from a queue, the Study serves packets, and every check of Table 2-6
passes. -/
def Taken (q op : Nat) (p : List Byte) (s : State) : Prop :=
  s.study.cmdRdy = true ∧ (s.inst q).cq.arrived = some p ∧ pkState p = 1 ∧ pkOpcode p = op ∧ packetFault s q p = none

/-- The block with that packet in service. -/
def inService (q : Nat) (p : List Byte) (s : State) : State := takeArrivedPacket q p (stir s)

/-- The block with that packet in service when a check of Table 2-6 has failed: the envelope buffer of a KEYMSG_APPLY is
zero-filled (R388), and a TXN_COMMIT holds its transaction no longer (R70). -/
def inRejection (q : Nat) (p : List Byte) (s : State) : State :=
  takeArrivedPacket q p (commitRefused q p (keyinDone q p (stir s)))

/-- A stageable command outside a transaction that passes its command-specific checks against the live state and what is
reserved (R57, R61). -/
def Immediate (q : Nat) (p : List Byte) (s : State) : Prop :=
  pkTxn p = 0 ∧ stageFault (inService q p s) (inService q p s).reservedRings (inService q p s).reservedInsts p = none

/-- A stageable command inside the open transaction that passes its checks against the live state with the commands staged
before it applied, and for a RING_CREATE finds a number that none of them has reserved (R60, R61). -/
def Staging (q : Nat) (p : List Byte) (s : State) : Prop :=
  pkTxn p ≠ 0 ∧ stageFault (stagedView s.stagedAll (inService q p s)) [] [] p = none ∧
    (pkOpcode p = 0x20 → (freeRing? true (inService q p s)).isSome = true)

/-- A write with all byte enables reaches a register of a served instance page (R495, R498, Table 3-1). -/
def PageOk (page off : Nat) (strb : BitVec 8) (s : State) : Prop :=
  page ≤ s.build.insts ∧ writable (pageAddr page off) strb s = true

/-- The block with that write answered and Idle ended (R7, R623). -/
def onPage (page off : Nat) (s : State) : State := stir (answerWrite (pageAddr page off) s)

/-- A write with all byte enables reaches a register of a unit block (R495, R498). -/
def UnitOk (off : Nat) (strb : BitVec 8) (s : State) : Prop := writable (0x10000000 + off) strb s = true

/-- The block with that write answered and Idle ended (R7, R623). -/
def onUnit (off : Nat) (s : State) : State := stir (answerWrite (0x10000000 + off) s)

/-- A state with another transaction record. -/
def State.withTxn (x : Txn) (s : State) : State := { s with txn := x }

/-- A state with another protocol version in force. -/
def State.withProto (v : Nat) (s : State) : State := { s with study := { s.study with proto := BitVec.ofNat 16 v } }

/-- A state with another firmware record. -/
def State.withFw (x : Fw) (s : State) : State := { s with fw := x }

/-- A state with another key record. -/
def State.withKeys (x : Keys) (s : State) : State := { s with keys := x }

/-- A state with another Larder. -/
def State.withLar (x : Larder) (s : State) : State := { s with lar := x }

/-- A state with another Hallway. -/
def State.withHwy (x : Hwy) (s : State) : State := { s with hwy := x }

/-- What only the packet in service of one queue and Hallway requests have changed: `u` before, `t` after. -/
def SameBut (q : Nat) (u t : State) : Prop :=
  t.still = u.still ∧ t.tables = u.tables ∧ (∀ j, (t.inst j).body = (u.inst j).body) ∧
    (∀ j, j ≠ q → (t.inst j).cq = (u.inst j).cq) ∧ (∀ j, j ≠ 0 → (t.inst j).counters = (u.inst j).counters)

/-- From `u` to `t` the packet in service of a queue has been given a reply, whose writes have been asked for, and
nothing else has changed. -/
def Replied (q : Nat) (st : Status) (detail : Nat) (body : List Byte) (u t : State) : Prop :=
  SameBut q u t ∧
    ∃ v, (u.inst q).cq.serving = some v ∧
      (t.inst q).cq = { (u.inst q).cq with
        serving := some { v with wait := .none, reply := some ⟨st, detail, body, false⟩ } }

/-- From `u` to `t` the packet in service of a queue has begun to wait, and nothing else has changed. -/
def Waiting (q : Nat) (w : Wait) (u t : State) : Prop :=
  SameBut q u t ∧
    ∃ v, (u.inst q).cq.serving = some v ∧ (t.inst q).cq = { (u.inst q).cq with serving := some { v with wait := w } }

/-- A packet of a queue is in service with its reply started. -/
def Answered (q : Nat) (p : List Byte) (st : Status) (detail : Nat) (body : List Byte) (t : State) : Prop :=
  ∃ v, (t.inst q).cq.serving = some v ∧ v.pkt = p ∧ v.reply = some ⟨st, detail, body, false⟩

/-- The staged bundle has become the running one, in TRIAL: the slots have changed their roles, and the image in Study
SRAM is the bundle read (R596, R597, Table 17-7). -/
def NewImage (s : State) (bundle : List (List Byte)) (t : State) : Prop :=
  t.fw.state = .trial ∧ t.fw.tick = 0 ∧ t.fw.sram = bundle ∧ t.fw.runSlot = !s.fw.runSlot ∧
    t.fw.runValid = s.fw.freeValid ∧ t.fw.freeValid = s.fw.runValid ∧ t.fw.imageRuns = true ∧
    t.study.cmdRdy = true ∧ t.txn.opened = false

/-- The registers of a command queue as software sees them: all but the packet that is read, has arrived or is
served. -/
def CmdQ.regs (c : CmdQ) : Nat × Bool × Idx × Idx × Bool × Bool := (c.base, c.enable, c.tail, c.head, c.fabErr, c.overrun)

/-! ### Operations, contexts, resets -/

/-- An operation holds the status and the result of its completion, and its key copy and its data are gone. -/
def Ended (id : Nat) (st : Status) (res : Nat) (t : State) : Prop :=
  ∃ x, t.op? id = some x ∧ x.status = st ∧ x.result = res ∧ x.key = none ∧ x.buf = [] ∧ x.acc = [] ∧ x.unit = none

/-- An operation of the present generation, the only one with its number, whose ring exists. -/
def Current (o : Op) (s : State) : Prop :=
  s.op? o.id = some o ∧ (∀ p ∈ s.ops, p.id = o.id → p = o) ∧ o.old = false ∧ (tget o.ring s.rings).isSome = true

/-- The path of an index is in the node cache, no children on it are authenticated again, no flush runs, no
injection is armed, and no word has an ECC error. -/
def PathCached (i : Nat) (s : State) : Prop :=
  (∀ k, k < 4 → (s.node? k (pathNode i k)).isSome = true) ∧ pathBusy s i = false ∧ s.lar.flush = none ∧
    Sound s

/-- The counter of an index in its leaf; none when the index has never been written (R347). -/
def leafCtr (s : State) (i : Nat) : Option Nat := (s.node? 0 (i / 64)).bind (fun x => x.c.at (i % 64))

/-- The context that an operation names is LIVE: the store holds its index, and a slot of its instance, neither retiring nor
being written back, holds the context (Table 9-8). -/
def CtxLive (s : State) (o : Op) (n : Nat) (x : Slot) : Prop :=
  s.backed (s.ctxOf o) = true ∧ s.slotOf (s.ctxOf o) = some (n, x) ∧ x.state ≠ .retiring ∧ x.evicting = false ∧
    x.owner = o.inst

/-- Every check of Table 7-4 passes for an AEAD operation on a context: algorithm and opcode, OPS, tag length, key slot,
packet number. -/
def AeadAllowed (s : State) (o : Op) (x : Slot) : Prop :=
  polAlg x.policy ≠ 3 ∧ (polAlg x.policy = 2 → o.head.d.opcode ≤ 2) ∧ x.ops / 2 ^ opsBit o.head.d % 2 = 1 ∧
    (o.head.d.opcode ≠ 5 → tagMinBytes (polTagMin x.policy) ≤ o.head.d.t ∧ (polAlg x.policy = 2 → o.head.d.t = 16)) ∧
    polPresent x.policy (keySlot x o.head.d) = true ∧ (o.head.d.sending = true → x.f104 ≠ 2 ^ 64 - 1) ∧
    (o.head.d.receiving = true → acceptable s x o.descPn = true)

/-- A Room can take an operation: it has a free record, a unit for the algorithm in service, and a staging place where the
operation needs one (R300, R307). -/
def RoomFree (s : State) (o : Op) (alg r : Nat) : Prop :=
  r < s.build.rooms ∧ roomRecords s r < 512 ∧ (alg = 2 → s.rooms.chachas[r]? = some 0) ∧
    (alg ≠ 2 → ∃ a, (s.rooms.alcoves[2 * r]? = some a ∨ s.rooms.alcoves[2 * r + 1]? = some a) ∧ a.svc = 0) ∧
    (o.stages = true → ∃ p, p < 256 ∧ placeTaken s r p = false)

/-- What a command waits for is the next round boundary (R225). -/
def Wait.atBoundary : Wait → Bool
  | .share _ _ _ _ => true
  | .counter _ _ _ _ _ => true
  | .resume _ => true
  | .unlock => true
  | .commit => true
  | _ => false

/-- Nothing waits at the Pantry door, and no tombstone is due. -/
def DoorQuiet (s : State) : Prop :=
  s.lar.fetches = [] ∧ (∀ p ∈ s.pan.slots, p.2.tombDue = false) ∧ s.lar.flush = none

/-- A write of an owner to an address is outstanding at a port or waits there. -/
def WriteDue (n addr : Nat) (o : Owner) (t : State) : Prop :=
  ∃ w ∈ (t.port n).wrs ++ (t.port n).wrQ, w.owner = o ∧ w.addr = addr

/-- A read of an owner at an address is outstanding at a port or waits there. -/
def ReadDue (n addr : Nat) (o : Owner) (t : State) : Prop :=
  ∃ r ∈ (t.port n).rds ++ (t.port n).rdQ, r.owner = o ∧ r.addr = addr ∧ r.quar = false ∧ r.drop = false

/-- A KEK_SET has taken effect for an instance: version, key, SEED_ID and seed are the new ones, and the version before drains
while an operation of the instance pins it (R398). -/
def KekTaken (s : State) (i ver seedId : Nat) (key seed : List Byte) (t : State) : Prop :=
  let k := (s.inst i).kek
  let drains := k.curVer ≠ 0 ∧ ∃ o ∈ s.instOps i, o.pin = some k.curVer
  (t.inst i).kek.curVer = ver ∧ (t.inst i).kek.cur = key ∧ (t.inst i).kek.seedId = seedId ∧ (t.inst i).kek.seed = seed ∧
    (drains → (t.inst i).kek.drainVer = k.curVer ∧ (t.inst i).kek.drain = k.cur) ∧
    (¬drains → (t.inst i).kek.drainVer = 0 ∧ (t.inst i).kek.drain = [])

/-- A ring has stopped with ERR_INDEX, HALT_INDEX and ERR_STATUS; `r`: the ring before (R163). -/
def RingStopped (n : Nat) (e h : Idx) (st : Status) (r : Ring) (t : State) : Prop :=
  ∃ x, tget n t.rings = some x ∧ x.state = .error ∧ x.errIdx = e ∧ x.haltIdx = h ∧ x.consumed = h ∧
    x.errStatus = st.code.toNat ∧ x.stops = (r.stops + 1) % 2 ^ 32

/-- A fetched entry of a ring, not dispatched, at or above an index: what a stop releases (R164). -/
def Released (n : Nat) (h : Idx) (o : Op) : Prop :=
  o.ring = n ∧ o.old = false ∧ o.unrun = true ∧ idxBefore o.head.idx h = false

/-- A completion write of an operation is outstanding or waits. -/
def CompletionDue (id : Nat) (t : State) : Prop :=
  ∃ p ∈ t.hwy.ports, ∃ w ∈ p.wrs ++ p.wrQ, w.owner = .compl id

/-- One of the three conditions of R156 holds. -/
def MessageDue (e : EventQ) : Prop :=
  e.flagSet = true ∨ (e.due = true ∨ e.time = 0) ∧ 0 < e.unsig ∨ e.count ≤ e.unsig

/-- The event queue of an instance, about to be `e` in `s`, sends its interrupt message if R156 and R471 allow: 4 bytes at its
ADDR through hw0; ARMED falls, and nothing is unsignalled any more. Otherwise it is `e`. -/
def Signals (i : Nat) (e : EventQ) (s t : State) : Prop :=
  let go := e.armed = true ∧ e.mask = false ∧ MessageDue e ∧ (s.port 0).holdsWrites = false
  (go → (t.inst i).eq = { e with armed := false, unsig := 0, flagSet := false, due := false } ∧
    (s.Inv → e.msgAddr % 4 = 0 → ∃ w ∈ (t.port 0).wrs ++ (t.port 0).wrQ,
      w.owner = .irqMsg i ∧ w.addr = e.msgAddr ∧ w.data = leBytes 4 e.msgData)) ∧
  (¬go → (t.inst i).eq = e)

/-- A microsecond in which nothing of Landing, of a soft reset, of the Pantry door and of an injection comes to its end. -/
def MicroQuiet (s : State) : Prop :=
  s.pins.mainUp = true ∧ DoorQuiet s ∧ s.fw.landing = none ∧ s.pwr.softReset = none ∧ s.diag.asserted = []

/-- Every MAIN item is at its value after a reset that loses Study SRAM (Table 18-7), but for the numbers of the transactions
that Wilto has rolled back. -/
def MainCleared (t : State) : Prop :=
  t.rings = [] ∧ t.ops = [] ∧ t.specs = [] ∧ t.insts = State.reset.insts ∧ { t.txn with aborted := [] } = State.reset.txn ∧
    t.study = State.reset.study ∧ t.keys = State.reset.keys ∧ t.scu = State.reset.scu ∧ t.pan.slots = [] ∧
    t.lar.nodes = [] ∧ t.lar.attached = false ∧ t.fw.sram = [] ∧ t.fw.imageRuns = false ∧ t.diag.armed = []

/-- Landing runs, with cmd_rdy low and no image; every ring and every operation stays (R12, Table 17-7). -/
def Lands (kind : Nat) (x : LandingRun) (s t : State) : Prop :=
  (∃ l, t.fw.landing = some l ∧ l.kind = kind ∧ l.us = x.us ∧ l.run = x) ∧ t.study.cmdRdy = false ∧
    t.fw.imageRuns = false ∧ t.rings = s.rings ∧ t.ops = s.ops

/-- The Study image runs as a rebuild: cmd_rdy is high, no transaction is open, and the image and every table that a
rebuild keeps are as they were (Table 17-8, R618). -/
def ImageRestarted (s t : State) : Prop :=
  t.study.cmdRdy = true ∧ t.fw.imageRuns = true ∧ t.fw.sram = s.fw.sram ∧ t.txn.opened = false ∧
    t.rings = s.rings ∧ t.ops = s.ops ∧ t.pan = s.pan ∧ t.lar = s.lar ∧ t.hearth.queue = s.hearth.queue

end Sys2Proof.Machine
end

