-- ==== Sys2Proof/Certificates/Slice0/Obligations.lean ====
section
/-!
DEFINITION. The statements for the provers. Most say of a command, under hypotheses on the state and the operands alone,
that it answers a next state and which; the state named before the follow-ups of a command is `t` in
`.next (finish t)`, and `Obligations.FollowUpsFrame` says what the follow-ups leave alone.
-/

open Sys2Proof Sys2Proof.Machine

/-! ### Packets of the command queues -/

/-- DEV_QUERY (R51): a packet that passes Table 2-6 is answered OK with the fields of Table 2-12, and nothing else
changes. DEV_CAPS_NEGOTIATE (R48): the highest version both ranges hold comes into force and is answered; with no
common version the reply is CMD_VERSION and the version stays. -/
def Obligations.DeviceCommandsAnswer : Prop :=
  (∀ (s : State) (q : Nat) (p : List Byte), Taken q 0x01 p s →
     ∃ t, exec (.devQuery q) s = .next (finish t) ∧ Replied q .ok 0 (devQueryBody q s) (inService q p s) t) ∧
  (∀ (s : State) (q : Nat) (p : List Byte), Taken q 0x02 p s →
     let h := s.fw.sram.headD []
     let top := min (par 2 2 p) (field 30 2 h)
     ∃ t, exec (.devCapsNegotiate q) s = .next (finish t) ∧
       if par 0 2 p ≤ top ∧ field 28 2 h ≤ top then
         t.study.proto = BitVec.ofNat 16 top ∧
           Replied q .ok 0 (leBytes 2 top ++ leBytes 6 0) ((inService q p s).withProto top) t
       else Replied q .cmdVersion 0 [] (inService q p s) t)

/-- A packet that fails a check of Table 2-6 is answered with the status of the first check it fails, and nothing else
changes (R34) but that the envelope buffer of a KEYMSG_APPLY is zero-filled (R388) and a TXN_COMMIT lets go of its
transaction; here for every row that serves a packet by its opcode alone. CMD_UNKNOWN: a packet whose STATE is not
POSTED is answered CMD_NOT_POSTED with DETAIL 18, one of an unlisted opcode CMD_VERSION or CMD_UNKNOWN (R34). -/
def Obligations.PacketsChecked : Prop :=
  (∀ (s : State) (q op : Nat) (p : List Byte) (st : Status) (d : Nat) (c : Instr),
     (op, c) ∈ ([(0x01, .devQuery q), (0x02, .devCapsNegotiate q), (0x10, .instCreate q), (0x12, .instQuiesce q),
       (0x13, .instReset q), (0x14, .shareSet q), (0x20, .ringCreate q), (0x21, .ringDestroy q), (0x22, .ringResume q),
       (0x23, .ringReset q), (0x30, .txnBegin q), (0x31, .txnCommit q), (0x32, .txnRollback q), (0x41, .unlock q),
       (0x52, .fwConfirm q), (0x60, .moverResume q), (0x70, .hearthAbort q), (0x80, .diagInject q),
       (0x90, .counterConfig q), (0xA0, .larderAttach q), (0xA1, .larderReset q)] : List (Nat × Instr)) →
     s.study.cmdRdy = true → (s.inst q).cq.arrived = some p → pkState p = 1 → pkOpcode p = op →
     packetFault s q p = some (st, d) →
     ∃ t, exec c s = .next (finish t) ∧ Replied q st d [] (inRejection q p s) t) ∧
  (∀ (s : State) (q : Nat) (p : List Byte), s.study.cmdRdy = true → (s.inst q).cq.arrived = some p →
     (pkState p ≠ 1 →
       ∃ t, exec (.cmdUnknown q) s = .next (finish t) ∧ Replied q .cmdNotPosted 18 [] (inRejection q p s) t) ∧
     (pkState p = 1 → cmdInfo (pkOpcode p) = none → pkVer p = s.study.proto.toNat →
       ∃ t, exec (.cmdUnknown q) s = .next (finish t) ∧ Replied q .cmdUnknown 0 [] (inRejection q p s) t) ∧
     (pkState p = 1 → cmdInfo (pkOpcode p) = none → pkVer p ≠ s.study.proto.toNat →
       ∃ t, exec (.cmdUnknown q) s = .next (finish t) ∧ Replied q .cmdVersion 2 [] (inRejection q p s) t))

/-- INST_CREATE outside a transaction: the instance becomes ACTIVE with the parameters of Table 3-3, generation kept,
its page cold; every other instance and every ring stays; the reply is OK (R79, R80, R81, R99). -/
def Obligations.InstanceCreated : Prop :=
  ∀ (s : State) (q : Nat) (p : List Byte), Taken q 0x10 p s → Immediate q p s →
    ∃ t, exec (.instCreate q) s = .next (finish t) ∧
      t.inst (par 0 2 p) = { Inst.absent with
        gen := (s.inst (par 0 2 p)).gen, state := .active, hshare := par 2 2 p, weight := par 4 2 p,
        ringQuota := par 6 2 p, quota := par 8 4 p, ctxBase := par 12 4 p, ctxLimit := par 16 4 p } ∧
      (∀ j, j ≠ par 0 2 p → (t.inst j).body = (s.inst j).body) ∧
      t.rings = s.rings ∧ t.ops = s.ops ∧ t.still = (stir s).still ∧
      Answered q p .ok 0 [] t

/-- INST_QUIESCE (R93, R95, R96): an ACTIVE instance enters QUIESCING at once and the command waits; a QUIESCED one is
answered OK with IN_FLIGHT 0; any other is refused by its state. INST_DESTROY outside a transaction: the instance
enters DESTROYING and the command waits for its end; no other instance changes its state, every ring stays until that end
(R98), and work that it finds in flight is remembered for the boundary (R113, R114). It is served
while no committed KEK_SET of the instance waits for its boundary (R392). INST_RESET with generation guard: a served
instance enters RESETTING, its boundary work is due, and the command waits (R101, R102). INST_RESET without generation
guard: an instance that is not quiesced is refused with INST_NOT_QUIESCED (R4, R111). -/
def Obligations.InstancesDrain : Prop :=
  (∀ (s : State) (q : Nat) (p : List Byte), Taken q 0x12 p s →
     let i := par 0 2 p
     ∃ t, exec (.instQuiesce q) s = .next (finish t) ∧
       ((s.inst i).state = .active →
         Waiting q (.quiesce i) (modInst i (fun x => { x with state := .quiescing }) (inService q p s)) t) ∧
       ((s.inst i).state = .quiesced → Replied q .ok 0 (leBytes 8 0) (inService q p s) t) ∧
       ((s.inst i).state = .absent → Replied q .instAbsent 0 [] (inService q p s) t) ∧
       ((s.inst i).state ≠ .absent → (s.inst i).served = false →
         Replied q .instBusy (s.inst i).state.code [] (inService q p s) t) ∧
       ((s.inst i).state = .quiescing → Replied q .instBusy (s.inst i).state.code [] (inService q p s) t)) ∧
  (∀ (s : State) (q : Nat) (p : List Byte), Taken q 0x11 p s → Immediate q p s →
     (∀ x, s.keys.kekPending = some x → x.1 ≠ par 0 2 p) →
     ∃ t, exec (.instDestroy q) s = .next (finish t) ∧ (t.inst (par 0 2 p)).state = .destroying ∧
       (∀ j, j ≠ par 0 2 p → (t.inst j).state = (s.inst j).state) ∧
       (∃ v, (t.inst q).cq.serving = some v ∧ v.pkt = p ∧ v.wait = .destroy (par 0 2 p) ∧ v.reply = none) ∧
       (s.instOps (par 0 2 p) ≠ [] → (t.inst (par 0 2 p)).genStep = true ∧ (t.inst (par 0 2 p)).work = true ∧
         t.ops = s.ops ∧ t.rings = s.rings) ∧
       (∀ n r, tget n s.rings = some r →
         tget n t.rings = some r ∨ tget n t.rings = some { r with harvOut := none, held := none })) ∧
  (∀ (s : State) (q : Nat) (p : List Byte), Taken q 0x13 p s → s.build.guard = true →
     (s.inst (par 0 2 p)).served = true → genClash s (par 0 2 p) = false →
     ∃ t, exec (.instReset q) s = .next (finish t) ∧ (t.inst (par 0 2 p)).state = .resetting ∧
       (t.inst (par 0 2 p)).genStep = true ∧ (∀ j, j ≠ par 0 2 p → (t.inst j).body = (s.inst j).body) ∧
       (∃ v, (t.inst q).cq.serving = some v ∧ v.pkt = p ∧ v.wait = .reset (par 0 2 p) ∧ v.reply = none) ∧
       t.rings = s.rings ∧ t.ops = s.ops) ∧
  (∀ (s : State) (q : Nat) (p : List Byte), Taken q 0x13 p s → s.build.guard = false →
     (s.inst (par 0 2 p)).state = .active ∨ (s.inst (par 0 2 p)).state = .quiescing →
     ∃ t, exec (.instReset q) s = .next (finish t) ∧ Replied q .instNotQuiesced 0 [] (inService q p s) t)

/-- The six stageable commands inside the open transaction: the packet joins the staged commands, the reply is
OK_STAGED with its place as DETAIL, and nothing takes effect (R57, R60, R62); a RING_CREATE gets a ring number that is
free in the state with the commands staged before it applied, and that none of them has reserved (R61, R175); where every
number is used or reserved it is answered RING_NONE_FREE, and nothing is staged. -/
def Obligations.StagedNotApplied : Prop :=
  (∀ (s : State) (q op : Nat) (p : List Byte) (c : Instr),
    (op, c) ∈ ([(0x10, .instCreate q), (0x11, .instDestroy q), (0x14, .shareSet q), (0x20, .ringCreate q),
      (0x21, .ringDestroy q), (0x90, .counterConfig q)] : List (Nat × Instr)) →
    Taken q op p s → Staging q p s → (op = 0x11 → ∀ x, s.keys.kekPending = some x → x.1 ≠ par 0 2 p) →
    ∃ t body ring, exec c s = .next (finish t) ∧ (op = 0x20 → body = leBytes 2 ring ++ leBytes 6 0 ∧
        tget ring (stagedView s.stagedAll (inService q p s)).rings = none ∧ ring ∉ s.reservedRings) ∧
      Replied q .okStaged s.txn.staged.length body
        ((inService q p s).withTxn { s.txn with staged := s.txn.staged ++ [⟨p, ring⟩] }) t) ∧
  (∀ (s : State) (q : Nat) (p : List Byte), Taken q 0x20 p s → pkTxn p ≠ 0 →
    stageFault (stagedView s.stagedAll (inService q p s)) [] [] p = none →
    (∀ n, n < s.build.rings →
      tget n (stagedView s.stagedAll (inService q p s)).rings ≠ none ∨ n ∈ s.reservedRings) →
    ∃ t, exec (.ringCreate q) s = .next (finish t) ∧ Replied q .ringNoneFree 0 [] (inService q p s) t)

/-- SHARE_SET and COUNTER_CONFIG outside a transaction wait for the next round boundary with what they will apply
there (R88, R654); MOVER_RESUME of a halted and drained port waits likewise (R477, R478). Nothing else changes.
MOVER_RESUME of a port that is not halted is answered MOVER_NOT_HALTED, of a halted one that has not drained
MOVER_DRAINING (R477). -/
def Obligations.BoundaryCommandsWait : Prop :=
  ((∀ (s : State) (q : Nat) (p : List Byte), Taken q 0x14 p s → Immediate q p s →
     ∃ t, exec (.shareSet q) s = .next (finish t) ∧
       Waiting q (.share (par 0 2 p) (par 4 2 p) (par 8 4 p) (par 2 2 p)) (inService q p s) t) ∧
   (∀ (s : State) (q : Nat) (p : List Byte), Taken q 0x90 p s → Immediate q p s →
     ∃ t, exec (.counterConfig q) s = .next (finish t) ∧
       Waiting q (.counter (par 0 2 p) (par 2 1 p) (par 3 1 p) (par 4 2 p) (BitVec.ofNat 64 (par 8 8 p)))
         (inService q p s) t) ∧
   (∀ (s : State) (q : Nat) (p : List Byte), Taken q 0x60 p s → par 0 1 p ≤ 7 →
     (s.port (par 0 1 p)).halted = true → (s.port (par 0 1 p)).drained = true →
     ∃ t, exec (.moverResume q) s = .next (finish t) ∧ Waiting q (.resume (par 0 1 p)) (inService q p s) t)) ∧
  (∀ (s : State) (q : Nat) (p : List Byte), Taken q 0x60 p s → par 0 1 p ≤ 7 →
     ((s.port (par 0 1 p)).halted = false →
       ∃ t, exec (.moverResume q) s = .next (finish t) ∧ Replied q .moverNotHalted 0 [] (inService q p s) t) ∧
     ((s.port (par 0 1 p)).halted = true → (s.port (par 0 1 p)).drained = false →
       ∃ t, exec (.moverResume q) s = .next (finish t) ∧ Replied q .moverDraining 0 [] (inService q p s) t))

/-- RING_CREATE outside a transaction: the lowest ring number that is neither in use nor reserved gets a RUNNING ring
with every index at 0; every other ring stays; the reply carries the number (R175, R176). RING_DESTROY and RING_RESET:
the ring enters DESTROYING or RESETTING at once, and the command waits until it holds no in-flight entry (R170).
RING_RESUME: a ring in ERROR moves to RESUMING and the reply carries the entries it still holds; a ring in another
state is answered RING_NOT_STOPPED, an absent one RING_ABSENT (R168). -/
def Obligations.RingCommands : Prop :=
  (∀ (s : State) (q : Nat) (p : List Byte), Taken q 0x20 p s → Immediate q p s →
     ∃ t n, exec (.ringCreate q) s = .next (finish t) ∧ n < s.build.rings ∧
       tget n s.rings = none ∧ n ∉ s.reservedRings ∧
       (∀ m, m < n → tget m s.rings ≠ none ∨ m ∈ s.reservedRings) ∧
       tget n t.rings = some (newRing p) ∧ (∀ m, m ≠ n → tget m t.rings = tget m s.rings) ∧
       t.ops = s.ops ∧ t.still = (stir s).still ∧ (∀ j, (t.inst j).body = (s.inst j).body) ∧
       Answered q p .ok 0 (leBytes 2 n ++ leBytes 6 0) t) ∧
  ((∀ (s : State) (q : Nat) (p : List Byte), Taken q 0x21 p s → Immediate q p s →
     ∃ t, exec (.ringDestroy q) s = .next (finish t) ∧
       t = waitFor q (.ringEnd (par 0 2 p)) (drainRing (par 0 2 p) .destroying (inService q p s)) ∧
       ∃ r, tget (par 0 2 p) t.rings = some r ∧ r.state = .destroying) ∧
   (∀ (s : State) (q : Nat) (p : List Byte) (r : Ring), Taken q 0x23 p s → tget (par 0 2 p) s.rings = some r →
     r.state ≠ .resetting → r.state ≠ .destroying →
     ∃ t, exec (.ringReset q) s = .next (finish t) ∧
       t = waitFor q (.ringEnd (par 0 2 p)) (drainRing (par 0 2 p) .resetting (inService q p s)) ∧
       ∃ x, tget (par 0 2 p) t.rings = some x ∧ x.state = .resetting)) ∧
  (∀ (s : State) (q : Nat) (p : List Byte), Taken q 0x22 p s →
     let n := par 0 2 p
     ∃ t, exec (.ringResume q) s = .next (finish t) ∧
       (∀ r, tget n s.rings = some r → r.state = .error →
         Replied q .ok 0 (leBytes 4 (s.ringOps n).length ++ leBytes 4 0)
           (modRing n (fun r => { r with state := .resuming }) (inService q p s)) t) ∧
       (∀ r, tget n s.rings = some r → r.state ≠ .error → Replied q .ringNotStopped 0 [] (inService q p s) t) ∧
       (tget n s.rings = none → Replied q .ringAbsent 0 [] (inService q p s) t))

/-- TXN_BEGIN (R55, R56, R59): with no transaction open one opens under the next number, nothing staged; with one open
the reply is TXN_OPEN and no number is taken. TXN_ROLLBACK (R67): every staged command is discarded with its
reservations, and the reply says how many. TXN_TIMEOUT (R68 to R70): an open transaction whose TXN_COMMIT has not been
taken is rolled back, and its number is kept as one Wilto ended by itself. TXN_COMMIT (R64, R66): with nothing staged
it ends the transaction at once, answered APPLIED 0 and the tick; with commands that all pass the re-check it waits
for the round boundary; a command that fails ends the transaction with TXN_CONFLICT and its index, and nothing is
applied. -/
def Obligations.TransactionsRun : Prop :=
  (∀ (s : State) (q : Nat) (p : List Byte), Taken q 0x30 p s →
     ∃ t, exec (.txnBegin q) s = .next (finish t) ∧
       (s.txn.opened = true → Replied q .txnOpen 0 [] (inService q p s) t) ∧
       (s.txn.opened = false → ∃ x : Txn,
         x.opened = true ∧ x.num = s.txn.next ∧ x.next = (if s.txn.next ≥ 0xFFFFFFFF then 1 else s.txn.next + 1) ∧
         x.staged = [] ∧ x.timeoutMs = (if par 0 4 p = 0 then 2000 else par 0 4 p) ∧ x.lastEnd = s.txn.lastEnd ∧
         x.taken = false ∧ x.num ∉ x.aborted ∧
         Replied q .ok 0 (leBytes 4 s.txn.next ++ leBytes 4 0) ((inService q p s).withTxn x) t)) ∧
  (∀ (s : State) (q : Nat) (p : List Byte), Taken q 0x32 p s → s.txn.opened = true →
     ∃ t, exec (.txnRollback q) s = .next (finish t) ∧
       Replied q .ok 0 (leBytes 4 s.txn.staged.length ++ leBytes 4 0)
         ((inService q p s).withTxn { s.txn with opened := false, lastEnd := 2, staged := [], taken := false }) t) ∧
  (∀ s : State, s.txn.opened = true → s.txn.taken = false →
     ∃ t, exec .txnTimeout s = .next (finish t) ∧
       t.txn = { s.txn with opened := false, lastEnd := 3, staged := [], aborted := s.txn.num :: s.txn.aborted } ∧
       t.ops = s.ops ∧ t.lar = s.lar ∧ t.pan = s.pan ∧ t.cel = s.cel) ∧
  (∀ (s : State) (q : Nat) (p : List Byte), Taken q 0x31 p s →
     let u := (inService q p s).withTxn { s.txn with taken := true }
     ∃ t, exec (.txnCommit q) s = .next (finish t) ∧
       (s.txn.staged = [] → s.txn.opened = true →
         Replied q .ok 0 (commitBody 0 s.tickNow)
           (u.withTxn { s.txn with opened := false, lastEnd := 1, staged := [], taken := false }) t) ∧
       (s.txn.staged ≠ [] → recheck 0 s.txn.staged u = none → Waiting q .commit u t) ∧
       (∀ n, s.txn.staged ≠ [] → recheck 0 s.txn.staged u = some n → s.txn.opened = true →
         Replied q .txnConflict n []
           (u.withTxn { s.txn with opened := false, lastEnd := 7, staged := [], taken := false }) t))

/-- DIAG_INJECT of a point that acts later (the fabric, memory, ring and Larder points but 10): it is armed, COUNT is
taken from the permit, and the reply is OK; a check of Table 19-6 that fails is answered (R647, R648). -/
def Obligations.InjectionArms : Prop :=
  ∀ (s : State) (q : Nat) (p : List Byte), Taken q 0x80 p s →
    let u := wakeForCommand (inService q p s)
    ∃ t, exec (.diagInject q) s = .next (finish t) ∧
      (∀ st d, injectFault u p = some (st, d) → Replied q st d [] u t) ∧
      (∀ d, injectFault u p = none → s.keys.diag = some d → par 0 2 p ∈ [9, 11, 12, 14] →
        t.diag.armed = s.diag.armed ++ [⟨par 0 2 p, par 2 2 p, BitVec.ofNat 64 (par 8 8 p)⟩] ∧
        t.keys.diag = (if d.left ≤ par 2 2 p then none else some { d with left := d.left - par 2 2 p }) ∧
        t.cel = s.cel ∧ t.tables = s.tables ∧
        Answered q p .ok 0 [] t)

/-- CMD_REPLY_ACK (R27, R33): when the write of word 2 has been acknowledged HEAD advances by one and the queue serves
nothing; the other registers of the queue, every ring and every operation stay. DRAIN_PENDING (R39): a command that
waits for a drain is answered DRAIN_PENDING with the entries still held, and goes on as a late command of its queue,
HEAD and SEQ. HEARTH_ABORT (R427 to R429): every operation of the ring and INDEX that may be aborted is; an engine that
runs one is told to stop, one that fetches or wipes for one starts its wipe with its operand memory cleared; one that waits
in the Hearth queue leaves it and ends at once with PK_ABORTED and RESULT 0; the command waits for the engines, and its
reply will count the operations; with nothing to abort nothing else changes. -/
def Obligations.RepliesEnd : Prop :=
  (∀ (s : State) (q : Nat) (v : Serving), (s.arrived? (.replyWord2 q)).isSome = true →
     (s.inst q).cq.serving = some v →
     ∃ t, exec (.cmdReplyAck q) s = .next (finish t) ∧
       (t.inst q).cq = { (s.inst q).cq with head := (s.inst q).cq.head + 1, serving := none } ∧
       t.tables = s.tables ∧ t.still = s.still ∧ ∀ j, j ≠ q → (t.inst j).cq = (s.inst j).cq) ∧
  (∀ (s : State) (q : Nat) (v : Serving), (s.inst q).cq.serving = some v → v.reply = none → v.wait.drains = true →
     ∃ t, exec (.drainPending q) s = .next (finish t) ∧
       t.study.late = s.study.late ++ [⟨q, (s.inst q).cq.head, BitVec.ofNat 32 (pkSeq v.pkt), v.wait⟩] ∧
       t.still = s.still ∧ t.ops = s.ops ∧ t.rings = s.rings ∧
       (t.inst q).cq.serving = some { v with
         wait := .none, reply := some ⟨.drainPending, 0, leBytes 4 (drainCount s v.wait) ++ leBytes 4 0, false⟩ }) ∧
  (∀ (s : State) (q : Nat) (p : List Byte) (r : Ring), Taken q 0x70 p s → tget (par 0 2 p) s.rings = some r →
     let l := s.ops.filter (fun o => o.ring == par 0 2 p && abortable s o &&
       (par 4 4 p == 0xFFFFFFFF || o.head.idx.toNat == par 4 4 p))
     ∃ t, exec (.hearthAbort q) s = .next (finish t) ∧
       (∃ v, (t.inst q).cq.serving = some v ∧ v.pkt = p ∧ v.wait = .abort (l.map (·.id)) l.length ∧ v.reply = none) ∧
       (∀ (k : Nat) (e : Engine), ∀ o ∈ l, s.hearth.engines[k]? = some e → e.op = some o.id →
         t.hearth.engines[k]? = some (if e.state = .run
           then { e with abort := true, after := e.after <|> some .pkAborted }
           else { e with abort := true, after := e.after <|> some .pkAborted, state := .wipe, hdr := [], data := [],
                         regs := EngRegs.zero })) ∧
       (∀ o ∈ l, Current o s → (l.map (·.id)).Nodup → o.phase = .hearth → o.ran = true →
         (∀ e ∈ s.hearth.engines, e.op ≠ some o.id) →
         (∃ x, t.op? o.id = some x ∧ x.status = .pkAborted ∧ x.result = 0) ∧ ∀ y ∈ t.hearth.queue, y.2 ≠ o.id) ∧
       (l = [] → Waiting q (.abort [] 0) (inService q p s) t))

/-- CMD_QUEUE_ENABLE and CMD_QUEUE_DISABLE: a rise of ENABLE takes BASE and clears HEAD, TAIL, FABRIC_ERR and OVERRUN
(R24); a fall keeps the rest, and a packet being served stays in service (R25); a fall of the manager's ENABLE also
rolls back an open transaction whose TXN_COMMIT has not been taken (R68, R70). CMD_QUEUE_TAIL_WRITE (R26): the tail
moves to v when v is at most the queue's entries beyond HEAD and beyond TAIL; otherwise TAIL stays and OVERRUN is set.
Nothing else changes. -/
def Obligations.CommandQueueRegisters : Prop :=
  ((∀ (s : State) (page : Nat) (strb : BitVec 8) (data : Word), PageOk page 0x1100 strb s → data.getLsbD 0 = true →
     (s.inst page).cq.enable = false →
     ∃ t, exec (.cmdQueueEnable page strb data) s = .next (finish t) ∧
       t.inst page = { s.inst page with cq := { (s.inst page).cq with
         base := bits data 51 12 * 4096, enable := true, tail := 0, head := 0, fabErr := false, overrun := false } } ∧
       (∀ j, j ≠ page → t.inst j = s.inst j) ∧ t.tables = s.tables ∧ t.still = (onPage page 0x1100 s).still) ∧
   (∀ (s : State) (page : Nat) (strb : BitVec 8) (data : Word), PageOk page 0x1100 strb s → data.getLsbD 0 = false →
     (s.inst page).cq.enable = true →
     ∃ t, exec (.cmdQueueDisable page strb data) s = .next (finish t) ∧
       (t.inst page).cq.regs = { (s.inst page).cq with enable := false }.regs ∧
       (t.inst page).cq.serving = (s.inst page).cq.serving ∧ (t.inst page).cq.rdOut = false ∧
       (∀ j, j ≠ page → t.inst j = s.inst j) ∧ t.tables = s.tables ∧
       (page ≠ 0 ∨ s.txn.opened = false ∨ s.txn.taken = true → t.still = (onPage page 0x1100 s).still) ∧
       (page = 0 → s.txn.opened = true → s.txn.taken = false → t.txn = { s.txn with
         opened := false, lastEnd := 4, staged := [], aborted := s.txn.num :: s.txn.aborted }))) ∧
  (∀ (s : State) (page : Nat) (strb : BitVec 8) (data : Word), PageOk page 0x1108 strb s →
     let v := BitVec.ofNat 32 (bits data 31 0)
     let c := (s.inst page).cq
     ∃ t, exec (.cmdQueueTailWrite page strb data) s = .next (finish t) ∧
       t.inst page = { s.inst page with cq :=
         if (v - c.head).toNat ≤ queueSize page ∧ (v - c.tail).toNat ≤ queueSize page then { c with tail := v }
         else { c with overrun := true } } ∧
       (∀ j, j ≠ page → t.inst j = s.inst j) ∧ t.tables = s.tables ∧ t.still = (onPage page 0x1108 s).still)

/-! ### Keys, the lock and the store -/

/-- KEYMSG_APPLY (R388, R389): an envelope that fails one of steps 1 to 4 of Table 10-10 is answered with the status
of the first it fails; the KEYIN buffer is zero-filled, BUSY falls, and nothing else changes. KEYMSG_APPLY of an
envelope that passes Table 10-10 (R382, R388, R392): the class counter takes COUNTER; an ENROL_OWNER sets the owner's
keys, the two permits are held at once, and the reply is OK with KIND and COUNTER; a KEK_SET waits for the next round
boundary, or takes effect at once while the block is locked (R392, R398). One that fails step 5, 6 or 7 is answered
KEYMSG_SIG with the signatures that fail, KEYMSG_COUNTER, or the status of Table 10-12, the buffer is zero-filled, and
no counter and no key changes. So it is with an engine free, or with none in service; with engines in service and none free
the envelope waits for the next one, and nothing has taken effect (R390). -/
def Obligations.EnvelopesApply : Prop :=
  (∀ (s : State) (q : Nat) (p : List Byte) (st : Status) (d : Nat), Taken q 0x40 p s → envWaits q s = false →
     envEarly s p s.keys.envelope = some (st, d) →
     ∃ t, exec (.keymsgApply q) s = .next (finish t) ∧
       Replied q st d []
         ((wakeForCommand (inService q p s)).withKeys { s.keys with keyin := [], keyinOvf := false, keyinBusy := false }) t) ∧
  (∀ (s : State) (q : Nat) (p secret : List Byte), Taken q 0x40 p s → envWaits q s = false → s.locking = false →
     Sound s → s.idleEngine.isSome = true ∨ s.engines.any Engine.inService = false →
     let e := s.keys.envelope
     envEarly s p e = none → envLate s e = .ok secret →
     ∃ t, exec (.keymsgApply q) s = .next (finish t) ∧ t.keys.keyin = [] ∧
       (field 6 2 e = 0x01 → t.cel = { s.cel with
         ctr0 := field 16 8 e, ownerEc := slice 64 97 e, ownerPq := slice 168 1952 e, owned := true }) ∧
       (field 6 2 e = 0x10 → t.cel = { s.cel with ctr2 := field 16 8 e } ∧ t.keys.permit = some (field 64 4 e)) ∧
       (field 6 2 e = 0x11 → t.cel = { s.cel with ctr3 := field 16 8 e } ∧
         t.keys.diag = some ⟨BitVec.ofNat 32 (field 64 4 e), field 68 4 e, field 72 8 e⟩) ∧
       (field 6 2 e ≠ 2 → t.keys.keyinBusy = false ∧
         Answered q p .ok 0 (leBytes 8 (field 6 2 e) ++ leBytes 8 (field 16 8 e)) t) ∧
       (field 6 2 e = 2 → s.cel.locked = false → t.cel = { s.cel with ctr1 := field 16 8 e } ∧
         t.keys.kekPending = some (field 56 2 e, field 68 2 secret, slice 0 32 secret, field 64 4 secret,
           slice 32 32 secret) ∧
         ∃ v, (t.inst q).cq.serving = some v ∧ v.pkt = p ∧ v.wait = .kekSet ∧ v.reply = none) ∧
       (field 6 2 e = 2 → s.cel.locked = true → t.cel.ctr1 = field 16 8 e ∧ t.cel.locked = true ∧
         t.keys.kekPending = none ∧ t.keys.keyinBusy = false ∧
         Answered q p .ok 0 (leBytes 8 2 ++ leBytes 8 (field 16 8 e)) t ∧
         KekTaken s (field 56 2 e) (field 68 2 secret) (field 64 4 secret) (slice 0 32 secret) (slice 32 32 secret) t)) ∧
  (∀ (s : State) (q : Nat) (p : List Byte) (st : Status) (d : Nat), Taken q 0x40 p s → envWaits q s = false →
     s.locking = false → Sound s → s.idleEngine.isSome = true ∨ s.engines.any Engine.inService = false →
     let e := s.keys.envelope
     envEarly s p e = none → envLate s e = .error (st, d) →
     (envSigs s.cel e ≠ 0 → st = .keymsgSig ∧ d = envSigs s.cel e) ∧
     (envSigs s.cel e = 0 → field 16 8 e ≤ s.cel.ctr (field 6 2 e) → st = .keymsgCounter ∧ d = 0) ∧
     (envSigs s.cel e = 0 → s.cel.ctr (field 6 2 e) < field 16 8 e →
       field 6 2 e = 2 ∧ kekFault s e = .error (st, d)) ∧
     ∃ t, exec (.keymsgApply q) s = .next (finish t) ∧ Answered q p st d [] t ∧ t.cel = s.cel ∧
       t.keys = { s.keys with keyin := [], keyinOvf := false, keyinBusy := false } ∧
       (∀ j, (t.inst j).body = (s.inst j).body) ∧ t.pan = s.pan ∧ t.ops = s.ops ∧ t.rings = s.rings) ∧
  (∀ (s : State) (q : Nat) (p : List Byte), Taken q 0x40 p s → envWaits q s = false → s.locking = false →
     envEarly s p s.keys.envelope = none → s.idleEngine = none → s.engines.any Engine.inService = true →
     ∃ t, exec (.keymsgApply q) s = .next (finish t) ∧ t.cel = s.cel ∧
       t.keys = { s.keys with keyinBusy := true, engineMs := 0 } ∧
       ∃ v, (t.inst q).cq.serving = some v ∧ v.pkt = p ∧ v.wait = .engine ∧ v.reply = none)

/-- UNLOCK (R574, R575): the first failed check of Table 16-5 is answered and nothing else changes; one that passes
zeroises the permit, unlocks the block, clears the flags, lets the alarm output rise and waits for the round boundary.
-/
def Obligations.UnlockPasses : Prop :=
  ∀ (s : State) (q : Nat) (p : List Byte), Taken q 0x41 p s →
    ∃ t, exec (.unlock q) s = .next (finish t) ∧
      (∀ st, unlockFault s = some st → Replied q st 0 [] (inService q p s) t) ∧
      (unlockFault s = none →
        t.cel = { s.cel with locked := false, lockDone := false, lockOnWake := false, zeroised := false, flags := 0,
                             level := 0, alarmN := false } ∧
        t.keys = { s.keys with permit := none } ∧ t.tables = s.tables ∧ t.txn = s.txn ∧
        ∃ v, (t.inst q).cq.serving = some v ∧ v.pkt = p ∧ v.wait = .unlock ∧ v.reply = none)

/-- LARDER_ATTACH (R343, R369): a wrong region is answered CMD_PARAM with its offset; attached regions LARDER_ATTACHED; a
store that is not valid, dirty or of another size attaches stale; with no top node written it attaches current at once;
otherwise every written top node is read, and a halted port of one leaves the store stale. NODE_READ_RETURN during an
attach: a node whose MAC holds is kept, the next ones are read, and when none is missing the store is current and the reply
OK; one whose MAC fails leaves the store stale with no node, answered LARDER_STALE. LARDER_RESET (R370): a new store
generation with an all-zero tree, no resident context and an empty node cache; otherwise the first check that fails is
answered, LARDER_NOT_ATTACHED, LARDER_BUSY or LARDER_EXHAUSTED, and nothing changes. That a halted port ends the attach is
the model's choice (log entry 58). -/
def Obligations.StoreCommands : Prop :=
  (∀ (s : State) (q : Nat) (p : List Byte), s.Inv → Taken q 0xA0 p s →
     let u := wakeForCommand (inService q p s)
     let lar := { s.lar with
       attached := true, stale := true, blobBase := par 0 8 p, treeBase := par 8 8 p, blobCount := par 16 4 p, nodes := [] }
     let top := (List.range 4).filter (fun n => (s.cel.treeRoot.at n).isSome)
     ∃ t, exec (.larderAttach q) s = .next (finish t) ∧
       (∀ d, attachFault p = some d → Replied q .cmdParam d [] u t) ∧
       (attachFault p = none → s.lar.attached = true → Replied q .larderAttached 0 [] u t) ∧
       (attachFault p = none → s.lar.attached = false →
         s.cel.valid = false ∨ s.cel.dirty = true ∨ s.cel.blobCount ≠ par 16 4 p →
         Replied q .larderStale 0 [] (u.withLar lar) t) ∧
       (attachFault p = none → s.lar.attached = false → s.cel.valid = true → s.cel.dirty = false →
         s.cel.blobCount = par 16 4 p →
         (top = [] → t.lar = { lar with stale := false } ∧ Answered q p .ok 0 [] t) ∧
         (top ≠ [] → (∀ n ∈ top, (s.port n).halted = false) → t.lar = lar ∧ (∀ n ∈ top, nodeComing t 3 n = true) ∧
           ∃ v, (t.inst q).cq.serving = some v ∧ v.pkt = p ∧ v.wait = .attach ∧ v.reply = none) ∧
         ((∃ n ∈ top, (s.port n).halted = true) → t.lar = lar ∧ Answered q p .larderStale 0 [] t))) ∧
  (∀ (s : State) (level n ctr : Nat) (b : List Byte) (v : Serving), s.Inv → (s.inst 0).cq.serving = some v →
     v.wait = .attach → s.unitsRun = true → s.arrived? (.node level n) = some b → (∀ k, (s.port k).halted = false) →
     (s.parentCtrs level n).bind (fun c => c.at (childOf level n)) = some ctr →
     ∃ t, exec (.nodeReadReturn level n) s = .next (finish (redispatch t)) ∧ t.pan = s.pan ∧ t.ops = s.ops ∧
       t.cel = s.cel ∧
       (slice 56 8 b ≠ nodeMac s level n ctr (b.take 56) →
         t.lar = { s.lar with nodes := [] } ∧ Answered 0 v.pkt .larderStale 0 [] t) ∧
       (slice 56 8 b = nodeMac s level n ctr (b.take 56) → s.node? level n = none → s.lar.nodes.length < 16384 →
         (t.node? level n).map (·.c) = some (Ctrs.ofBytes b) ∧
         (attachNeeds t = [] → t.lar.stale = false ∧ Answered 0 v.pkt .ok 0 [] t) ∧
         (attachNeeds t ≠ [] → (t.inst 0).cq.serving = some v ∧ t.lar.stale = s.lar.stale ∧
           ∀ x ∈ attachNeeds t, nodeComing t x.1 x.2 = true))) ∧
  (∀ (s : State) (q : Nat) (p : List Byte), Taken q 0xA1 p s →
     let u := wakeForCommand (inService q p s)
     let busy := s.insts.any (fun p => p.1 != 0 && p.2.state != .absent && p.2.state != .quiesced) ||
       s.ops.any (fun o => o.ref.isSome)
     ∃ t, exec (.larderReset q) s = .next (finish t) ∧
       (s.lar.attached = false → Replied q .larderNotAttached 0 [] u t) ∧
       (s.lar.attached = true → busy = true → Replied q .larderBusy 0 [] u t) ∧
       (s.lar.attached = true → busy = false → 0xFFFFFFFF ≤ s.cel.storeGen →
         Replied q .larderExhausted 0 [] u t) ∧
       (s.lar.attached = true → busy = false → s.cel.storeGen < 0xFFFFFFFF →
         t.cel = { s.cel with
           storeGen := s.cel.storeGen + 1, treeRoot := Ctrs.zero, blobCount := s.lar.blobCount, valid := true,
           dirty := false } ∧
         t.pan.slots = [] ∧ t.lar = { s.lar with stale := false, nodes := [], fetches := [], misses := [] } ∧
         Answered q p .ok 0 (leBytes 4 (s.cel.storeGen + 1) ++ leBytes 4 0) t))

/-- KEYIN_DATA_WRITE and KEYIN_CLEAR (R387, Table 10-9): while MAIN is up and no envelope is served, a full write
appends a word, or sets OVERFLOW on a full buffer, and a 1 to CLEAR empties it; a narrow write, or one while BUSY,
sets IGNORED alone. -/
def Obligations.KeyinPort : Prop :=
  ∀ (s : State) (data : Word), s.pins.mainUp = true →
    (s.keyinServed = false →
      (∃ t, exec (.keyinDataWrite 0xFF data) s = .next (finish t) ∧ t.tables = s.tables ∧ t.insts = s.insts ∧
        t.keys = if s.keys.keyin.length ≥ 1024 then { s.keys with keyinOvf := true }
          else { s.keys with keyin := s.keys.keyin ++ [data] }) ∧
      (∃ t, exec (.keyinClear 0xFF data) s = .next (finish t) ∧ t.tables = s.tables ∧ t.insts = s.insts ∧
        t.keys = if data.getLsbD 0 then { s.keys with keyin := [], keyinOvf := false } else s.keys)) ∧
    (∀ strb : BitVec 8, strb ≠ 0xFF ∨ s.keyinServed = true →
      (∃ t, exec (.keyinDataWrite strb data) s = .next t ∧
        t = (answerWrite 0x10040100 s).withKeys { s.keys with keyinIgn := true }) ∧
      (∃ t, exec (.keyinClear strb data) s = .next t ∧
        t = (answerWrite 0x10040108 s).withKeys { s.keys with keyinIgn := true }))

/-! ### Firmware -/

/-- FW_STAGE (R529, R588, R591 to R593, R607): a command that fails a check of R592 is answered with its status and changes
nothing; one that passes makes the slot of its TARGET invalid, waits, and asks for block 0 at ADDR (STAGE_FORWARD also clears
the stage bits of STU_FW_CHAIN). A block whose CRC-32C is right goes to its place in the Attic, and its acknowledgement asks
for the next; a wrong one ends the stage with FW_IMAGE_FORMAT and the index. After the last acknowledgement a bundle that
passes Table 17-3 makes its slot valid and is answered with its blocks, KEEP only when it is the image that runs; any other
ends the stage with its status. That a halted hw0 answers FW_FABRIC is the model's choice (log entry 94). -/
def Obligations.BundleStaged : Prop :=
  (∀ (s : State) (q : Nat) (p : List Byte) (c : Instr), s.Inv → Taken q 0x50 p s →
     (par 0 1 p = 1 ∧ c = .stageForward q ∨ par 0 1 p = 2 ∧ c = .keep q ∨
       par 0 1 p ≠ 1 ∧ par 0 1 p ≠ 2 ∧ c = .stage q) →
     (∀ st d, stageFaultFw s p = some (st, d) →
       ∃ t, exec c s = .next (finish t) ∧ Replied q st d [] (inService q p s) t) ∧
     (stageFaultFw s p = none → (s.port 0).halted = true → q = 0 →
       ∃ t, exec c s = .next (finish t) ∧ Answered 0 p .fwFabric 0 [] t) ∧
     (stageFaultFw s p = none → (s.port 0).halted = false →
       ∃ t, exec c s = .next (finish t) ∧ ReadDue 0 (par 8 8 p) (.image 0) t ∧
         (∃ v, (t.inst q).cq.serving = some v ∧ v.pkt = p ∧ v.wait = .stage) ∧ t.tables = s.tables ∧
         t.fw = { s.fw with
           state := .staging, stageBlocks := 0, copy := some ⟨par 0 1 p, par 8 8 p, par 16 4 p / 4096, []⟩,
           runValid := s.fw.runValid && par 0 1 p != 2, freeValid := s.fw.freeValid && par 0 1 p == 2,
           fromStair := s.fw.fromStair && par 0 1 p == 2, runStair := s.fw.runStair && par 0 1 p != 2,
           fwdHere := s.fw.fwdHere || par 0 1 p == 1,
           chain := if par 0 1 p = 1 then s.fw.chain &&& 0xFFFF0000 else s.fw.chain })) ∧
  (∀ (s : State) (c : Copy) (b : List Byte), s.Inv → s.boot.run = none → s.fw.landing = none → s.fw.copy = some c →
     let i := c.blocks.length
     let t := deliverWhole (.image i) b s
     (blockOk b = true → (s.port 0).halted = false →
       t.fw = { s.fw with copy := some { c with blocks := c.blocks ++ [b] } } ∧
         WriteDue 0 (s.slotAddr (c.target == 2) + 4096 * i) (.attic i) t) ∧
     (blockOk b = false →
       t.fw = { s.fw with copy := none, state := .idle, lastStatus := Status.fwImageFormat.code.toNat } ∧
         ∀ v, (s.inst 0).cq.serving = some v → Answered 0 v.pkt .fwImageFormat i [] t)) ∧
  (∀ (s : State) (c : Copy) (w : Wr) (i : Nat), s.Inv → s.fw.copy = some c → s.fw.fwding = false →
     w.owner = .attic i → writesLeft s 0 Owner.firmware = 0 →
     let t := writeAcked 0 w s
     let n := c.blocks.length
     let fault := bundleFault s.build (if c.target = 2 then none else some s.fw.floor) c.blocks
     (n < c.n → (s.port 0).halted = false →
       t.fw = { s.fw with stageBlocks := n } ∧ ReadDue 0 (c.addr + 4096 * n) (.image n) t) ∧
     (∀ st d, n = c.n → fault = some (st, d) →
       t.fw = { s.fw with stageBlocks := n, copy := none, state := .idle, lastStatus := st.code.toNat } ∧
         ∀ v, (s.inst 0).cq.serving = some v → Answered 0 v.pkt st d [] t) ∧
     (n = c.n → fault = none → c.target = 2 → (c.blocks.headD []).take 608 ≠ (s.fw.sram.headD []).take 608 →
       ∀ v, (s.inst 0).cq.serving = some v → Answered 0 v.pkt .fwNotRunningImage 0 [] t) ∧
     (n = c.n → fault = none → (c.target = 2 → (c.blocks.headD []).take 608 = (s.fw.sram.headD []).take 608) →
       (∀ v, (s.inst 0).cq.serving = some v → Answered 0 v.pkt .ok 0 (leBytes 4 n ++ leBytes 4 0) t) ∧
       (c.target = 2 → t.fw = { s.fw with stageBlocks := n, copy := none, state := .idle, runValid := true }) ∧
       (c.target ≠ 2 → t.fw = { s.fw with
         stageBlocks := n, copy := none, state := .idle, freeValid := true, freeHdr := c.blocks.headD [] })))

/-- FW_ACTIVATE and FW_CONFIRM (R594, R596, R598, R610): REBUILD_AT and REBUILD_CHAIN that pass Table 17-6 arm the
block for TICK; CANCEL disarms it; FW_CONFIRM in TRIAL ends it, sets the floor and frees the other slot, and otherwise
is answered FW_NOT_PENDING. -/
def Obligations.ActivationArms : Prop :=
  ∀ (s : State) (q : Nat) (p : List Byte),
    (Taken q 0x51 p s → activateCheck (inService q p s) p = none →
      (par 0 1 p = 1 → ∃ t, exec (.rebuildAt q) s = .next (finish t) ∧
        Replied q .fwScheduled 0 (imageBody s.fw.staged) ((inService q p s).withFw { s.fw with
          state := .armed, tick := par 8 8 p, armedHere := true, byChain := false }) t) ∧
      (par 0 1 p = 2 → ∃ t, exec (.rebuildChain q) s = .next (finish t) ∧
        Answered q p .fwScheduled 0 (imageBody s.fw.staged) t ∧
        t.fw = { s.fw with state := .armed, tick := par 8 8 p, armedHere := true, byChain := true,
                           chain := s.fw.chain &&& 0x0000FFFF }) ∧
      (par 0 1 p = 3 → ∃ t, exec (.cancel q) s = .next (finish t) ∧ Answered q p .ok 0 (imageBody 0) t ∧
        t.fw = { s.fw with state := .idle, tick := 0, armedHere := false, byChain := false })) ∧
    (Taken q 0x52 p s →
      (s.fw.state = .trial → ∃ t, exec (.fwConfirm q) s = .next (finish t) ∧ Answered q p .ok 0 [] t ∧
        t.fw = { s.fw with state := .idle, floor := max s.romFloor (secFloor (s.fw.sram.headD [])), freeValid := false,
                           armedHere := false, byChain := false }) ∧
      (s.fw.state ≠ .trial → ∃ t, exec (.fwConfirm q) s = .next (finish t) ∧
        Replied q .fwNotPending 0 [] (inService q p s) t))

/-- HANDOVER and ARMED_TICK (R12, R588, R595 to R597, Table 17-7): an activation that passes Table 17-6 lowers cmd_rdy, keeps
rings and operations, and reads the staged bundle from block 1 on; when its last block has come, its digest holds and the
image's own check passes, the staged image runs in TRIAL, at once or after the time that Landing takes. A HANDOVER waits, and
holds its own queue only, while another packet is unanswered (R37, R43). TRIAL_TIMEOUT (R599, R600): unlocked and unconfirmed
for 10 s, the block reads the bundle that ran before, starts it if it passes Table 17-3, and LAST_STATUS is FW_FELL_BACK.
That Landing's time is counted in µs is the model's choice (log entry 66). -/
def Obligations.FirmwareActivates : Prop :=
  (∀ (s : State) (x : LandingRun), s.Inv → (s.port 0).halted = false →
     (∀ (q : Nat) (p : List Byte), Taken q 0x51 p s → par 0 1 p = 0 → activateCheck (inService q p s) p = none →
       servingWaits q .handover s = false →
       ∃ t, exec (.handover q x) s = .next (finish t) ∧
         (quietStudy (some q) s = true → Lands 0 x s t ∧ ReadDue 0 (s.slotAddr false + 4096) (.image 1) t) ∧
         (quietStudy (some q) s = false → Waiting q .handover (inService q p s) t)) ∧
     (s.pins.mainUp = true → s.fw.landing = none → s.pwr.softReset = none → s.fw.state = .armed → s.fw.tick ≤ s.tickNow →
       ∃ t, exec (.armedTick x) s = .next (finish t) ∧ Lands 1 x s t ∧
         ReadDue 0 (s.slotAddr false + 4096) (.image 1) t) ∧
     (s.pins.mainUp = true → s.fw.landing = none → s.pwr.softReset = none → s.fw.state = .trial → s.fw.fwding = false →
       s.cel.locked = false →
       ∃ t, exec (.trialTimeout x) s = .next (finish t) ∧ Lands 2 x s t ∧ ReadDue 0 (s.slotAddr false) (.image 0) t ∧
         t.fw.state = .fallingBack ∧ t.fw.lastStatus = Status.fwFellBack.code.toNat ∧
         t.fw.runSlot = !s.fw.runSlot ∧ t.fw.runValid = s.fw.freeValid)) ∧
  (∀ (s : State) (l : Landing) (b : List Byte), s.boot.run = none → s.fw.landing = some l → s.txn.opened = false →
     blockOk b = true → ({ l with got := l.got ++ [b] } : Landing).total ≤ l.got.length + 1 →
     let t := deliverWhole (.image l.got.length) b s
     (0 < l.us → (l.kind < 2 → digestOk (l.got.headD b) ((l.got ++ [b]).drop 1) = true ∧ l.run.selfCheck = true) →
       t = { s with fw := { s.fw with landing := some { l with got := l.got ++ [b], reading := false } } }) ∧
     (l.us = 0 → l.kind < 2 → digestOk (l.got.headD b) ((l.got ++ [b]).drop 1) = true → l.run.selfCheck = true →
       NewImage s (l.got ++ [b]) t) ∧
     (l.us = 0 → l.kind = 2 → bundleFault s.build none (l.got ++ [b]) = none →
       t.fw.state = .idle ∧ t.fw.sram = l.got ++ [b] ∧ t.fw.imageRuns = true ∧ t.study.cmdRdy = true)) ∧
  (∀ (s : State) (l : Landing), s.pins.mainUp = true → s.fw.landing = some l → l.us = 1 → l.reading = false →
     l.kind < 2 → s.txn.opened = false → s.boot.step = 0x0A → s.diag.asserted = [] →
     ∃ t, exec .evictionTokenRefill s = .next (finish (redispatch t)) ∧ NewImage s l.got t)

/-- The messages of the chain (R607 to R612) over a link whose version has them (R546): a first forwarded block starts a
forwarded stage, and one that comes while STATE is not IDLE starts none (R608); an abort ends it with the free slot invalid; a
report that this block asked for sets its bit of STU_FW_CHAIN, any other is passed up; an ARM that passes arms, its CANCEL
disarms; a CONFIRM ends the TRIAL of a block that an ARM activated. Over any other link no message changes anything. -/
def Obligations.ChainMessages : Prop :=
  ∀ s : State, s.pins.mainUp = true → s.fw.imageRuns = true →
    (∀ b : FwdBlock, s.hop false 0x0101 = true → b.index = 0 →
      (s.fw.enable = true → s.cel.locked = false → s.fw.state = .idle → blockOk b.bytes = true → s.Inv →
        (s.port 0).halted = false →
        ∃ t, exec (.forwardedBlock b) s = .next (finish t) ∧
          t.fw = { s.fw with state := .staging, fwding := true, fwdLast := b.last, fwd := [b.bytes], freeValid := false,
                             fromStair := true, fwdHere := false, stageBlocks := 0 } ∧
          t.tables = s.tables ∧ WriteDue 0 (s.slotAddr false) (.attic 0) t) ∧
      (s.fw.enable = false ∨ s.cel.locked = true ∨ s.fw.state ≠ .idle →
        ∃ t, exec (.forwardedBlock b) s = .next (finish t) ∧ t.fw = s.fw ∧ t.tables = s.tables ∧
          t.link false = Link.send 0x0101 (.report .stageFailed s.position) (s.link false))) ∧
    (∀ (w : Wr) (i : Nat), w.owner = .attic i → s.fw.copy = none → s.fw.fwding = true → s.fw.fwdLast = true →
      writesLeft s 0 Owner.firmware = 0 →
      let f := { s.fw with
        state := .idle, fwding := false, fwdLast := false, fwd := [], stageBlocks := s.fw.fwd.length }
      (bundleFault s.build (some s.fw.floor) s.fw.fwd = none →
        (writeAcked 0 w s).fw = { f with freeValid := true, freeHdr := s.fw.fwd.headD [] }) ∧
      (∀ st d, bundleFault s.build (some s.fw.floor) s.fw.fwd = some (st, d) →
        (writeAcked 0 w s).fw = { f with freeValid := false, lastStatus := st.code.toNat })) ∧
    (s.hop false 0x0101 = true → ∃ t, exec .stageAbort s = .next (finish t) ∧ t.tables = s.tables ∧
      t.link true = Link.send 0x0101 .abortStage (s.link true) ∧
      (s.fw.fwding = true →
        t.fw = { s.fw with state := .idle, fwding := false, fwdLast := false, fwd := [], freeValid := false }) ∧
      (s.fw.fwding = false → t.fw = { s.fw with freeValid := false })) ∧
    (∀ (r : ReportKind) (pos : Nat), s.hop true (if reportBase r < 16 then 0x0101 else 0x0102) = true → pos < 8 →
      ∃ t, exec (.chainReport r pos) s = .next (finish t) ∧ t.tables = s.tables ∧
        (startedHere s r = true →
          t.fw = { s.fw with chain := s.fw.chain ||| ((1 : BitVec 32) <<< (reportBase r + pos)) }) ∧
        (startedHere s r = false → t.fw = s.fw ∧ t.link false =
          Link.send (if reportBase r < 16 then 0x0101 else 0x0102) (.report r pos) (s.link false))) ∧
    (∀ (b : FwdBlock) (m : ArmMsg) (r : ReportKind) (pos : Nat), ∀ c ∈ ([.forwardedBlock b, .stageAbort, .arm m, .confirm,
        .chainReport r pos] : List Instr), s.hop false 0x0101 = false → s.hop true 0x0101 = false →
      ∃ t, exec c s = .next (finish t) ∧ t.fw = s.fw ∧ t.stair = s.stair ∧ t.tables = s.tables) ∧
    (∀ m : ArmMsg, s.hop false 0x0102 = true → m.cancel = true → s.fw.state = .armed → s.fw.byChain = true →
      s.fw.armedHere = false →
      ∃ t, exec (.arm m) s = .next (finish t) ∧ t.tables = s.tables ∧
        t.fw = { s.fw with state := .idle, tick := 0, byChain := false }) ∧
    (∀ m : ArmMsg, s.hop false 0x0102 = true → m.cancel = false → s.cel.locked = false → slice 64 48 s.fw.freeHdr = m.digest →
      activateFault s true = none →
      ∃ t, exec (.arm m) s = .next (finish t) ∧ t.tables = s.tables ∧
        t.fw = { s.fw with state := .armed, tick := m.tick, armedHere := false, byChain := true }) ∧
    (s.hop false 0x0102 = true → s.fw.state = .trial → s.fw.byChain = true → s.fw.armedHere = false →
      ∃ t, exec .confirm s = .next (finish t) ∧ t.tables = s.tables ∧
        t.fw = { s.fw with state := .idle, floor := max s.romFloor (secFloor (s.fw.sram.headD [])), freeValid := false,
                           armedHere := false, byChain := false })

/-- MICROCODE_LOAD and ATTIC_WRITE (R431, R603, R613): an engine in LOADING holds nothing, takes the bundle's
microcode and goes into self-test; a write to STU_ATTIC in IDLE takes BASE while ENABLE is 0 and a rise of ENABLE
makes both slots invalid; outside IDLE it changes nothing. -/
def Obligations.MicrocodeAndAttic : Prop :=
  (∀ (s : State) (n : Nat) (e : Engine), s.engines[n]? = some e → e.state = .loading → s.fw.imageRuns = true →
    s.unitsRun = true → ∃ t, exec (.microcodeLoad n) s = .next t ∧ t.still = s.still ∧ t.insts = s.insts ∧ t.ops = s.ops ∧
      t.hearth.engines[n]? = some { e with
        owner := none, op := none, hdr := [], data := [], regs := EngRegs.zero, valDone := none, state := .test,
        drain := false, ucode := s.fw.ucode } ∧
      ∀ m, m ≠ n → t.hearth.engines[m]? = s.hearth.engines[m]?) ∧
  (∀ (s : State) (strb : BitVec 8) (data : Word), UnitOk 0x10200 strb s →
    (s.fw.state ≠ .idle → exec (.atticWrite strb data) s = .next (finish (onUnit 0x10200 s))) ∧
    (s.fw.state = .idle → exec (.atticWrite strb data) s = .next (finish ((onUnit 0x10200 s).withFw { s.fw with
      base := if s.fw.enable then s.fw.base else bits data 51 22 * 2 ^ 22, enable := data.getLsbD 0,
      runValid := s.fw.runValid && !(data.getLsbD 0 && !s.fw.enable),
      freeValid := s.fw.freeValid && !(data.getLsbD 0 && !s.fw.enable) }))))

/-! ### Rings and event queues -/

/-- DOORBELL (R132, R135) of a ring that takes tails and waits for no harvest: a tail ahead of TAIL and within the
ring moves TAIL; one beyond it starts the harvest read instead; one that is not ahead sets BEHIND alone; no other ring
changes. DOORBELL refused (R132, R135): of a ring that is absent or not the page's own it sets FOREIGN, of one that is
being reset or destroyed STALE, written narrow PARTIAL with LAST_RING kept; no ring changes. HARVEST_READ_RETURN
(R135, R136): a harvest index within its bounds is taken, the doorbell that asked for it moves TAIL when it is within
the ring of the new HARVEST, and no read is outstanding any more; a doorbell beyond the ring stops a running ring at CONSUMED
with RING_OVERRUN, and an index outside its bounds with RING_HARVEST_BAD (R162, R163). -/
def Obligations.DoorbellsRung : Prop :=
  (∀ (s : State) (page : Nat) (strb : BitVec 8) (data : Word) (r : Ring), PageOk page 0 strb s →
     let n := bits data 47 32
     let v : Idx := BitVec.ofNat 32 (bits data 31 0)
     tget n s.rings = some r → r.owner = page → r.state ≠ .resetting → r.state ≠ .destroying → r.harvOut = none →
     ∃ t, exec (.doorbell page strb data) s = .next (finish t) ∧ (∀ k, k ≠ n → tget k t.rings = tget k s.rings) ∧
       (0 < (v - r.tail).toNat → (v - r.tail).toNat < 0x80000000 → (v - r.harvest).toNat ≤ r.size →
         (∀ o ∈ s.ops, o.ring = n → o.phase ≠ .chain) →
         ∃ st, tget n t.rings = some { r with tail := v, dbStamps := r.dbStamps ++ [(v, st)] } ∧ t.ops = s.ops) ∧
       (0 < (v - r.tail).toNat → (v - r.tail).toNat < 0x80000000 → r.size < (v - r.harvest).toNat →
         ∃ st, tget n t.rings = some { r with harvOut := some (v, st) } ∧ t.ops = s.ops) ∧
       (v = r.tail ∨ 0x80000000 ≤ (v - r.tail).toNat →
         t.rings = s.rings ∧ t.ops = s.ops ∧
           (t.inst page).db = { (s.inst page).db with behind := true, lastRing := n })) ∧
  ((∀ (s : State) (page : Nat) (strb : BitVec 8) (data : Word), PageOk page 0 strb s →
     let n := bits data 47 32
     ∃ t, exec (.doorbell page strb data) s = .next (finish t) ∧
       ((∀ r, tget n s.rings = some r → r.owner ≠ page) →
         t.rings = s.rings ∧ (t.inst page).db = { (s.inst page).db with foreign := true, lastRing := n }) ∧
       (∀ r, tget n s.rings = some r → r.owner = page → r.state = .resetting ∨ r.state = .destroying →
         t.rings = s.rings ∧ (t.inst page).db = { (s.inst page).db with stale := true, lastRing := n })) ∧
   (∀ (s : State) (page : Nat) (strb : BitVec 8) (data : Word), PageOk page 0 0xFF s → strb ≠ 0xFF →
     ∃ t, exec (.doorbell page strb data) s = .next (finish t) ∧ t.tables = s.tables ∧
       (t.inst page).db = { (s.inst page).db with partialW := true })) ∧
  (∀ (s : State) (n : Nat) (b : List Byte) (r : Ring) (v : Idx) (st : Nat), s.arrived? (.harvest n) = some b →
     tget n s.rings = some r → r.harvOut = some (v, st) → r.held = none →
     let h : Idx := BitVec.ofNat 32 (field 0 4 b)
     let inBounds := (r.consumed - h).toNat ≤ r.size ∧ (h - r.harvest).toNat ≤ r.size
     ∃ t, exec (.harvestReadReturn n) s = .next (finish t) ∧ (∀ k, k ≠ n → tget k t.rings = tget k s.rings) ∧
       (inBounds → (v - h).toNat ≤ r.size → (∀ o ∈ s.ops, o.ring = n → o.phase ≠ .chain) →
         tget n t.rings = some { r with
           harvest := h, harvOut := none, tail := v, dbStamps := r.dbStamps ++ [(v, st)] } ∧ t.ops = s.ops) ∧
       (inBounds → r.size < (v - h).toNat → r.state = .running →
         RingStopped n r.consumed r.consumed .ringOverrun r t) ∧
       (¬inBounds → r.state = .running → RingStopped n r.consumed r.consumed .ringHarvestBad r t))

/-- EVENT_QUEUE_ENABLE (R150): a rise of ENABLE takes BASE, sets HEAD and TAIL to 0, clears FABRIC_ERR and OVERFLOW,
sets ARMED, and leaves the pending bits, the mask and the interrupt settings as they stand. EVENT_QUEUE_HEAD_WRITE
(R151, R156): a head within its bounds is taken and arms the queue: ARMED is 1, unless a condition of R156 holds already, of
which the message then goes out at once; any other leaves HEAD and sets HEAD_BAD. That an elapsed TIME is kept until a
message is sent is the model's choice (log entry 80). -/
def Obligations.EventQueueRegisters : Prop :=
  (∀ (s : State) (page : Nat) (strb : BitVec 8) (data : Word), PageOk page 0x1200 strb s → data.getLsbD 0 = true →
     (s.inst page).eq.enable = false →
     ∃ t, exec (.eventQueueEnable page strb data) s = .next (finish t) ∧
       t.inst page = { s.inst page with eq := { (s.inst page).eq with
         base := bits data 51 16 * 65536, enable := true, tail := 0, head := 0, fabErr := false, overflow := false,
         armed := true, issued := 0, acked := [], inFlight := [], unsig := 0, flagSet := false, due := false } } ∧
       (∀ j, j ≠ page → t.inst j = s.inst j) ∧ t.tables = s.tables ∧ t.still = (onPage page 0x1200 s).still) ∧
  (∀ (s : State) (page : Nat) (strb : BitVec 8) (data : Word), PageOk page 0x1210 strb s →
     let v : Idx := BitVec.ofNat 32 (bits data 31 0)
     let e := (s.inst page).eq
     ∃ t, exec (.eventQueueHeadWrite page strb data) s = .next (finish t) ∧ t.tables = s.tables ∧
       ((v - e.head).toNat ≤ 4096 → (e.tail - v).toNat ≤ 4096 →
         Signals page { e with head := v, armed := true } s t) ∧
       (4096 < (v - e.head).toNat ∨ 4096 < (e.tail - v).toNat → (t.inst page).eq = { e with headBad := true }))

/-- EVENT_RECORD_ACK (R152, R156): the acknowledgement of a record in flight counts once: TAIL moves past the run of
acknowledged records that starts at it, also after FABRIC_ERR, what it has passed leaves the records in flight, one more record
is unsignalled, and the interrupt message goes out where R156 allows: 4 bytes at ADDR through hw0. COALESCING_TIMEOUT (R156):
the oldest unsignalled record has reached TIME: the message goes out, or while the queue is not armed, masked, or hw0 held
(R471, R480), it is kept that the record has reached TIME, and nothing else changes. That it is kept in the first two cases
is the model's choice (log entry 80). -/
def Obligations.RecordsSignal : Prop :=
  (∀ (s : State) (i : Nat) (n : Idx), arrivedRecord i s = some n →
     let e := (s.inst i).eq
     let tl := tailAfter (e.acked.length + 1) e.tail (n :: e.acked)
     ∃ t, exec (.eventRecordAck i) s = .next (finish t) ∧ t.tables = s.tables ∧
       (e.inFlight.any (fun r => r.1 == n) = true → e.acked.contains n = false →
         Signals i { e with
           tail := tl, acked := (n :: e.acked).filter (fun k => (k - tl).toNat < 2 ^ 31), unsig := e.unsig + 1,
           inFlight := e.inFlight.filter (fun r => (r.1 - tl).toNat < 2 ^ 31) } s t) ∧
       (e.inFlight.any (fun r => r.1 == n) = false ∨ e.acked.contains n = true →
         t = takeArrived (.eventRec i n) s)) ∧
  (∀ (s : State) (i : Nat), s.pins.mainUp = true →
     let e := (s.inst i).eq
     ∃ t, exec (.coalescingTimeout i) s = .next (finish t) ∧ t.tables = s.tables ∧
       Signals i { e with due := e.due || decide (0 < e.unsig) } s t ∧
       (e.armed = false ∨ e.mask = true ∨ (s.port 0).holdsWrites = true →
         t = modEq i (fun e => { e with due := e.due || decide (0 < e.unsig) }) s))

/-! ### The Hallway -/

/-- HALLWAY_READ_RESPONSE (R457, R463, R464, R506): the late response of a quarantined read frees its ID and is used for
nothing but the count of its beats (Table 20-7); a response whose parity fails or whose ID is not outstanding halts the
port; the data of a packet read that is whole arrives in its queue, the service order remembers it (R36), and a TXN_COMMIT
that passes the checks is taken with it (R29, R70). HALLWAY_WRITE_ACK (R460, R463, R464): the late acknowledgement of a
quarantined write frees its ID; an unmatched or bad one halts the port; the acknowledgement of word 2 of a reply reaches the
Study. -/
def Obligations.HallwayResponds : Prop :=
  (∀ (s : State) (n id : Nat) (status : BitVec 2) (data : List Byte), s.Inv → s.pins.mainUp = true → n < 8 →
     s.diag.armed = [] →
     (∀ r, (s.port n).rds.find? (fun x => x.id == id) = some r → r.quar = true →
       let u := modPort n (fun p => { p with rds := p.rds.filter (fun x => x.id != id) }) s
       exec (.hallwayReadResponse n id true status data) s =
         .next (afterPort n (if status = 0 then readBeats n r u else u))) ∧
     ((s.port n).rds.find? (fun x => x.id == id) = none →
       exec (.hallwayReadResponse n id true status data) s = .next (afterPort n (haltPort n 2 .fabricReadError 0 s))) ∧
     exec (.hallwayReadResponse n id false status data) s = .next (afterPort n (haltPort n 2 .fabricReadError 0 s)) ∧
     (∀ r q, (s.port n).rds.find? (fun x => x.id == id) = some r → r.quar = false → r.drop = false →
       r.owner = .cmdPacket q → r.off = 0 → 0 < r.len → (s.port n).rds.filter (fun x => x.owner == .cmdPacket q) = [r] →
       (s.port n).rdQ = [] → (∀ x ∈ s.hwy.pieces, x.1 ≠ .cmdPacket q) →
       let d := fillTo r.len (data.take r.len)
       ∃ t, exec (.hallwayReadResponse n id true 0 data) s = .next (afterPort n t) ∧
         (t.inst q).cq = { (s.inst q).cq with rdOut := false, arrived := some d } ∧ t.tables = (noteTaken q s).tables ∧
         t.txn = if q = 0 ∧ pkOpcode d = 0x31 ∧ packetFault s 0 d = none then { s.txn with taken := true } else s.txn)) ∧
  (∀ (s : State) (n id : Nat) (status : BitVec 2), s.Inv → s.pins.mainUp = true → n < 8 → s.diag.armed = [] →
     (∀ w, (s.port n).wrs.find? (fun x => x.id == id) = some w → w.quar = true →
       exec (.hallwayWriteAck n id true status) s =
         .next (afterPort n (modPort n (fun p => { p with wrs := p.wrs.filter (fun x => x.id != id) }) s))) ∧
     ((s.port n).wrs.find? (fun x => x.id == id) = none →
       exec (.hallwayWriteAck n id true status) s = .next (afterPort n (haltPort n 2 .fabricWriteError 0 s))) ∧
     exec (.hallwayWriteAck n id false status) s = .next (afterPort n (haltPort n 2 .fabricWriteError 0 s)) ∧
     (∀ w q, (s.port n).wrs.find? (fun x => x.id == id) = some w → w.quar = false → w.owner = .replyWord2 q →
       exec (.hallwayWriteAck n id true 0) s = .next (afterPort n (arrive (.replyWord2 q) []
         (modPort n (fun p => { p with wrs := p.wrs.filter (fun x => x.id != id) }) s)))))

/-- READ_TIMEOUT and WRITE_TIMEOUT (R462, R463): the request of any owner stays under its ID, quarantined, and fails with
FABRIC_TIMEOUT or FABRIC_WRITE_TIMEOUT. Failed requests (Table 13-3, R30, R163 to R166, R465, R466), for either status of a
read and of a write: a packet read or a reply write stops its queue with FABRIC_ERR; a descriptor read stops the ring at its
entry, for which no completion is written; an index block read or write stops the ring at CONSUMED; a list block or blob of an
entry not yet dispatched ends it with the status; a read of an operation on a unit ends it with the status, once zeros have
been written over what it has written; a data write ends it with no further write, or stops its ring when its completion has
been issued; a completion write stops the ring at its entry; a record write sets FABRIC_ERR; an interrupt message is counted and
arms its queue again; Larder traffic halts the port, and a write of it is made again. -/
def Obligations.TimeoutsQuarantine : Prop :=
  (∀ (s : State) (n id : Nat), s.Inv → n < 8 →
    (∀ r, (s.port n).rds.find? (fun x => x.id == id && !x.quar) = some r →
      ∃ u, { r with quar := true } ∈ (u.port n).rds ∧ u.tables = s.tables ∧
        (u.port n).rds.map (·.id) = (s.port n).rds.map (·.id) ∧ (∀ m, m ≠ n → u.port m = s.port m) ∧
        exec (.readTimeout n id) s = .next (afterPort n (if r.drop = true then absorbRead n r .fabricTimeout u
          else readFailed n r .fabricTimeout u))) ∧
    (∀ w, (s.port n).wrs.find? (fun x => x.id == id && !x.quar) = some w →
      ∃ u, { w with quar := true } ∈ (u.port n).wrs ∧ u.tables = s.tables ∧
        (u.port n).wrs.map (·.id) = (s.port n).wrs.map (·.id) ∧ (∀ m, m ≠ n → u.port m = s.port m) ∧
        exec (.writeTimeout n id) s = .next (afterPort n (writeFailed n w .fabricWriteTimeout u)))) ∧
  (∀ (s : State) (n : Nat) (x : Rd) (st : Status), st = .fabricReadError ∨ st = .fabricTimeout →
    let t := readFailed n x st s
    (∀ q, x.owner = .cmdPacket q → t.tables = s.tables ∧ (t.inst q).cq =
      { (s.inst q).cq with fabErr := true, rdOut := false, arrived := none, serving := none }) ∧
    (∀ o r, x.owner = .desc o.id → s.op? o.id = some o → earlierFetch o s = false → o.openHead = false →
      tget o.ring s.rings = some r → r.state = .running →
      RingStopped o.ring o.head.idx (r.haltFor o.head.idx) st r t ∧ t.op? o.id = none ∧
        (CompletionDue o.id t → CompletionDue o.id s)) ∧
    (∀ k r, x.owner = .harvest k → tget k s.rings = some r → r.state = .running → r.held = none →
      RingStopped k r.consumed r.consumed st r t) ∧
    (∀ o r i d, x.owner = .list o.id i d ∨ x.owner = .blob o.id → Current o s → o.onUnit = false → o.written = [] →
      tget o.ring s.rings = some r → r.state = .running → idxBefore o.head.idx (r.haltFor o.head.idx) = true →
      Ended o.id st (o.resultFor st 0) t ∧ RingStopped o.ring o.head.idx (r.haltFor o.head.idx) st r t ∧
        ∀ y, t.op? o.id = some y → y.pn = o.pn) ∧
    (∀ o r, (∃ i d, x.owner = .list o.id i d) ∨ x.owner ∈ ([.src o.id, .aad o.id, .tagIn o.id] : List Owner) → Current o s →
      o.onUnit = true → o.ran = true → tget o.ring s.rings = some r → r.state = .running →
      Ended o.id st (o.resultFor st 0) t ∧ RingStopped o.ring o.head.idx (r.haltFor o.head.idx) st r t ∧
        (s.Inv → ∀ w ∈ o.written, 0 < w.2 → WriteDue (portOf o.ring) w.1 (.zero o.id) t) ∧
        (o.written ≠ [] → ∃ y, t.op? o.id = some y ∧ y.phase = .scrub ∧ y.posted = o.posted)) ∧
    (x.owner.haltCause.isSome = true → (s.port n).halted = false → n < 8 → s.Inv → (t.port n).halted = true)) ∧
  (∀ (s : State) (n : Nat) (x : Wr) (st : Status), st = .fabricWriteError ∨ st = .fabricWriteTimeout →
    let t := writeFailed n x st s
    (∀ q, x.owner = .replyBody q ∨ x.owner = .replyWord2 q → t.tables = s.tables ∧ (t.inst q).cq =
      { (s.inst q).cq with fabErr := true, rdOut := false, arrived := none, serving := none }) ∧
    (∀ i k, x.owner = .eventRec i k → (s.inst i).eq.inFlight ≠ [] → (t.inst i).eq.fabErr = true ∧ t.ops = s.ops) ∧
    (∀ i, x.owner = .irqMsg i → Signals i { (s.inst i).eq with armed := true } s t ∧ t.tables = s.tables) ∧
    (∀ k r, x.owner = .idxBlock k → tget k s.rings = some r → r.state = .running → (s.inst r.owner).served = true →
      RingStopped k r.consumed r.consumed st r t) ∧
    (∀ o r, x.owner = .compl o.id → s.op? o.id = some o → tget o.ring s.rings = some r → r.state = .running →
      RingStopped o.ring o.head.idx (r.haltFor o.head.idx) st r t ∧
        (∃ y, tget o.ring t.rings = some y ∧ y.complBad = true) ∧ (o.complLeft ≤ 1 → t.op? o.id = none)) ∧
    (∀ o r, x.owner = .dst o.id (some o.ring) o.head.idx → Current o s → tget o.ring s.rings = some r →
      r.state = .running → s.hearth.engines.any (fun g => g.op == some o.id) = false → o.ran = true →
      RingStopped o.ring o.head.idx (r.haltFor o.head.idx) st r t ∧
        (∀ p ∈ t.hwy.ports, ∀ w ∈ p.wrQ, w.owner ≠ .zero o.id ∧ ∀ k e, w.owner ≠ .dst o.id k e) ∧
        (o.posted = false → Ended o.id st (o.resultFor st 0) t) ∧ (o.posted = true → t.op? o.id = some o)) ∧
    (∀ id k e r, x.owner = .dst id (some k) e → s.op? id = none → tget k s.rings = some r → r.state = .running →
      (s.inst r.owner).state ≠ .resetting → (s.inst r.owner).state ≠ .destroying →
      RingStopped k e (r.haltFor e) st r t) ∧
    (∀ i l m, x.owner ∈ ([.victim i, .nodeWb l m, .tomb i, .reauth] : List Owner) →
      t = haltPort n 4 st 0 (modPort n (fun p => { p with wrQ := x :: p.wrQ }) s)))

/-- A halt (R467 to R470): the port is halted with its cause, HALTS counts it, every read but command-queue traffic
will be discarded on arrival, and the speculative copies of its rings go; during a halt only HALTS counts. Here with
no operation of the port on a unit, no attach under way, and no firmware traffic on the port; a FW_STAGE whose
block hw0 reads ends with FW_FABRIC (the model's choice, log entry 94). -/
def Obligations.PortHalts : Prop :=
  ∀ (s : State) (n cause : Nat) (st : Status) (ring : Nat), s.Inv → n < 8 →
    ((s.port n).halted = true →
      haltPort n cause st ring s = modPort n (fun p => { p with halts := min 0xFFFF (p.halts + 1) }) s) ∧
    ((s.port n).halted = false → s.attaching = false → (∀ o ∈ s.ops, portOf o.ring = n → o.onUnit = false) →
      let t := haltPort n cause st ring s
      let fwTraffic := fun (w : Owner) => Owner.firmware w = true
      (∀ c i, n = 0 → s.boot.run = none → s.fw.landing = none → s.fw.copy = some c →
        (∃ r, (s.port 0).rds = [r] ∧ r.owner = .image i ∧ r.quar = false ∧ r.drop = false) →
        t.fw = { s.fw with copy := none, state := .idle, lastStatus := Status.fwFabric.code.toNat }) ∧
      ((∀ r ∈ (s.port n).rds ++ (s.port n).rdQ, ¬fwTraffic r.owner) → (∀ w ∈ (s.port n).wrQ, ¬fwTraffic w.owner) →
      (t.port n).halted = true ∧ (t.port n).cause = cause ∧ (t.port n).halts = min 0xFFFF ((s.port n).halts + 1) ∧
      (t.port n).first = some (st, ring) ∧ (∀ r ∈ (t.port n).rds, r.owner.study = true ∨ r.drop = true) ∧
      (t.port n).wrs = (s.port n).wrs ∧ (∀ x ∈ t.specs, portOf x.ring ≠ n) ∧ t.ops = s.ops ∧ t.rings = s.rings ∧
      (∀ m, m ≠ n → t.port m = s.port m)))

/-- PAUSE, BW_WINDOW_WRITE and BW_WINDOW_END (R479, R480, R661): the port takes PAUSE and keeps its halt, and one that a resume
has left issuing nothing issues again once PAUSE is 0; a change of WINDOW
discards the partial counts of every port; the end of a window stores both counts and starts the next.
PREFETCH_CFG_WRITE (R534, Table 4-6): DEPTH 0 is taken as 1, and SPEC_EN is set only while SNAPSHOT64 holds. -/
def Obligations.UnitRegisters : Prop :=
  ((∀ (s : State) (n : Nat) (strb : BitVec 8) (data : Word), s.Inv → n < 8 → UnitOk (0x70100 + 8 * n) strb s →
     ∃ t, exec (.pause n strb data) s = .next (finish t) ∧ (t.port n).paused = data.getLsbD 0 ∧
       (t.port n).halted = (s.port n).halted ∧ (t.port n).hush = ((s.port n).hush && data.getLsbD 0) ∧
       ((s.port n).hush = false ∨ data.getLsbD 0 = true →
         (∀ m, m ≠ n → t.port m = s.port m) ∧ t.tables = s.tables)) ∧
   (∀ (s : State) (strb : BitVec 8) (data : Word), UnitOk 0x70008 strb s →
     exec (.bwWindowWrite strb data) s = .next (finish ((onUnit 0x70008 s).withHwy
       (if max 1 (min 1000000 (bits data 19 0)) = s.hwy.bwWindow then s.hwy
        else { s.hwy with
          bwWindow := max 1 (min 1000000 (bits data 19 0)),
          ports := s.hwy.ports.map (fun p => { p with rBeats := 0, wBeats := 0 }) })))) ∧
   (∀ s : State, exec .bwWindowEnd s = .next (s.withHwy { s.hwy with ports := s.hwy.ports.map (fun p =>
     { p with bwR := p.rBeats % 2 ^ 32, bwW := p.wBeats % 2 ^ 32, rBeats := 0, wBeats := 0 }) }))) ∧
  (∀ (s : State) (strb : BitVec 8) (data : Word), UnitOk 0x20100 strb s →
     ∃ t, exec (.prefetchCfgWrite strb data) s = .next (finish t) ∧
       t.sched = { s.sched with
         depth := max 1 (bits data 11 8), specEn := data.getLsbD 0 && s.boot.snapshot64 } ∧
       t.tables = s.tables ∧ t.insts = s.insts ∧ t.rooms = s.rooms ∧ t.cel = s.cel)

/-! ### Scheduling, fetching and dispatch -/

/-- SCHEDULER_GRANT (R14, R228, R232, R234): inside the visit of an instance with a positive deficit, no later part
that waits and a grantable entry, one entry of one of its rings is granted: CONSUMED advances by one, the entry gets
an in-flight entry charged with the ring's estimate, and its descriptor is fetched; no other ring changes. A later part that
waits is charged first, the oldest of the instance, and then may start (R229). While grants are stopped or the block is
locked nothing is granted, and later parts are charged all the same. -/
def Obligations.GrantTakesEntry : Prop :=
  (∀ (s : State) (i : Nat), s.pins.mainUp = true → s.pwr.grants = true → s.cel.locked = false →
    s.sched.visit = some i → 0 < (s.inst i).deficit → laterWaits s i = false → hasGrant s i = true →
    (∀ o ∈ s.ops, o.id < s.nextOp) →
    ∃ t n r o, exec .schedulerGrant s = .next (finish t) ∧ (n, r) ∈ grantRings s i ∧ t.nextOp = s.nextOp + 1 ∧
      (∀ r', tget n s.rings = some r' →
        tget n t.rings = some { r' with consumed := r'.consumed + 1, advanced := r'.advanced + 1 } ∧
        o.head.idx = r'.consumed ∧ o.charge = r'.estimate) ∧
      (∀ k, k ≠ n → tget k t.rings = tget k s.rings) ∧
      t.op? s.nextOp = some o ∧ o.ring = n ∧ o.inst = i ∧ o.phase = .fetch 1) ∧
  (∀ (s : State) (i : Nat), s.pins.mainUp = true → s.sched.visit = some i → 0 < (s.inst i).deficit →
    laterWaits s i = true →
    ∃ t o x, exec .schedulerGrant s = .next (finish t) ∧ o ∈ s.ops ∧ laterDue s i o = true ∧
      (∀ p ∈ s.ops, laterDue s i p = true → o.seq ≤ p.seq) ∧ t.op? o.id = some x ∧ x.charged = true ∧
      t.rings = s.rings ∧ t.nextOp = s.nextOp) ∧
  (∀ s : State, s.pwr.grants = false ∨ s.cel.locked = true →
    ∃ t, exec .schedulerGrant s = .next (finish t) ∧ t.rings = s.rings ∧ t.nextOp = s.nextOp ∧
      t.ops.map (·.id) = s.ops.map (·.id))

/-- DESCRIPTOR_READ_RETURN and DESC_REREAD (R139, R140, R204): a slot whose entry does not count is read again 1 µs
later, up to 16 reads, and the sixteenth stops the ring at its entry with DESC_NOT_OWNED, for which no completion is written;
a sound NOP of one entry passes its checks and becomes ready for dispatch with the descriptor it was read as. How a ring stops
(R155, R162 to R164): only a RUNNING ring stops; ERR_INDEX is the entry; HALT_INDEX and CONSUMED are the entry after the
last one dispatched, or after the entry when that lies further; every entry from there on is released and no other, the
speculative copies go, the index block is written, no other ring changes, and the RING_ERROR record holds status, ring and
both indices. -/
def Obligations.DescriptorRead : Prop :=
  (∀ (s : State) (n : Nat) (e : Idx) (st : Status) (now : Bool) (r : Ring), tget n s.rings = some r →
    let t := stopRing n e st now s
    let h := r.haltFor e
    (∀ k, r.hiDisp = some k → h = if idxBefore (e + 1) k then k else e + 1) ∧ (r.hiDisp = none → h = e + 1) ∧
    (r.state ≠ .running → t = s) ∧
    (r.state = .running → RingStopped n e h st r t ∧ (∀ k, k ≠ n → tget k t.rings = tget k s.rings) ∧
      (∀ o ∈ t.ops, o ∈ s.ops ∧ ¬Released n h o) ∧
      (∀ o ∈ s.ops, (∀ p ∈ s.ops, p.id = o.id → ¬Released n h p) → o ∈ t.ops) ∧
      (∀ x ∈ t.specs, x ∈ s.specs ∧ x.ring ≠ n) ∧ (s.Inv → WriteDue (portOf n) (r.iblk + 32) (.idxBlock n) t) ∧
      (now = true → ∃ u, RingStopped n e h st r u ∧ t = ringErrorRecord n u))) ∧
  (∀ (s : State) (n : Nat) (r : Ring), s.Inv → tget n s.rings = some r →
    let q := (s.inst r.owner).eq
    q.running = true → (s.port (r.owner % 8)).takesWrite = true → (q.issued - q.head).toNat < 4096 → q.base % 65536 = 0 →
    ∃ w ∈ ((ringErrorRecord n s).port (r.owner % 8)).wrs ++ ((ringErrorRecord n s).port (r.owner % 8)).wrQ,
      w.owner = .eventRec r.owner q.issued ∧ w.addr = q.base + q.issued.toNat % 4096 * 16 ∧
      w.data = recordBytes q.issued 2 r.errStatus n r.errIdx.toNat r.haltIdx.toNat) ∧
  ∀ (s : State) (id : Nat) (o : Op) (r : Ring), s.op? id = some o → tget o.ring s.rings = some r →
    (∀ bytes n, s.arrived? (.desc id) = some bytes → earlierFetch o s = false → o.status = .ok → o.lockMark = false →
      s.diag.armed = [] → o.phase = .fetch n → n < 16 → entryCounts r o.nextIdx (Desc.ofBytes bytes) = false →
      exec (.descriptorReadReturn id) s = .next (finish (modOp id (fun x => { x with
        phase := .reread n, blob := bytes }) (takeArrived (.desc id) s)))) ∧
    (∀ bytes n, s.arrived? (.desc id) = some bytes → earlierFetch o s = false → o.status = .ok → o.lockMark = false →
      s.diag.armed = [] → o.phase = .fetch n → 16 ≤ n → entryCounts r o.nextIdx (Desc.ofBytes bytes) = false →
      o.openHead = false → r.state = .running →
      ∃ t, exec (.descriptorReadReturn id) s = .next (finish t) ∧
        RingStopped o.ring o.head.idx (r.haltFor o.head.idx) .descNotOwned r t ∧ t.op? id = none ∧
        (CompletionDue id t → CompletionDue id s)) ∧
    (∀ n, o.phase = .reread n → o.lockMark = false →
      ∃ t x, exec (.descReread id) s = .next (finish t) ∧ t.op? id = some x ∧ x.phase = .fetch (n + 1) ∧
        x.entries = o.entries ∧ t.rings = s.rings) ∧
    (∀ bytes, s.arrived? (.desc id) = some bytes → earlierFetch o s = false → o.status = .ok → o.lockMark = false →
      s.diag.armed = [] → o.openHead = false → entryCounts r o.nextIdx (Desc.ofBytes bytes) = true →
      entryFault r none 0 (Desc.ofBytes bytes) = none → (Desc.ofBytes bytes).opcode = 0 →
      (Desc.ofBytes bytes).last = true →
      ∃ t x, exec (.descriptorReadReturn id) s = .next (finish t) ∧ t.op? id = some x ∧ x.phase = .ready ∧ x.charge = 1 ∧
        x.entries = [checkedEntry r.fmt o.nextIdx (Desc.ofBytes bytes)])

/-- LIST_BLOCK_RETURN (R193 to R196): a sound block of a list that an operation on a unit waits for adds its segments;
a block that fails its check ends the operation with the check's status. COMPLETION_ACK (R14): when the last
completion write of an operation is acknowledged its in-flight entry goes; an earlier one only counts down. -/
def Obligations.ListBlocksAndCompletions : Prop :=
  (∀ (s : State) (id ent : Nat) (dst : Bool) (o : Op) (e : Entry) (blk : List Byte), s.op? id = some o →
     (∀ p ∈ s.ops, p.id = id → p = o) →
     o.old = false → o.ran = true → s.arrived? (.list id ent dst) = some blk → o.entries[ent]? = some e → o.phase = .run →
     (tget o.ring s.rings).isSome = true →
     let l := if dst then e.dst else e.src
     let segs := if dst then e.d.dstSegs else e.d.srcSegs
     let total := if dst then dstTotal o.head.d e.d.last e.d else srcTotal o.head.d e.d.last e.d
     ∃ t x, exec (.listBlockReturn id ent dst) s = .next (finish t) ∧ t.op? id = some x ∧
       (∀ l', listBlock segs total l blk = .ok l' → x.phase = .run ∧
         x.entries[ent]? = some (if dst then { e with dst := l' } else { e with src := l' })) ∧
       (∀ st, listBlock segs total l blk = .error st → x.status = st)) ∧
  (∀ (s : State) (id : Nat) (o : Op) (d : List Byte), s.op? id = some o → s.arrived? (.compl id) = some d →
     (o.complLeft ≤ 1 → ∃ t, exec (.completionAck id) s = .next (finish (redispatch t)) ∧ t.op? id = none ∧
       ∀ j, j ≠ id → (t.op? j).isSome = (s.op? j).isSome) ∧
     (1 < o.complLeft → exec (.completionAck id) s = .next (finish (redispatch
       (modOp id (fun x => { x with complLeft := x.complLeft - 1 }) (countCompletion o (takeArrived (.compl id) s)))))))

/-- NOP, FENCE, PK and DIGEST dispatched (R213, R215, R407, R436): NOP and FENCE end OK with RESULT 0 at their dispatch; a PK
operation joins its instance's list of the Hearth queue; a DIGEST begins its first part with nothing absorbed. -/
def Obligations.PlainDispatch : Prop :=
  ∀ (s : State) (id : Nat) (o : Op), s.op? id = some o → dispatchable s o = true →
    (tget o.ring s.rings).isSome = true →
    (o.head.d.opcode = 0x00 → ∃ t x, exec (.nop id) s = .next (finish (redispatch t)) ∧ t.op? id = some x ∧
      x.status = .ok ∧ x.result = 0 ∧ x.ran = true) ∧
    (o.head.d.opcode = 0x3F → ∃ t x, exec (.fence id) s = .next (finish (redispatch t)) ∧ t.op? id = some x ∧
      x.status = .ok ∧ x.result = 0 ∧ x.ran = true) ∧
    (o.head.d.opcode = 0x30 → hearthGone s = false → ∃ t x, exec (.pk id) s = .next (finish (redispatch t)) ∧
      t.op? id = some x ∧ x.phase = .hearth ∧ x.ran = true ∧ t.hearth.queue = s.hearth.queue ++ [(o.inst, id)]) ∧
    (o.head.d.opcode = 0x10 → ∃ t x, exec (.digest id) s = .next (finish (redispatch t)) ∧ t.op? id = some x ∧
      x.phase = .run ∧ x.part = 0 ∧ x.acc = [] ∧ x.ran = true)

/-- SEAL, OPEN, GMAC_SIGN, GMAC_CHECK and CTR dispatched (R273 to R275, R282, R287, R292, R307): an operation whose context
is live, that passes Table 7-4 and that a Room can take goes to the eligible Room with the fewest blocks waiting, a tie to
the lowest number. It holds a reference on the context; a short OPEN takes a free staging place. When it sends it takes
NEXT_PN, and the context has advanced; when it receives its packet number is the descriptor's. It holds a copy of the key of
the slot it uses, and its AAD and a detached tag are read. Step 1 to 3 of R275 on a context: NEXT_PN advances by one; a
pending switch that is due changes the active key slot and is pending no more; SOFT_HIT is set when the number taken reaches
SOFT_LIMIT. -/
def Obligations.AeadDispatch : Prop :=
  (∀ (s : State) (id code n : Nat) (o : Op) (x : Slot) (c : Instr),
     (code, c) ∈ ([(1, .seal id), (2, .openOp id), (3, .gmacSign id), (4, .gmacCheck id), (5, .ctr id)] :
       List (Nat × Instr)) →
     s.Inv → s.op? id = some o → o.head.d.opcode = code → dispatchable s o = true → Sound s → o.ref = none →
     o.room = none → o.place = none → CtxLive s o n x → AeadAllowed s o x →
     (∃ q, RoomFree s o (polAlg x.policy) q) →
     ∃ t y r, exec c s = .next (finish (redispatch t)) ∧ RoomFree s o (polAlg x.policy) r ∧
       (∀ q, RoomFree s o (polAlg x.policy) q →
         roomBlocks s r < roomBlocks s q ∨ roomBlocks s r = roomBlocks s q ∧ r ≤ q) ∧
       t.op? id = some y ∧ y.phase = .run ∧ y.room = some r ∧ y.ref = some x.index ∧ y.ran = true ∧ y.part = 0 ∧
       (o.stages = true → ∃ k, k < 256 ∧ placeTaken s r k = false ∧ y.place = some k) ∧
       (o.stages = false → y.place = none) ∧
       (o.head.d.sending = true → y.pn = some x.f104 ∧
         y.key = some (copyKey x.advance (polActive x.advance.policy)) ∧
         t.slotOf (s.ctxOf o) = some (n, { x with
           stamp := s.roundStamp, f104 := x.f104 + 1, policy := x.advance.policy, dirty := true })) ∧
       (o.head.d.sending = false → y.pn = some o.descPn ∧ y.key = some (copyKey x (keySlot x o.head.d)) ∧
         t.slotOf (s.ctxOf o) = some (n, { x with stamp := s.roundStamp })) ∧
       (o.head.d.aadLen ≠ 0 → ReadDue (portOf o.ring) (aadAddress o.head.d) (.aad id) t) ∧
       (o.head.d.receiving = true → o.head.d.aux ≠ 0 → ReadDue (portOf o.ring) o.head.d.aux (.tagIn id) t)) ∧
  (∀ x : Slot, x.advance.f104 = x.f104 + 1 ∧ x.advance.dirty = true ∧ x.advance.index = x.index ∧
     x.advance.serial = x.serial ∧
     (x.switches x.f104 = true →
       polActive x.advance.policy = !polActive x.policy ∧ x.advance.policy.getLsbD 17 = false) ∧
     (x.switches x.f104 = false → polActive x.advance.policy = polActive x.policy) ∧
     (x.f112 ≠ 0 → x.f112 ≤ x.f104 → x.advance.policy.getLsbD 16 = true))

/-- CTX_INSTALL, CTX_REKEY and CTX_RETIRE dispatched (R336, R357, R359, R360): an install whose blob opens and whose
index no slot holds waits for the Pantry door with its KEK version pinned; a rekey that passes ends OK, holds a reference on
the context (R354), and gives it its SERIAL; a retire makes the context RETIRING and waits for its references. -/
def Obligations.ContextDispatch : Prop :=
  ∀ (s : State) (id : Nat) (o : Op), s.op? id = some o → dispatchable s o = true → Sound s →
    (tget o.ring s.rings).isSome = true →
    (∀ pt, o.head.d.opcode = 0x20 → openBlob s o 1 installRsvd = .ok pt → installPolicyOk o.head.d.subop pt = true →
      (s.inst o.inst).kek.seed ≠ [] → s.slotOf (s.ctxOf o) = none →
      ∃ t x, exec (.ctxInstall id) s = .next (finish (redispatch t)) ∧ t.op? id = some x ∧
        x.phase = .waitIndex (s.ctxOf o) ∧ x.pin = some (field 4 2 o.blob) ∧ t.pan = s.pan) ∧
    (∀ pt n x, o.head.d.opcode = 0x21 → openBlob s o 2 rekeyRsvd = .ok pt → (s.inst o.inst).kek.seed ≠ [] →
      CtxLive s o n x → rekeyFault x o.head.d.subop (field 16 8 o.blob) pt = none →
      ∃ t y z, exec (.ctxRekey id) s = .next (finish (redispatch t)) ∧ t.op? id = some y ∧ y.status = .ok ∧
        y.result = rekeyResult o.head.d.subop (field 16 8 o.blob) (x.rekey o.head.d.subop (field 16 8 o.blob) pt) ∧
        ((∀ p ∈ s.ops, p.id = id → p = o) → o.dropRef = false → y.ref = some x.index) ∧
        t.slotOf (s.ctxOf o) = some (n, z) ∧ z.serial = field 16 8 o.blob) ∧
    (∀ n x, o.head.d.opcode = 0x22 → CtxLive s o n x →
      ∃ t y, exec (.ctxRetire id) s = .next (finish (redispatch t)) ∧ t.op? id = some y ∧ y.phase = .retire x.index ∧
        ∀ p ∈ t.pan.slots, p.2.index = x.index → p.2.state ≠ .companion → p.2.state = .retiring)

/-- ROUND_BOUNDARY (R93, R102, R224, R225, R231, R233, R262, R326): the round and the CORE cycles are counted, the new Room
ratio is in force, grants run unless a power entry or a soft reset holds them, the generation steps that were due are done, a
quiescing instance fetches no more, every instance has its quantum and no clamp is due, no command waits for the boundary any
more, and the snapshot is taken. In a block in which no operation is in flight and nothing waits for the boundary, nothing
else changes. A SHARE_SET that waits takes effect at the boundary: weight, quota and Hearth share are the new ones, neither
deficit is above its new quantum, and the reply is OK (R88, R89); so does one that a committed transaction holds (R65); an
UNLOCK that waits is answered there (R575). While no image runs no command is answered (R44). A due generation step (R75,
R102 to R107) advances the generation of a RESETTING instance, or of a DESTROYING one that had work in flight, in a build with
generation guard; every operation of the instance is released or old-generation, with its reference and its packet number, no
other is, and no write of the instance waits to be issued but the Study's. A committed KEK_SET (R398), a COUNTER_CONFIG (R654,
R656) and a MOVER_RESUME (R478) that wait take effect and are answered. -/
def Obligations.RoundBoundary : Prop :=
  ((∀ s : State, s.pins.mainUp = true → Sound s →
     ∃ t, exec .roundBoundary s = .next (finish (redispatch t)) ∧ t.sched.round = (s.sched.round + 1) % 65536 ∧
       t.core = (s.core + 512) % 2 ^ 64 ∧ t.rooms.ratioNow = s.rooms.ratio ∧ t.sched.snap = schedSnap t ∧
       t.pwr.grants = (t.pwr.entry.isNone && t.pwr.softReset.isNone &&
         (t.pwr.state == .active || t.pwr.state == .idle)) ∧
       (∀ i, (t.inst i).genStep = false) ∧
       (∀ i, (t.inst i).state = .quiescing → (t.inst i).stopFetch = true) ∧
       (s.fw.imageRuns = true → ∀ q v, (t.inst q).cq.serving = some v → v.wait.atBoundary = false) ∧
       (s.fw.imageRuns = false → ∀ q v, (s.inst q).cq.serving = some v → v.wait.atBoundary = true →
         (t.inst q).cq.serving = some v) ∧
       let tot := t.insts.foldl (fun a p => a + effWeight t p.1 p.2) 0
       ∀ p ∈ t.insts, p.2.clamp = false ∧ p.2.quantum = if effWeight t p.1 p.2 = 0 then 0
         else max 1 ((effWeight t p.1 p.2 * 2097152 + tot - 1) / tot)) ∧
  (∀ s : State, s.pins.mainUp = true → s.ops = [] → s.keys.kekPending = none → s.diag.armed = [] →
     (∀ p ∈ s.insts, p.2.cq.serving = none ∧ p.2.genStep = false) →
     ∃ t, exec .roundBoundary s = .next (finish t) ∧ t.sched.round = (s.sched.round + 1) % 65536 ∧
       t.core = (s.core + 512) % 2 ^ 64 ∧ t.rooms.ratioNow = s.rooms.ratio ∧ t.rings = s.rings ∧ t.txn = s.txn ∧
       t.cel = s.cel ∧ { t.keys with drbgs := s.keys.drbgs } = s.keys ∧
       t.pwr.grants = (s.pwr.entry.isNone && s.pwr.softReset.isNone &&
         (s.pwr.state == .active || s.pwr.state == .idle)) ∧
       ∀ p ∈ t.insts, p.2.eligible = true → 1 ≤ p.2.quantum)) ∧
  (∀ (s : State) (q : Nat) (v : Serving), (s.inst q).cq.serving = some v →
     (∀ i w n h, v.wait = .share i w n h →
       let t := applyWait q s
       (t.inst i).weight = w ∧ (t.inst i).quota = n ∧ (t.inst i).hshare = h ∧ (t.inst i).clamp = true ∧
       Answered q v.pkt .ok 0 [] t ∧ t.rings = s.rings ∧ t.ops = s.ops) ∧
     (∀ c : Staged, v.wait = .commit → s.txn.opened = true → s.txn.staged = [c] → pkOpcode c.pkt = 0x14 →
       let t := applyWait q s
       (t.inst (par 0 2 c.pkt)).weight = par 4 2 c.pkt ∧ (t.inst (par 0 2 c.pkt)).quota = par 8 4 c.pkt ∧
       (t.inst (par 0 2 c.pkt)).hshare = par 2 2 c.pkt ∧ t.txn.opened = false ∧ t.txn.staged = [] ∧
       Answered q v.pkt .ok 0 (commitBody 1 s.tickNow) t ∧ t.rings = s.rings ∧ t.ops = s.ops) ∧
     (v.wait = .unlock → Replied q .ok 0 [] s (applyWait q s)) ∧
     (∀ i n en ev g c, v.wait = .counter i n en ev g → (s.inst i).counters[n]? = some c →
       let t := applyWait q s
       Answered q v.pkt .ok 0 [] t ∧ t.ops = s.ops ∧
       ∃ d, (t.inst i).counters[n]? = some d ∧ d.ovfRec = (en / 4 % 2 == 1) ∧
         (n < progCounters i → d.run = (en % 2 == 1) ∧ d.event = ev ∧ d.filter = g) ∧
         (progCounters i ≤ n → d.run = c.run ∧ d.event = c.event ∧ d.filter = c.filter) ∧
         (i ≠ 0 → en / 2 % 2 = 1 → d.value = 0 ∧ d.ovf = false) ∧
         (i ≠ 0 → en / 2 % 2 = 0 → d.value = c.value ∧ d.ovf = (c.ovf || s.wraps.contains (i, n)))) ∧
     (∀ n, v.wait = .resume n → s.Inv → n < 8 → Sound s →
       let t := applyWait q s
       (∀ o ∈ s.ops, portOf o.ring = n → o.returned = true → ∀ y, t.op? o.id = some y → y.returned = false) ∧
       ((∀ o ∈ s.ops, portOf o.ring = n → o.returned = false) →
         (t.port n).halted = false ∧ (t.port n).cause = 0 ∧ (t.port n).hush = (s.port n).paused ∧
         Answered q v.pkt .ok 0 [] t ∧ ∀ w ∈ (s.port n).wrQ, WriteDue n w.addr w.owner t))) ∧
  ((∀ (s : State) (i : Nat), let t := generationStep i s
      (t.inst i).gen = (if s.build.guard && ((s.inst i).state == .resetting || (s.inst i).work) then ((s.inst i).gen + 1) % 256
        else (s.inst i).gen) ∧
      (t.inst i).genStep = false ∧ (t.inst i).work = false ∧ (t.inst i).stopFetch = true ∧
      (∀ o ∈ t.ops, o.inst = i → o.old = true ∧ ∃ p ∈ s.ops, p.id = o.id ∧ p.inst = i ∧ p.ref = o.ref ∧ p.pn = o.pn) ∧
      (∀ o ∈ s.ops, (∀ p ∈ s.ops, p.id = o.id → p.inst ≠ i) → o ∈ t.ops) ∧
      (∀ p ∈ t.hwy.ports, ∀ w ∈ p.wrQ, w.tag = i → w.owner.study = true)) ∧
   (∀ (s : State) (i : Nat), s.pins.mainUp = true → Sound s → (s.inst i).genStep = true →
      (∀ q v, (s.inst q).cq.serving = some v → v.wait.atBoundary = false) →
      ∃ t, exec .roundBoundary s = .next (finish (redispatch t)) ∧ (∀ o ∈ t.ops, o.inst = i → o.old = true) ∧
        (t.inst i).gen = if s.build.guard && ((s.inst i).state == .resetting || (s.inst i).work) then
          ((s.inst i).gen + 1) % 256 else (s.inst i).gen) ∧
   (∀ (s : State) (i ver seedId : Nat) (key seed : List Byte), s.keys.kekPending = some (i, ver, key, seedId, seed) →
      (KekTaken s i ver seedId key seed (applyKek s) ∧ (applyKek s).keys.kekPending = none) ∧
      (∀ v, s.pins.mainUp = true → s.ops = [] → Sound s → (s.inst 0).cq.serving = some v → v.wait = .kekSet →
        (∀ p ∈ s.insts, p.2.genStep = false ∧ (p.1 ≠ 0 → p.2.cq.serving = none)) →
        ∃ t, exec .roundBoundary s = .next (finish (redispatch t)) ∧ KekTaken s i ver seedId key seed t ∧
          t.keys.kekPending = none ∧ Answered 0 v.pkt .ok 0 (leBytes 8 2 ++ leBytes 8 s.cel.ctr1) t)) ∧
   (∀ (s : State) (q n : Nat) (v : Serving), s.pins.mainUp = true → s.fw.imageRuns = true → s.Inv → n < 8 → s.ops = [] →
      s.keys.kekPending = none → Sound s → (s.inst q).cq.serving = some v → v.wait = .resume n →
      (∀ p ∈ s.insts, p.2.genStep = false ∧ (p.1 ≠ q → p.2.cq.serving = none)) →
      ∃ t, exec .roundBoundary s = .next (finish (redispatch t)) ∧ (t.port n).halted = false ∧
        Answered q v.pkt .ok 0 [] t ∧ t.rings = s.rings)) ∧
  (∀ (s : State) (q i w n h : Nat) (v : Serving), s.pins.mainUp = true → s.fw.imageRuns = true → s.ops = [] →
     s.keys.kekPending = none → s.diag.armed = [] → (s.inst q).cq.serving = some v → v.wait = .share i w n h →
     (∀ p ∈ s.insts, p.2.genStep = false ∧ (p.1 ≠ q → p.2.cq.serving = none)) →
     ∃ t, exec .roundBoundary s = .next (finish t) ∧ (t.inst i).weight = w ∧ (t.inst i).quota = n ∧
       (t.inst i).hshare = h ∧ (t.inst i).deficit ≤ ((t.inst i).quantum : Int) ∧
       (t.inst i).hdeficit ≤ ((t.inst i).hquantum : Int) ∧ Answered q v.pkt .ok 0 [] t ∧ t.rings = s.rings)

/-! ### Rooms, Scullery, sampling -/

/-- PART_START and PART_END (R302 to R304, R308, R309): a part whose turn it is takes a unit of its Room that has a
place, and the blocks whose input has arrived pass, the ciphertext joining what the tag is formed over; a part that ends
before the last saves what it processed and the next part waits for its charge. The last part of a SEAL ends the operation
with its success status and its key copy gone (R289). A staged OPEN whose tag does not verify (R292, R298, Table 7-8): at the
end of its last part it ends with TAG_FAIL and RESULT 0, its staged plaintext is gone, and no byte of its output has been
written. That blocks pass as their input arrives is the model's choice (log entry 18). -/
def Obligations.PartsRun : Prop :=
  ((∀ (s : State) (id u r : Nat) (o : Op) (k : KeyCopy), s.op? id = some o → Sound s → o.room = some r →
     o.key = some k → readyPart s o = true → (roomUnits o.chacha r).contains u = true →
     unitHasPlace s o.chacha o.long u = true → mayUse s o u = true → partTurn s o = true →
     let data := (o.partData.take o.passable).drop o.done
     ∃ t x, exec (.partStart id u) s = .next (finish t) ∧ t.op? id = some x ∧ x.unit = some u ∧ x.avoid = none ∧
       x.phase = .run ∧ x.part = o.part ∧ x.done = max o.done o.passable ∧
       (o.done < o.passable → (o.head.d.opcode = 1 → x.acc = o.acc ++ xorPart o k data) ∧
         (o.head.d.receiving = true → x.acc = o.acc ++ data))) ∧
   (∀ (s : State) (id u : Nat) (o : Op) (k : KeyCopy), s.op? id = some o → Sound s → o.unit = some u →
     o.key = some k → o.head.d.aead = true → o.old = false → o.phase = .run → partComplete o = true →
     o.lastPart = false →
     ∃ t x, exec (.partEnd id) s = .next (finish (redispatch t)) ∧ t.op? id = some x ∧ x.part = o.part + 1 ∧
       x.done = 0 ∧ x.unit = none ∧ x.charged = false ∧ x.phase = .run ∧ x.acc = o.acc ∧ x.key = o.key)) ∧
  (∀ (s : State) (id u : Nat) (o : Op) (k : KeyCopy), s.op? id = some o → Sound s → o.unit = some u →
     o.key = some k → o.head.d.opcode = 1 → o.old = false → o.phase = .run → partComplete o = true →
     o.lastPart = true →
     ∃ t x, exec (.partEnd id) s = .next (finish (redispatch t)) ∧ t.op? id = some x ∧ x.status = o.okStatus ∧
       x.key = none ∧ x.unit = none) ∧
  (∀ (s : State) (id u : Nat) (o : Op) (k : KeyCopy), s.op? id = some o → Sound s → o.unit = some u →
     o.key = some k → o.head.d.opcode = 2 → o.old = false → o.phase = .run → partComplete o = true →
     o.lastPart = true → o.place.isSome = true → o.payload ≤ 2048 → o.prior = [] → o.wrote = [] →
       (tget o.ring s.rings).isSome = true →
     o.givenTag ≠ o.tagBytes k →
     ∃ t x, exec (.partEnd id) s = .next (finish (redispatch t)) ∧ t.op? id = some x ∧ x.status = .tagFail ∧
       x.result = 0 ∧ x.stage = [] ∧ x.wrote = [] ∧ x.key = none)

/-- MISMATCH, SELF_TEST_END and DUMMY_KEY_REPLACE (R317 to R322, R325): a mismatch of one operation's part, below the
fault limit, ends it with FAULT_DETECTED, is counted, and takes the unit out of service for its self-test; a test that
passes brings the unit back; after 4,096 dummy blocks the Alcove draws a new key from the CTR_DRBG of its Room. -/
def Obligations.UnitFaults : Prop :=
  (∀ (s : State) (m : MismatchAt) (id : Nat) (o : Op), m.op = some id → m.alsoFail = [] → s.op? id = some o →
    o.old = false → (tget o.ring s.rings).isSome = true → unitServes s m.chacha m.unit = true →
    o ∈ partsOn s m.chacha m.unit → s.cel.faultCount + 1 < s.cel.faultLimit →
    ∃ t x, exec (.mismatch m) s = .next (finish (redispatch t)) ∧ t.op? id = some x ∧ x.status = .faultDetected ∧
      t.rooms.faults = min 0xFFFFFFFF (s.rooms.faults + 1) ∧ unitServes t m.chacha m.unit = false ∧
      t.cel.faultCount = s.cel.faultCount + 1) ∧
  (∀ (s : State) (chacha : Bool) (u : Nat), s.unitsRun = true → serviceOf s chacha u = 1 →
    exec (.selfTestEnd chacha u true) s = .next (finish (setService chacha u 0 s)) ∧
    exec (.selfTestEnd chacha u false) s = .next (finish (faultReport (setService chacha u 2 s)))) ∧
  (∀ (s : State) (u : Nat) (a : Alcove), s.rooms.alcoves[u]? = some a → 4096 ≤ a.dummies →
    ∃ t, exec (.dummyKeyReplace u) s = .next t ∧
      t.rooms.alcoves[u]? = some { a with
        dummies := a.dummies - 4096, dummyKey := (generate (drbgRoom (u / 2)) 32 [] false s).1 } ∧
      (∀ v, v ≠ u → t.rooms.alcoves[v]? = s.rooms.alcoves[v]?) ∧ t.insts = s.insts ∧ t.ops = s.ops)

/-- DIGEST_PART_START and DIGEST_PART_END (R436 to R440, R443, R450): the part at the front of the queue takes a free core
while no register-path block waits for one and no halt holds the operation between parts; a
parity error on the state saved before it ends the operation with SCU_STATE_ERROR, RESULT 0 and no write, and its ring
goes on; a part before the last is absorbed and the next waits for its charge; the last ends the operation OK with the
digest's length. -/
def Obligations.DigestParts : Prop :=
  (∀ (s : State) (id core : Nat) (o : Op), s.op? id = some o → s.scu.partQ.head? = some id → core < 16 →
    coreBusy s core = false → coreWaits s = [] → o.betweenHeld s = false → o.phase = .run →
    (∀ ok : Bool, ok = true ∨ o.part = 0 →
      ∃ t x, exec (.digestPartStart id core ok) s = .next (finish t) ∧ t.op? id = some x ∧ x.unit = some core ∧
        t.scu.partQ = s.scu.partQ.filter (fun q => q != id)) ∧
    (0 < o.part → o.id = id → o.head.d.opcode = 0x10 → Current o s → o.wrote = [] →
      ∃ t, exec (.digestPartStart id core false) s = .next (finish t) ∧ Ended id .scuStateError 0 t ∧
        (∀ x, t.op? id = some x → x.wrote = []) ∧ tget o.ring t.rings = tget o.ring s.rings)) ∧
  (∀ (s : State) (id core : Nat) (o : Op), s.op? id = some o → o.head.d.opcode = 0x10 → o.unit = some core →
    o.old = false → o.phase = .run → o.partData.length = o.partLen → (tget o.ring s.rings).isSome = true →
    (o.lastPart = true → o.listsDone = true) →
    ∃ t x, exec (.digestPartEnd id) s = .next (finish t) ∧ t.op? id = some x ∧ x.unit = none ∧
      (o.lastPart = false → x.acc = o.acc ++ o.partData ∧ x.part = o.part + 1 ∧ x.charged = false) ∧
      (o.lastPart = true → x.status = .ok ∧ x.result = digestLen o.head.d.subop ∧ x.acc = []))

/-- The register path of the Scullery (Table 12-7, R445 to R452): START opens the selected context, FINISH cuts DROP
bytes and starts the last block, CLEAR frees it, a DATA word is absorbed when it fills a block; a block takes a core that is
free, ahead of the ring parts (R450); an absorbed last block gives the digest and frees the core. A write while the block is
locked changes no context; a narrow one, and one with SCU_SEL of 48 or more, sets IGNORED alone. -/
def Obligations.SculleryRegisters : Prop :=
  ∀ (s : State) (data : Word) (c : ScuCtx), s.pins.mainUp = true →
    (s.cel.locked = false → s.scu.sel < 48 → s.scu.ctxs[s.scu.sel]? = some c →
      (bits data 1 0 = 1 → scuAlg (bits data 15 8) = true → c.state ≠ .busy →
        ∃ t, exec (.start 0xFF data) s = .next t ∧ t.scu.ctxs[s.scu.sel]? = some { ScuCtx.free with
          alg := bits data 15 8, state := .opened, ignored := c.ignored, lost := c.lost }) ∧
      (bits data 1 0 = 2 → c.state = .opened →
        ∃ t core, exec (.finish 0xFF data) s = .next t ∧ t.scu.ctxs[s.scu.sel]? = some { c with
          msg := c.msg.take (c.msg.length - bits data 6 4), state := .busy, fin := true, core := core } ∧
          (c.core = none → coreWaits s = [] → (∃ k, k < 16 ∧ coreBusy s k = false) → core.isSome = true)) ∧
      (bits data 1 0 = 3 →
        ∃ t, exec (.clear 0xFF data) s = .next t ∧
          t.scu.ctxs[s.scu.sel]? = some { ScuCtx.free with ignored := c.ignored, lost := c.lost }) ∧
      (c.state = .opened →
        ∃ t core, exec (.scuDataWrite 0xFF data) s = .next t ∧ t.scu.ctxs[s.scu.sel]? = some { c with
          msg := c.msg ++ leBytes 8 data.toNat, core := core,
          state := if (c.msg ++ leBytes 8 data.toNat).length % digestBlock c.alg = 0 then .busy else .opened })) ∧
    (s.cel.locked = true → ∀ strb,
      (∃ t, exec (.start strb data) s = .next t ∧ t.scu = s.scu) ∧
      (∃ t, exec (.scuDataWrite strb data) s = .next t ∧ t.scu = s.scu)) ∧
    (s.cel.locked = false → ∀ strb, strb ≠ 0xFF ∨ 48 ≤ s.scu.sel →
      let scu := { s.scu with ctxs := modAt (fun x => { x with ignored := true }) s.scu.sel s.scu.ctxs }
      (∃ t, exec (.start strb data) s = .next t ∧ t.scu = scu) ∧
      (∃ t, exec (.scuDataWrite strb data) s = .next t ∧ t.scu = scu)) ∧
    (∀ n, s.unitsRun = true → s.scu.ctxs[n]? = some c → c.state = .busy → c.lostNow = false → c.fin = true →
      c.core.isSome = true →
      ∃ t, exec (.scuBlockAbsorbed n) s = .next t ∧ t.scu.ctxs[n]? = some { c with
        state := .done, fin := false, core := none, digest := digestOf c.alg c.msg })

/-- SAMPLING_ENABLE, SAMPLING_DISABLE, SAMPLING_HEAD_WRITE and COUNTER_WRAP (R659, R667, R668): an enable takes BASE and
clears the indices; a disable keeps them, and drops and counts as skipped each record that waits; a head within the records
written is taken; a wrap sets OVF. That a record waits before it takes its number is inferred (log entry 45). -/
def Obligations.SamplingAndWrap : Prop :=
  (∀ (s : State) (page : Nat) (strb : BitVec 8) (data : Word), PageOk page 0x1400 strb s →
    (s.inst page).samp.enable = false → data.getLsbD 0 = true →
    ∃ t, exec (.samplingEnable page strb data) s = .next (finish t) ∧ t.tables = s.tables ∧
      (∀ j, j ≠ page → t.inst j = s.inst j) ∧
      t.inst page = { s.inst page with samp := { (s.inst page).samp with
        base := bits data 51 12 * 4096, enable := true, tail := 0, head := 0, skipped := 0, fabErr := false,
        dispatches := 0 } }) ∧
  (∀ (s : State) (page : Nat) (strb : BitVec 8) (data : Word), PageOk page 0x1400 strb s →
    (s.inst page).samp.enable = true → data.getLsbD 0 = false →
    ∃ t, exec (.samplingDisable page strb data) s = .next (finish t) ∧ t.tables = s.tables ∧
      (t.inst page).samp = { (s.inst page).samp with
        enable := false, skipped := min 0xFFFFFFFF ((s.inst page).samp.skipped + (s.sampQ.filter (fun q => q.buf == page)).length) } ∧
      t.sampQ = s.sampQ.filter (fun q => q.buf != page)) ∧
  (∀ (s : State) (page : Nat) (strb : BitVec 8) (data : Word), PageOk page 0x1418 strb s →
    let v : Idx := BitVec.ofNat 32 (bits data 31 0)
    let x := (s.inst page).samp
    ∃ t, exec (.samplingHeadWrite page strb data) s = .next (finish t) ∧ t.tables = s.tables ∧
      (t.inst page).samp =
        if (v - x.head).toNat ≤ 2 ^ x.log2 ∧ (v - x.head).toNat ≤ (x.tail - x.head).toNat then { x with head := v }
        else x) ∧
  (∀ (s : State) (i n : Nat) (c : Counter), s.pins.mainUp = true → s.wraps.contains (i, n) = true →
    (s.inst i).counters[n]? = some c →
    ∃ t, exec (.counterWrap i n) s = .next (finish t) ∧ t.ops = s.ops ∧
      (∃ c', (t.inst i).counters[n]? = some c' ∧ c'.ovf = true) ∧
      (c.ovfRec = false → t.wraps = s.wraps.erase (i, n) ∧ t.tables = s.tables ∧
        (t.inst i).counters[n]? = some { c with ovf := true }))

/-! ### The Pantry door -/

/-- LARDER_FETCH_START, NODE_READ_RETURN and BLOB_READ_RETURN (R259, R260, R350, R355): a miss whose instance has a turn
left becomes a fetch, takes the turn, and reads the blob once the path is cached; one without a turn waits while another
instance has one; a node whose MAC holds is cached, one whose MAC fails is not; a blob that unwraps to a context takes a
free slot with the STAMP of the round and wakes the operations parked on its index, a bad blob ends them with LARDER_INTEGRITY
and installs nothing. A PINNED blob that would break a limit is installed unpinned and sets PIN_DROPPED; a WIDE one is not
installed, and its operations end with CTX_PIN_LIMIT (R366). The place of a verified context (R16 to R18, R261, R363, R364): a
victim is LIVE, not PINNED and without references, and none that may be a victim has an older STAMP. In a full Pantry a context
costs one eviction token, and waits without one or without a victim; a clean victim's slot is freed without a write and taken;
a dirty victim is written back first, keeps its slot meanwhile, and nothing is installed. -/
def Obligations.LarderReads : Prop :=
  (∀ (s : State) (index : Nat) (m : Nat × Nat × Option Nat), s.unitsRun = true →
    s.lar.misses.find? (fun m => m.1 == index) = some m → missStarts s m = true →
    (turnsLeft s m.2.1 = 0 → (∃ k ∈ s.lar.misses, missStarts s k = true ∧ 0 < turnsLeft s k.2.1) →
      exec (.larderFetchStart index) s = .next (finish (redispatch s))) ∧
    (0 < turnsLeft s m.2.1 → m.2.2 = none → (s.inst m.2.1).kek.seed ≠ [] → PathCached index s →
      leafCtr s index ≠ none → s.Inv → s.arrived? (.larBlob index) = none →
      ∃ t, exec (.larderFetchStart index) s = .next (finish (redispatch t)) ∧
        t.lar.misses = s.lar.misses.filter (fun m => m.1 != index) ∧
        t.lar.credits = tset m.2.1 (turnsLeft s m.2.1 - 1) s.lar.credits ∧
        (∃ f ∈ t.lar.fetches, f.index = index ∧ f.inst = m.2.1) ∧
        0 < readsLeft t (index / 64 % 8) (fun w => w == .larBlob index) ∧ t.pan = s.pan ∧ t.ops = s.ops)) ∧
  (∀ (s : State) (level n ctr : Nat) (b : List Byte), s.unitsRun = true → s.arrived? (.node level n) = some b →
    (s.parentCtrs level n).bind (fun c => c.at (childOf level n)) = some ctr → DoorQuiet s → s.attaching = false →
    ∃ t, exec (.nodeReadReturn level n) s = .next (finish (redispatch t)) ∧ t.pan = s.pan ∧ t.ops = s.ops ∧
      t.cel = s.cel ∧
      (slice 56 8 b = nodeMac s level n ctr (b.take 56) → s.node? level n = none → s.lar.nodes.length < 16384 →
        (t.node? level n).map (·.c) = some (Ctrs.ofBytes b)) ∧
      (slice 56 8 b ≠ nodeMac s level n ctr (b.take 56) → t.lar.nodes = s.lar.nodes)) ∧
  (∀ (s : State) (index : Nat) (b : List Byte) (f : Fetch), s.unitsRun = true → s.arrived? (.larBlob index) = some b →
    s.lar.fetches.find? (fun f => f.index == index) = some f → f.probe = none → f.inc = none →
    (s.inst f.inst).kek.seed ≠ [] → PathCached index s → leafCtr s index ≠ none →
    let waked := s.ops.map (fun o =>
      if o.phase == .parked index || o.phase == .waitIndex index then { o with phase := .ready } else o)
    (∀ x, readBlob s index f.inst b = .live x → s.pan.slots.length + (if x.wide then 2 else 1) ≤ s.build.slots →
      (pinsOf x = 0 ∨ pinOk s x.owner (pinsOf x) = true →
        ∃ t n y, exec (.blobReadReturn index) s = .next (finish (redispatch t)) ∧ tget n s.pan.slots = none ∧
          tget n t.pan.slots = some y ∧ y.index = index ∧ y.state = .live ∧ y.serial = x.serial ∧ y.key0 = x.key0 ∧
          y.policy = x.policy ∧ y.stamp = s.roundStamp ∧ (∀ g ∈ t.lar.fetches, g.index ≠ index) ∧ t.ops = waked) ∧
      (pinsOf x ≠ 0 → pinOk s x.owner (pinsOf x) = false → x.wide = false →
        ∃ t n y, exec (.blobReadReturn index) s = .next (finish (redispatch t)) ∧ tget n s.pan.slots = none ∧
          tget n t.pan.slots = some y ∧ y.index = index ∧ y.serial = x.serial ∧ y.key0 = x.key0 ∧
          polPinned y.policy = false ∧ t.pan.pinDropped = true ∧ t.ops = waked)) ∧
    (∀ x, readBlob s index f.inst b = .live x → pinsOf x ≠ 0 → pinOk s x.owner (pinsOf x) = false → x.wide = true →
      ∃ t, exec (.blobReadReturn index) s = .next (finish (redispatch t)) ∧ t.pan.slots = s.pan.slots ∧
        (∀ g ∈ t.lar.fetches, g.index ≠ index) ∧
        ∀ o, s.ops.filter (fun o => o.phase == .parked index) = [o] → Current o s →
          Ended o.id .ctxPinLimit (o.resultFor .ctxPinLimit 0) t) ∧
    (readBlob s index f.inst b = .bad →
      ∃ t, exec (.blobReadReturn index) s = .next (finish (redispatch t)) ∧ t.pan.slots = s.pan.slots ∧
        t.lar.integrity = min 0xFFFF (s.lar.integrity + 1) ∧ t.lar.failIndex = index ∧
        (∀ g ∈ t.lar.fetches, g.index ≠ index) ∧
        ∀ o, s.ops.filter (fun o => o.phase == .parked index) = [o] → Current o s →
          Ended o.id .larderIntegrity (o.resultFor .larderIntegrity 0) t)) ∧
  (∀ s : State,
    (∀ v, chooseVictim s = some v → ∃ x, (v, x) ∈ s.pan.slots ∧ x.state = .live ∧ polPinned x.policy = false ∧
      s.refs x.index = 0 ∧ x.evicting = false ∧ (∀ f ∈ s.lar.fetches, f.victim ≠ some v) ∧
      ∀ p ∈ s.pan.slots, victimOk s p.2 = true → (∀ f ∈ s.lar.fetches, f.victim ≠ some p.1) →
        s.roundStamp - p.2.stamp ≤ s.roundStamp - x.stamp) ∧
    (chooseVictim s = none → ∀ p ∈ s.pan.slots, victimOk s p.2 = true → ∃ f ∈ s.lar.fetches, f.victim = some p.1)) ∧
  (∀ (s : State) (index : Nat) (f : Fetch) (x : Slot), s.lar.fetches.find? (fun f => f.index == index) = some f →
    f.inc = some x → f.victim = none → f.token = false → x.wide = false → s.pan.slots.length = s.build.slots →
    let r := placeFetch index 3 s
    (s.lar.tokens = 0 ∨ chooseVictim s = none → r = (false, s)) ∧
    (∀ v y, 0 < s.lar.tokens → chooseVictim s = some v → tget v s.pan.slots = some y →
      (∀ p ∈ s.pan.slots, p.1 = v → p.2 = y) → r.2.lar.tokens = s.lar.tokens - 1 ∧ r.2.ops = s.ops ∧
      (y.dirty = false → r.1 = true ∧ (∀ p ∈ s.pan.slots, p.1 ≠ v → p ∈ r.2.pan.slots) ∧ r.2.hwy = s.hwy ∧
        (∀ g ∈ r.2.lar.fetches, g.index ≠ index) ∧
        ∃ n z, tget n r.2.pan.slots = some z ∧ z.index = x.index ∧ z.serial = x.serial ∧ z.key0 = x.key0 ∧
          z.stamp = s.roundStamp) ∧
      (y.dirty = true → PathCached y.index s → s.Inv → r.1 = false ∧
        r.2.pan.slots = s.pan.slots.map (fun p =>
          (p.1, if p.2.index = y.index ∧ p.2.state ≠ .companion then { p.2 with evicting := true } else p.2)) ∧
        WriteDue (y.index / 64 % 8) (s.blobAddr y.index) (.victim y.index) r.2 ∧ r.2.cel.dirty = true)))

/-- VICTIM_WRITEBACK_ACK, NODE_WRITEBACK and REAUTHENTICATION (R18, R348, R349, R364): a written victim that no fetch wants
any more stays in its slot, clean; from a full cache the least recently used node that may leave, when it is dirty, goes out
under a raised counter of its parent; when MINOR has overflowed, a child that is due is read, and when it has arrived it is
written again under its new counter; with none due the re-authentication ends. -/
def Obligations.LarderWrites : Prop :=
  (∀ (s : State) (index n : Nat) (x : Slot) (d : List Byte), s.unitsRun = true → s.arrived? (.victim index) = some d →
    s.slotOf index = some (n, x) → x.noTomb = false ∨ retireDue s x = false → (∀ f ∈ s.lar.fetches, f.victim ≠ some n) →
    ∃ t, exec (.victimWritebackAck index) s = .next (finish (redispatch t)) ∧
      t.slotOf index = some (n, { x with evicting := false, dirty := false }) ∧
      (∀ p ∈ s.pan.slots, p.2.index ≠ index → p ∈ t.pan.slots) ∧ t.rings = s.rings ∧ t.cel = s.cel) ∧
  (∀ (s : State) (x y : Node), s.Inv → s.unitsRun = true → s.lar.nodes.any s.orphan = false → lruNode s = some x →
    s.node? x.level x.n = some x → x.dirty = true →
    s.lar.flush = none → s.lar.stale = false → 16384 ≤ s.lar.nodes.length → s.node? (x.level + 1) (x.n / 64) = some y →
    ∃ t z, exec (.nodeWriteback x.level x.n) s = .next (finish t) ∧
      t.node? x.level x.n = some { x with dirty := false, wbOut := true } ∧
      t.node? (x.level + 1) (x.n / 64) = some z ∧ z.dirty = true ∧ z.c = (y.c.raise (x.n % 64)).1 ∧
      t.cel.dirty = true ∧ WriteDue (x.n % 8) (s.nodeAddr x.level x.n) (.nodeWb x.level x.n) t ∧
      t.pan = s.pan ∧ t.ops = s.ops) ∧
  (∀ (s : State) (level n : Nat) (x : Node) (old : Ctrs), s.Inv → s.unitsRun = true → level < 4 → s.node? level n = some x →
    x.old = some old → x.rewrap = false →
    (childrenDue old = [] → (∀ p ∈ s.hwy.ports, ∀ w ∈ p.wrs ++ p.wrQ, w.owner ≠ .reauth) →
      ∃ t, exec (.reauthentication level n) s = .next (finish (redispatch t)) ∧
        t.node? level n = some { x with old := none } ∧ t.pan = s.pan ∧ t.ops = s.ops) ∧
    (∀ c, childrenDue old = [c] → childOut s (childAddr s level n c) = false → childComing s level n c = false →
      ∃ t, exec (.reauthentication level n) s = .next (finish (redispatch t)) ∧
        0 < readsLeft t (childPort level n c) (fun w => w == .child level n c) ∧ t.lar = s.lar ∧ t.pan = s.pan ∧
        t.ops = s.ops) ∧
    (∀ c b b', childrenDue old = [c] → childOut s (childAddr s level n c) = false →
      s.arrived? (.child level n c) = some b →
      (if level = 0 then rewrapBlob s (n * 64 + c) ((old.at c).getD 0) ((x.c.at c).getD 0) b
       else remacNode s (level - 1) (n * 64 + c) ((old.at c).getD 0) ((x.c.at c).getD 0) b) = some b' →
      ∃ t, exec (.reauthentication level n) s = .next (finish (redispatch t)) ∧
        t.node? level n = some { x with rewrap := true } ∧
        WriteDue (childPort level n c) (childAddr s level n c) .reauth t ∧ t.pan = s.pan ∧ t.ops = s.ops))

/-- RETIRE_REFS_ZERO, TOMBSTONE_WRITE_ACK and EVICTION_TOKEN_REFILL (R261, R360, R361): a RETIRING slot whose last
reference is gone is zeroised and keeps its final packet number, and one that needs no tombstone, or whose store is stale, is
free at once with its CTX_RETIRE complete; the
acknowledged tombstone frees the slot and completes the CTX_RETIRE; the microsecond sets the tokens to EVICT_RATE, and both
ticks count. -/
def Obligations.ContextsRetire : Prop :=
  (∀ (s : State) (index n : Nat) (x : Slot), s.unitsRun = true → Sound s → s.slotOf index = some (n, x) →
    retireDue s x = true →
    (x.noTomb = false → s.lar.attached = true → s.lar.stale = false →
      ∃ t y, exec (.retireRefsZero index) s = .next (finish (redispatch t)) ∧
      t.slotOf index = some (n, y) ∧ y.zeroed = true ∧ y.tombDue = true ∧ y.key0 = [] ∧ y.key1 = [] ∧ y.sub0 = [] ∧
      y.sub1 = [] ∧ y.salt0 = [] ∧ y.salt1 = [] ∧ y.final = x.f104 ∧ t.ops = s.ops) ∧
    (x.noTomb = true ∨ s.lar.stale = true ∨ s.lar.attached = false →
      ∃ t, exec (.retireRefsZero index) s = .next (finish (redispatch t)) ∧
        (∀ p ∈ t.pan.slots, p.2.index ≠ index) ∧
        ∀ o, x.retireOp = some o.id → Current o s → Ended o.id .ok (o.resultFor .ok x.f104) t)) ∧
  (∀ (s : State) (index n : Nat) (x : Slot) (d : List Byte), s.unitsRun = true → s.arrived? (.tomb index) = some d →
    s.slotOf index = some (n, x) → x.state = .retiring → x.zeroed = true →
    ∃ t, exec (.tombstoneWriteAck index) s = .next (finish (redispatch t)) ∧
      (∀ p ∈ t.pan.slots, p.2.index ≠ index) ∧
      ∀ o, x.retireOp = some o.id → Current o s → Ended o.id .ok (o.resultFor .ok x.final) t) ∧
  (∀ s : State, s.pins.mainUp = true → DoorQuiet s → s.fw.landing = none → s.boot.step = 0x0A →
    s.diag.asserted = [] →
    ∃ t, exec .evictionTokenRefill s = .next (finish (redispatch t)) ∧
      t.lar = { s.lar with tokens := max 1 s.sched.evictRate } ∧
      t.cel = { s.cel.micro with tick := (s.cel.tick + 1) % 2 ^ 64 } ∧
      (s.stair.fromCellar = false → s.stair.holdUntil = 0 → t.stair = { s.stair with tick := s.stair.tick + 1 }) ∧
      t.pan = s.pan ∧ t.ops = s.ops ∧ t.insts = s.insts ∧ t.rings = s.rings)

/-! ### The Hearth -/

/-- HEARTH_HANDOFF and PK_OPERANDS_ARRIVED (R410, R412, R413, R417, R419): inside the visit of an instance with a positive
deficit the operation at the head of its list goes to an engine, which wipes first when its last owner is another instance;
no envelope waits for an engine, and the longest nominal time of the subop is charged until the operand block shows the
nominal time (the model's choice, log entry 22); a sound header is kept and the operands are read, a bad one ends the
operation with PK_OPERAND_FORMAT; the operands start the run. -/
def Obligations.HearthTakesWork : Prop :=
  (∀ (s : State) (n : Nat) (o : Op) (e : Engine), s.pins.mainUp = true → s.hearth.inVisit = true →
    servingWaits 0 .engine s = false →
    hearthWork s s.hearth.visit = true → 0 < (s.inst s.hearth.visit).hdeficit →
    hearthHead s s.hearth.visit = some o → o.inst = s.hearth.visit → chooseEngine s s.hearth.visit = some n →
    s.engines[n]? = some e →
    ∃ t x, exec .hearthHandoff s = .next (finish t) ∧ t.hearth.engines[n]? = some x ∧ x.op = some o.id ∧
      (e.owner = none ∨ e.owner = some o.inst → x.state = .fetch ∧ x.owner = some o.inst) ∧
      (e.owner ≠ none → e.owner ≠ some o.inst → x.state = .wipe ∧ x.owner = e.owner) ∧
      t.hearth.queue = s.hearth.queue.filter (fun q => q.2 != o.id) ∧
      (o.part = 0 → (t.inst o.inst).hdeficit = (s.inst o.inst).hdeficit - (pkMost o : Int)) ∧
      t.rings = s.rings ∧ t.pan = s.pan) ∧
  (∀ (s : State) (n : Nat) (o : Op) (e : Engine), s.engines[n]? = some e → e.op = some o.id → s.op? o.id = some o →
    e.state = .fetch → e.abort = false →
    (∀ hdr, s.arrived? (.pkIn o.id) = some hdr → pkHeaderOk o.head.d.subop hdr = true →
      ∃ t y, exec (.pkOperandsArrived n) s = .next (finish t) ∧ t.hearth.engines[n]? = some { e with hdr := hdr } ∧
        t.op? o.id = some y ∧ { y with part := o.part } = o ∧ (o.part ≠ 1 → y = o) ∧
        (∀ j, j ≠ o.id → t.op? j = s.op? j) ∧ t.rings = s.rings) ∧
    (∀ hdr, s.arrived? (.pkIn o.id) = some hdr → pkHeaderOk o.head.d.subop hdr = false → Current o s →
      ∃ t, exec (.pkOperandsArrived n) s = .next (finish t) ∧
        Ended o.id .pkOperandFormat (o.resultFor .pkOperandFormat 0) t) ∧
    (∀ x i, s.arrived? (.pkIn o.id) = none → s.arrived? (.pkBody o.id) = some x →
      pkInfo o.head.d.subop = some i → pkCtxOk i x = true →
      ∃ t regs, exec (.pkOperandsArrived n) s = .next (finish t) ∧
        t.hearth.engines[n]? = some { e with state := .run, data := x, valDone := none, regs := regs } ∧
        t.rings = s.rings))

/-- VALIDATION_PHASE_END and PK_NOMINAL_TIME_END (R418 to R422): the validation keeps its outcome; a public-input
operation that fails it ends with that status at once, any other at its nominal time; one that passes delivers its
outcome, computed with random bytes of its engine's CTR_DRBG, and a result goes to OUT_ADDR. A parity error in the
engine's sequencer ends the operation with FAULT_DETECTED, and the engine wipes. -/
def Obligations.PkCompletes : Prop :=
  ∀ (s : State) (n : Nat) (o : Op) (e : Engine), s.engines[n]? = some e → e.op = some o.id → Current o s →
    e.state = .run → e.abort = false → s.diag.armed = [] →
    let sub := o.head.d.subop
    let v := pkValidate sub (pkModLen e.hdr) (pkE e.hdr) e.data
    let pub := !((pkInfo sub).map (·.secret)).getD true
    let g := pkRandom n sub e.data s
    let r := pkResult sub (pkModLen e.hdr) (pkE e.hdr) e.data g.1.1
    let out := pkOutcome sub e.data r
    (e.valDone = none →
      ∃ t, exec (.validationPhaseEnd n) s = .next (finish t) ∧
        (pub = false ∨ v = .ok → t.hearth.engines[n]? = some { e with valDone := some v } ∧ t.ops = s.ops) ∧
        (pub = true → v ≠ .ok → Ended o.id v (o.resultFor v 0) t)) ∧
    (∀ st, e.valDone = some st → st ≠ .ok →
      ∃ t, exec (.pkNominalTimeEnd n true) s = .next (finish t) ∧ Ended o.id st (o.resultFor st 0) t) ∧
    (e.valDone = some .ok → (pkFresh sub = true → s.keys.rngOk = true) →
      ∃ t, exec (.pkNominalTimeEnd n true) s = .next (finish t) ∧
        (out ≠ .ok → t.keys = g.2.keys ∧ Ended o.id out (o.resultFor out 0) t) ∧
        (out = .ok → pkCheck sub (pkModLen e.hdr) (pkE e.hdr) e.data r g.1.2 = true →
          t.keys = g.2.keys ∧ Ended o.id .ok (o.resultFor .ok r.length) t ∧
          (r ≠ [] → ∃ x, t.op? o.id = some x ∧ x.wrote = o.wrote ++ [(pkOutAddr e.hdr, r.length)]))) ∧
    (s.cel.faultCount + 1 < s.cel.faultLimit →
      ∃ t, exec (.pkNominalTimeEnd n false) s = .next (finish t) ∧
        Ended o.id .faultDetected (o.resultFor .faultDetected 0) t ∧
        t.hearth.engines[n]? = some { e with
          state := .wipe, op := none, hdr := [], data := [], regs := EngRegs.zero, valDone := none, abort := false,
          after := some .faultDetected })

/-- PK_ABORT_BOUNDARY, ENGINE_WIPE_DONE and HEARTH_SELF_TEST_END (R413, R422, R427, R428): a running engine that has been
ordered to stop starts its wipe; the wipe leaves no owner and no operand, ends a stopped operation with the status it was
stopped for, and lets an engine that changes its owner fetch; a test that passes brings an engine back. -/
def Obligations.EnginesStop : Prop :=
  (∀ (s : State) (n : Nat) (e : Engine), s.engines[n]? = some e →
    (e.state = .run → e.abort = true →
      ∃ t, exec (.pkAbortBoundary n) s = .next t ∧
        t.hearth.engines[n]? = some { e with
          state := .wipe, hdr := [], data := [], regs := EngRegs.zero, valDone := none } ∧
        (∀ m, m ≠ n → t.hearth.engines[m]? = s.hearth.engines[m]?) ∧ t.ops = s.ops ∧ t.still = s.still) ∧
    (s.unitsRun = true → e.state = .wipe → e.op = none →
      ∃ t, exec (.engineWipeDone n) s = .next (finish (redispatch t)) ∧
        t.hearth.engines[n]? = some { Engine.cold with
          ucode := e.ucode, drain := e.drain, state := if e.after = some .faultDetected then .test else .idle }) ∧
    (∀ o, s.unitsRun = true → e.state = .wipe → e.op = some o.id → s.op? o.id = some o → e.abort = false →
      ∃ t x, exec (.engineWipeDone n) s = .next (finish (redispatch t)) ∧ t.hearth.engines[n]? = some x ∧
        x.state = .fetch ∧ x.owner = some o.inst ∧ x.op = some o.id ∧ x.hdr = [] ∧ x.data = []) ∧
    (∀ o, s.unitsRun = true → e.state = .wipe → e.op = some o.id → Current o s → e.abort = true → o.phase = .hearth →
      let st := e.after.getD .pkAborted
      ∃ t, exec (.engineWipeDone n) s = .next (finish (redispatch t)) ∧ Ended o.id st (o.resultFor st 0) t ∧
        t.hearth.engines[n]? = some { Engine.cold with ucode := e.ucode, drain := e.drain }) ∧
    (s.unitsRun = true → e.state = .test → s.fw.rollout.contains n = false →
      ∃ t, exec (.hearthSelfTestEnd n true) s = .next (finish t) ∧
        t.hearth.engines[n]? = some { e with state := .idle, owner := none } ∧ t.rings = s.rings))

/-! ### Alarms and the Cellar -/

/-- ALARM_SOURCE_ASSERT and NEIGHBOUR_ALARM (R552, R558 to R563, R567, R571, Table 16-4 step 1): a source that has been quiet
for 1 ms raises its alarm: Notify sets its flag alone, Lock locks the block, records the event and rolls back the transaction,
Zeroise also zeroes the root, the owner and every key; a neighbour's message goes on unchanged on the other link and raises
a NEIGHBOUR alarm. -/
def Obligations.AlarmsLock : Prop :=
  (∀ (s : State) (src : Nat), s.pins.mainUp = true → s.cel.onVbat = false → detected src = true →
    watched src s = true → 1000 ≤ s.cel.quietFor src → s.cel.asserting.getLsbD src = false →
    let n := s.response src
    ∃ t, exec (.alarmSourceAssert src) s = .next (finish t) ∧ t.cel.flags = setBit src true s.cel.flags ∧
      t.cel.asserting = setBit src true s.cel.asserting ∧ t.cel.quietUs = s.cel.quietUs.set src 0 ∧ t.cel.alarmUs = 0 ∧
      (n = 0 → t.cel.locked = s.cel.locked ∧ t.rings = s.rings ∧ t.ops = s.ops ∧ t.keys = s.keys) ∧
      (0 < n → s.cel.locked = false → t.cel.locked = true ∧ t.cel.lockDone = false ∧ t.cel.alarmN = true ∧
        t.cel.lockCause = src ∧ t.cel.lockEvent = (s.cel.lockEvent + 1) % 2 ^ 32 ∧ t.cel.level = n ∧
        t.cel.step = .completions ∧ t.txn.opened = false ∧ t.specs = []) ∧
      (2 ≤ n → s.cel.locked = false → t.cel.zeroised = true ∧ t.cel.rootPresent = false ∧
        t.cel.root = List.replicate 32 0 ∧ t.cel.owned = false ∧ t.cel.ownerEc = [] ∧ t.keys.permit = none ∧
        t.keys.diag = none ∧ t.keys.keyin = [] ∧ ∀ j, (t.inst j).kek = Kek.none)) ∧
  (∀ (s : State) (down zer : Bool) (pos : Nat), s.pins.mainUp = true → s.cel.onVbat = false →
    (s.link down).carries = true →
    ∃ t, exec (.neighbourAlarm down pos zer) s = .next (finish t) ∧
      (s.cel.quietFor 7 < 1000 ∨ s.cel.locked = false →
        t.link (!down) = Link.send 0x0100 (.alarm pos zer) (s.link (!down)) ∧ t.link down = s.link down) ∧
      (s.cel.quietFor 7 < 1000 → t.cel = { s.cel with quietUs := s.cel.quietUs.set 7 0 } ∧ t.tables = s.tables ∧
        t.insts = s.insts) ∧
      (1000 ≤ s.cel.quietFor 7 → s.cel.asserting.getLsbD 7 = false → 0 < s.response 7 → s.cel.locked = false →
        t.cel.quietUs = s.cel.quietUs.set 7 0 ∧ t.cel.locked = true ∧ t.cel.lockCause = 7 ∧ t.cel.level = s.response 7 ∧
        t.cel.flags = setBit 7 true s.cel.flags))

/-- What the Cellar keeps and watches by itself (R402, R403, R548, R551 to R553, R557, R571, R574, R649, R680): a source
that is quiet asserts no more; a microsecond counts how long each source has been quiet, ends an injected assertion whose 1
ms is over, and moves the Roof's pattern on every 2 µs; a millisecond moves the fault window, ends the zero-filling of a
lock sequence, after which a store that is not valid is stale (R570), and draws a new root once the entropy source serves; a
clean Roof pass is kept when it began after the last alarm; the tick is written; its own power-on gives every item its reset
value, but leaves the Cellar on vbat where it is and disarms the injections; an injection point expires; a failed health
test clears RNG_OK; a startup test that passes sets it, draws the root secret that is due, and changes no CTR_DRBG that
holds a state but the Study's; a reseed gives the CTR_DRBG of its unit a new state from 48 bytes of entropy and starts its
count of requests anew. That the reseed takes 48 bytes, that these rows are the microsecond and the millisecond, and that
words go bad at a millisecond are the model's choice (log entries 79, 47, 111 and 25). -/
def Obligations.CellarKeeps : Prop :=
  ((∀ (s : State) (src : Nat), detected src = true → s.diag.holds src = false →
    ∃ t, exec (.alarmSourceQuiet src) s = .next t ∧
      t.cel = { s.cel with asserting := setBit src false s.cel.asserting } ∧ t.tables = s.tables ∧
      t.insts = s.insts ∧ t.keys = s.keys ∧ t.pwr = s.pwr) ∧
   (∀ (c : Cellar) (src : Nat), src < c.quietUs.length →
    c.micro.quietFor src = (if c.asserting.getLsbD src then 0 else min 1000 (c.quietFor src + 1)) ∧
    c.micro.alarmUs = min 1000000 (c.alarmUs + 1) ∧
    (c.onVbat = false → 1 ≤ c.roofUs → c.micro.roofGen = Config.roofNext c.roofGen ∧ c.micro.roofUs = 0) ∧
    (c.onVbat = false → c.roofUs = 0 → c.micro.roofGen = c.roofGen ∧ c.micro.roofUs = 1)) ∧
   (∀ s : State, s.pins.mainUp = false →
    ∃ t, exec .evictionTokenRefill s = .next t ∧ t.tables = s.tables ∧ t.insts = s.insts ∧ t.cel.tick = s.cel.tick ∧
      t.cel.quietUs = s.cel.micro.quietUs ∧ t.cel.roofGen = s.cel.micro.roofGen ∧
      (s.diag.asserted = [] → t.cel = s.cel.micro) ∧
      ∀ n, n < 9 → n ≠ 6 → (n, 1) ∈ s.diag.asserted → t.cel.asserting.getLsbD n = false)) ∧
  (∀ (s : State) (us : List Upset), s.pins.mainUp = true → servingWaits 0 .engine s = false →
    ((0 :: s.cel.faultLog).take s.cel.faultWindow).foldl (· + ·) 0 < s.cel.faultLimit →
    ∃ t, exec (.faultWindowStep us) s = .next (finish t) ∧
      t.cel.faultLog = (0 :: s.cel.faultLog).take s.cel.faultWindow ∧
      t.cel.asserting = (if s.diag.holds 6 then s.cel.asserting else setBit 6 false s.cel.asserting) ∧
      t.cel.quietUs = s.cel.quietUs ∧
      t.ecc.upsets = s.ecc.upsets ++ us.filter (fun u => !(u.mem == 6 && !u.uncorr)) ∧
      (s.cel.step = .clear → t.cel.step = .idle ∧ t.cel.lockDone = (s.boot.step == 0x0A) ∧ t.pan.slots = [] ∧
        t.lar.nodes = []) ∧
      (s.cel.step ≠ .clear → t.cel.step = s.cel.step ∧ t.pan = s.pan ∧ t.lar = s.lar) ∧
      (s.cel.zeroRuns = true → s.cel.rootPresent = false → s.keys.rngOk = true → s.boot.step = 0x0A →
        t.cel.rootPresent = true ∧ t.cel.zeroRuns = false ∧ t.cel.enrolNum = (s.cel.enrolNum + 1) % 2 ^ 32) ∧
      (s.cel.step = .clear → s.lar.staleDue = true → s.lar.attached = true → t.lar.stale = true) ∧
      (s.cel.step ≠ .clear ∨ s.lar.staleDue = false → t.rings = s.rings ∧ t.ops = s.ops)) ∧
  (∀ s : State,
    (∀ imp : Bool, s.cel.alarmUs < roofPassUs imp s.cel.onVbat → exec (.roofCleanPass imp) s = .next s) ∧
    (roofPassUs true s.cel.onVbat ≤ s.cel.alarmUs →
      ∃ t, exec (.roofCleanPass true) s = .next t ∧ t.tables = s.tables ∧ t.cel = { s.cel with
        passImpedance := s.cel.passImpedance || !s.cel.asserting.getLsbD 1 }) ∧
    (roofPassUs false s.cel.onVbat ≤ s.cel.alarmUs →
      ∃ t, exec (.roofCleanPass false) s = .next t ∧ t.tables = s.tables ∧ t.cel = { s.cel with
        passPattern := s.cel.passPattern || !s.cel.asserting.getLsbD 0 }) ∧
    (s.pins.mainUp = true → ∃ t, exec .tickCellarWrite s = .next t ∧ t.cel = { s.cel with tick := s.tickNow } ∧
      t.tables = s.tables ∧ t.stair = s.stair) ∧
    (∃ t, exec .cellarPor s = .next t ∧ t.cel = { State.reset.cel with
        onVbat := s.cel.onVbat, roofGen := Config.freeNat s.freeCtr } ∧ t.diag.armed = [] ∧ t.rings = s.rings ∧
      t.ops = s.ops ∧ t.pan = s.pan ∧ t.lar = s.lar ∧ t.keys = s.keys) ∧
    (∀ p, ∃ t, exec (.diagExpiry p) s = .next t ∧ (∀ a, a ∈ t.diag.armed ↔ a ∈ s.diag.armed ∧ a.point ≠ p) ∧
      t.tables = s.tables ∧ t.cel = s.cel ∧ t.keys = s.keys)) ∧
  (∀ s : State, s.pins.mainUp = true →
    exec .rngHealthFail s = .next (s.withKeys { s.keys with rngFail := true, rngOk := false })) ∧
  (∀ s : State, s.pins.mainUp = true → s.boot.step = 0x0A ∨ s.keys.rngFail = true → s.keys.rngOk = false →
    ∃ t, exec .rngStartupPass s = .next (finish t) ∧ t.keys.rngOk = true ∧ t.keys.rngFail = s.keys.rngFail ∧
      (s.cel.zeroRuns = true → s.cel.rootPresent = false → t.cel.rootPresent = true ∧ t.cel.zeroRuns = false ∧
        t.cel.enrolNum = (s.cel.enrolNum + 1) % 2 ^ 32) ∧
      (s.cel.zeroRuns = false ∨ s.cel.rootPresent = true → t.cel = s.cel) ∧
      (∀ u, u ≠ drbgStudy → (s.drbg u).key ≠ [] → t.drbg u = s.drbg u) ∧
      t.insts = s.insts ∧ t.rings = s.rings ∧ t.ops = s.ops) ∧
  (∀ (s : State) (unit : Nat), s.pins.mainUp = true → s.keys.rngOk = true → s.drbgUnits.contains unit = true →
    unit < s.keys.drbgs.length →
    let x := drbgReseed (s.drbg unit).key (s.drbg unit).v (random s.freeCtr 48) []
    ∃ t, exec (.drbgReseed unit) s = .next t ∧ t.drbg unit = ⟨x.1, x.2, 0⟩ ∧
      (∀ u, u ≠ unit → t.drbg u = s.drbg u) ∧ t.freeCtr = s.freeCtr + 1 ∧ t.insts = s.insts ∧ t.ops = s.ops)

/-! ### Bring-up, resets and power -/

/-- Bring-up (R520 to R522, R524, R525, R527 to R536, R538): in steps 1 to 4 the Cellar and Foundation ROM are tested, and one
that fails stops with ERR CELLAR or ROM_TEST. GO: in step 5 the image is read block by block, a wrong CRC-32C sets ERR CRC
with the index; an image that passes Table 17-3 starts in step 7, with the units and the Scullery cores that pass; three
startup tests that fail set ERR RNG; keys and root lead to step 9, in which the links train and the scratch line is read
once through each port; eight equal right records make Wilto write its half, and the acknowledgement ends the step, after which
a root zeroised meanwhile is drawn again (R527); a sound Pantry brings the block up to cmd_rdy with the image running and every
queue disabled, another stops it with ERR PANTRY; a length that is wrong stops with its error, as a bad image and a bad record
do; outside step 5 the write sets GO_IGNORED alone. That a microsecond ends a step that no command ends is the model's choice
(log entry 111). -/
def Obligations.BringUpRuns : Prop :=
  (∀ (s : State) (strb : BitVec 8) (data : Word) (b : BringUp), UnitOk 0x10118 strb s → data.getLsbD 0 = true →
    let bad := s.boot.len % 4096 ≠ 0 ∨ s.boot.len < 4096 ∨ 16777216 < s.boot.len ∨ 2 ^ 52 < s.boot.addr + s.boot.len
    (s.boot.step ≠ 4 → ∃ t, exec (.go strb data b) s = .next (finish t) ∧
      t.boot = { s.boot with goIgnored := true } ∧ t.tables = s.tables ∧ t.fw = s.fw ∧ t.insts = s.insts) ∧
    (s.boot.step = 4 → bad →
      ∃ t, exec (.go strb data b) s = .next (finish t) ∧ t.boot.err = 3 ∧ t.boot.step = 4 ∧ t.fw.sram = [] ∧
        t.tables = s.tables) ∧
    (s.boot.step = 4 → ¬bad → s.Inv → (s.port 0).halted = false →
      ∃ t, exec (.go strb data b) s = .next (finish t) ∧
        t.boot = { s.boot with err := 0, detail := 0, step := 5, run := some b } ∧ t.fw.sram = [] ∧
        t.tables = s.tables ∧ ReadDue 0 s.boot.addr (.image 0) t)) ∧
  (∀ (s : State) (b : BringUp) (blk : List Byte), s.Inv → s.boot.run = some b → s.fw.landing = none →
    (s.port 0).halted = false →
    let i := s.fw.sram.length
    let t := deliverWhole (.image i) blk s
    (blockOk blk = false → t.boot.err = 5 ∧ t.boot.detail = i ∧ t.boot.step = 4 ∧ t.boot.run = none ∧ t.fw.sram = []) ∧
    (blockOk blk = true → i + 1 < s.boot.len / 4096 →
      t.fw.sram = s.fw.sram ++ [blk] ∧ t.boot = s.boot ∧ ReadDue 0 (s.boot.addr + 4096 * (i + 1)) (.image (i + 1)) t) ∧
    (blockOk blk = true → s.boot.len / 4096 ≤ i + 1 →
      (∀ f, bundleFault s.build (some s.romFloor) (s.fw.sram ++ [blk]) = some f →
        t.boot.err = 6 ∧ t.boot.step = 4 ∧ t.fw.sram = []) ∧
      (bundleFault s.build (some s.romFloor) (s.fw.sram ++ [blk]) = none →
        t.boot.step = 6 ∧ t.boot.run = some b ∧ t.fw.sram = s.fw.sram ++ [blk] ∧ t.fw.imageRuns = true ∧
          t.scu.cores = (List.range 16).filter b.coresOk.contains))) ∧
  (∀ s : State, MicroQuiet s →
    ∃ t, exec .evictionTokenRefill s = .next (finish (redispatch t)) ∧
      (s.boot.step = 1 → t.boot = { s.boot with step := 2 }) ∧
      (s.boot.step = 2 → t.boot = if s.boot.rom.cellarOk = true ∧ s.cel.asserting.getLsbD 8 = false then
          { s.boot with step := 3 } else { s.boot with step := 0xFF, err := 1, detail := 0, run := none, lines := [] }) ∧
      (s.boot.step = 3 → s.boot.rom.romOk = false →
        t.boot = { s.boot with step := 0xFF, err := 2, detail := 0, run := none, lines := [] }) ∧
      (s.boot.step = 3 → s.boot.rom.romOk = true → s.pwr.romAfter = false → s.pwr.keepImage = false →
        t.boot = { s.boot with step := 4 }) ∧
      (∀ b, s.boot.run = some b → s.boot.step = 6 → t.boot = { s.boot with step := 7 }) ∧
      (∀ b, s.boot.run = some b → s.boot.step = 7 → 3 ≤ b.startupFails →
        t.boot.err = 7 ∧ t.boot.step = 4 ∧ t.fw.sram = [] ∧ t.keys.rngOk = false) ∧
      (∀ b, s.boot.run = some b → s.boot.step = 7 → b.startupFails < 3 → s.Inv →
        (∀ n, n < 8 → (s.port n).halted = false) →
        t.boot.step = 8 ∧ t.fw = s.fw ∧ t.keys.rngOk = true ∧ t.keys.identReady = true ∧ t.cel.rootPresent = true ∧
          t.stair.trained = true ∧ ∀ n, n < 8 → ReadDue n s.boot.scratch (.line n) t) ∧
      (∀ b, s.boot.run = some b → s.boot.step = 9 → s.cel.rootPresent = true → b.pantryOk = true →
        t.study.cmdRdy = true ∧ t.boot = { s.boot with step := 0x0A, run := none } ∧ t.fw.sram = s.fw.sram ∧
          t.fw.floor = max s.romFloor (secFloor (s.fw.sram.headD [])) ∧ t.pwr.grants = true ∧ t.pan.slots = [] ∧
          t.lar.nodes = [] ∧ ∀ i, (t.inst i).cq.enable = false ∧ (t.inst i).eq.enable = false) ∧
      (∀ b, s.boot.run = some b → s.boot.step = 9 → b.pantryOk = false →
        t.boot = { s.boot with step := 0xFF, err := 9, detail := 0, run := none, lines := [] } ∧ t.fw.imageRuns = false)) ∧
  (∀ (s : State) (p : Nat) (x : List Byte), s.Inv → s.boot.lines.length = 7 → (s.port 0).halted = false →
    let boot := { s.boot with lines := s.boot.lines ++ [(p, some x)] }
    let t := deliverWhole (.line p) x s
    (exchangeFault boot = none → t.boot = boot ∧ WriteDue 0 (s.boot.scratch + 64) .lineW t) ∧
    (∀ n, exchangeFault boot = some n → t.boot.err = 8 ∧ t.boot.detail = n ∧ t.boot.step = 4 ∧ t.fw.sram = [])) ∧
  (∀ (s : State) (b : BringUp) (w : Wr), s.boot.run = some b → w.owner = .lineW → writesLeft s 0 (fun v => v == .lineW) = 0 →
    let t := writeAcked 0 w s
    let boot := { s.boot with
      step := 9, lines := [], snapshot64 := field 6 2 ((s.boot.line 0).getD []) % 2 == 1 }
    (s.cel.rootPresent = true → t.boot = boot ∧ t.fw = s.fw ∧ t.study = s.study ∧ t.keys = s.keys) ∧
    (s.cel.rootPresent = false → b.againFails < 3 →
      t.boot = boot ∧ t.cel.rootPresent = true ∧ t.keys.rngOk = true ∧ t.fw = s.fw) ∧
    (s.cel.rootPresent = false → 3 ≤ b.againFails →
      t.boot.err = 7 ∧ t.boot.step = 4 ∧ t.fw.sram = [] ∧ t.keys.rngOk = false))

/-- SOFT_RESET, STUDY_RESTART, STUDY_WATCHDOG and LOCKSTEP_MISMATCH (R616, R618 to R620): a write with the key and one of
the two bits starts a soft reset, in which grants, speculative copies and the transaction end and the tick is saved, or
restarts the Study; any other write changes nothing; the reset ends Doze; a restart keeps the image and every table, and
while Landing takes its time cmd_rdy is low and rings and operations stay (R12); under Foundation ROM a lockstep mismatch
stops bring-up. What changes at the decision and what when the image starts is the model's choice (log entry 66). -/
def Obligations.RestartsAndSoftReset : Prop :=
  (∀ (s : State) (strb : BitVec 8) (data : Word) (b : BringUp), UnitOk 0x10300 strb s →
    (resetTaken data s = true → data.getLsbD 1 = true →
      ∃ t, exec (.softReset strb data b) s = .next (finish t) ∧ t.pwr.softReset = some 1 ∧
        t.pwr.keepImage = data.getLsbD 2 ∧ t.pwr.romAfter = false ∧ t.pwr.grants = false ∧ t.pwr.entry = none ∧
        t.pwr.state = .active ∧ t.boot.rom = b.rom ∧
        t.specs = [] ∧ t.diag.armed = [] ∧ t.txn.opened = false ∧ t.cel = { s.cel with tick := s.tickNow } ∧
        t.rings = s.rings ∧ t.ops = s.ops ∧ t.pan = s.pan) ∧
    (resetTaken data s = false → exec (.softReset strb data b) s = .next (finish (onUnit 0x10300 s)))) ∧
  (∀ (s : State) (strb : BitVec 8) (data : Word) (x : LandingRun), UnitOk 0x10300 strb s →
    (resetTaken data s = false ∨ s.fw.imageRuns = false →
      exec (.studyRestart strb data x) s = .next (finish (onUnit 0x10300 s))) ∧
    (resetTaken data s = true → data.getLsbD 0 = true → s.fw.imageRuns = true → s.fw.state ≠ .trial →
      x.sramOk = true → s.boot.run = none → s.fw.landing = none → (∀ i v, (s.inst i).cq.serving = some v → v.wait ≠ .attach) →
      ∃ t, exec (.studyRestart strb data x) s = .next (finish t) ∧ (x.us = 0 → ImageRestarted s t) ∧
        (0 < x.us → Lands 3 x s t))) ∧
  (∀ (s : State) (x : LandingRun), s.pins.mainUp = true → s.fw.landing = none →
    (s.fw.imageRuns = true → s.boot.run = none → s.fw.state ≠ .trial → x.sramOk = true → s.pwr.softReset = none →
      (∀ i v, (s.inst i).cq.serving = some v → v.wait ≠ .attach) →
      (s.study.cmdRdy = true → ∃ t, exec (.studyWatchdog x) s = .next (finish t) ∧ (x.us = 0 → ImageRestarted s t) ∧
        (0 < x.us → Lands 3 x s t)) ∧
      (s.boot.step ≠ 0xFF → Sound s →
        ∃ t, exec (.lockstepMismatch x) s = .next (finish t) ∧ (x.us = 0 → ImageRestarted s t) ∧
          (0 < x.us → Lands 3 x s t))) ∧
    (s.fw.imageRuns = false → s.boot.step ≠ 0xFF → s.pwr.softReset = none →
      ∃ t, exec (.lockstepMismatch x) s = .next t ∧
        t.boot = { s.boot with step := 0xFF, err := 2, detail := 0, run := none, lines := [] } ∧
        t.fw = { s.fw with sram := [] } ∧ t.tables = s.tables))

/-- DOZE, RETAIN, OFF, ACTIVE, IDLE and POWER_REFUSE_TIMEOUT (R623 to R627, R634, Table 18-6): a TARGET that is not refused
starts its entry, one that is refused says why and stays in its state; ACTIVE ends Doze; an idle block enters Idle and changes
nothing else; a table that does not empty refuses the entry. -/
def Obligations.PowerStates : Prop :=
  (∀ (s : State) (strb : BitVec 8) (data : Word) (code : Nat) (w : PwrState) (c : Instr),
    (code, w, c) ∈ ([(2, .doze, .doze strb data), (3, .retain, .retain strb data), (4, .off, .off strb data)] :
      List (Nat × PwrState × Instr)) →
    UnitOk 0x10308 strb s → bits data 2 0 = code → s.fw.imageRuns = true → s.boot.run = none →
    s.pwr.entry = none → s.pwr.softReset = none → s.pwr.state ≠ .doze →
    ∃ t, exec c s = .next (finish t) ∧ t.tables = s.tables ∧ t.insts = s.insts ∧ t.cel = s.cel ∧
      t.pwr.idleDelay = bits data 31 16 ∧ t.pwr.wakeOnDb = data.getLsbD 8 ∧
      (targetRefused s = none → t.pwr.entry = some w ∧ t.pwr.target = code ∧ t.pwr.step = 1) ∧
      (∀ r, targetRefused s = some r → t.pwr.entry = none ∧ t.pwr.target = 0 ∧ t.pwr.refuse = r)) ∧
  (∀ (s : State) (strb : BitVec 8) (data : Word), UnitOk 0x10308 strb s → bits data 2 0 = 0 → s.dozing = true →
    ∃ t, exec (.active strb data) s = .next (finish t) ∧ t.tables = s.tables ∧ t.pwr.state = .active ∧
      t.pwr.entry = none ∧ t.pwr.lastWake = 1 ∧ t.pwr.grants = true) ∧
  (∀ s : State, idleDue s = true → ∃ t, exec .idle s = .next t ∧ t.pwr = { s.pwr with state := .idle } ∧
    t.tables = s.tables ∧ t.insts = s.insts ∧ t.cel = s.cel ∧ t.pins = s.pins) ∧
  (∀ s : State, s.pwr.entry.isSome = true → s.pwr.step = 1 → s.ops ≠ [] →
    ∃ t, exec .powerRefuseTimeout s = .next (finish t) ∧ t.tables = s.tables ∧ t.pwr = { s.pwr with
      entry := none, step := 0, target := 0, refuse := 5, state := if s.pwr.state = .doze then .doze else .active })

/-- COLD_POWER_ON, BLOCK_RESET, PWR_MAIN_GOOD_FALL, POR_N_LOW, BLK_RST_N_RELEASE and RETAIN_EXIT (R491 to R493, R508, R523,
R548, R578, R616, R617, R622, R629, Table 18-7): each reset clears every MAIN item and keeps the Cellar's, a cold power-on all
but the fault count; the block is off without vdd_aon; a reset of MAIN adds 1,000 µs to the tick and keeps the numbers of
transactions that Wilto has rolled back; bring-up starts at its first step, and goes on once blk_rst_n is released; an exit
from Retain with a sound image keeps the rings and the operations and raises cmd_rdy. -/
def Obligations.ResetsClear : Prop :=
  (∀ s : State,
    (∀ r, 0 < s.cel.faultLimit → ∃ t, exec (.coldPowerOn r) s = .next t ∧ MainCleared t ∧ t.txn.aborted = [] ∧
      t.pins.mainUp = true ∧ t.pins.porN = true ∧ t.boot.step = 1 ∧ t.boot.rom = r ∧ t.cel.onVbat = false ∧
      t.cel.faultLog = [] ∧
      t.cel.root = s.cel.root ∧ t.cel.lockEvent = s.cel.lockEvent ∧ t.cel.locked = s.cel.locked) ∧
    (∃ t, exec .porNLow s = .next t ∧ MainCleared t ∧ t.pins.porN = false ∧ t.pins.mainUp = false ∧
      t.pwr.state = .off ∧ t.cel.onVbat = true ∧ t.cel.root = s.cel.root ∧ t.cel.locked = s.cel.locked) ∧
    (∀ c, c = Instr.blockReset ∧ s.pins.porN = true ∧ s.pins.blkRstN = true ∨
        c = Instr.pwrMainGoodFall ∧ s.pins.porN = true ∧ s.pins.mainReq = true ∧ s.pwr.state ≠ .retain ∧
          s.pwr.state ≠ .off →
      ∃ t, exec c s = .next t ∧ MainCleared t ∧ t.pins.mainUp = false ∧ t.pins.iso = true ∧
        t.pins.blkRstN = false ∧ t.boot.step = 1 ∧
        t.txn.aborted = (if s.txn.opened then [s.txn.num] else []) ++ s.txn.aborted ∧
        t.cel = { s.cel with tick := if s.pins.mainUp then s.cel.tick + 1000 else s.cel.tick }) ∧
    (s.pwr.state = .retain ∨ s.pwr.state = .off →
      ∃ t, exec .pwrMainGoodFall s = .next t ∧ t.pins = { s.pins with mainGood := false } ∧ t.tables = s.tables ∧
        t.insts = s.insts ∧ t.cel = s.cel) ∧
    (s.pins.porN = true → s.pins.blkRstN = false →
      ∀ r, ∃ t, exec (.blkRstNRelease r) s = .next t ∧ t.pins.mainUp = true ∧ t.pins.blkRstN = true ∧
        t.boot = { s.boot with rom := r } ∧ t.cel.root = s.cel.root ∧
        t.rings = s.rings)) ∧
  (∀ (s : State) (x : LandingRun) (b : BringUp), retainEnds s = true → s.pwr.alarmWake = false → x.sramOk = true →
    x.selfCheck = true → b.startupFails < 3 → (∀ n, n < 2 * s.build.rooms → n ∈ b.alcovesOk) →
      (∀ n, n < s.build.rooms → n ∈ b.chachasOk) →
    (∀ n, n < s.build.engines → n ∈ b.enginesOk) →
    ∃ t, exec (.retainExit x b) s = .next (finish t) ∧ t.study.cmdRdy = true ∧ t.pins.mainUp = true ∧
      t.pins.mainReq = true ∧ t.pwr.state = .active ∧ t.pwr.lastWake = 5 ∧ t.pwr.grants = true ∧
      t.rings = s.rings.map (fun p => (p.1, { p.2 with harvOut := none, held := none })) ∧ t.ops = s.ops ∧
      t.specs = [] ∧ t.pan.slots = [] ∧ t.txn = s.txn ∧ t.fw.sram = s.fw.sram)

/-! ### Stair links and the Porch -/

/-- The lanes and links of the Stair (R510, R511, R538 to R544, R547): an attempt starts with its preset and counts, the
lane's transmitter sends, in PAM4 on a long link, and adapt_req rises; adapt_done marks it; a figure of merit that reaches
FOM_MIN puts the lane into service, and the link then sends HELLO once it can be signed; a failed attempt ends it, the fifth
fails the lane; a new series starts from 0; a lane that leaves service degrades a normal link whose other lane serves and
drops any other; a HELLO is refused with its reason or brings the link up; HELLO_TIMEOUT drops a link that negotiates. A
message goes out as 64-bit blocks that alternate over the lanes in service, each with the sync header of data or of control,
and its payload scrambled by x^58 + x^39 + 1 (R511); which blocks a message is, which lane is first and which bit is the
older are the model's choice (log entry 85), and so is that adapt_req stays 1 to the end of the attempt (log entry 113). -/
def Obligations.StairLinksTrain : Prop :=
  (∀ (s : State) (down : Bool) (n : Nat), s.pins.mainUp = true → s.stair.trained = true →
    linkEnabled down s = true → laneUsed (linkLong down s) n = true →
    let l := s.link down
    let a := l.lane n
    (a.inService = false → a.trying = false → a.failed = false → a.attempts < 5 →
      ∃ t, exec (.laneAttemptStart down n) s = .next (finish t) ∧ (t.link down).lane n = { a with
        sends := true, trying := true, adapted := false, attempts := a.attempts + 1, fomMin := s.stair.fomMin,
        preset := if a.attempts = 0 then s.stair.presetFirst else (a.preset + 1) % 8 } ∧
        t.laneMode down n = linkLong down s ∧
        (s.pins.iso = false → t.txEidle down n = false ∧ t.adaptReq down n = true)) ∧
    (a.trying = true →
      ∃ t, exec (.adaptDone down n) s = .next (finish t) ∧ (t.link down).lane n = { a with adapted := true }) ∧
    (∀ fom : BitVec 8, a.trying = true → a.fomMin ≤ fom.toNat →
      ∃ t, exec (.laneAccept down n fom) s = .next (finish t) ∧
        (t.link down).lane n = { a with inService := true, trying := false, failed := false, fom := fom } ∧
        (l.state = .training → (t.link down).state = .negotiating ∧
          (s.keys.rngOk = true → s.keys.identReady = true → ∃ h, StairMsg.hello h ∈ (t.link down).out) ∧
          (s.keys.rngOk = false ∨ s.keys.identReady = false → (t.link down).helloDue = true))) ∧
    (∀ fom : BitVec 8, a.trying = true →
      ∃ t, exec (.laneAttemptFail down n fom) s = .next (finish t) ∧ (t.link down).lane n = { a with
        trying := false, adapted := false, fom := fom, failed := decide (5 ≤ a.attempts) }) ∧
    (a.failed = true →
      ∃ t, exec (.laneRetrySeries down n) s = .next (finish t) ∧
        (t.link down).lane n = { a with failed := false, attempts := 0 }) ∧
    (a.inService = true →
      ∃ t, exec (.laneOutOfService down n) s = .next (finish t) ∧
        (t.link down).lane n = { a with inService := false, attempts := 0 } ∧
        (linkLong down s = true ∨ (l.lane (1 - n)).inService = false → (t.link down).state = .down) ∧
        (linkLong down s = false → (l.lane (1 - n)).inService = true → l.state = .up →
          (t.link down).state = .degraded))) ∧
  (∀ (s : State) (down : Bool) (m : HelloMsg), s.pins.mainUp = true → (s.link down).state = .negotiating →
    (∃ t, exec (.helloTimeout down) s = .next (finish t) ∧ (t.link down).state = .down ∧
      (t.link down).lane0.inService = false ∧ (t.link down).lane1.inService = false) ∧
    (∀ r, helloRefused down m s = some r →
      ∃ t, exec (.hello down m) s = .next (finish t) ∧ (t.link down).state = .refused ∧ (t.link down).reason = r) ∧
    (helloRefused down m s = none →
      ∃ t, exec (.hello down m) s = .next (finish t) ∧ (t.link down).carries = true ∧ (t.link down).reason = 0 ∧
        (t.link down).nbrId = m.deviceId ∧ (t.link down).nbrPos = m.pos ∧
        some (t.link down).ver = stairVersion m s.fw ∧
        (down = false → s.stair.tick ≤ m.tick + m.roundTrip / 2 → t.stair.tick = m.tick + m.roundTrip / 2))) ∧
  (∀ (l : Link) (m : StairMsg) (i : Nat) (ctl : Bool) (w : BitVec 64), (Config.stairFrame m.fields)[i]? = some (ctl, w) →
    ∃ b : LineBlock, (l.put m).line[l.line.length + i]? = some b ∧ b.lane = l.lanes.getD (i % l.lanes.length) 0 ∧
      b.hdr = (if ctl then 2 else 1)) ∧
  (∀ (st : BitVec 58) (w : BitVec 64),
    (∀ k, k < 64 → (scramble st w).1.getLsbD k = (w.getLsbD k).xor
      ((if k < 39 then st.getLsbD (38 - k) else (scramble st w).1.getLsbD (k - 39)).xor
        (if k < 58 then st.getLsbD (57 - k) else (scramble st w).1.getLsbD (k - 58)))) ∧
    ∀ j, j < 58 → (scramble st w).2.getLsbD j = (scramble st w).1.getLsbD (63 - j))

/-- The Porch (R7, R495, R498, R501, R503, R682, Tables 3-1 and 14-7): a page below the block's instances decodes to
itself; a full write of TH_INST_SEL selects, a narrow one and one outside the map change no register; reading CEL_ID_DATA
answers the word and moves on; while MAIN is away every access is answered ABSENT. -/
def Obligations.PorchAccess : Prop :=
  (∀ (s : State) (page off : Nat), page ≤ s.build.insts → off < 0x10000 → off % 8 = 0 →
    porchTarget (pageAddr page off) s = .page page off) ∧
  (∀ (s : State) (data : Word), s.pins.mainUp = true → s.pins.porN = true →
    (∃ t, exec (.registerWrite 0x10020000 0xFF data) s = .next (finish t) ∧ t.instSel = bits data 12 0 ∧
      t.tables = s.tables ∧ t.insts = s.insts ∧ t.porch = some (0, 0)) ∧
    (∀ strb : BitVec 8, strb ≠ 0xFF → ∃ t, exec (.registerWrite 0x10020000 strb data) s = .next t ∧
      t.instSel = s.instSel ∧ t.tables = s.tables ∧ t.insts = s.insts ∧ t.porch = some (0, 0)) ∧
    (∀ addr strb, porchTarget addr s = .nothing → ∃ t, exec (.registerWrite addr strb data) s = .next t ∧
      t.tables = s.tables ∧ t.insts = s.insts ∧ t.porch = some (2, 0)) ∧
    (∃ t, exec .idDataRead s = .next t ∧ t.porch = some (0, idDataReg s) ∧ t.tables = s.tables ∧
      t.keys = { s.keys with idSel := if s.keys.idSel < 473 then s.keys.idSel + 1 else 0 })) ∧
  (∀ (s : State) (addr : Nat) (write : Bool) (data : Word), s.pins.mainUp = false →
    (∃ t, exec (.absent addr write data) s = .next t ∧ t.tables = s.tables ∧ t.insts = s.insts ∧ t.cel = s.cel ∧
      t.porch = if s.pins.porN then some (1, 0) else s.porch) ∧
    (∃ t, exec .idDataRead s = .next t ∧ t.keys = s.keys ∧ t.tables = s.tables ∧
      t.porch = if s.pins.porN then some (1, 0) else s.porch))

/-! ### The whole block -/

/-- A step takes the command at the front of the queue and runs it with the queue's rest; an empty queue idles, which is
the model's choice (log entry 1). -/
def Obligations.StepRunsFront : Prop :=
  (∀ (s : State) (c : Instr) (rest : List Instr), s.pending = c :: rest →
    step s = exec c { s with pending := rest }) ∧
  (∀ s : State, s.pending = [] → step s = .next s)

/-- Every command completes: exec answers a next state, with the build, the straps, the ROM floor, the waiting commands
and the number of ports, Alcoves, units and engines as they were. That a command whose event cannot occur changes nothing
is the model's choice (log entry 2). -/
def Obligations.EveryCommandCompletes : Prop :=
  ∀ (c : Instr) (s : State), ∃ t, exec c s = .next t ∧ t.shape = s.shape

/-- Every step keeps the invariant, takes one waiting command, and leaves the build, the straps and the ROM floor. That
these are fixed in a run is the model's choice (log entries 1 and 4). -/
def Obligations.EveryStepKeepsTheShape : Prop :=
  ∀ s t : State, s.Inv → step s = .next t →
    t.Inv ∧ t.pending = s.pending.drop 1 ∧ t.build = s.build ∧ t.romFloor = s.romFloor ∧ t.upEn = s.upEn ∧
      t.dnEn = s.dnEn ∧ t.upLong = s.upLong ∧ t.dnLong = s.dnLong

/-- Only UNLOCK clears the lock state (R568, R575, R576, Table 18-7): no other command, reset or power state does. -/
def Obligations.OnlyUnlockUnlocks : Prop :=
  ∀ (c : Instr) (s t : State), s.cel.locked = true → (∀ q, c ≠ .unlock q) → exec c s = .next t → t.cel.locked = true

/-- A message counter never decreases but by cellar_por_n, which sets every one to 0; only a KEYMSG_APPLY changes one, as it
is taken, or when the engine or the millisecond it waited for comes (R390): that of the class of its envelope, to the
envelope's COUNTER (R382). -/
def Obligations.MessageCountersNeverFall : Prop :=
  (∀ (c : Instr) (s t : State), c ≠ .cellarPor → exec c s = .next t →
    s.cel.ctr0 ≤ t.cel.ctr0 ∧ s.cel.ctr1 ≤ t.cel.ctr1 ∧ s.cel.ctr2 ≤ t.cel.ctr2 ∧ s.cel.ctr3 ≤ t.cel.ctr3 ∧
      ((∀ q, c ≠ .keymsgApply q) → c ≠ .hearthHandoff → (∀ u, c ≠ .faultWindowStep u) →
        t.cel.ctr0 = s.cel.ctr0 ∧ t.cel.ctr1 = s.cel.ctr1 ∧ t.cel.ctr2 = s.cel.ctr2 ∧ t.cel.ctr3 = s.cel.ctr3)) ∧
  (∀ (c : Instr) (s t : State), (∃ q, c = .keymsgApply q) ∨ c = .hearthHandoff ∨ (∃ u, c = .faultWindowStep u) →
    exec c s = .next t →
    let e := s.keys.envelope
    ∀ kind ∈ [0x01, 0x02, 0x10, 0x11],
      t.cel.ctr kind = s.cel.ctr kind ∨ kindClass (field 6 2 e) = kindClass kind ∧ t.cel.ctr kind = field 16 8 e) ∧
  (∀ s : State, ∃ t, exec .cellarPor s = .next t ∧
    t.cel.ctr0 = 0 ∧ t.cel.ctr1 = 0 ∧ t.cel.ctr2 = 0 ∧ t.cel.ctr3 = 0)

/-- The follow-ups of a command leave alone what Safety.lean calls still, in a calm block. What follows a command at once
is the model's choice (log entry 8). -/
def Obligations.FollowUpsFrame : Prop := ∀ s : State, Calm s → (finish s).still = s.still

/-- What reset leaves (R55, R74, R83, R382, R576, Tables 3-6, 4-6, 6-5, 13-2): the invariant holds; instance 0 alone is
present, ACTIVE with WEIGHT 16, MAX_IN_FLIGHT 512 and HEARTH_SHARE 16; no ring, no operation, no transaction; the first
transaction number is 1; the timeouts, the prefetch depth and the limits of the Pantry door are as their registers give
them; cmd_rdy is low; the block is locked with LOCK_EVENT 0 and LOCK_CAUSE 0xFF, and every message counter is 0. Which moment
State.reset is, and the values that no table gives, are the model's choice (log entry 3). -/
def Obligations.ResetLeaves : Prop :=
  let s := State.reset
  s.Inv ∧ (s.inst 0).state = .active ∧ (s.inst 0).weight = 16 ∧ (s.inst 0).quota = 512 ∧ (s.inst 0).hshare = 16 ∧
    (∀ i, i ≠ 0 → (s.inst i).state = .absent) ∧ s.rings = [] ∧ s.ops = [] ∧ s.pending = [] ∧
    s.txn.opened = false ∧ s.txn.next = 1 ∧ s.study.cmdRdy = false ∧ s.study.proto = 0x0100 ∧
    s.hwy.readTimeout = 100 ∧ s.hwy.writeTimeout = 100 ∧ s.sched.depth = 4 ∧ s.sched.specEn = false ∧
    s.sched.missMax = 64 ∧ s.sched.evictRate = 48 ∧ s.cel.locked = true ∧ s.cel.lockEvent = 0 ∧
    s.cel.lockCause = 0xFF ∧ s.cel.flags = 0 ∧ s.cel.lockOnWake = false ∧ s.cel.ctr0 = 0 ∧ s.cel.ctr1 = 0 ∧
    s.cel.ctr2 = 0 ∧ s.cel.ctr3 = 0 ∧ s.lar.attached = false ∧ s.fw.state = .idle ∧ s.fw.imageRuns = false
end

