-- ==== Sys2Proof/Laws/State.lean ====
section
/-!
SUPPORT. Tables read after a write; one lemma per field for each named update of the state; the accessors after an
update.
-/

namespace Sys2Proof.Machine

/-! ### Tables -/

theorem tget_tset_same {α : Type} (k : Nat) (v : α) (l : List (Nat × α)) : tget k (tset k v l) = some v := by
  induction l with
  | nil => simp [tset, tget]
  | cons p t ih =>
    obtain ⟨j, w⟩ := p
    unfold tset
    split
    · next h => simp [tget, Nat.ne_of_lt h, ih]
    · split <;> simp_all [tget]

theorem tget_tset_other {α : Type} {k k' : Nat} (h : k' ≠ k) (v : α) (l : List (Nat × α)) :
    tget k' (tset k v l) = tget k' l := by
  induction l with
  | nil => simp [tset, tget, h.symm]
  | cons p t ih =>
    obtain ⟨j, w⟩ := p
    unfold tset
    split
    · simp [tget, ih]
    · split
      · next hk =>
        have : j = k := by simpa using hk
        subst this
        simp [tget, h.symm]
      · simp [tget, h.symm]

theorem tget_tset {α : Type} (k k' : Nat) (v : α) (l : List (Nat × α)) :
    tget k' (tset k v l) = if k' = k then some v else tget k' l := by
  split
  · next h => subst h; exact tget_tset_same _ v l
  · next h => exact tget_tset_other h v l

theorem modAt_getElem? {α : Type} (f : α → α) (n m : Nat) (l : List α) :
    (modAt f n l)[m]? = if m = n then l[m]?.map f else l[m]? := by
  induction l generalizing n m with
  | nil => cases n <;> simp [modAt]
  | cons x t ih =>
    cases n with
    | zero => cases m <;> simp [modAt]
    | succ n => cases m <;> simp [modAt, ih]

/-! ### Fields after an update -/

@[simp] theorem modInst_build (i : Nat) (f : Inst → Inst) (s : State) : (modInst i f s).build = s.build := rfl
@[simp] theorem modInst_upEn (i : Nat) (f : Inst → Inst) (s : State) : (modInst i f s).upEn = s.upEn := rfl
@[simp] theorem modInst_dnEn (i : Nat) (f : Inst → Inst) (s : State) : (modInst i f s).dnEn = s.dnEn := rfl
@[simp] theorem modInst_upLong (i : Nat) (f : Inst → Inst) (s : State) : (modInst i f s).upLong = s.upLong := rfl
@[simp] theorem modInst_dnLong (i : Nat) (f : Inst → Inst) (s : State) : (modInst i f s).dnLong = s.dnLong := rfl
@[simp] theorem modInst_romFloor (i : Nat) (f : Inst → Inst) (s : State) : (modInst i f s).romFloor = s.romFloor := rfl
@[simp] theorem modInst_pins (i : Nat) (f : Inst → Inst) (s : State) : (modInst i f s).pins = s.pins := rfl
@[simp] theorem modInst_porch (i : Nat) (f : Inst → Inst) (s : State) : (modInst i f s).porch = s.porch := rfl
@[simp] theorem modInst_study (i : Nat) (f : Inst → Inst) (s : State) : (modInst i f s).study = s.study := rfl
@[simp] theorem modInst_txn (i : Nat) (f : Inst → Inst) (s : State) : (modInst i f s).txn = s.txn := rfl
@[simp] theorem modInst_instSel (i : Nat) (f : Inst → Inst) (s : State) : (modInst i f s).instSel = s.instSel := rfl
@[simp] theorem modInst_rings (i : Nat) (f : Inst → Inst) (s : State) : (modInst i f s).rings = s.rings := rfl
@[simp] theorem modInst_specs (i : Nat) (f : Inst → Inst) (s : State) : (modInst i f s).specs = s.specs := rfl
@[simp] theorem modInst_ops (i : Nat) (f : Inst → Inst) (s : State) : (modInst i f s).ops = s.ops := rfl
@[simp] theorem modInst_nextOp (i : Nat) (f : Inst → Inst) (s : State) : (modInst i f s).nextOp = s.nextOp := rfl
@[simp] theorem modInst_sched (i : Nat) (f : Inst → Inst) (s : State) : (modInst i f s).sched = s.sched := rfl
@[simp] theorem modInst_core (i : Nat) (f : Inst → Inst) (s : State) : (modInst i f s).core = s.core := rfl
@[simp] theorem modInst_rooms (i : Nat) (f : Inst → Inst) (s : State) : (modInst i f s).rooms = s.rooms := rfl
@[simp] theorem modInst_pan (i : Nat) (f : Inst → Inst) (s : State) : (modInst i f s).pan = s.pan := rfl
@[simp] theorem modInst_lar (i : Nat) (f : Inst → Inst) (s : State) : (modInst i f s).lar = s.lar := rfl
@[simp] theorem modInst_cel (i : Nat) (f : Inst → Inst) (s : State) : (modInst i f s).cel = s.cel := rfl
@[simp] theorem modInst_keys (i : Nat) (f : Inst → Inst) (s : State) : (modInst i f s).keys = s.keys := rfl
@[simp] theorem modInst_hearth (i : Nat) (f : Inst → Inst) (s : State) : (modInst i f s).hearth = s.hearth := rfl
@[simp] theorem modInst_scu (i : Nat) (f : Inst → Inst) (s : State) : (modInst i f s).scu = s.scu := rfl
@[simp] theorem modInst_hwy (i : Nat) (f : Inst → Inst) (s : State) : (modInst i f s).hwy = s.hwy := rfl
@[simp] theorem modInst_boot (i : Nat) (f : Inst → Inst) (s : State) : (modInst i f s).boot = s.boot := rfl
@[simp] theorem modInst_fw (i : Nat) (f : Inst → Inst) (s : State) : (modInst i f s).fw = s.fw := rfl
@[simp] theorem modInst_pwr (i : Nat) (f : Inst → Inst) (s : State) : (modInst i f s).pwr = s.pwr := rfl
@[simp] theorem modInst_stair (i : Nat) (f : Inst → Inst) (s : State) : (modInst i f s).stair = s.stair := rfl
@[simp] theorem modInst_ecc (i : Nat) (f : Inst → Inst) (s : State) : (modInst i f s).ecc = s.ecc := rfl
@[simp] theorem modInst_diag (i : Nat) (f : Inst → Inst) (s : State) : (modInst i f s).diag = s.diag := rfl
@[simp] theorem modInst_wraps (i : Nat) (f : Inst → Inst) (s : State) : (modInst i f s).wraps = s.wraps := rfl
@[simp] theorem modInst_sampQ (i : Nat) (f : Inst → Inst) (s : State) : (modInst i f s).sampQ = s.sampQ := rfl
@[simp] theorem modInst_freeCtr (i : Nat) (f : Inst → Inst) (s : State) : (modInst i f s).freeCtr = s.freeCtr := rfl
@[simp] theorem modInst_pending (i : Nat) (f : Inst → Inst) (s : State) : (modInst i f s).pending = s.pending := rfl

@[simp] theorem modOp_build (i : Nat) (f : Op → Op) (s : State) : (modOp i f s).build = s.build := rfl
@[simp] theorem modOp_upEn (i : Nat) (f : Op → Op) (s : State) : (modOp i f s).upEn = s.upEn := rfl
@[simp] theorem modOp_dnEn (i : Nat) (f : Op → Op) (s : State) : (modOp i f s).dnEn = s.dnEn := rfl
@[simp] theorem modOp_upLong (i : Nat) (f : Op → Op) (s : State) : (modOp i f s).upLong = s.upLong := rfl
@[simp] theorem modOp_dnLong (i : Nat) (f : Op → Op) (s : State) : (modOp i f s).dnLong = s.dnLong := rfl
@[simp] theorem modOp_romFloor (i : Nat) (f : Op → Op) (s : State) : (modOp i f s).romFloor = s.romFloor := rfl
@[simp] theorem modOp_pins (i : Nat) (f : Op → Op) (s : State) : (modOp i f s).pins = s.pins := rfl
@[simp] theorem modOp_porch (i : Nat) (f : Op → Op) (s : State) : (modOp i f s).porch = s.porch := rfl
@[simp] theorem modOp_study (i : Nat) (f : Op → Op) (s : State) : (modOp i f s).study = s.study := rfl
@[simp] theorem modOp_txn (i : Nat) (f : Op → Op) (s : State) : (modOp i f s).txn = s.txn := rfl
@[simp] theorem modOp_insts (i : Nat) (f : Op → Op) (s : State) : (modOp i f s).insts = s.insts := rfl
@[simp] theorem modOp_instSel (i : Nat) (f : Op → Op) (s : State) : (modOp i f s).instSel = s.instSel := rfl
@[simp] theorem modOp_rings (i : Nat) (f : Op → Op) (s : State) : (modOp i f s).rings = s.rings := rfl
@[simp] theorem modOp_specs (i : Nat) (f : Op → Op) (s : State) : (modOp i f s).specs = s.specs := rfl
@[simp] theorem modOp_nextOp (i : Nat) (f : Op → Op) (s : State) : (modOp i f s).nextOp = s.nextOp := rfl
@[simp] theorem modOp_sched (i : Nat) (f : Op → Op) (s : State) : (modOp i f s).sched = s.sched := rfl
@[simp] theorem modOp_core (i : Nat) (f : Op → Op) (s : State) : (modOp i f s).core = s.core := rfl
@[simp] theorem modOp_rooms (i : Nat) (f : Op → Op) (s : State) : (modOp i f s).rooms = s.rooms := rfl
@[simp] theorem modOp_pan (i : Nat) (f : Op → Op) (s : State) : (modOp i f s).pan = s.pan := rfl
@[simp] theorem modOp_lar (i : Nat) (f : Op → Op) (s : State) : (modOp i f s).lar = s.lar := rfl
@[simp] theorem modOp_cel (i : Nat) (f : Op → Op) (s : State) : (modOp i f s).cel = s.cel := rfl
@[simp] theorem modOp_keys (i : Nat) (f : Op → Op) (s : State) : (modOp i f s).keys = s.keys := rfl
@[simp] theorem modOp_hearth (i : Nat) (f : Op → Op) (s : State) : (modOp i f s).hearth = s.hearth := rfl
@[simp] theorem modOp_scu (i : Nat) (f : Op → Op) (s : State) : (modOp i f s).scu = s.scu := rfl
@[simp] theorem modOp_hwy (i : Nat) (f : Op → Op) (s : State) : (modOp i f s).hwy = s.hwy := rfl
@[simp] theorem modOp_boot (i : Nat) (f : Op → Op) (s : State) : (modOp i f s).boot = s.boot := rfl
@[simp] theorem modOp_fw (i : Nat) (f : Op → Op) (s : State) : (modOp i f s).fw = s.fw := rfl
@[simp] theorem modOp_pwr (i : Nat) (f : Op → Op) (s : State) : (modOp i f s).pwr = s.pwr := rfl
@[simp] theorem modOp_stair (i : Nat) (f : Op → Op) (s : State) : (modOp i f s).stair = s.stair := rfl
@[simp] theorem modOp_ecc (i : Nat) (f : Op → Op) (s : State) : (modOp i f s).ecc = s.ecc := rfl
@[simp] theorem modOp_diag (i : Nat) (f : Op → Op) (s : State) : (modOp i f s).diag = s.diag := rfl
@[simp] theorem modOp_wraps (i : Nat) (f : Op → Op) (s : State) : (modOp i f s).wraps = s.wraps := rfl
@[simp] theorem modOp_sampQ (i : Nat) (f : Op → Op) (s : State) : (modOp i f s).sampQ = s.sampQ := rfl
@[simp] theorem modOp_freeCtr (i : Nat) (f : Op → Op) (s : State) : (modOp i f s).freeCtr = s.freeCtr := rfl
@[simp] theorem modOp_pending (i : Nat) (f : Op → Op) (s : State) : (modOp i f s).pending = s.pending := rfl

@[simp] theorem modPort_build (i : Nat) (f : Port → Port) (s : State) : (modPort i f s).build = s.build := rfl
@[simp] theorem modPort_upEn (i : Nat) (f : Port → Port) (s : State) : (modPort i f s).upEn = s.upEn := rfl
@[simp] theorem modPort_dnEn (i : Nat) (f : Port → Port) (s : State) : (modPort i f s).dnEn = s.dnEn := rfl
@[simp] theorem modPort_upLong (i : Nat) (f : Port → Port) (s : State) : (modPort i f s).upLong = s.upLong := rfl
@[simp] theorem modPort_dnLong (i : Nat) (f : Port → Port) (s : State) : (modPort i f s).dnLong = s.dnLong := rfl
@[simp] theorem modPort_romFloor (i : Nat) (f : Port → Port) (s : State) : (modPort i f s).romFloor = s.romFloor := rfl
@[simp] theorem modPort_pins (i : Nat) (f : Port → Port) (s : State) : (modPort i f s).pins = s.pins := rfl
@[simp] theorem modPort_porch (i : Nat) (f : Port → Port) (s : State) : (modPort i f s).porch = s.porch := rfl
@[simp] theorem modPort_study (i : Nat) (f : Port → Port) (s : State) : (modPort i f s).study = s.study := rfl
@[simp] theorem modPort_txn (i : Nat) (f : Port → Port) (s : State) : (modPort i f s).txn = s.txn := rfl
@[simp] theorem modPort_insts (i : Nat) (f : Port → Port) (s : State) : (modPort i f s).insts = s.insts := rfl
@[simp] theorem modPort_instSel (i : Nat) (f : Port → Port) (s : State) : (modPort i f s).instSel = s.instSel := rfl
@[simp] theorem modPort_rings (i : Nat) (f : Port → Port) (s : State) : (modPort i f s).rings = s.rings := rfl
@[simp] theorem modPort_specs (i : Nat) (f : Port → Port) (s : State) : (modPort i f s).specs = s.specs := rfl
@[simp] theorem modPort_ops (i : Nat) (f : Port → Port) (s : State) : (modPort i f s).ops = s.ops := rfl
@[simp] theorem modPort_nextOp (i : Nat) (f : Port → Port) (s : State) : (modPort i f s).nextOp = s.nextOp := rfl
@[simp] theorem modPort_sched (i : Nat) (f : Port → Port) (s : State) : (modPort i f s).sched = s.sched := rfl
@[simp] theorem modPort_core (i : Nat) (f : Port → Port) (s : State) : (modPort i f s).core = s.core := rfl
@[simp] theorem modPort_rooms (i : Nat) (f : Port → Port) (s : State) : (modPort i f s).rooms = s.rooms := rfl
@[simp] theorem modPort_pan (i : Nat) (f : Port → Port) (s : State) : (modPort i f s).pan = s.pan := rfl
@[simp] theorem modPort_lar (i : Nat) (f : Port → Port) (s : State) : (modPort i f s).lar = s.lar := rfl
@[simp] theorem modPort_cel (i : Nat) (f : Port → Port) (s : State) : (modPort i f s).cel = s.cel := rfl
@[simp] theorem modPort_keys (i : Nat) (f : Port → Port) (s : State) : (modPort i f s).keys = s.keys := rfl
@[simp] theorem modPort_hearth (i : Nat) (f : Port → Port) (s : State) : (modPort i f s).hearth = s.hearth := rfl
@[simp] theorem modPort_scu (i : Nat) (f : Port → Port) (s : State) : (modPort i f s).scu = s.scu := rfl
@[simp] theorem modPort_boot (i : Nat) (f : Port → Port) (s : State) : (modPort i f s).boot = s.boot := rfl
@[simp] theorem modPort_fw (i : Nat) (f : Port → Port) (s : State) : (modPort i f s).fw = s.fw := rfl
@[simp] theorem modPort_pwr (i : Nat) (f : Port → Port) (s : State) : (modPort i f s).pwr = s.pwr := rfl
@[simp] theorem modPort_stair (i : Nat) (f : Port → Port) (s : State) : (modPort i f s).stair = s.stair := rfl
@[simp] theorem modPort_ecc (i : Nat) (f : Port → Port) (s : State) : (modPort i f s).ecc = s.ecc := rfl
@[simp] theorem modPort_diag (i : Nat) (f : Port → Port) (s : State) : (modPort i f s).diag = s.diag := rfl
@[simp] theorem modPort_wraps (i : Nat) (f : Port → Port) (s : State) : (modPort i f s).wraps = s.wraps := rfl
@[simp] theorem modPort_sampQ (i : Nat) (f : Port → Port) (s : State) : (modPort i f s).sampQ = s.sampQ := rfl
@[simp] theorem modPort_freeCtr (i : Nat) (f : Port → Port) (s : State) : (modPort i f s).freeCtr = s.freeCtr := rfl
@[simp] theorem modPort_pending (i : Nat) (f : Port → Port) (s : State) : (modPort i f s).pending = s.pending := rfl

@[simp] theorem mapEngines_build (f : Engine → Engine) (s : State) : (mapEngines f s).build = s.build := rfl
@[simp] theorem mapEngines_upEn (f : Engine → Engine) (s : State) : (mapEngines f s).upEn = s.upEn := rfl
@[simp] theorem mapEngines_dnEn (f : Engine → Engine) (s : State) : (mapEngines f s).dnEn = s.dnEn := rfl
@[simp] theorem mapEngines_upLong (f : Engine → Engine) (s : State) : (mapEngines f s).upLong = s.upLong := rfl
@[simp] theorem mapEngines_dnLong (f : Engine → Engine) (s : State) : (mapEngines f s).dnLong = s.dnLong := rfl
@[simp] theorem mapEngines_romFloor (f : Engine → Engine) (s : State) : (mapEngines f s).romFloor = s.romFloor := rfl
@[simp] theorem mapEngines_pins (f : Engine → Engine) (s : State) : (mapEngines f s).pins = s.pins := rfl
@[simp] theorem mapEngines_porch (f : Engine → Engine) (s : State) : (mapEngines f s).porch = s.porch := rfl
@[simp] theorem mapEngines_study (f : Engine → Engine) (s : State) : (mapEngines f s).study = s.study := rfl
@[simp] theorem mapEngines_txn (f : Engine → Engine) (s : State) : (mapEngines f s).txn = s.txn := rfl
@[simp] theorem mapEngines_insts (f : Engine → Engine) (s : State) : (mapEngines f s).insts = s.insts := rfl
@[simp] theorem mapEngines_instSel (f : Engine → Engine) (s : State) : (mapEngines f s).instSel = s.instSel := rfl
@[simp] theorem mapEngines_rings (f : Engine → Engine) (s : State) : (mapEngines f s).rings = s.rings := rfl
@[simp] theorem mapEngines_specs (f : Engine → Engine) (s : State) : (mapEngines f s).specs = s.specs := rfl
@[simp] theorem mapEngines_ops (f : Engine → Engine) (s : State) : (mapEngines f s).ops = s.ops := rfl
@[simp] theorem mapEngines_nextOp (f : Engine → Engine) (s : State) : (mapEngines f s).nextOp = s.nextOp := rfl
@[simp] theorem mapEngines_sched (f : Engine → Engine) (s : State) : (mapEngines f s).sched = s.sched := rfl
@[simp] theorem mapEngines_core (f : Engine → Engine) (s : State) : (mapEngines f s).core = s.core := rfl
@[simp] theorem mapEngines_rooms (f : Engine → Engine) (s : State) : (mapEngines f s).rooms = s.rooms := rfl
@[simp] theorem mapEngines_pan (f : Engine → Engine) (s : State) : (mapEngines f s).pan = s.pan := rfl
@[simp] theorem mapEngines_lar (f : Engine → Engine) (s : State) : (mapEngines f s).lar = s.lar := rfl
@[simp] theorem mapEngines_cel (f : Engine → Engine) (s : State) : (mapEngines f s).cel = s.cel := rfl
@[simp] theorem mapEngines_keys (f : Engine → Engine) (s : State) : (mapEngines f s).keys = s.keys := rfl
@[simp] theorem mapEngines_scu (f : Engine → Engine) (s : State) : (mapEngines f s).scu = s.scu := rfl
@[simp] theorem mapEngines_hwy (f : Engine → Engine) (s : State) : (mapEngines f s).hwy = s.hwy := rfl
@[simp] theorem mapEngines_boot (f : Engine → Engine) (s : State) : (mapEngines f s).boot = s.boot := rfl
@[simp] theorem mapEngines_fw (f : Engine → Engine) (s : State) : (mapEngines f s).fw = s.fw := rfl
@[simp] theorem mapEngines_pwr (f : Engine → Engine) (s : State) : (mapEngines f s).pwr = s.pwr := rfl
@[simp] theorem mapEngines_stair (f : Engine → Engine) (s : State) : (mapEngines f s).stair = s.stair := rfl
@[simp] theorem mapEngines_ecc (f : Engine → Engine) (s : State) : (mapEngines f s).ecc = s.ecc := rfl
@[simp] theorem mapEngines_diag (f : Engine → Engine) (s : State) : (mapEngines f s).diag = s.diag := rfl
@[simp] theorem mapEngines_wraps (f : Engine → Engine) (s : State) : (mapEngines f s).wraps = s.wraps := rfl
@[simp] theorem mapEngines_sampQ (f : Engine → Engine) (s : State) : (mapEngines f s).sampQ = s.sampQ := rfl
@[simp] theorem mapEngines_freeCtr (f : Engine → Engine) (s : State) : (mapEngines f s).freeCtr = s.freeCtr := rfl
@[simp] theorem mapEngines_pending (f : Engine → Engine) (s : State) : (mapEngines f s).pending = s.pending := rfl

@[simp] theorem mapSlots_build (f : Nat → Slot → Slot) (s : State) : (mapSlots f s).build = s.build := rfl
@[simp] theorem mapSlots_upEn (f : Nat → Slot → Slot) (s : State) : (mapSlots f s).upEn = s.upEn := rfl
@[simp] theorem mapSlots_dnEn (f : Nat → Slot → Slot) (s : State) : (mapSlots f s).dnEn = s.dnEn := rfl
@[simp] theorem mapSlots_upLong (f : Nat → Slot → Slot) (s : State) : (mapSlots f s).upLong = s.upLong := rfl
@[simp] theorem mapSlots_dnLong (f : Nat → Slot → Slot) (s : State) : (mapSlots f s).dnLong = s.dnLong := rfl
@[simp] theorem mapSlots_romFloor (f : Nat → Slot → Slot) (s : State) : (mapSlots f s).romFloor = s.romFloor := rfl
@[simp] theorem mapSlots_pins (f : Nat → Slot → Slot) (s : State) : (mapSlots f s).pins = s.pins := rfl
@[simp] theorem mapSlots_porch (f : Nat → Slot → Slot) (s : State) : (mapSlots f s).porch = s.porch := rfl
@[simp] theorem mapSlots_study (f : Nat → Slot → Slot) (s : State) : (mapSlots f s).study = s.study := rfl
@[simp] theorem mapSlots_txn (f : Nat → Slot → Slot) (s : State) : (mapSlots f s).txn = s.txn := rfl
@[simp] theorem mapSlots_insts (f : Nat → Slot → Slot) (s : State) : (mapSlots f s).insts = s.insts := rfl
@[simp] theorem mapSlots_instSel (f : Nat → Slot → Slot) (s : State) : (mapSlots f s).instSel = s.instSel := rfl
@[simp] theorem mapSlots_rings (f : Nat → Slot → Slot) (s : State) : (mapSlots f s).rings = s.rings := rfl
@[simp] theorem mapSlots_specs (f : Nat → Slot → Slot) (s : State) : (mapSlots f s).specs = s.specs := rfl
@[simp] theorem mapSlots_ops (f : Nat → Slot → Slot) (s : State) : (mapSlots f s).ops = s.ops := rfl
@[simp] theorem mapSlots_nextOp (f : Nat → Slot → Slot) (s : State) : (mapSlots f s).nextOp = s.nextOp := rfl
@[simp] theorem mapSlots_sched (f : Nat → Slot → Slot) (s : State) : (mapSlots f s).sched = s.sched := rfl
@[simp] theorem mapSlots_core (f : Nat → Slot → Slot) (s : State) : (mapSlots f s).core = s.core := rfl
@[simp] theorem mapSlots_rooms (f : Nat → Slot → Slot) (s : State) : (mapSlots f s).rooms = s.rooms := rfl
@[simp] theorem mapSlots_lar (f : Nat → Slot → Slot) (s : State) : (mapSlots f s).lar = s.lar := rfl
@[simp] theorem mapSlots_cel (f : Nat → Slot → Slot) (s : State) : (mapSlots f s).cel = s.cel := rfl
@[simp] theorem mapSlots_keys (f : Nat → Slot → Slot) (s : State) : (mapSlots f s).keys = s.keys := rfl
@[simp] theorem mapSlots_hearth (f : Nat → Slot → Slot) (s : State) : (mapSlots f s).hearth = s.hearth := rfl
@[simp] theorem mapSlots_scu (f : Nat → Slot → Slot) (s : State) : (mapSlots f s).scu = s.scu := rfl
@[simp] theorem mapSlots_hwy (f : Nat → Slot → Slot) (s : State) : (mapSlots f s).hwy = s.hwy := rfl
@[simp] theorem mapSlots_boot (f : Nat → Slot → Slot) (s : State) : (mapSlots f s).boot = s.boot := rfl
@[simp] theorem mapSlots_fw (f : Nat → Slot → Slot) (s : State) : (mapSlots f s).fw = s.fw := rfl
@[simp] theorem mapSlots_pwr (f : Nat → Slot → Slot) (s : State) : (mapSlots f s).pwr = s.pwr := rfl
@[simp] theorem mapSlots_stair (f : Nat → Slot → Slot) (s : State) : (mapSlots f s).stair = s.stair := rfl
@[simp] theorem mapSlots_ecc (f : Nat → Slot → Slot) (s : State) : (mapSlots f s).ecc = s.ecc := rfl
@[simp] theorem mapSlots_diag (f : Nat → Slot → Slot) (s : State) : (mapSlots f s).diag = s.diag := rfl
@[simp] theorem mapSlots_wraps (f : Nat → Slot → Slot) (s : State) : (mapSlots f s).wraps = s.wraps := rfl
@[simp] theorem mapSlots_sampQ (f : Nat → Slot → Slot) (s : State) : (mapSlots f s).sampQ = s.sampQ := rfl
@[simp] theorem mapSlots_freeCtr (f : Nat → Slot → Slot) (s : State) : (mapSlots f s).freeCtr = s.freeCtr := rfl
@[simp] theorem mapSlots_pending (f : Nat → Slot → Slot) (s : State) : (mapSlots f s).pending = s.pending := rfl

@[simp] theorem keepSlots_build (f : Nat → Slot → Bool) (s : State) : (keepSlots f s).build = s.build := rfl
@[simp] theorem keepSlots_upEn (f : Nat → Slot → Bool) (s : State) : (keepSlots f s).upEn = s.upEn := rfl
@[simp] theorem keepSlots_dnEn (f : Nat → Slot → Bool) (s : State) : (keepSlots f s).dnEn = s.dnEn := rfl
@[simp] theorem keepSlots_upLong (f : Nat → Slot → Bool) (s : State) : (keepSlots f s).upLong = s.upLong := rfl
@[simp] theorem keepSlots_dnLong (f : Nat → Slot → Bool) (s : State) : (keepSlots f s).dnLong = s.dnLong := rfl
@[simp] theorem keepSlots_romFloor (f : Nat → Slot → Bool) (s : State) : (keepSlots f s).romFloor = s.romFloor := rfl
@[simp] theorem keepSlots_pins (f : Nat → Slot → Bool) (s : State) : (keepSlots f s).pins = s.pins := rfl
@[simp] theorem keepSlots_porch (f : Nat → Slot → Bool) (s : State) : (keepSlots f s).porch = s.porch := rfl
@[simp] theorem keepSlots_study (f : Nat → Slot → Bool) (s : State) : (keepSlots f s).study = s.study := rfl
@[simp] theorem keepSlots_txn (f : Nat → Slot → Bool) (s : State) : (keepSlots f s).txn = s.txn := rfl
@[simp] theorem keepSlots_insts (f : Nat → Slot → Bool) (s : State) : (keepSlots f s).insts = s.insts := rfl
@[simp] theorem keepSlots_instSel (f : Nat → Slot → Bool) (s : State) : (keepSlots f s).instSel = s.instSel := rfl
@[simp] theorem keepSlots_rings (f : Nat → Slot → Bool) (s : State) : (keepSlots f s).rings = s.rings := rfl
@[simp] theorem keepSlots_specs (f : Nat → Slot → Bool) (s : State) : (keepSlots f s).specs = s.specs := rfl
@[simp] theorem keepSlots_ops (f : Nat → Slot → Bool) (s : State) : (keepSlots f s).ops = s.ops := rfl
@[simp] theorem keepSlots_nextOp (f : Nat → Slot → Bool) (s : State) : (keepSlots f s).nextOp = s.nextOp := rfl
@[simp] theorem keepSlots_sched (f : Nat → Slot → Bool) (s : State) : (keepSlots f s).sched = s.sched := rfl
@[simp] theorem keepSlots_core (f : Nat → Slot → Bool) (s : State) : (keepSlots f s).core = s.core := rfl
@[simp] theorem keepSlots_rooms (f : Nat → Slot → Bool) (s : State) : (keepSlots f s).rooms = s.rooms := rfl
@[simp] theorem keepSlots_lar (f : Nat → Slot → Bool) (s : State) : (keepSlots f s).lar = s.lar := rfl
@[simp] theorem keepSlots_cel (f : Nat → Slot → Bool) (s : State) : (keepSlots f s).cel = s.cel := rfl
@[simp] theorem keepSlots_keys (f : Nat → Slot → Bool) (s : State) : (keepSlots f s).keys = s.keys := rfl
@[simp] theorem keepSlots_hearth (f : Nat → Slot → Bool) (s : State) : (keepSlots f s).hearth = s.hearth := rfl
@[simp] theorem keepSlots_scu (f : Nat → Slot → Bool) (s : State) : (keepSlots f s).scu = s.scu := rfl
@[simp] theorem keepSlots_hwy (f : Nat → Slot → Bool) (s : State) : (keepSlots f s).hwy = s.hwy := rfl
@[simp] theorem keepSlots_boot (f : Nat → Slot → Bool) (s : State) : (keepSlots f s).boot = s.boot := rfl
@[simp] theorem keepSlots_fw (f : Nat → Slot → Bool) (s : State) : (keepSlots f s).fw = s.fw := rfl
@[simp] theorem keepSlots_pwr (f : Nat → Slot → Bool) (s : State) : (keepSlots f s).pwr = s.pwr := rfl
@[simp] theorem keepSlots_stair (f : Nat → Slot → Bool) (s : State) : (keepSlots f s).stair = s.stair := rfl
@[simp] theorem keepSlots_ecc (f : Nat → Slot → Bool) (s : State) : (keepSlots f s).ecc = s.ecc := rfl
@[simp] theorem keepSlots_diag (f : Nat → Slot → Bool) (s : State) : (keepSlots f s).diag = s.diag := rfl
@[simp] theorem keepSlots_wraps (f : Nat → Slot → Bool) (s : State) : (keepSlots f s).wraps = s.wraps := rfl
@[simp] theorem keepSlots_sampQ (f : Nat → Slot → Bool) (s : State) : (keepSlots f s).sampQ = s.sampQ := rfl
@[simp] theorem keepSlots_freeCtr (f : Nat → Slot → Bool) (s : State) : (keepSlots f s).freeCtr = s.freeCtr := rfl
@[simp] theorem keepSlots_pending (f : Nat → Slot → Bool) (s : State) : (keepSlots f s).pending = s.pending := rfl

@[simp] theorem mapFetches_build (f : Fetch → Fetch) (s : State) : (mapFetches f s).build = s.build := rfl
@[simp] theorem mapFetches_upEn (f : Fetch → Fetch) (s : State) : (mapFetches f s).upEn = s.upEn := rfl
@[simp] theorem mapFetches_dnEn (f : Fetch → Fetch) (s : State) : (mapFetches f s).dnEn = s.dnEn := rfl
@[simp] theorem mapFetches_upLong (f : Fetch → Fetch) (s : State) : (mapFetches f s).upLong = s.upLong := rfl
@[simp] theorem mapFetches_dnLong (f : Fetch → Fetch) (s : State) : (mapFetches f s).dnLong = s.dnLong := rfl
@[simp] theorem mapFetches_romFloor (f : Fetch → Fetch) (s : State) : (mapFetches f s).romFloor = s.romFloor := rfl
@[simp] theorem mapFetches_pins (f : Fetch → Fetch) (s : State) : (mapFetches f s).pins = s.pins := rfl
@[simp] theorem mapFetches_porch (f : Fetch → Fetch) (s : State) : (mapFetches f s).porch = s.porch := rfl
@[simp] theorem mapFetches_study (f : Fetch → Fetch) (s : State) : (mapFetches f s).study = s.study := rfl
@[simp] theorem mapFetches_txn (f : Fetch → Fetch) (s : State) : (mapFetches f s).txn = s.txn := rfl
@[simp] theorem mapFetches_insts (f : Fetch → Fetch) (s : State) : (mapFetches f s).insts = s.insts := rfl
@[simp] theorem mapFetches_instSel (f : Fetch → Fetch) (s : State) : (mapFetches f s).instSel = s.instSel := rfl
@[simp] theorem mapFetches_rings (f : Fetch → Fetch) (s : State) : (mapFetches f s).rings = s.rings := rfl
@[simp] theorem mapFetches_specs (f : Fetch → Fetch) (s : State) : (mapFetches f s).specs = s.specs := rfl
@[simp] theorem mapFetches_ops (f : Fetch → Fetch) (s : State) : (mapFetches f s).ops = s.ops := rfl
@[simp] theorem mapFetches_nextOp (f : Fetch → Fetch) (s : State) : (mapFetches f s).nextOp = s.nextOp := rfl
@[simp] theorem mapFetches_sched (f : Fetch → Fetch) (s : State) : (mapFetches f s).sched = s.sched := rfl
@[simp] theorem mapFetches_core (f : Fetch → Fetch) (s : State) : (mapFetches f s).core = s.core := rfl
@[simp] theorem mapFetches_rooms (f : Fetch → Fetch) (s : State) : (mapFetches f s).rooms = s.rooms := rfl
@[simp] theorem mapFetches_pan (f : Fetch → Fetch) (s : State) : (mapFetches f s).pan = s.pan := rfl
@[simp] theorem mapFetches_cel (f : Fetch → Fetch) (s : State) : (mapFetches f s).cel = s.cel := rfl
@[simp] theorem mapFetches_keys (f : Fetch → Fetch) (s : State) : (mapFetches f s).keys = s.keys := rfl
@[simp] theorem mapFetches_hearth (f : Fetch → Fetch) (s : State) : (mapFetches f s).hearth = s.hearth := rfl
@[simp] theorem mapFetches_scu (f : Fetch → Fetch) (s : State) : (mapFetches f s).scu = s.scu := rfl
@[simp] theorem mapFetches_hwy (f : Fetch → Fetch) (s : State) : (mapFetches f s).hwy = s.hwy := rfl
@[simp] theorem mapFetches_boot (f : Fetch → Fetch) (s : State) : (mapFetches f s).boot = s.boot := rfl
@[simp] theorem mapFetches_fw (f : Fetch → Fetch) (s : State) : (mapFetches f s).fw = s.fw := rfl
@[simp] theorem mapFetches_pwr (f : Fetch → Fetch) (s : State) : (mapFetches f s).pwr = s.pwr := rfl
@[simp] theorem mapFetches_stair (f : Fetch → Fetch) (s : State) : (mapFetches f s).stair = s.stair := rfl
@[simp] theorem mapFetches_ecc (f : Fetch → Fetch) (s : State) : (mapFetches f s).ecc = s.ecc := rfl
@[simp] theorem mapFetches_diag (f : Fetch → Fetch) (s : State) : (mapFetches f s).diag = s.diag := rfl
@[simp] theorem mapFetches_wraps (f : Fetch → Fetch) (s : State) : (mapFetches f s).wraps = s.wraps := rfl
@[simp] theorem mapFetches_sampQ (f : Fetch → Fetch) (s : State) : (mapFetches f s).sampQ = s.sampQ := rfl
@[simp] theorem mapFetches_freeCtr (f : Fetch → Fetch) (s : State) : (mapFetches f s).freeCtr = s.freeCtr := rfl
@[simp] theorem mapFetches_pending (f : Fetch → Fetch) (s : State) : (mapFetches f s).pending = s.pending := rfl

@[simp] theorem draw_build (s : State) : (draw s).build = s.build := rfl
@[simp] theorem draw_upEn (s : State) : (draw s).upEn = s.upEn := rfl
@[simp] theorem draw_dnEn (s : State) : (draw s).dnEn = s.dnEn := rfl
@[simp] theorem draw_upLong (s : State) : (draw s).upLong = s.upLong := rfl
@[simp] theorem draw_dnLong (s : State) : (draw s).dnLong = s.dnLong := rfl
@[simp] theorem draw_romFloor (s : State) : (draw s).romFloor = s.romFloor := rfl
@[simp] theorem draw_pins (s : State) : (draw s).pins = s.pins := rfl
@[simp] theorem draw_porch (s : State) : (draw s).porch = s.porch := rfl
@[simp] theorem draw_study (s : State) : (draw s).study = s.study := rfl
@[simp] theorem draw_txn (s : State) : (draw s).txn = s.txn := rfl
@[simp] theorem draw_insts (s : State) : (draw s).insts = s.insts := rfl
@[simp] theorem draw_instSel (s : State) : (draw s).instSel = s.instSel := rfl
@[simp] theorem draw_rings (s : State) : (draw s).rings = s.rings := rfl
@[simp] theorem draw_specs (s : State) : (draw s).specs = s.specs := rfl
@[simp] theorem draw_ops (s : State) : (draw s).ops = s.ops := rfl
@[simp] theorem draw_nextOp (s : State) : (draw s).nextOp = s.nextOp := rfl
@[simp] theorem draw_sched (s : State) : (draw s).sched = s.sched := rfl
@[simp] theorem draw_core (s : State) : (draw s).core = s.core := rfl
@[simp] theorem draw_rooms (s : State) : (draw s).rooms = s.rooms := rfl
@[simp] theorem draw_pan (s : State) : (draw s).pan = s.pan := rfl
@[simp] theorem draw_lar (s : State) : (draw s).lar = s.lar := rfl
@[simp] theorem draw_cel (s : State) : (draw s).cel = s.cel := rfl
@[simp] theorem draw_keys (s : State) : (draw s).keys = s.keys := rfl
@[simp] theorem draw_hearth (s : State) : (draw s).hearth = s.hearth := rfl
@[simp] theorem draw_scu (s : State) : (draw s).scu = s.scu := rfl
@[simp] theorem draw_hwy (s : State) : (draw s).hwy = s.hwy := rfl
@[simp] theorem draw_boot (s : State) : (draw s).boot = s.boot := rfl
@[simp] theorem draw_fw (s : State) : (draw s).fw = s.fw := rfl
@[simp] theorem draw_pwr (s : State) : (draw s).pwr = s.pwr := rfl
@[simp] theorem draw_stair (s : State) : (draw s).stair = s.stair := rfl
@[simp] theorem draw_ecc (s : State) : (draw s).ecc = s.ecc := rfl
@[simp] theorem draw_diag (s : State) : (draw s).diag = s.diag := rfl
@[simp] theorem draw_wraps (s : State) : (draw s).wraps = s.wraps := rfl
@[simp] theorem draw_sampQ (s : State) : (draw s).sampQ = s.sampQ := rfl
@[simp] theorem draw_pending (s : State) : (draw s).pending = s.pending := rfl

@[simp] theorem arrive_build (o : Owner) (d : List Byte) (s : State) : (arrive o d s).build = s.build := rfl
@[simp] theorem arrive_upEn (o : Owner) (d : List Byte) (s : State) : (arrive o d s).upEn = s.upEn := rfl
@[simp] theorem arrive_dnEn (o : Owner) (d : List Byte) (s : State) : (arrive o d s).dnEn = s.dnEn := rfl
@[simp] theorem arrive_upLong (o : Owner) (d : List Byte) (s : State) : (arrive o d s).upLong = s.upLong := rfl
@[simp] theorem arrive_dnLong (o : Owner) (d : List Byte) (s : State) : (arrive o d s).dnLong = s.dnLong := rfl
@[simp] theorem arrive_romFloor (o : Owner) (d : List Byte) (s : State) : (arrive o d s).romFloor = s.romFloor := rfl
@[simp] theorem arrive_pins (o : Owner) (d : List Byte) (s : State) : (arrive o d s).pins = s.pins := rfl
@[simp] theorem arrive_porch (o : Owner) (d : List Byte) (s : State) : (arrive o d s).porch = s.porch := rfl
@[simp] theorem arrive_study (o : Owner) (d : List Byte) (s : State) : (arrive o d s).study = s.study := rfl
@[simp] theorem arrive_txn (o : Owner) (d : List Byte) (s : State) : (arrive o d s).txn = s.txn := rfl
@[simp] theorem arrive_insts (o : Owner) (d : List Byte) (s : State) : (arrive o d s).insts = s.insts := rfl
@[simp] theorem arrive_instSel (o : Owner) (d : List Byte) (s : State) : (arrive o d s).instSel = s.instSel := rfl
@[simp] theorem arrive_rings (o : Owner) (d : List Byte) (s : State) : (arrive o d s).rings = s.rings := rfl
@[simp] theorem arrive_specs (o : Owner) (d : List Byte) (s : State) : (arrive o d s).specs = s.specs := rfl
@[simp] theorem arrive_ops (o : Owner) (d : List Byte) (s : State) : (arrive o d s).ops = s.ops := rfl
@[simp] theorem arrive_nextOp (o : Owner) (d : List Byte) (s : State) : (arrive o d s).nextOp = s.nextOp := rfl
@[simp] theorem arrive_sched (o : Owner) (d : List Byte) (s : State) : (arrive o d s).sched = s.sched := rfl
@[simp] theorem arrive_core (o : Owner) (d : List Byte) (s : State) : (arrive o d s).core = s.core := rfl
@[simp] theorem arrive_rooms (o : Owner) (d : List Byte) (s : State) : (arrive o d s).rooms = s.rooms := rfl
@[simp] theorem arrive_pan (o : Owner) (d : List Byte) (s : State) : (arrive o d s).pan = s.pan := rfl
@[simp] theorem arrive_lar (o : Owner) (d : List Byte) (s : State) : (arrive o d s).lar = s.lar := rfl
@[simp] theorem arrive_cel (o : Owner) (d : List Byte) (s : State) : (arrive o d s).cel = s.cel := rfl
@[simp] theorem arrive_keys (o : Owner) (d : List Byte) (s : State) : (arrive o d s).keys = s.keys := rfl
@[simp] theorem arrive_hearth (o : Owner) (d : List Byte) (s : State) : (arrive o d s).hearth = s.hearth := rfl
@[simp] theorem arrive_scu (o : Owner) (d : List Byte) (s : State) : (arrive o d s).scu = s.scu := rfl
@[simp] theorem arrive_boot (o : Owner) (d : List Byte) (s : State) : (arrive o d s).boot = s.boot := rfl
@[simp] theorem arrive_fw (o : Owner) (d : List Byte) (s : State) : (arrive o d s).fw = s.fw := rfl
@[simp] theorem arrive_pwr (o : Owner) (d : List Byte) (s : State) : (arrive o d s).pwr = s.pwr := rfl
@[simp] theorem arrive_stair (o : Owner) (d : List Byte) (s : State) : (arrive o d s).stair = s.stair := rfl
@[simp] theorem arrive_ecc (o : Owner) (d : List Byte) (s : State) : (arrive o d s).ecc = s.ecc := rfl
@[simp] theorem arrive_diag (o : Owner) (d : List Byte) (s : State) : (arrive o d s).diag = s.diag := rfl
@[simp] theorem arrive_wraps (o : Owner) (d : List Byte) (s : State) : (arrive o d s).wraps = s.wraps := rfl
@[simp] theorem arrive_sampQ (o : Owner) (d : List Byte) (s : State) : (arrive o d s).sampQ = s.sampQ := rfl
@[simp] theorem arrive_freeCtr (o : Owner) (d : List Byte) (s : State) : (arrive o d s).freeCtr = s.freeCtr := rfl
@[simp] theorem arrive_pending (o : Owner) (d : List Byte) (s : State) : (arrive o d s).pending = s.pending := rfl

@[simp] theorem takeArrived_build (o : Owner) (s : State) : (takeArrived o s).build = s.build := rfl
@[simp] theorem takeArrived_upEn (o : Owner) (s : State) : (takeArrived o s).upEn = s.upEn := rfl
@[simp] theorem takeArrived_dnEn (o : Owner) (s : State) : (takeArrived o s).dnEn = s.dnEn := rfl
@[simp] theorem takeArrived_upLong (o : Owner) (s : State) : (takeArrived o s).upLong = s.upLong := rfl
@[simp] theorem takeArrived_dnLong (o : Owner) (s : State) : (takeArrived o s).dnLong = s.dnLong := rfl
@[simp] theorem takeArrived_romFloor (o : Owner) (s : State) : (takeArrived o s).romFloor = s.romFloor := rfl
@[simp] theorem takeArrived_pins (o : Owner) (s : State) : (takeArrived o s).pins = s.pins := rfl
@[simp] theorem takeArrived_porch (o : Owner) (s : State) : (takeArrived o s).porch = s.porch := rfl
@[simp] theorem takeArrived_study (o : Owner) (s : State) : (takeArrived o s).study = s.study := rfl
@[simp] theorem takeArrived_txn (o : Owner) (s : State) : (takeArrived o s).txn = s.txn := rfl
@[simp] theorem takeArrived_insts (o : Owner) (s : State) : (takeArrived o s).insts = s.insts := rfl
@[simp] theorem takeArrived_instSel (o : Owner) (s : State) : (takeArrived o s).instSel = s.instSel := rfl
@[simp] theorem takeArrived_rings (o : Owner) (s : State) : (takeArrived o s).rings = s.rings := rfl
@[simp] theorem takeArrived_specs (o : Owner) (s : State) : (takeArrived o s).specs = s.specs := rfl
@[simp] theorem takeArrived_ops (o : Owner) (s : State) : (takeArrived o s).ops = s.ops := rfl
@[simp] theorem takeArrived_nextOp (o : Owner) (s : State) : (takeArrived o s).nextOp = s.nextOp := rfl
@[simp] theorem takeArrived_sched (o : Owner) (s : State) : (takeArrived o s).sched = s.sched := rfl
@[simp] theorem takeArrived_core (o : Owner) (s : State) : (takeArrived o s).core = s.core := rfl
@[simp] theorem takeArrived_rooms (o : Owner) (s : State) : (takeArrived o s).rooms = s.rooms := rfl
@[simp] theorem takeArrived_pan (o : Owner) (s : State) : (takeArrived o s).pan = s.pan := rfl
@[simp] theorem takeArrived_lar (o : Owner) (s : State) : (takeArrived o s).lar = s.lar := rfl
@[simp] theorem takeArrived_cel (o : Owner) (s : State) : (takeArrived o s).cel = s.cel := rfl
@[simp] theorem takeArrived_keys (o : Owner) (s : State) : (takeArrived o s).keys = s.keys := rfl
@[simp] theorem takeArrived_hearth (o : Owner) (s : State) : (takeArrived o s).hearth = s.hearth := rfl
@[simp] theorem takeArrived_scu (o : Owner) (s : State) : (takeArrived o s).scu = s.scu := rfl
@[simp] theorem takeArrived_boot (o : Owner) (s : State) : (takeArrived o s).boot = s.boot := rfl
@[simp] theorem takeArrived_fw (o : Owner) (s : State) : (takeArrived o s).fw = s.fw := rfl
@[simp] theorem takeArrived_pwr (o : Owner) (s : State) : (takeArrived o s).pwr = s.pwr := rfl
@[simp] theorem takeArrived_stair (o : Owner) (s : State) : (takeArrived o s).stair = s.stair := rfl
@[simp] theorem takeArrived_ecc (o : Owner) (s : State) : (takeArrived o s).ecc = s.ecc := rfl
@[simp] theorem takeArrived_diag (o : Owner) (s : State) : (takeArrived o s).diag = s.diag := rfl
@[simp] theorem takeArrived_wraps (o : Owner) (s : State) : (takeArrived o s).wraps = s.wraps := rfl
@[simp] theorem takeArrived_sampQ (o : Owner) (s : State) : (takeArrived o s).sampQ = s.sampQ := rfl
@[simp] theorem takeArrived_freeCtr (o : Owner) (s : State) : (takeArrived o s).freeCtr = s.freeCtr := rfl
@[simp] theorem takeArrived_pending (o : Owner) (s : State) : (takeArrived o s).pending = s.pending := rfl

@[simp] theorem setDrbg_build (u : Nat) (d : Drbg) (s : State) : (setDrbg u d s).build = s.build := rfl
@[simp] theorem setDrbg_upEn (u : Nat) (d : Drbg) (s : State) : (setDrbg u d s).upEn = s.upEn := rfl
@[simp] theorem setDrbg_dnEn (u : Nat) (d : Drbg) (s : State) : (setDrbg u d s).dnEn = s.dnEn := rfl
@[simp] theorem setDrbg_upLong (u : Nat) (d : Drbg) (s : State) : (setDrbg u d s).upLong = s.upLong := rfl
@[simp] theorem setDrbg_dnLong (u : Nat) (d : Drbg) (s : State) : (setDrbg u d s).dnLong = s.dnLong := rfl
@[simp] theorem setDrbg_romFloor (u : Nat) (d : Drbg) (s : State) : (setDrbg u d s).romFloor = s.romFloor := rfl
@[simp] theorem setDrbg_pins (u : Nat) (d : Drbg) (s : State) : (setDrbg u d s).pins = s.pins := rfl
@[simp] theorem setDrbg_porch (u : Nat) (d : Drbg) (s : State) : (setDrbg u d s).porch = s.porch := rfl
@[simp] theorem setDrbg_study (u : Nat) (d : Drbg) (s : State) : (setDrbg u d s).study = s.study := rfl
@[simp] theorem setDrbg_txn (u : Nat) (d : Drbg) (s : State) : (setDrbg u d s).txn = s.txn := rfl
@[simp] theorem setDrbg_insts (u : Nat) (d : Drbg) (s : State) : (setDrbg u d s).insts = s.insts := rfl
@[simp] theorem setDrbg_instSel (u : Nat) (d : Drbg) (s : State) : (setDrbg u d s).instSel = s.instSel := rfl
@[simp] theorem setDrbg_rings (u : Nat) (d : Drbg) (s : State) : (setDrbg u d s).rings = s.rings := rfl
@[simp] theorem setDrbg_specs (u : Nat) (d : Drbg) (s : State) : (setDrbg u d s).specs = s.specs := rfl
@[simp] theorem setDrbg_ops (u : Nat) (d : Drbg) (s : State) : (setDrbg u d s).ops = s.ops := rfl
@[simp] theorem setDrbg_nextOp (u : Nat) (d : Drbg) (s : State) : (setDrbg u d s).nextOp = s.nextOp := rfl
@[simp] theorem setDrbg_sched (u : Nat) (d : Drbg) (s : State) : (setDrbg u d s).sched = s.sched := rfl
@[simp] theorem setDrbg_core (u : Nat) (d : Drbg) (s : State) : (setDrbg u d s).core = s.core := rfl
@[simp] theorem setDrbg_rooms (u : Nat) (d : Drbg) (s : State) : (setDrbg u d s).rooms = s.rooms := rfl
@[simp] theorem setDrbg_pan (u : Nat) (d : Drbg) (s : State) : (setDrbg u d s).pan = s.pan := rfl
@[simp] theorem setDrbg_lar (u : Nat) (d : Drbg) (s : State) : (setDrbg u d s).lar = s.lar := rfl
@[simp] theorem setDrbg_cel (u : Nat) (d : Drbg) (s : State) : (setDrbg u d s).cel = s.cel := rfl
@[simp] theorem setDrbg_hearth (u : Nat) (d : Drbg) (s : State) : (setDrbg u d s).hearth = s.hearth := rfl
@[simp] theorem setDrbg_scu (u : Nat) (d : Drbg) (s : State) : (setDrbg u d s).scu = s.scu := rfl
@[simp] theorem setDrbg_hwy (u : Nat) (d : Drbg) (s : State) : (setDrbg u d s).hwy = s.hwy := rfl
@[simp] theorem setDrbg_boot (u : Nat) (d : Drbg) (s : State) : (setDrbg u d s).boot = s.boot := rfl
@[simp] theorem setDrbg_fw (u : Nat) (d : Drbg) (s : State) : (setDrbg u d s).fw = s.fw := rfl
@[simp] theorem setDrbg_pwr (u : Nat) (d : Drbg) (s : State) : (setDrbg u d s).pwr = s.pwr := rfl
@[simp] theorem setDrbg_stair (u : Nat) (d : Drbg) (s : State) : (setDrbg u d s).stair = s.stair := rfl
@[simp] theorem setDrbg_ecc (u : Nat) (d : Drbg) (s : State) : (setDrbg u d s).ecc = s.ecc := rfl
@[simp] theorem setDrbg_diag (u : Nat) (d : Drbg) (s : State) : (setDrbg u d s).diag = s.diag := rfl
@[simp] theorem setDrbg_wraps (u : Nat) (d : Drbg) (s : State) : (setDrbg u d s).wraps = s.wraps := rfl
@[simp] theorem setDrbg_sampQ (u : Nat) (d : Drbg) (s : State) : (setDrbg u d s).sampQ = s.sampQ := rfl
@[simp] theorem setDrbg_freeCtr (u : Nat) (d : Drbg) (s : State) : (setDrbg u d s).freeCtr = s.freeCtr := rfl
@[simp] theorem setDrbg_pending (u : Nat) (d : Drbg) (s : State) : (setDrbg u d s).pending = s.pending := rfl

@[simp] theorem modScu_build (n : Nat) (f : ScuCtx → ScuCtx) (s : State) : (modScu n f s).build = s.build := rfl
@[simp] theorem modScu_upEn (n : Nat) (f : ScuCtx → ScuCtx) (s : State) : (modScu n f s).upEn = s.upEn := rfl
@[simp] theorem modScu_dnEn (n : Nat) (f : ScuCtx → ScuCtx) (s : State) : (modScu n f s).dnEn = s.dnEn := rfl
@[simp] theorem modScu_upLong (n : Nat) (f : ScuCtx → ScuCtx) (s : State) : (modScu n f s).upLong = s.upLong := rfl
@[simp] theorem modScu_dnLong (n : Nat) (f : ScuCtx → ScuCtx) (s : State) : (modScu n f s).dnLong = s.dnLong := rfl
@[simp] theorem modScu_romFloor (n : Nat) (f : ScuCtx → ScuCtx) (s : State) : (modScu n f s).romFloor = s.romFloor := rfl
@[simp] theorem modScu_pins (n : Nat) (f : ScuCtx → ScuCtx) (s : State) : (modScu n f s).pins = s.pins := rfl
@[simp] theorem modScu_porch (n : Nat) (f : ScuCtx → ScuCtx) (s : State) : (modScu n f s).porch = s.porch := rfl
@[simp] theorem modScu_study (n : Nat) (f : ScuCtx → ScuCtx) (s : State) : (modScu n f s).study = s.study := rfl
@[simp] theorem modScu_txn (n : Nat) (f : ScuCtx → ScuCtx) (s : State) : (modScu n f s).txn = s.txn := rfl
@[simp] theorem modScu_insts (n : Nat) (f : ScuCtx → ScuCtx) (s : State) : (modScu n f s).insts = s.insts := rfl
@[simp] theorem modScu_instSel (n : Nat) (f : ScuCtx → ScuCtx) (s : State) : (modScu n f s).instSel = s.instSel := rfl
@[simp] theorem modScu_rings (n : Nat) (f : ScuCtx → ScuCtx) (s : State) : (modScu n f s).rings = s.rings := rfl
@[simp] theorem modScu_specs (n : Nat) (f : ScuCtx → ScuCtx) (s : State) : (modScu n f s).specs = s.specs := rfl
@[simp] theorem modScu_ops (n : Nat) (f : ScuCtx → ScuCtx) (s : State) : (modScu n f s).ops = s.ops := rfl
@[simp] theorem modScu_nextOp (n : Nat) (f : ScuCtx → ScuCtx) (s : State) : (modScu n f s).nextOp = s.nextOp := rfl
@[simp] theorem modScu_sched (n : Nat) (f : ScuCtx → ScuCtx) (s : State) : (modScu n f s).sched = s.sched := rfl
@[simp] theorem modScu_core (n : Nat) (f : ScuCtx → ScuCtx) (s : State) : (modScu n f s).core = s.core := rfl
@[simp] theorem modScu_rooms (n : Nat) (f : ScuCtx → ScuCtx) (s : State) : (modScu n f s).rooms = s.rooms := rfl
@[simp] theorem modScu_pan (n : Nat) (f : ScuCtx → ScuCtx) (s : State) : (modScu n f s).pan = s.pan := rfl
@[simp] theorem modScu_lar (n : Nat) (f : ScuCtx → ScuCtx) (s : State) : (modScu n f s).lar = s.lar := rfl
@[simp] theorem modScu_cel (n : Nat) (f : ScuCtx → ScuCtx) (s : State) : (modScu n f s).cel = s.cel := rfl
@[simp] theorem modScu_keys (n : Nat) (f : ScuCtx → ScuCtx) (s : State) : (modScu n f s).keys = s.keys := rfl
@[simp] theorem modScu_hearth (n : Nat) (f : ScuCtx → ScuCtx) (s : State) : (modScu n f s).hearth = s.hearth := rfl
@[simp] theorem modScu_hwy (n : Nat) (f : ScuCtx → ScuCtx) (s : State) : (modScu n f s).hwy = s.hwy := rfl
@[simp] theorem modScu_boot (n : Nat) (f : ScuCtx → ScuCtx) (s : State) : (modScu n f s).boot = s.boot := rfl
@[simp] theorem modScu_fw (n : Nat) (f : ScuCtx → ScuCtx) (s : State) : (modScu n f s).fw = s.fw := rfl
@[simp] theorem modScu_pwr (n : Nat) (f : ScuCtx → ScuCtx) (s : State) : (modScu n f s).pwr = s.pwr := rfl
@[simp] theorem modScu_stair (n : Nat) (f : ScuCtx → ScuCtx) (s : State) : (modScu n f s).stair = s.stair := rfl
@[simp] theorem modScu_ecc (n : Nat) (f : ScuCtx → ScuCtx) (s : State) : (modScu n f s).ecc = s.ecc := rfl
@[simp] theorem modScu_diag (n : Nat) (f : ScuCtx → ScuCtx) (s : State) : (modScu n f s).diag = s.diag := rfl
@[simp] theorem modScu_wraps (n : Nat) (f : ScuCtx → ScuCtx) (s : State) : (modScu n f s).wraps = s.wraps := rfl
@[simp] theorem modScu_sampQ (n : Nat) (f : ScuCtx → ScuCtx) (s : State) : (modScu n f s).sampQ = s.sampQ := rfl
@[simp] theorem modScu_freeCtr (n : Nat) (f : ScuCtx → ScuCtx) (s : State) : (modScu n f s).freeCtr = s.freeCtr := rfl
@[simp] theorem modScu_pending (n : Nat) (f : ScuCtx → ScuCtx) (s : State) : (modScu n f s).pending = s.pending := rfl

@[simp] theorem modRing_build (i : Nat) (f : Ring → Ring) (s : State) : (modRing i f s).build = s.build := by
  unfold modRing; split <;> rfl
@[simp] theorem modRing_upEn (i : Nat) (f : Ring → Ring) (s : State) : (modRing i f s).upEn = s.upEn := by
  unfold modRing; split <;> rfl
@[simp] theorem modRing_dnEn (i : Nat) (f : Ring → Ring) (s : State) : (modRing i f s).dnEn = s.dnEn := by
  unfold modRing; split <;> rfl
@[simp] theorem modRing_upLong (i : Nat) (f : Ring → Ring) (s : State) : (modRing i f s).upLong = s.upLong := by
  unfold modRing; split <;> rfl
@[simp] theorem modRing_dnLong (i : Nat) (f : Ring → Ring) (s : State) : (modRing i f s).dnLong = s.dnLong := by
  unfold modRing; split <;> rfl
@[simp] theorem modRing_romFloor (i : Nat) (f : Ring → Ring) (s : State) : (modRing i f s).romFloor = s.romFloor := by
  unfold modRing; split <;> rfl
@[simp] theorem modRing_pins (i : Nat) (f : Ring → Ring) (s : State) : (modRing i f s).pins = s.pins := by
  unfold modRing; split <;> rfl
@[simp] theorem modRing_porch (i : Nat) (f : Ring → Ring) (s : State) : (modRing i f s).porch = s.porch := by
  unfold modRing; split <;> rfl
@[simp] theorem modRing_study (i : Nat) (f : Ring → Ring) (s : State) : (modRing i f s).study = s.study := by
  unfold modRing; split <;> rfl
@[simp] theorem modRing_txn (i : Nat) (f : Ring → Ring) (s : State) : (modRing i f s).txn = s.txn := by
  unfold modRing; split <;> rfl
@[simp] theorem modRing_insts (i : Nat) (f : Ring → Ring) (s : State) : (modRing i f s).insts = s.insts := by
  unfold modRing; split <;> rfl
@[simp] theorem modRing_instSel (i : Nat) (f : Ring → Ring) (s : State) : (modRing i f s).instSel = s.instSel := by
  unfold modRing; split <;> rfl
@[simp] theorem modRing_specs (i : Nat) (f : Ring → Ring) (s : State) : (modRing i f s).specs = s.specs := by
  unfold modRing; split <;> rfl
@[simp] theorem modRing_ops (i : Nat) (f : Ring → Ring) (s : State) : (modRing i f s).ops = s.ops := by
  unfold modRing; split <;> rfl
@[simp] theorem modRing_nextOp (i : Nat) (f : Ring → Ring) (s : State) : (modRing i f s).nextOp = s.nextOp := by
  unfold modRing; split <;> rfl
@[simp] theorem modRing_sched (i : Nat) (f : Ring → Ring) (s : State) : (modRing i f s).sched = s.sched := by
  unfold modRing; split <;> rfl
@[simp] theorem modRing_core (i : Nat) (f : Ring → Ring) (s : State) : (modRing i f s).core = s.core := by
  unfold modRing; split <;> rfl
@[simp] theorem modRing_rooms (i : Nat) (f : Ring → Ring) (s : State) : (modRing i f s).rooms = s.rooms := by
  unfold modRing; split <;> rfl
@[simp] theorem modRing_pan (i : Nat) (f : Ring → Ring) (s : State) : (modRing i f s).pan = s.pan := by
  unfold modRing; split <;> rfl
@[simp] theorem modRing_lar (i : Nat) (f : Ring → Ring) (s : State) : (modRing i f s).lar = s.lar := by
  unfold modRing; split <;> rfl
@[simp] theorem modRing_cel (i : Nat) (f : Ring → Ring) (s : State) : (modRing i f s).cel = s.cel := by
  unfold modRing; split <;> rfl
@[simp] theorem modRing_keys (i : Nat) (f : Ring → Ring) (s : State) : (modRing i f s).keys = s.keys := by
  unfold modRing; split <;> rfl
@[simp] theorem modRing_hearth (i : Nat) (f : Ring → Ring) (s : State) : (modRing i f s).hearth = s.hearth := by
  unfold modRing; split <;> rfl
@[simp] theorem modRing_scu (i : Nat) (f : Ring → Ring) (s : State) : (modRing i f s).scu = s.scu := by
  unfold modRing; split <;> rfl
@[simp] theorem modRing_hwy (i : Nat) (f : Ring → Ring) (s : State) : (modRing i f s).hwy = s.hwy := by
  unfold modRing; split <;> rfl
@[simp] theorem modRing_boot (i : Nat) (f : Ring → Ring) (s : State) : (modRing i f s).boot = s.boot := by
  unfold modRing; split <;> rfl
@[simp] theorem modRing_fw (i : Nat) (f : Ring → Ring) (s : State) : (modRing i f s).fw = s.fw := by
  unfold modRing; split <;> rfl
@[simp] theorem modRing_pwr (i : Nat) (f : Ring → Ring) (s : State) : (modRing i f s).pwr = s.pwr := by
  unfold modRing; split <;> rfl
@[simp] theorem modRing_stair (i : Nat) (f : Ring → Ring) (s : State) : (modRing i f s).stair = s.stair := by
  unfold modRing; split <;> rfl
@[simp] theorem modRing_ecc (i : Nat) (f : Ring → Ring) (s : State) : (modRing i f s).ecc = s.ecc := by
  unfold modRing; split <;> rfl
@[simp] theorem modRing_diag (i : Nat) (f : Ring → Ring) (s : State) : (modRing i f s).diag = s.diag := by
  unfold modRing; split <;> rfl
@[simp] theorem modRing_wraps (i : Nat) (f : Ring → Ring) (s : State) : (modRing i f s).wraps = s.wraps := by
  unfold modRing; split <;> rfl
@[simp] theorem modRing_sampQ (i : Nat) (f : Ring → Ring) (s : State) : (modRing i f s).sampQ = s.sampQ := by
  unfold modRing; split <;> rfl
@[simp] theorem modRing_freeCtr (i : Nat) (f : Ring → Ring) (s : State) : (modRing i f s).freeCtr = s.freeCtr := by
  unfold modRing; split <;> rfl
@[simp] theorem modRing_pending (i : Nat) (f : Ring → Ring) (s : State) : (modRing i f s).pending = s.pending := by
  unfold modRing; split <;> rfl

/-! ### Accessors after an update -/

@[simp] theorem inst_modInst (i j : Nat) (f : Inst → Inst) (s : State) :
    (modInst i f s).inst j = if j = i then f (s.inst i) else s.inst j := by
  unfold State.inst modInst
  rw [tget_tset]
  split <;> simp [State.inst]

@[simp] theorem inst_modOp (i j : Nat) (f : Op → Op) (s : State) : (modOp i f s).inst j = s.inst j := rfl
@[simp] theorem inst_modPort (i j : Nat) (f : Port → Port) (s : State) : (modPort i f s).inst j = s.inst j := rfl
@[simp] theorem inst_modRing (i j : Nat) (f : Ring → Ring) (s : State) : (modRing i f s).inst j = s.inst j := by
  simp [State.inst]
@[simp] theorem inst_arrive (o : Owner) (d : List Byte) (j : Nat) (s : State) : (arrive o d s).inst j = s.inst j := rfl
@[simp] theorem inst_takeArrived (o : Owner) (j : Nat) (s : State) : (takeArrived o s).inst j = s.inst j := rfl
@[simp] theorem inst_mapEngines (f : Engine → Engine) (j : Nat) (s : State) : (mapEngines f s).inst j = s.inst j := rfl
@[simp] theorem inst_mapSlots (f : Nat → Slot → Slot) (j : Nat) (s : State) : (mapSlots f s).inst j = s.inst j := rfl
@[simp] theorem inst_draw (j : Nat) (s : State) : (draw s).inst j = s.inst j := rfl

@[simp] theorem modRing_rings (i k : Nat) (f : Ring → Ring) (s : State) :
    tget k (modRing i f s).rings = if k = i then (tget k s.rings).map f else tget k s.rings := by
  unfold modRing
  split
  · next h => split <;> simp_all
  · next x h => simp only [tget_tset]; split <;> simp_all

@[simp] theorem port_modPort (i j : Nat) (f : Port → Port) (s : State) (h : i < s.hwy.ports.length) :
    (modPort i f s).port j = if j = i then f (s.port j) else s.port j := by
  simp only [State.port, modPort, List.getD_eq_getElem?_getD, modAt_getElem?]
  split
  · next e => subst e; simp [h]
  · rfl

end Sys2Proof.Machine
end

