-- ==== Sys2Proof/Laws/Shape.lean ====
section
/-!
SUPPORT. What no command changes: the build and its straps, the ROM floor, the queue of waiting commands, and how many
ports, Alcoves, ChaCha units and engines there are. One lemma for each operation of the machine follows in the files
ShapeA to ShapeF.
-/

namespace Sys2Proof.Machine

theorem shape_eta (x : Shape) : (⟨x.build, x.upEn, x.dnEn, x.upLong, x.dnLong, x.romFloor, x.pending, x.ports,
      x.alcoves,
    x.chachas, x.engines⟩ : Shape) = x := rfl

theorem shape_mk (x_build x_upEn x_dnEn x_upLong x_dnLong x_romFloor x_pins x_porch x_study x_txn x_insts x_instSel
      x_rings x_specs x_ops x_nextOp x_sched x_core x_rooms x_pan x_lar x_cel x_keys x_hearth x_scu x_hwy x_boot
      x_fw x_pwr x_stair x_ecc x_diag x_wraps x_sampQ x_freeCtr x_pending) :
    State.shape ⟨x_build, x_upEn, x_dnEn, x_upLong, x_dnLong, x_romFloor, x_pins, x_porch, x_study, x_txn, x_insts,
      x_instSel, x_rings, x_specs, x_ops, x_nextOp, x_sched, x_core, x_rooms, x_pan, x_lar, x_cel, x_keys, x_hearth,
      x_scu, x_hwy, x_boot, x_fw, x_pwr, x_stair, x_ecc, x_diag, x_wraps, x_sampQ, x_freeCtr, x_pending⟩ =
      ⟨x_build, x_upEn, x_dnEn, x_upLong, x_dnLong, x_romFloor, x_pending, x_hwy.ports.length, x_rooms.alcoves.length,
        x_rooms.chachas.length, x_hearth.engines.length⟩ := rfl

theorem modAt_length {α : Type} (f : α → α) (n : Nat) (l : List α) : (modAt f n l).length = l.length := by
  induction l generalizing n with
  | nil => cases n <;> rfl
  | cons a t ih => cases n <;> simp [modAt, ih]

theorem foldl_shape {α : Type} (f : State → α → State) (l : List α) (s : State) (h : ∀ s x, (f s x).shape = s.shape) :
    (l.foldl f s).shape = s.shape := by
  induction l generalizing s with
  | nil => rfl
  | cons a t ih => rw [List.foldl_cons, ih, h]

theorem foldl_pair_shape {α β : Type} (f : β × State → α → β × State) (l : List α) (p : β × State)
    (h : ∀ p x, (f p x).2.shape = p.2.shape) : (l.foldl f p).2.shape = p.2.shape := by
  induction l generalizing p with
  | nil => rfl
  | cons a t ih => rw [List.foldl_cons, ih, h]

/-- The rules by which the shape of a changed state is read off. -/
theorem shape_rules :
    (∀ s : State, s.build = s.shape.build) ∧ (∀ s : State, s.upEn = s.shape.upEn) ∧
    (∀ s : State, s.dnEn = s.shape.dnEn) ∧ (∀ s : State, s.upLong = s.shape.upLong) ∧
    (∀ s : State, s.dnLong = s.shape.dnLong) ∧ (∀ s : State, s.romFloor = s.shape.romFloor) ∧
    (∀ s : State, s.pending = s.shape.pending) ∧ (∀ s : State, s.hwy.ports.length = s.shape.ports) ∧
    (∀ s : State, s.rooms.alcoves.length = s.shape.alcoves) ∧
    (∀ s : State, s.rooms.chachas.length = s.shape.chachas) ∧
    (∀ s : State, s.hearth.engines.length = s.shape.engines) ∧
    (∀ (c : Prop) [Decidable c] (a b : State), (if c then a else b).shape = if c then a.shape else b.shape) ∧
    (∀ (c : Prop) [Decidable c] (a : Shape), (if c then a else a) = a) :=
  ⟨fun _ => rfl, fun _ => rfl, fun _ => rfl, fun _ => rfl, fun _ => rfl, fun _ => rfl, fun _ => rfl, fun _ => rfl,
    fun _ => rfl, fun _ => rfl, fun _ => rfl, fun c _ a b => apply_ite State.shape c a b, fun _ _ _ => ite_self _⟩

end Sys2Proof.Machine
end

