-- ==== Sys2Proof/Laws/Still.lean ====
section
/-!
SUPPORT. What the follow-ups of a command (`settle`) do not change: pins, transaction, scheduler, units, Cellar,
keys, Scullery, boot and firmware registers, power states, Stair, ECC and diagnostics. One lemma for each operation
they use.
-/

set_option linter.unusedSimpArgs false
set_option linter.unusedTactic false
set_option linter.unreachableTactic false

namespace Sys2Proof.Machine

theorem still_mk (x_build x_upEn x_dnEn x_upLong x_dnLong x_romFloor x_pins x_porch x_study x_txn x_insts x_instSel
      x_rings x_specs x_ops x_nextOp x_sched x_core x_rooms x_pan x_lar x_cel x_keys x_hearth x_scu x_hwy x_boot
      x_fw x_pwr x_stair x_ecc x_diag x_wraps x_sampQ x_freeCtr x_pending) :
    State.still ⟨x_build, x_upEn, x_dnEn, x_upLong, x_dnLong, x_romFloor, x_pins, x_porch, x_study, x_txn, x_insts,
      x_instSel, x_rings, x_specs, x_ops, x_nextOp, x_sched, x_core, x_rooms, x_pan, x_lar, x_cel, x_keys, x_hearth,
      x_scu, x_hwy, x_boot, x_fw, x_pwr, x_stair, x_ecc, x_diag, x_wraps, x_sampQ, x_freeCtr, x_pending⟩ =
      ⟨x_pins, x_porch, x_txn, x_instSel, x_nextOp, x_sched, x_core,
      ⟨x_rooms.ratio, x_rooms.ratioNow, x_rooms.faults, x_rooms.alcoves, x_rooms.chachas, []⟩, x_cel, x_keys, x_boot, x_fw,
      x_pwr, x_stair, x_ecc, x_diag, x_study.cmdRdy, x_study.proto, x_lar.flush, x_pan.dirFault, x_pan.keyFault,
      x_scu.ctxs, x_scu.sel⟩ := rfl

theorem still_eta (x : Still) : (⟨x.pins, x.porch, x.txn, x.instSel, x.nextOp, x.sched, x.core, x.rooms, x.cel,
      x.keys, x.boot, x.fw, x.pwr, x.stair, x.ecc, x.diag, x.cmdRdy, x.proto, x.flush,
      x.dirFault, x.keyFault, x.ctxs, x.scuSel⟩ : Still) = x := rfl

theorem foldl_still {α : Type} (f : State → α → State) (l : List α) (s : State) (h : ∀ s x, (f s x).still = s.still) :
    (l.foldl f s).still = s.still := by
  induction l generalizing s with
  | nil => rfl
  | cons a t ih => rw [List.foldl_cons, ih, h]

theorem foldl_pair_still {α β : Type} (f : β × State → α → β × State) (l : List α) (p : β × State)
    (h : ∀ p x, (f p x).2.still = p.2.still) : (l.foldl f p).2.still = p.2.still := by
  induction l generalizing p with
  | nil => rfl
  | cons a t ih => rw [List.foldl_cons, ih, h]

/-- The rules by which that part of a changed state is read off. -/
theorem still_rules :
    (∀ s : State, s.pins = s.still.pins) ∧
    (∀ s : State, s.porch = s.still.porch) ∧
    (∀ s : State, s.txn = s.still.txn) ∧
    (∀ s : State, s.instSel = s.still.instSel) ∧
    (∀ s : State, s.nextOp = s.still.nextOp) ∧
    (∀ s : State, s.sched = s.still.sched) ∧
    (∀ s : State, s.core = s.still.core) ∧
    (∀ s : State, s.rooms.ratio = s.still.rooms.ratio) ∧
    (∀ s : State, s.rooms.ratioNow = s.still.rooms.ratioNow) ∧
    (∀ s : State, s.rooms.faults = s.still.rooms.faults) ∧
    (∀ s : State, s.rooms.alcoves = s.still.rooms.alcoves) ∧
    (∀ s : State, s.rooms.chachas = s.still.rooms.chachas) ∧
    (∀ s : State, (⟨s.still.rooms.ratio, s.still.rooms.ratioNow, s.still.rooms.faults, s.still.rooms.alcoves,
      s.still.rooms.chachas, []⟩ : Rooms) = s.still.rooms) ∧
    (∀ s : State, s.cel = s.still.cel) ∧
    (∀ s : State, s.keys = s.still.keys) ∧
    (∀ s : State, s.boot = s.still.boot) ∧
    (∀ s : State, s.fw = s.still.fw) ∧
    (∀ s : State, s.pwr = s.still.pwr) ∧
    (∀ s : State, s.stair = s.still.stair) ∧
    (∀ s : State, s.ecc = s.still.ecc) ∧
    (∀ s : State, s.diag = s.still.diag) ∧
    (∀ s : State, s.study.cmdRdy = s.still.cmdRdy) ∧
    (∀ s : State, s.study.proto = s.still.proto) ∧
    (∀ s : State, s.lar.flush = s.still.flush) ∧
    (∀ s : State, s.pan.dirFault = s.still.dirFault) ∧
    (∀ s : State, s.pan.keyFault = s.still.keyFault) ∧
    (∀ s : State, s.scu.ctxs = s.still.ctxs) ∧
    (∀ s : State, s.scu.sel = s.still.scuSel) ∧
    (∀ (c : Prop) [Decidable c] (a b : State), (if c then a else b).still = if c then a.still else b.still) ∧
    (∀ (c : Prop) [Decidable c] (a : Still), (if c then a else a) = a) :=
  ⟨fun _ => rfl, fun _ => rfl, fun _ => rfl, fun _ => rfl, fun _ => rfl, fun _ => rfl, fun _ => rfl, fun _ =>
    rfl, fun _ => rfl, fun _ => rfl, fun _ => rfl, fun _ => rfl, fun _ => rfl, fun _ => rfl, fun _ => rfl, fun _
    => rfl, fun _ => rfl, fun _ => rfl, fun _ => rfl, fun _ => rfl, fun _ => rfl, fun _ => rfl, fun _ => rfl,
    fun _ => rfl, fun _ => rfl, fun _ => rfl, fun _ => rfl, fun _ => rfl,
    fun c _ a b => apply_ite State.still c a b, fun _ _ _ => ite_self _⟩

theorem modInst_still (i : Nat) (f : Inst → Inst) (s : State) :
    (modInst i f s).still = s.still := by
  unfold modInst
  repeat' (first | with_reducible rfl | (intro _) | (rw [foldl_still]) | (rw [foldl_pair_still]) |
    (simp only [still_mk, still_rules, still_eta, List.length_map, List.length_zipIdx, modAt_length]) | split)

theorem modRing_still (r : Nat) (f : Ring → Ring) (s : State) :
    (modRing r f s).still = s.still := by
  unfold modRing
  repeat' (first | with_reducible rfl | (intro _) | (rw [foldl_still]) | (rw [foldl_pair_still]) |
    (simp only [still_mk, still_rules, still_eta, List.length_map, List.length_zipIdx, modAt_length]) | split)

theorem modOp_still (id : Nat) (f : Op → Op) (s : State) :
    (modOp id f s).still = s.still := by
  unfold modOp
  repeat' (first | with_reducible rfl | (intro _) | (rw [foldl_still]) | (rw [foldl_pair_still]) |
    (simp only [still_mk, still_rules, still_eta, List.length_map, List.length_zipIdx, modAt_length]) | split)

theorem modPort_still (n : Nat) (f : Port → Port) (s : State) :
    (modPort n f s).still = s.still := by
  unfold modPort
  repeat' (first | with_reducible rfl | (intro _) | (rw [foldl_still]) | (rw [foldl_pair_still]) |
    (simp only [still_mk, still_rules, still_eta, List.length_map, List.length_zipIdx, modAt_length]) | split)

theorem modCq_still (q : Nat) (f : CmdQ → CmdQ) (s : State) :
    (modCq q f s).still = s.still := by
  unfold modCq
  repeat' (first | with_reducible rfl | (intro _) | (rw [foldl_still]) | (rw [foldl_pair_still]) |
    (simp only [still_mk, still_rules, still_eta, List.length_map, List.length_zipIdx, modAt_length,
          modInst_still]) | split)

theorem modEq_still (q : Nat) (f : EventQ → EventQ) (s : State) :
    (modEq q f s).still = s.still := by
  unfold modEq
  repeat' (first | with_reducible rfl | (intro _) | (rw [foldl_still]) | (rw [foldl_pair_still]) |
    (simp only [still_mk, still_rules, still_eta, List.length_map, List.length_zipIdx, modAt_length,
          modInst_still]) | split)

theorem mapEngines_still (f : Engine → Engine) (s : State) :
    (mapEngines f s).still = s.still := by
  unfold mapEngines
  repeat' (first | with_reducible rfl | (intro _) | (rw [foldl_still]) | (rw [foldl_pair_still]) |
    (simp only [still_mk, still_rules, still_eta, List.length_map, List.length_zipIdx, modAt_length]) | split)

theorem mapSlots_still (f : Nat → Slot → Slot) (s : State) :
    (mapSlots f s).still = s.still := by
  unfold mapSlots
  repeat' (first | with_reducible rfl | (intro _) | (rw [foldl_still]) | (rw [foldl_pair_still]) |
    (simp only [still_mk, still_rules, still_eta, List.length_map, List.length_zipIdx, modAt_length]) | split)

theorem keepSlots_still (f : Nat → Slot → Bool) (s : State) :
    (keepSlots f s).still = s.still := by
  unfold keepSlots
  repeat' (first | with_reducible rfl | (intro _) | (rw [foldl_still]) | (rw [foldl_pair_still]) |
    (simp only [still_mk, still_rules, still_eta, List.length_map, List.length_zipIdx, modAt_length]) | split)

theorem mapFetches_still (f : Fetch → Fetch) (s : State) :
    (mapFetches f s).still = s.still := by
  unfold mapFetches
  repeat' (first | with_reducible rfl | (intro _) | (rw [foldl_still]) | (rw [foldl_pair_still]) |
    (simp only [still_mk, still_rules, still_eta, List.length_map, List.length_zipIdx, modAt_length]) | split)

theorem draw_still (s : State) :
    (draw s).still = s.still := by
  unfold draw
  repeat' (first | with_reducible rfl | (intro _) | (rw [foldl_still]) | (rw [foldl_pair_still]) |
    (simp only [still_mk, still_rules, still_eta, List.length_map, List.length_zipIdx, modAt_length]) | split)

theorem addCounter_still (i n amt : Nat) (s : State) :
    (addCounter i n amt s).still = s.still := by
  unfold addCounter
  repeat' (first | with_reducible rfl | (intro _) | (rw [foldl_still]) | (rw [foldl_pair_still]) |
    (simp only [still_mk, still_rules, still_eta, List.length_map, List.length_zipIdx, modAt_length,
          modInst_still]) | split)

theorem subCounter_still (i n amt : Nat) (s : State) :
    (subCounter i n amt s).still = s.still := by
  unfold subCounter
  repeat' (first | with_reducible rfl | (intro _) | (rw [foldl_still]) | (rw [foldl_pair_still]) |
    (simp only [still_mk, still_rules, still_eta, List.length_map, List.length_zipIdx, modAt_length,
          modInst_still]) | split)

theorem countWith_still (g : Word → Bool) (i ev amt : Nat) (t : EvTag) (s : State) :
    (countWith g i ev amt t s).still = s.still := by
  unfold countWith
  repeat' (first | with_reducible rfl | (intro _) | (rw [foldl_still]) | (rw [foldl_pair_still]) |
    (simp only [still_mk, still_rules, still_eta, List.length_map, List.length_zipIdx, modAt_length,
          addCounter_still]) | split)

theorem countIn_still (i ev amt : Nat) (t : EvTag) (s : State) :
    (countIn i ev amt t s).still = s.still := by
  unfold countIn
  repeat' (first | with_reducible rfl | (intro _) | (rw [foldl_still]) | (rw [foldl_pair_still]) |
    (simp only [still_mk, still_rules, still_eta, List.length_map, List.length_zipIdx, modAt_length,
          countWith_still]) | split)

theorem uncountIn_still (i ev amt : Nat) (t : EvTag) (s : State) :
    (uncountIn i ev amt t s).still = s.still := by
  unfold uncountIn
  repeat' (first | with_reducible rfl | (intro _) | (rw [foldl_still]) | (rw [foldl_pair_still]) |
    (simp only [still_mk, still_rules, still_eta, List.length_map, List.length_zipIdx, modAt_length,
          subCounter_still]) | split)

theorem countIf_still (g : Word → Bool) (ev amt : Nat) (t : EvTag) (s : State) :
    (countIf g ev amt t s).still = s.still := by
  unfold countIf
  repeat' (first | with_reducible rfl | (intro _) | (rw [foldl_still]) | (rw [foldl_pair_still]) |
    (simp only [still_mk, still_rules, still_eta, List.length_map, List.length_zipIdx, modAt_length,
          countWith_still]) | split)

theorem count_still (ev amt : Nat) (t : EvTag) (s : State) :
    (count ev amt t s).still = s.still := by
  unfold count
  repeat' (first | with_reducible rfl | (intro _) | (rw [foldl_still]) | (rw [foldl_pair_still]) |
    (simp only [still_mk, still_rules, still_eta, List.length_map, List.length_zipIdx, modAt_length,
          countIn_still]) | split)

theorem fixedCount_still (i n amt : Nat) (s : State) :
    (fixedCount i n amt s).still = s.still := by
  unfold fixedCount
  repeat' (first | with_reducible rfl | (intro _) | (rw [foldl_still]) | (rw [foldl_pair_still]) |
    (simp only [still_mk, still_rules, still_eta, List.length_map, List.length_zipIdx, modAt_length,
          addCounter_still]) | split)

theorem issueWrites_still (n : Nat) (s : State) :
    (issueWrites n s).still = s.still := by
  unfold issueWrites
  repeat' (first | with_reducible rfl | (intro _) | (rw [foldl_still]) | (rw [foldl_pair_still]) |
    (simp only [still_mk, still_rules, still_eta, List.length_map, List.length_zipIdx, modAt_length,
          modPort_still, countIn_still]) | split)

theorem pump_still (n : Nat) (s : State) :
    (pump n s).still = s.still := by
  unfold pump
  repeat' (first | with_reducible rfl | (intro _) | (rw [foldl_still]) | (rw [foldl_pair_still]) |
    (simp only [still_mk, still_rules, still_eta, List.length_map, List.length_zipIdx, modAt_length,
          modPort_still, issueWrites_still]) | split)

theorem readReq_still (n addr len tag : Nat) (o : Owner) (off : Nat) (s : State) :
    (readReq n addr len tag o off s).still = s.still := by
  unfold readReq
  repeat' (first | with_reducible rfl | (intro _) | (rw [foldl_still]) | (rw [foldl_pair_still]) |
    (simp only [still_mk, still_rules, still_eta, List.length_map, List.length_zipIdx, modAt_length,
          modPort_still, pump_still]) | split)

theorem writeReq_still (n addr : Nat) (data : List Byte) (tag : Nat) (o : Owner) (s : State) :
    (writeReq n addr data tag o s).still = s.still := by
  unfold writeReq
  repeat' (first | with_reducible rfl | (intro _) | (rw [foldl_still]) | (rw [foldl_pair_still]) |
    (simp only [still_mk, still_rules, still_eta, List.length_map, List.length_zipIdx, modAt_length,
          modPort_still, pump_still]) | split)

theorem dropReads_still (f : Owner → Bool) (s : State) :
    (dropReads f s).still = s.still := by
  unfold dropReads
  repeat' (first | with_reducible rfl | (intro _) | (rw [foldl_still]) | (rw [foldl_pair_still]) |
    (simp only [still_mk, still_rules, still_eta, List.length_map, List.length_zipIdx, modAt_length]) | split)

theorem orphanReads_still (f : Owner → Bool) (s : State) :
    (orphanReads f s).still = s.still := by
  unfold orphanReads
  repeat' (first | with_reducible rfl | (intro _) | (rw [foldl_still]) | (rw [foldl_pair_still]) |
    (simp only [still_mk, still_rules, still_eta, List.length_map, List.length_zipIdx, modAt_length,
          dropReads_still]) | split)

theorem dropWrites_still (f : Owner → Bool) (s : State) :
    (dropWrites f s).still = s.still := by
  unfold dropWrites
  repeat' (first | with_reducible rfl | (intro _) | (rw [foldl_still]) | (rw [foldl_pair_still]) |
    (simp only [still_mk, still_rules, still_eta, List.length_map, List.length_zipIdx, modAt_length]) | split)

theorem disownWrites_still (f : Owner → Bool) (s : State) :
    (disownWrites f s).still = s.still := by
  unfold disownWrites
  repeat' (first | with_reducible rfl | (intro _) | (rw [foldl_still]) | (rw [foldl_pair_still]) |
    (simp only [still_mk, still_rules, still_eta, List.length_map, List.length_zipIdx, modAt_length]) | split)

theorem arrive_still (o : Owner) (data : List Byte) (s : State) :
    (arrive o data s).still = s.still := by
  unfold arrive
  repeat' (first | with_reducible rfl | (intro _) | (rw [foldl_still]) | (rw [foldl_pair_still]) |
    (simp only [still_mk, still_rules, still_eta, List.length_map, List.length_zipIdx, modAt_length]) | split)

theorem takeArrived_still (o : Owner) (s : State) :
    (takeArrived o s).still = s.still := by
  unfold takeArrived
  repeat' (first | with_reducible rfl | (intro _) | (rw [foldl_still]) | (rw [foldl_pair_still]) |
    (simp only [still_mk, still_rules, still_eta, List.length_map, List.length_zipIdx, modAt_length]) | split)

theorem setPend_still (i typ ring : Nat) (s : State) :
    (setPend i typ ring s).still = s.still := by
  unfold setPend
  repeat' (first | with_reducible rfl | (intro _) | (rw [foldl_still]) | (rw [foldl_pair_still]) |
    (simp only [still_mk, still_rules, still_eta, List.length_map, List.length_zipIdx, modAt_length,
          modRing_still, modEq_still]) | split)

theorem irqCheck_still (i : Nat) (s : State) :
    (irqCheck i s).still = s.still := by
  unfold irqCheck
  repeat' (first | with_reducible rfl | (intro _) | (rw [foldl_still]) | (rw [foldl_pair_still]) |
    (simp only [still_mk, still_rules, still_eta, List.length_map, List.length_zipIdx, modAt_length,
          modEq_still, count_still, writeReq_still]) | split)

theorem evWrite_still (i typ status ring index aux : Nat) (s : State) :
    (evWrite i typ status ring index aux s).still = s.still := by
  unfold evWrite
  repeat' (first | with_reducible rfl | (intro _) | (rw [foldl_still]) | (rw [foldl_pair_still]) |
    (simp only [still_mk, still_rules, still_eta, List.length_map, List.length_zipIdx, modAt_length,
          modEq_still, writeReq_still, setPend_still, irqCheck_still]) | split)

theorem evFail_still (i : Nat) (s : State) :
    (evFail i s).still = s.still := by
  unfold evFail
  repeat' (first | with_reducible rfl | (intro _) | (rw [foldl_still]) | (rw [foldl_pair_still]) |
    (simp only [still_mk, still_rules, still_eta, List.length_map, List.length_zipIdx, modAt_length,
          modEq_still, setPend_still, irqCheck_still]) | split)

theorem evAck_still (i : Nat) (n : Idx) (s : State) :
    (evAck i n s).still = s.still := by
  unfold evAck
  repeat' (first | with_reducible rfl | (intro _) | (rw [foldl_still]) | (rw [foldl_pair_still]) |
    (simp only [still_mk, still_rules, still_eta, List.length_map, List.length_zipIdx, modAt_length,
          modEq_still, irqCheck_still]) | split)

theorem countOp_still (ev amt : Nat) (o : Op) (s : State) :
    (countOp ev amt o s).still = s.still := by
  unfold countOp
  repeat' (first | with_reducible rfl | (intro _) | (rw [foldl_still]) | (rw [foldl_pair_still]) |
    (simp only [still_mk, still_rules, still_eta, List.length_map, List.length_zipIdx, modAt_length,
          countIn_still, count_still]) | split)

theorem fixedOp_still (n amt : Nat) (o : Op) (s : State) :
    (fixedOp n amt o s).still = s.still := by
  unfold fixedOp
  repeat' (first | with_reducible rfl | (intro _) | (rw [foldl_still]) | (rw [foldl_pair_still]) |
    (simp only [still_mk, still_rules, still_eta, List.length_map, List.length_zipIdx, modAt_length,
          fixedCount_still]) | split)

theorem chargeInst_still (i units : Nat) (s : State) :
    (chargeInst i units s).still = s.still := by
  unfold chargeInst
  repeat' (first | with_reducible rfl | (intro _) | (rw [foldl_still]) | (rw [foldl_pair_still]) |
    (simp only [still_mk, still_rules, still_eta, List.length_map, List.length_zipIdx, modAt_length,
          modInst_still, fixedCount_still]) | split)

theorem refundInst_still (i units : Nat) (s : State) :
    (refundInst i units s).still = s.still := by
  unfold refundInst
  repeat' (first | with_reducible rfl | (intro _) | (rw [foldl_still]) | (rw [foldl_pair_still]) |
    (simp only [still_mk, still_rules, still_eta, List.length_map, List.length_zipIdx, modAt_length,
          modInst_still, subCounter_still]) | split)

theorem chargeTo_still (o : Op) (cost : Nat) (s : State) :
    (chargeTo o cost s).still = s.still := by
  unfold chargeTo
  repeat' (first | with_reducible rfl | (intro _) | (rw [foldl_still]) | (rw [foldl_pair_still]) |
    (simp only [still_mk, still_rules, still_eta, List.length_map, List.length_zipIdx, modAt_length,
          modOp_still, chargeInst_still, refundInst_still]) | split)

theorem correctCharge_still (o : Op) (cost : Nat) (s : State) :
    (correctCharge o cost s).still = s.still := by
  unfold correctCharge
  repeat' (first | with_reducible rfl | (intro _) | (rw [foldl_still]) | (rw [foldl_pair_still]) |
    (simp only [still_mk, still_rules, still_eta, List.length_map, List.length_zipIdx, modAt_length,
          modRing_still, chargeTo_still]) | split)

theorem issueSrc_still (id : Nat) (s : State) :
    (issueSrc id s).still = s.still := by
  unfold issueSrc
  repeat' (first | with_reducible rfl | (intro _) | (rw [foldl_still]) | (rw [foldl_pair_still]) |
    (simp only [still_mk, still_rules, still_eta, List.length_map, List.length_zipIdx, modAt_length,
          modOp_still, readReq_still]) | split)

theorem emit_still (id off : Nat) (data : List Byte) (s : State) :
    (emit id off data s).still = s.still := by
  unfold emit
  repeat' (first | with_reducible rfl | (intro _) | (rw [foldl_still]) | (rw [foldl_pair_still]) |
    (simp only [still_mk, still_rules, still_eta, List.length_map, List.length_zipIdx, modAt_length,
          modOp_still, writeReq_still, countOp_still]) | split)

theorem emitAt_still (id addr : Nat) (data : List Byte) (s : State) :
    (emitAt id addr data s).still = s.still := by
  unfold emitAt
  repeat' (first | with_reducible rfl | (intro _) | (rw [foldl_still]) | (rw [foldl_pair_still]) |
    (simp only [still_mk, still_rules, still_eta, List.length_map, List.length_zipIdx, modAt_length,
          modOp_still, writeReq_still]) | split)

theorem dropOutput_still (o : Op) (s : State) :
    (dropOutput o s).still = s.still := by
  unfold dropOutput
  repeat' (first | with_reducible rfl | (intro _) | (rw [foldl_still]) | (rw [foldl_pair_still]) |
    (simp only [still_mk, still_rules, still_eta, List.length_map, List.length_zipIdx, modAt_length,
          modOp_still, dropWrites_still]) | split)

theorem keepRecord_still (o : Op) (s : State) :
    (keepRecord o s).still = s.still := by
  unfold keepRecord
  repeat' (first | with_reducible rfl | (intro _) | (rw [foldl_still]) | (rw [foldl_pair_still]) |
    (simp only [still_mk, still_rules, still_eta, List.length_map, List.length_zipIdx, modAt_length]) | split)

theorem freeRecords_still (s : State) :
    (freeRecords s).still = s.still := by
  unfold freeRecords
  repeat' (first | with_reducible rfl | (intro _) | (rw [foldl_still]) | (rw [foldl_pair_still]) |
    (simp only [still_mk, still_rules, still_eta, List.length_map, List.length_zipIdx, modAt_length]) | split)

theorem skipSample_still (i : Nat) (s : State) :
    (skipSample i s).still = s.still := by
  unfold skipSample
  repeat' (first | with_reducible rfl | (intro _) | (rw [foldl_still]) | (rw [foldl_pair_still]) |
    (simp only [still_mk, still_rules, still_eta, List.length_map, List.length_zipIdx, modAt_length,
          modInst_still]) | split)

theorem releaseOp_still (id : Nat) (s : State) :
    (releaseOp id s).still = s.still := by
  unfold releaseOp
  repeat' (first | with_reducible rfl | (intro _) | (rw [foldl_still]) | (rw [foldl_pair_still]) |
    (simp only [still_mk, still_rules, still_eta, List.length_map, List.length_zipIdx, modAt_length,
          dropReads_still, orphanReads_still, keepRecord_still, skipSample_still]) | split)

theorem releaseAll_still (f : Op → Bool) (s : State) :
    (releaseAll f s).still = s.still := by
  unfold releaseAll
  repeat' (first | with_reducible rfl | (intro _) | (rw [foldl_still]) | (rw [foldl_pair_still]) |
    (simp only [still_mk, still_rules, still_eta, List.length_map, List.length_zipIdx, modAt_length,
          releaseOp_still]) | split)

theorem issueSamples_still (s : State) :
    (issueSamples s).still = s.still := by
  unfold issueSamples
  repeat' (first | with_reducible rfl | (intro _) | (rw [foldl_still]) | (rw [foldl_pair_still]) |
    (simp only [still_mk, still_rules, still_eta, List.length_map, List.length_zipIdx, modAt_length,
          modInst_still, writeReq_still]) | split)

theorem writeIndex_still (n : Nat) (s : State) :
    (writeIndex n s).still = s.still := by
  unfold writeIndex
  repeat' (first | with_reducible rfl | (intro _) | (rw [foldl_still]) | (rw [foldl_pair_still]) |
    (simp only [still_mk, still_rules, still_eta, List.length_map, List.length_zipIdx, modAt_length,
          writeReq_still]) | split)

theorem dropSpecs_still (n : Nat) (s : State) :
    (dropSpecs n s).still = s.still := by
  unfold dropSpecs
  repeat' (first | with_reducible rfl | (intro _) | (rw [foldl_still]) | (rw [foldl_pair_still]) |
    (simp only [still_mk, still_rules, still_eta, List.length_map, List.length_zipIdx, modAt_length,
          dropReads_still]) | split)

theorem ringErrorRecord_still (n : Nat) (s : State) :
    (ringErrorRecord n s).still = s.still := by
  unfold ringErrorRecord
  repeat' (first | with_reducible rfl | (intro _) | (rw [foldl_still]) | (rw [foldl_pair_still]) |
    (simp only [still_mk, still_rules, still_eta, List.length_map, List.length_zipIdx, modAt_length,
          modRing_still, evWrite_still]) | split)

theorem orphanErrorRecord_still (n : Nat) (s : State) :
    (orphanErrorRecord n s).still = s.still := by
  unfold orphanErrorRecord
  repeat' (first | with_reducible rfl | (intro _) | (rw [foldl_still]) | (rw [foldl_pair_still]) |
    (simp only [still_mk, still_rules, still_eta, List.length_map, List.length_zipIdx, modAt_length,
          ringErrorRecord_still]) | split)

theorem dueErrorRecord_still (n : Nat) (e : Idx) (s : State) :
    (dueErrorRecord n e s).still = s.still := by
  unfold dueErrorRecord
  repeat' (first | with_reducible rfl | (intro _) | (rw [foldl_still]) | (rw [foldl_pair_still]) |
    (simp only [still_mk, still_rules, still_eta, List.length_map, List.length_zipIdx, modAt_length,
          ringErrorRecord_still]) | split)

theorem stopAt_still (n : Nat) (e h : Idx) (st : Status) (now : Bool) (s : State) :
    (stopAt n e h st now s).still = s.still := by
  unfold stopAt
  repeat' (first | with_reducible rfl | (intro _) | (rw [foldl_still]) | (rw [foldl_pair_still]) |
    (simp only [still_mk, still_rules, still_eta, List.length_map, List.length_zipIdx, modAt_length,
          releaseAll_still, writeIndex_still, dropSpecs_still, ringErrorRecord_still]) | split)

theorem stopRing_still (n : Nat) (e : Idx) (st : Status) (now : Bool) (s : State) :
    (stopRing n e st now s).still = s.still := by
  unfold stopRing
  repeat' (first | with_reducible rfl | (intro _) | (rw [foldl_still]) | (rw [foldl_pair_still]) |
    (simp only [still_mk, still_rules, still_eta, List.length_map, List.length_zipIdx, modAt_length,
          stopAt_still]) | split)

theorem postOp_still (o : Op) (s : State) :
    (postOp o s).still = s.still := by
  unfold postOp
  repeat' (first | with_reducible rfl | (intro _) | (rw [foldl_still]) | (rw [foldl_pair_still]) |
    (simp only [still_mk, still_rules, still_eta, List.length_map, List.length_zipIdx, modAt_length,
          modOp_still, writeReq_still, releaseOp_still]) | split)

theorem tryPost_still (n : Nat) (s : State) :
    (tryPost n s).still = s.still := by
  unfold tryPost
  repeat' (first | with_reducible rfl | (intro _) | (rw [foldl_still]) | (rw [foldl_pair_still]) |
    (simp only [still_mk, still_rules, still_eta, List.length_map, List.length_zipIdx, modAt_length,
          postOp_still]) | split)

theorem zeroWrites_still (o : Op) (s : State) :
    (zeroWrites o s).still = s.still := by
  unfold zeroWrites
  repeat' (first | with_reducible rfl | (intro _) | (rw [foldl_still]) | (rw [foldl_pair_still]) |
    (simp only [still_mk, still_rules, still_eta, List.length_map, List.length_zipIdx, modAt_length,
          writeReq_still]) | split)

theorem endOp_still (id : Nat) (st : Status) (good : Nat) (s : State) :
    (endOp id st good s).still = s.still := by
  unfold endOp
  repeat' (first | with_reducible rfl | (intro _) | (rw [foldl_still]) | (rw [foldl_pair_still]) |
    (simp only [still_mk, still_rules, still_eta, List.length_map, List.length_zipIdx, modAt_length,
          modOp_still, dropReads_still, countOp_still, releaseOp_still, stopRing_still, tryPost_still,
          zeroWrites_still]) | split)

theorem failUndispatched_still (o : Op) (st : Status) (s : State) :
    (failUndispatched o st s).still = s.still := by
  unfold failUndispatched
  repeat' (first | with_reducible rfl | (intro _) | (rw [foldl_still]) | (rw [foldl_pair_still]) |
    (simp only [still_mk, still_rules, still_eta, List.length_map, List.length_zipIdx, modAt_length,
          chargeTo_still, endOp_still]) | split)

theorem failWrite_still (id ring : Nat) (e : Idx) (st : Status) (s : State) :
    (failWrite id ring e st s).still = s.still := by
  unfold failWrite
  repeat' (first | with_reducible rfl | (intro _) | (rw [foldl_still]) | (rw [foldl_pair_still]) |
    (simp only [still_mk, still_rules, still_eta, List.length_map, List.length_zipIdx, modAt_length,
          modOp_still, dropWrites_still, stopRing_still, endOp_still]) | split)

theorem failRead_still (id : Nat) (st : Status) (s : State) :
    (failRead id st s).still = s.still := by
  unfold failRead
  repeat' (first | with_reducible rfl | (intro _) | (rw [foldl_still]) | (rw [foldl_pair_still]) |
    (simp only [still_mk, still_rules, still_eta, List.length_map, List.length_zipIdx, modAt_length,
          endOp_still]) | split)

theorem noteTaken_still (q : Nat) (s : State) :
    (noteTaken q s).still = s.still := by
  unfold noteTaken
  repeat' (first | with_reducible rfl | (intro _) | (rw [foldl_still]) | (rw [foldl_pair_still]) |
    (simp only [still_mk, still_rules, still_eta, List.length_map, List.length_zipIdx, modAt_length]) | split)

theorem studyFetch_still (s : State) :
    (studyFetch s).still = s.still := by
  unfold studyFetch
  repeat' (first | with_reducible rfl | (intro _) | (rw [foldl_still]) | (rw [foldl_pair_still]) |
    (simp only [still_mk, still_rules, still_eta, List.length_map, List.length_zipIdx, modAt_length,
          modCq_still, readReq_still]) | split)

theorem dropPacketRead_still (q : Nat) (s : State) :
    (dropPacketRead q s).still = s.still := by
  unfold dropPacketRead
  repeat' (first | with_reducible rfl | (intro _) | (rw [foldl_still]) | (rw [foldl_pair_still]) |
    (simp only [still_mk, still_rules, still_eta, List.length_map, List.length_zipIdx, modAt_length,
          modCq_still, dropReads_still]) | split)

theorem reply_still (q : Nat) (st : Status) (detail : Nat) (body : List Byte) (s : State) :
    (reply q st detail body s).still = s.still := by
  unfold reply
  repeat' (first | with_reducible rfl | (intro _) | (rw [foldl_still]) | (rw [foldl_pair_still]) |
    (simp only [still_mk, still_rules, still_eta, List.length_map, List.length_zipIdx, modAt_length,
          modCq_still, writeReq_still]) | split)

theorem replyWord2_still (q : Nat) (s : State) :
    (replyWord2 q s).still = s.still := by
  unfold replyWord2
  repeat' (first | with_reducible rfl | (intro _) | (rw [foldl_still]) | (rw [foldl_pair_still]) |
    (simp only [still_mk, still_rules, still_eta, List.length_map, List.length_zipIdx, modAt_length,
          modCq_still, writeReq_still, reply_still]) | split)

theorem waitFor_still (q : Nat) (w : Wait) (s : State) :
    (waitFor q w s).still = s.still := by
  unfold waitFor
  repeat' (first | with_reducible rfl | (intro _) | (rw [foldl_still]) | (rw [foldl_pair_still]) |
    (simp only [still_mk, still_rules, still_eta, List.length_map, List.length_zipIdx, modAt_length,
          modCq_still]) | split)

theorem takeArrivedPacket_still (q : Nat) (pkt : List Byte) (s : State) :
    (takeArrivedPacket q pkt s).still = s.still := by
  unfold takeArrivedPacket
  repeat' (first | with_reducible rfl | (intro _) | (rw [foldl_still]) | (rw [foldl_pair_still]) |
    (simp only [still_mk, still_rules, still_eta, List.length_map, List.length_zipIdx, modAt_length,
          modCq_still]) | split)

theorem coldPage_still (i : Nat) (s : State) :
    (coldPage i s).still = s.still := by
  unfold coldPage
  repeat' (first | with_reducible rfl | (intro _) | (rw [foldl_still]) | (rw [foldl_pair_still]) |
    (simp only [still_mk, still_rules, still_eta, List.length_map, List.length_zipIdx, modAt_length,
          modInst_still]) | split)

theorem quietRing_still (n : Nat) (s : State) :
    (quietRing n s).still = s.still := by
  unfold quietRing
  repeat' (first | with_reducible rfl | (intro _) | (rw [foldl_still]) | (rw [foldl_pair_still]) |
    (simp only [still_mk, still_rules, still_eta, List.length_map, List.length_zipIdx, modAt_length,
          modRing_still, dropReads_still, dropSpecs_still]) | split)

theorem dropRings_still (i : Nat) (s : State) :
    (dropRings i s).still = s.still := by
  unfold dropRings
  repeat' (first | with_reducible rfl | (intro _) | (rw [foldl_still]) | (rw [foldl_pair_still]) |
    (simp only [still_mk, still_rules, still_eta, List.length_map, List.length_zipIdx, modAt_length,
          quietRing_still]) | split)

theorem dropTagged_still (i : Nat) (s : State) :
    (dropTagged i s).still = s.still := by
  unfold dropTagged
  repeat' (first | with_reducible rfl | (intro _) | (rw [foldl_still]) | (rw [foldl_pair_still]) |
    (simp only [still_mk, still_rules, still_eta, List.length_map, List.length_zipIdx, modAt_length]) | split)

theorem makeOld_still (o : Op) (s : State) :
    (makeOld o s).still = s.still := by
  unfold makeOld
  repeat' (first | with_reducible rfl | (intro _) | (rw [foldl_still]) | (rw [foldl_pair_still]) |
    (simp only [still_mk, still_rules, still_eta, List.length_map, List.length_zipIdx, modAt_length,
          modOp_still, mapEngines_still, orphanReads_still, releaseOp_still]) | split)

theorem generationStep_still (i : Nat) (s : State) :
    (generationStep i s).still = s.still := by
  unfold generationStep
  repeat' (first | with_reducible rfl | (intro _) | (rw [foldl_still]) | (rw [foldl_pair_still]) |
    (simp only [still_mk, still_rules, still_eta, List.length_map, List.length_zipIdx, modAt_length,
          modInst_still, freeRecords_still, quietRing_still, dropTagged_still, makeOld_still]) | split)

theorem wakeIndex_still (index : Nat) (s : State) :
    (wakeIndex index s).still = s.still := by
  unfold wakeIndex
  repeat' (first | with_reducible rfl | (intro _) | (rw [foldl_still]) | (rw [foldl_pair_still]) |
    (simp only [still_mk, still_rules, still_eta, List.length_map, List.length_zipIdx, modAt_length]) | split)

theorem dropDoorWork_still (i : Nat) (s : State) :
    (dropDoorWork i s).still = s.still := by
  unfold dropDoorWork
  repeat' (first | with_reducible rfl | (intro _) | (rw [foldl_still]) | (rw [foldl_pair_still]) |
    (simp only [still_mk, still_rules, still_eta, List.length_map, List.length_zipIdx, modAt_length,
          dropReads_still]) | split)

theorem retireResident_still (i : Nat) (s : State) :
    (retireResident i s).still = s.still := by
  unfold retireResident
  repeat' (first | with_reducible rfl | (intro _) | (rw [foldl_still]) | (rw [foldl_pair_still]) |
    (simp only [still_mk, still_rules, still_eta, List.length_map, List.length_zipIdx, modAt_length,
          mapSlots_still, keepSlots_still, mapFetches_still, endOp_still, wakeIndex_still]) | split)

theorem endReset_still (i : Nat) (s : State) :
    (endReset i s).still = s.still := by
  unfold endReset
  repeat' (first | with_reducible rfl | (intro _) | (rw [foldl_still]) | (rw [foldl_pair_still]) |
    (simp only [still_mk, still_rules, still_eta, List.length_map, List.length_zipIdx, modAt_length,
          modInst_still, coldPage_still, dropRings_still]) | split)

theorem endDestroy_still (i : Nat) (s : State) :
    (endDestroy i s).still = s.still := by
  unfold endDestroy
  repeat' (first | with_reducible rfl | (intro _) | (rw [foldl_still]) | (rw [foldl_pair_still]) |
    (simp only [still_mk, still_rules, still_eta, List.length_map, List.length_zipIdx, modAt_length,
          modInst_still, coldPage_still, dropRings_still, dropDoorWork_still, retireResident_still]) | split)

theorem settleDestroy_still (i : Nat) (s : State) :
    (settleDestroy i s).still = s.still := by
  unfold settleDestroy
  repeat' (first | with_reducible rfl | (intro _) | (rw [foldl_still]) | (rw [foldl_pair_still]) |
    (simp only [still_mk, still_rules, still_eta, List.length_map, List.length_zipIdx, modAt_length,
          modInst_still, endDestroy_still]) | split)

theorem settleQuiesce_still (i : Nat) (s : State) :
    (settleQuiesce i s).still = s.still := by
  unfold settleQuiesce
  repeat' (first | with_reducible rfl | (intro _) | (rw [foldl_still]) | (rw [foldl_pair_still]) |
    (simp only [still_mk, still_rules, still_eta, List.length_map, List.length_zipIdx, modAt_length,
          modInst_still]) | split)

theorem disownRing_still (n : Nat) (s : State) :
    (disownRing n s).still = s.still := by
  unfold disownRing
  repeat' (first | with_reducible rfl | (intro _) | (rw [foldl_still]) | (rw [foldl_pair_still]) |
    (simp only [still_mk, still_rules, still_eta, List.length_map, List.length_zipIdx, modAt_length]) | split)

theorem settleRing_still (n : Nat) (s : State) :
    (settleRing n s).still = s.still := by
  unfold settleRing
  repeat' (first | with_reducible rfl | (intro _) | (rw [foldl_still]) | (rw [foldl_pair_still]) |
    (simp only [still_mk, still_rules, still_eta, List.length_map, List.length_zipIdx, modAt_length,
          modRing_still, evWrite_still, writeIndex_still, disownRing_still]) | split)

theorem waitEnd_still (w : Wait) (s : State) (st : Status) (b : List Byte) (t : State)
    (h : waitEnd w s = some (st, b, t)) : t.still = s.still := by
  unfold waitEnd at h
  repeat' (split at h)
  all_goals (first
    | contradiction
    | (simp only [Option.some.injEq, Prod.mk.injEq] at h
       obtain ⟨-, -, rfl⟩ := h
       first | rfl | simp only [endReset_still, settleDestroy_still]))

theorem settleServing_still (q : Nat) (s : State) :
    (settleServing q s).still = s.still := by
  unfold settleServing
  repeat' (first | with_reducible rfl | (intro _) | (rw [foldl_still]) | (rw [foldl_pair_still]) |
    (exact waitEnd_still _ _ _ _ _ ‹_›) |
    (simp only [still_mk, still_rules, still_eta, List.length_map, List.length_zipIdx, modAt_length,
          reply_still]) | split)

theorem drainLate_still (q : Nat) (s : State) :
    (drainLate q s).still = s.still := by
  unfold drainLate
  repeat' (first | with_reducible rfl | (intro _) | (rw [foldl_still]) | (rw [foldl_pair_still]) |
    (simp only [still_mk, still_rules, still_eta, List.length_map, List.length_zipIdx, modAt_length,
          reply_still]) | split)

theorem settleLate_still (s : State) :
    (settleLate s).still = s.still := by
  unfold settleLate
  repeat' (first | with_reducible rfl | (intro _) | (rw [foldl_still]) | (rw [foldl_pair_still]) |
    ((rename_i h; split at h; exact waitEnd_still _ _ _ _ _ h; contradiction)) |
    (simp only [still_mk, still_rules, still_eta, List.length_map, List.length_zipIdx, modAt_length,
          evWrite_still]) | split)

theorem settleKek_still (i : Nat) (s : State) :
    (settleKek i s).still = s.still := by
  unfold settleKek
  repeat' (first | with_reducible rfl | (intro _) | (rw [foldl_still]) | (rw [foldl_pair_still]) |
    (simp only [still_mk, still_rules, still_eta, List.length_map, List.length_zipIdx, modAt_length,
          modInst_still]) | split)

theorem dbFlag_still (page ring : Nat) (f : DbStatus → DbStatus) (s : State) :
    (dbFlag page ring f s).still = s.still := by
  unfold dbFlag
  repeat' (first | with_reducible rfl | (intro _) | (rw [foldl_still]) | (rw [foldl_pair_still]) |
    (simp only [still_mk, still_rules, still_eta, List.length_map, List.length_zipIdx, modAt_length,
          modInst_still]) | split)

theorem drainRing_still (n : Nat) (st : RingState) (s : State) :
    (drainRing n st s).still = s.still := by
  unfold drainRing
  repeat' (first | with_reducible rfl | (intro _) | (rw [foldl_still]) | (rw [foldl_pair_still]) |
    (simp only [still_mk, still_rules, still_eta, List.length_map, List.length_zipIdx, modAt_length,
          modRing_still, releaseAll_still, orphanErrorRecord_still, tryPost_still, quietRing_still,
          dbFlag_still]) | split)

theorem takeWrap_still (i n : Nat) (s : State) :
    (takeWrap i n s).still = s.still := by
  unfold takeWrap
  repeat' (first | with_reducible rfl | (intro _) | (rw [foldl_still]) | (rw [foldl_pair_still]) |
    (simp only [still_mk, still_rules, still_eta, List.length_map, List.length_zipIdx, modAt_length,
          modInst_still, evWrite_still]) | split)

theorem applyCounter_still (i n en ev : Nat) (f : Word) (s : State) :
    (applyCounter i n en ev f s).still = s.still := by
  unfold applyCounter
  repeat' (first | with_reducible rfl | (intro _) | (rw [foldl_still]) | (rw [foldl_pair_still]) |
    (simp only [still_mk, still_rules, still_eta, List.length_map, List.length_zipIdx, modAt_length,
          modInst_still, takeWrap_still]) | split)

theorem setQuanta_still (s : State) :
    (setQuanta s).still = s.still := by
  unfold setQuanta
  repeat' (first | with_reducible rfl | (intro _) | (rw [foldl_still]) | (rw [foldl_pair_still]) |
    (simp only [still_mk, still_rules, still_eta, List.length_map, List.length_zipIdx, modAt_length]) | split)

theorem applyShare_still (i w q h : Nat) (s : State) :
    (applyShare i w q h s).still = s.still := by
  unfold applyShare
  repeat' (first | with_reducible rfl | (intro _) | (rw [foldl_still]) | (rw [foldl_pair_still]) |
    (simp only [still_mk, still_rules, still_eta, List.length_map, List.length_zipIdx, modAt_length,
          modInst_still]) | split)

theorem clampShares_still (s : State) :
    (clampShares s).still = s.still := by
  unfold clampShares
  repeat' (first | with_reducible rfl | (intro _) | (rw [foldl_still]) | (rw [foldl_pair_still]) |
    (simp only [still_mk, still_rules, still_eta, List.length_map, List.length_zipIdx, modAt_length]) | split)

theorem abandonQuiesce_still (i : Nat) (s : State) :
    (abandonQuiesce i s).still = s.still := by
  unfold abandonQuiesce
  repeat' (first | with_reducible rfl | (intro _) | (rw [foldl_still]) | (rw [foldl_pair_still]) |
    (simp only [still_mk, still_rules, still_eta, List.length_map, List.length_zipIdx, modAt_length]) | split)

theorem applyStaged_still (c : Staged) (s : State) :
    (applyStaged c s).still = s.still := by
  unfold applyStaged
  repeat' (first | with_reducible rfl | (intro _) | (rw [foldl_still]) | (rw [foldl_pair_still]) |
    (simp only [still_mk, still_rules, still_eta, List.length_map, List.length_zipIdx, modAt_length,
          modInst_still, dropPacketRead_still, coldPage_still, generationStep_still, settleDestroy_still,
          settleRing_still, drainRing_still, applyCounter_still, applyShare_still, abandonQuiesce_still]) | split)

theorem stagedView_still (l : List Staged) (s : State) :
    (stagedView l s).still = s.still := by
  unfold stagedView
  repeat' (first | with_reducible rfl | (intro _) | (rw [foldl_still]) | (rw [foldl_pair_still]) |
    (simp only [still_mk, still_rules, still_eta, List.length_map, List.length_zipIdx, modAt_length,
          applyStaged_still]) | split)

theorem undoAttach_still (w : Wait) (s : State) :
    (undoAttach w s).still = s.still := by
  unfold undoAttach
  repeat' (first | with_reducible rfl | (intro _) | (rw [foldl_still]) | (rw [foldl_pair_still]) |
    (simp only [still_mk, still_rules, still_eta, List.length_map, List.length_zipIdx, modAt_length,
          dropReads_still]) | split)

theorem applyLater_still {s : State} (h : s.txn.later = []) : (applyLater s).still = s.still := by
  unfold applyLater
  rw [h]

/-- With no command that waits for a number to become free (R65), the follow-ups leave that part alone. -/
theorem settle_still {s : State} (h : s.txn.later = []) : (settle s).still = s.still := by
  unfold settle
  simp only [studyFetch_still]
  have e : ∀ u : State, u.still = s.still → (applyLater u).still = s.still := fun u hu =>
    (applyLater_still ((congrArg (fun x => Txn.later (Still.txn x)) hu).trans h)).trans hu
  apply e
  repeat' (first | with_reducible rfl | (intro _) | (rw [foldl_still]) |
    (simp only [settleDestroy_still, settleLate_still, settleServing_still, settleKek_still, settleQuiesce_still,
      settleRing_still]))

end Sys2Proof.Machine
end

