-- ==== Sys2Proof/Laws/Replies.lean ====
section
/-!
SUPPORT. What asking for a write, answering a packet and beginning to wait change: the spec lemmas `reply_replied` and
`waitFor_waiting`, and the frame of each step on the way to them.
-/

namespace Sys2Proof.Machine

/-- Nothing but counters of instance 0, wraps and the Hallway has changed. -/
def OnlyBeats (u t : State) : Prop :=
  t.still = u.still ∧ t.tables = u.tables ∧ (∀ j, (t.inst j).body = (u.inst j).body) ∧
    (∀ j, (t.inst j).cq = (u.inst j).cq) ∧ (∀ j, j ≠ 0 → (t.inst j).counters = (u.inst j).counters)

theorem OnlyBeats.refl (s : State) : OnlyBeats s s := ⟨rfl, rfl, fun _ => rfl, fun _ => rfl, fun _ _ => rfl⟩

theorem OnlyBeats.trans {a b c : State} (h : OnlyBeats a b) (k : OnlyBeats b c) : OnlyBeats a c :=
  ⟨k.1.trans h.1, k.2.1.trans h.2.1, fun j => (k.2.2.1 j).trans (h.2.2.1 j), fun j => (k.2.2.2.1 j).trans (h.2.2.2.1 j),
    fun j n => (k.2.2.2.2 j n).trans (h.2.2.2.2 j n)⟩

theorem onlyBeats_foldl {α : Type} (f : State → α → State) (l : List α) (s : State) (h : ∀ s x, OnlyBeats s (f s x)) :
    OnlyBeats s (l.foldl f s) := by
  induction l generalizing s with
  | nil => exact .refl s
  | cons a t ih => rw [List.foldl_cons]; exact (h s a).trans (ih _)

theorem onlyBeats_modPort (n : Nat) (f : Port → Port) (s : State) : OnlyBeats s (modPort n f s) :=
  ⟨rfl, rfl, fun _ => rfl, fun _ => rfl, fun _ _ => rfl⟩

theorem onlyBeats_addCounter (n amt : Nat) (s : State) : OnlyBeats s (addCounter 0 n amt s) := by
  unfold addCounter
  dsimp only
  split
  · exact .refl s
  · split
    · split <;> refine ⟨rfl, rfl, fun j => ?_, fun j => ?_, fun j h => ?_⟩ <;>
        simp [State.inst, modInst, tget_tset, Inst.body] <;> split <;> simp_all [State.inst]
    · exact .refl s

theorem onlyBeats_countIn (ev amt : Nat) (t : EvTag) (s : State) : OnlyBeats s (countIn 0 ev amt t s) := by
  unfold countIn
  refine onlyBeats_foldl _ _ _ fun s n => ?_
  split
  · exact .refl s
  · split
    · exact onlyBeats_addCounter _ _ _
    · exact .refl s

theorem onlyBeats_issueWrites (n : Nat) (s : State) : OnlyBeats s (issueWrites n s) := by
  unfold issueWrites
  dsimp only
  split
  · exact onlyBeats_modPort _ _ _
  · exact (onlyBeats_modPort _ _ _).trans (onlyBeats_countIn _ _ _ _)

theorem onlyBeats_pump (n : Nat) (s : State) : OnlyBeats s (pump n s) := by
  unfold pump
  split
  · exact (onlyBeats_modPort _ _ _).trans (onlyBeats_issueWrites _ _)
  · exact .refl s

theorem onlyBeats_writeReq (n addr : Nat) (data : List Byte) (tag : Nat) (o : Owner) (s : State) :
    OnlyBeats s (writeReq n addr data tag o s) :=
  (onlyBeats_modPort _ _ _).trans (onlyBeats_pump _ _)

theorem onlyBeats_readReq (n addr len tag : Nat) (o : Owner) (off : Nat) (s : State) :
    OnlyBeats s (readReq n addr len tag o off s) :=
  (onlyBeats_modPort _ _ _).trans (onlyBeats_pump _ _)

theorem SameBut.beats {q : Nat} {a b c : State} (h : SameBut q a b) (k : OnlyBeats b c) : SameBut q a c :=
  ⟨k.1.trans h.1, k.2.1.trans h.2.1, fun j => (k.2.2.1 j).trans (h.2.2.1 j),
    fun j n => (k.2.2.2.1 j).trans (h.2.2.2.1 j n), fun j n => (k.2.2.2.2 j n).trans (h.2.2.2.2 j n)⟩

theorem sameBut_modCq (q : Nat) (f : CmdQ → CmdQ) (s : State) : SameBut q s (modCq q f s) := by
  refine ⟨rfl, rfl, fun j => ?_, fun j h => ?_, fun j _ => ?_⟩ <;>
    simp only [modCq, inst_modInst] <;> split <;> simp_all [Inst.body]

/-- All that a reply does. -/
theorem reply_replied {q : Nat} {s : State} {v : Serving} (st : Status) (d : Nat) (body : List Byte)
    (h : (s.inst q).cq.serving = some v) : Replied q st d body s (reply q st d body s) := by
  unfold reply
  simp only [h]
  set c := modCq q _ s with hc
  have b : OnlyBeats c _ := (onlyBeats_writeReq 0 (v.addr + 32) (fillTo 224 body) q (.replyBody q) c).trans
    (onlyBeats_writeReq 0 (v.addr + 24) (leBytes 4 d ++ leBytes 4 0) q (.replyBody q) _)
  refine ⟨(hc ▸ sameBut_modCq q _ s).beats b, v, h, ?_⟩
  rw [b.2.2.2.1 q, hc]
  simp [modCq]

/-- All that the beginning of a wait does. -/
theorem waitFor_waiting {q : Nat} {s : State} {v : Serving} (w : Wait) (h : (s.inst q).cq.serving = some v) :
    Waiting q w s (waitFor q w s) := by
  refine ⟨sameBut_modCq q _ s, v, h, ?_⟩
  simp [waitFor, modCq, h]

/-- A packet taken into service. -/
theorem takeArrivedPacket_serving (q : Nat) (p : List Byte) (s : State) :
    ((takeArrivedPacket q p s).inst q).cq.serving =
      some ⟨p, (s.inst q).cq.base + (s.inst q).cq.head.toNat % queueSize q * 256, .none, none⟩ := by
  simp [takeArrivedPacket, modCq]

theorem stir_inst (q : Nat) (s : State) : (stir s).inst q = s.inst q := by unfold stir; split <;> rfl

theorem packetFault_stir (q : Nat) (p : List Byte) (s : State) : packetFault (stir s) q p = packetFault s q p := by
  unfold stir; split <;> rfl

/-- A packet that passes its checks is acted on by its row. -/
theorem command_taken {q op : Nat} {p : List Byte} {s : State} (k : List Byte → State → State) (h : Taken q op p s) :
    command q (isOp op) k s = finish (k p (inService q p s)) := by
  obtain ⟨h1, h2, h3, h4, h5⟩ := h
  simp [command, serve, h1, h2, h3, h4, stir_inst, packetFault_stir, h5, isOp, inService]

/-- A packet that fails a check is answered with the status of the first it fails. -/
theorem command_failed {q : Nat} {p : List Byte} {s : State} {st : Status} {d : Nat} (mine : List Byte → Bool)
    (k : List Byte → State → State) (h1 : s.study.cmdRdy = true) (h2 : (s.inst q).cq.arrived = some p)
    (h3 : pkState p = 1) (h4 : mine p = true) (h5 : packetFault s q p = some (st, d)) :
    command q mine k s = finish (reply q st d [] (inRejection q p s)) := by
  simp [command, serve, h1, h2, h3, h4, stir_inst, packetFault_stir, h5, inRejection]

/-- A page put at its cold values. -/
theorem inst_coldPage (i j : Nat) (s : State) :
    (coldPage i s).inst j =
      if j = i then { s.inst i with
        cq := CmdQ.cold, eq := EventQ.cold, db := ⟨0, false, false, false, false, false⟩, ringSel := 0,
        counters := Counter.guest, samp := Samp.cold }
      else s.inst j := by
  unfold coldPage
  rw [inst_modInst]
  rfl

/-- An immediate command that passes its checks runs. -/
theorem stageOrRun_immediate {q : Nat} {p : List Byte} {s : State} (now : Nat → State → State) (h : Immediate q p s) :
    stageOrRun q p now (inService q p s) =
      now (freeRing false (inService q p s)) (inService q p s) := by
  simp only [stageOrRun, h.1, bne_self_eq_false, Bool.false_eq_true, if_false, h.2]

/-! ### The block with a packet in service -/

/-- A rejected packet that is neither a KEYMSG_APPLY nor a TXN_COMMIT of the manager is in service as any other. -/
theorem inRejection_plain (q : Nat) (p : List Byte) (s : State) (h : q ≠ 0 ∨ (pkOpcode p ≠ 0x40 ∧ pkOpcode p ≠ 0x31)) :
    inRejection q p s = inService q p s := by
  unfold inRejection inService commitRefused keyinDone
  rcases h with h | ⟨h1, h2⟩
  · simp [h]
  · simp [h1, h2]

theorem inService_serving (q : Nat) (p : List Byte) (s : State) : ((inService q p s).inst q).cq.serving =
      some ⟨p, (s.inst q).cq.base + (s.inst q).cq.head.toNat % queueSize q * 256, .none, none⟩ := by
  unfold inService; rw [takeArrivedPacket_serving, stir_inst]

theorem inService_study (q : Nat) (p : List Byte) (s : State) : (inService q p s).study = s.study := by
  unfold inService stir; split <;> rfl

theorem inService_fw (q : Nat) (p : List Byte) (s : State) : (inService q p s).fw = s.fw := by
  unfold inService stir; split <;> rfl

theorem inService_hwy (q : Nat) (p : List Byte) (s : State) : (inService q p s).hwy = s.hwy := by
  unfold inService stir; split <;> rfl

theorem inService_txn (q : Nat) (p : List Byte) (s : State) : (inService q p s).txn = s.txn := by
  unfold inService stir; split <;> rfl

theorem inService_port (q : Nat) (p : List Byte) (s : State) (n : Nat) : (inService q p s).port n = s.port n := by
  unfold inService stir; split <;> rfl

theorem inService_build (q : Nat) (p : List Byte) (s : State) : (inService q p s).build = s.build := by
  unfold inService stir; split <;> rfl

theorem inService_rings (q : Nat) (p : List Byte) (s : State) : (inService q p s).rings = s.rings := by
  unfold inService stir; split <;> rfl

theorem inService_ops (q : Nat) (p : List Byte) (s : State) : (inService q p s).ops = s.ops := by
  unfold inService stir; split <;> rfl

theorem inService_inst (q : Nat) (p : List Byte) (s : State) (i : Nat) (h : i ≠ q) : (inService q p s).inst i = s.inst i := by
  unfold inService takeArrivedPacket modCq; simp [h, stir_inst]

theorem inService_body (q : Nat) (p : List Byte) (s : State) (i : Nat) : ((inService q p s).inst i).body = (s.inst i).body := by
  rw [← stir_inst i s]; exact (sameBut_modCq q _ (stir s)).2.2.1 i

theorem inService_still (q : Nat) (p : List Byte) (s : State) : (inService q p s).still = (stir s).still := rfl

end Sys2Proof.Machine
end

