-- ==== Sys2Proof/Laws/Finish.lean ====
section
/-!
SUPPORT. The follow-ups of a command in a calm block: no sequence goes on by itself, and `finish` is the settling of
what waits, with the engine loads that are due in between.
-/

namespace Sys2Proof.Machine

theorem loads_still (s : State) : (loadProgress (releaseProgress s)).still = s.still := rfl

/-- A block whose still part is that of a calm block is calm. -/
theorem calm_of_still {s u : State} (h : Calm s) (e : u.still = s.still) : Calm u := by
  obtain ⟨h1, h2, h3, h4, h5, h6, h7, h8⟩ := h
  have q1 : u.pins = s.pins := congrArg Still.pins e
  have q2 : u.pwr = s.pwr := congrArg Still.pwr e
  have q3 : u.cel = s.cel := congrArg Still.cel e
  have q4 : u.lar.flush = s.lar.flush := congrArg Still.flush e
  have q5 : u.pan.dirFault = s.pan.dirFault := congrArg Still.dirFault e
  have q6 : u.pan.keyFault = s.pan.keyFault := congrArg Still.keyFault e
  have q7 : u.txn = s.txn := congrArg Still.txn e
  unfold Calm
  rw [q1, q2, q3, q4, q5, q6, q7]
  exact ⟨h1, h2, h3, h4, h5, h6, h7, h8⟩

theorem flushStep_calm {s : State} (h : Calm s) : flushStep s = s := by simp [flushStep, h.2.2.2.2.1]

theorem dirProgress_calm {s : State} (h : Calm s) : dirProgress s = s := by simp [dirProgress, h.2.2.2.2.2.1]

theorem keyProgress_calm {s : State} (h : Calm s) : keyProgress s = s := by simp [keyProgress, h.2.2.2.2.2.2.1]

theorem lockProgress_calm {s : State} (h : Calm s) : lockProgress s = s := by
  unfold lockProgress
  rcases h.2.2.2.1 with h | h <;> simp [h]

theorem softProgress_calm {s : State} (h : Calm s) : softProgress s = s := by simp [softProgress, h.2.1]

theorem powerProgress_calm {s : State} (h : Calm s) : powerProgress s = s := by simp [powerProgress, h.2.2.1]

/-- `finish` in a calm block. -/
theorem finish_calm {s : State} (h : Calm s) :
    finish s = settle (loadProgress (releaseProgress (issueSamples (settle s)))) := by
  have c1 : Calm (issueSamples (settle s)) :=
    calm_of_still h ((issueSamples_still (settle s)).trans (settle_still h.2.2.2.2.2.2.2))
  have c2 := calm_of_still c1 (loads_still (issueSamples (settle s)))
  unfold finish
  simp only [c1.1, c2.1, if_true, flushStep_calm c2, dirProgress_calm c2, keyProgress_calm c2, lockProgress_calm c2,
    softProgress_calm c2, powerProgress_calm c2]

end Sys2Proof.Machine
end

