-- ==== Sys2Proof/WellFormed.lean ====
section
/-!
DEFINITION. Well-formed commands: every number a command carries lies in the range that the spec gives the thing
it numbers, over the largest build (Table 0-2). A command outside is refused here by `Instr.wellFormed`; `exec`
still gives it a meaning, no effect (log entry 2).
-/

namespace Sys2Proof

/-- Instances 0 to 4,096 (R74); queues and pages have the instance's number. -/
def okQueue (n : Nat) : Bool := n ≤ 4096
/-- hw0 to hw7 (R454). -/
def okPort (n : Nat) : Bool := n < 8
/-- Ring numbers (Table 0-2). -/
def okRing (n : Nat) : Bool := n < 65536
/-- Two Alcoves in each of 16 Rooms (Table 0-2). -/
def okAlcove (n : Nat) : Bool := n < 32
/-- Digest cores of the Scullery (R436). -/
def okCore (n : Nat) : Bool := n < 16
/-- Hearth engines (R406). -/
def okEngine (n : Nat) : Bool := n < 8
/-- Lanes of a link (R510). -/
def okLane (n : Nat) : Bool := n < 2
/-- Alarm sources 0 to 8 (Table 16-1). -/
def okSource (n : Nat) : Bool := n ≤ 8
/-- Hallway identifiers 0 to 511 (R457). -/
def okId (n : Nat) : Bool := n < 512
/-- Absolute context indices: CTX_INDEX has 26 bits (Table 5-1). -/
def okIndex (n : Nat) : Bool := n < 2 ^ 26
/-- Byte addresses of the Porch map, 512 MiB (R494). -/
def okAddr (n : Nat) : Bool := n < 2 ^ 29
/-- Injection points (R648). -/
def okPoint (n : Nat) : Bool := n < 32
/-- Levels of the counter tree (Table 9-5). -/
def okLevel (n : Nat) : Bool := n < 5
/-- Contexts of the register path (R444). -/
def okScu (n : Nat) : Bool := n < 64
/-- Counters of an instance (R651). -/
def okCounter (n : Nat) : Bool := n < 72
/-- An AES Alcove or a ChaCha20-Poly1305 unit (Table 0-2). -/
def okUnit (chacha : Bool) (n : Nat) : Bool := if chacha then n < 16 else n < 32
/-- The CTR_DRBGs: 16 Rooms, eight engines, one of the Study (R402). -/
def okDrbg (n : Nat) : Bool := n < 25
/-- Positions in a chain (R545). -/
def okPos (n : Nat) : Bool := n < 8
/-- Data of one read response: at most 512 bytes (R455). -/
def okData (d : List Byte) : Bool := d.length ≤ 512

/-- Memories of Table 19-3 by their LAST_MEM codes. -/
def okMem (u : Upset) : Bool := 1 ≤ u.mem && u.mem ≤ 8

/-- Every operand lies in its range. -/
def Instr.wellFormed : Instr → Bool
  | .devQuery q => okQueue q
  | .devCapsNegotiate q => okQueue q
  | .instCreate q => okQueue q
  | .instDestroy q => okQueue q
  | .instQuiesce q => okQueue q
  | .instReset q => okQueue q
  | .shareSet q => okQueue q
  | .ringCreate q => okQueue q
  | .ringDestroy q => okQueue q
  | .ringResume q => okQueue q
  | .ringReset q => okQueue q
  | .txnBegin q => okQueue q
  | .txnCommit q => okQueue q
  | .txnRollback q => okQueue q
  | .keymsgApply q => okQueue q
  | .unlock q => okQueue q
  | .stage q => okQueue q
  | .stageForward q => okQueue q
  | .keep q => okQueue q
  | .handover q _ => okQueue q
  | .rebuildAt q => okQueue q
  | .rebuildChain q => okQueue q
  | .cancel q => okQueue q
  | .fwConfirm q => okQueue q
  | .moverResume q => okQueue q
  | .hearthAbort q => okQueue q
  | .diagInject q => okQueue q
  | .counterConfig q => okQueue q
  | .larderAttach q => okQueue q
  | .larderReset q => okQueue q
  | .cmdUnknown q => okQueue q
  | .cmdReplyAck q => okQueue q
  | .drainPending q => okQueue q
  | .cmdQueueEnable page _ _ => okQueue page
  | .cmdQueueDisable page _ _ => okQueue page
  | .cmdQueueTailWrite page _ _ => okQueue page
  | .txnTimeout => true
  | .doorbell page _ _ => okQueue page
  | .harvestReadReturn ring => okRing ring
  | .eventQueueEnable page _ _ => okQueue page
  | .eventQueueHeadWrite page _ _ => okQueue page
  | .prefetchCfgWrite _ _ => true
  | .keyinDataWrite _ _ => true
  | .keyinClear _ _ => true
  | .idDataRead => true
  | .start _ _ => true
  | .finish _ _ => true
  | .clear _ _ => true
  | .scuDataWrite _ _ => true
  | .scuBlockAbsorbed ctx => okScu ctx
  | .go _ _ _ => true
  | .softReset _ _ _ => true
  | .studyRestart _ _ _ => true
  | .studyWatchdog _ => true
  | .lockstepMismatch _ => true
  | .doze _ _ => true
  | .retain _ _ => true
  | .off _ _ => true
  | .active _ _ => true
  | .powerRefuseTimeout => true
  | .idle => true
  | .pause port _ _ => okPort port
  | .samplingEnable page _ _ => okQueue page
  | .samplingDisable page _ _ => okQueue page
  | .samplingHeadWrite page _ _ => okQueue page
  | .bwWindowWrite _ _ => true
  | .atticWrite _ _ => true
  | .registerWrite addr _ _ => okAddr addr
  | .absent addr _ _ => okAddr addr
  | .roundBoundary => true
  | .schedulerGrant => true
  | .descriptorReadReturn _ => true
  | .descReread _ => true
  | .listBlockReturn _ _ _ => true
  | .seal _ => true
  | .openOp _ => true
  | .gmacSign _ => true
  | .gmacCheck _ => true
  | .ctr _ => true
  | .digest _ => true
  | .ctxInstall _ => true
  | .ctxRekey _ => true
  | .ctxRetire _ => true
  | .pk _ => true
  | .nop _ => true
  | .fence _ => true
  | .retireRefsZero index => okIndex index
  | .tombstoneWriteAck index => okIndex index
  | .larderFetchStart index => okIndex index
  | .evictionTokenRefill => true
  | .nodeReadReturn level _ => okLevel level
  | .blobReadReturn index => okIndex index
  | .victimWritebackAck index => okIndex index
  | .nodeWriteback level _ => okLevel level
  | .reauthentication level _ => okLevel level
  | .partStart _ alcove => okAlcove alcove
  | .partEnd _ => true
  | .mismatch m => okUnit m.chacha m.unit
  | .selfTestEnd chacha unit _ => okUnit chacha unit
  | .dummyKeyReplace alcove => okAlcove alcove
  | .digestPartStart _ core _ => okCore core
  | .digestPartEnd _ => true
  | .hallwayReadResponse port id _ _ data => okPort port && okId id && okData data
  | .hallwayWriteAck port id _ _ => okPort port && okId id
  | .readTimeout port id => okPort port && okId id
  | .writeTimeout port id => okPort port && okId id
  | .completionAck _ => true
  | .eventRecordAck inst => okQueue inst
  | .coalescingTimeout inst => okQueue inst
  | .counterWrap inst counter => okQueue inst && okCounter counter
  | .bwWindowEnd => true
  | .hearthHandoff => true
  | .pkOperandsArrived engine => okEngine engine
  | .validationPhaseEnd engine => okEngine engine
  | .pkNominalTimeEnd engine _ => okEngine engine
  | .pkAbortBoundary engine => okEngine engine
  | .engineWipeDone engine => okEngine engine
  | .hearthSelfTestEnd engine _ => okEngine engine
  | .microcodeLoad engine => okEngine engine
  | .coldPowerOn _ => true
  | .blockReset => true
  | .pwrMainGoodFall => true
  | .retainExit _ _ => true
  | .cellarPor => true
  | .alarmSourceAssert source => okSource source
  | .faultWindowStep u => u.all okMem
  | .neighbourAlarm _ pos _ => okPos pos
  | .rngHealthFail => true
  | .rngStartupPass => true
  | .drbgReseed unit => okDrbg unit
  | .tickCellarWrite => true
  | .laneAttemptStart _ lane => okLane lane
  | .adaptDone _ lane => okLane lane
  | .laneAccept _ lane _ => okLane lane
  | .laneAttemptFail _ lane _ => okLane lane
  | .laneRetrySeries _ lane => okLane lane
  | .laneOutOfService _ lane => okLane lane
  | .hello _ _ => true
  | .helloTimeout _ => true
  | .forwardedBlock _ => true
  | .stageAbort => true
  | .chainReport _ pos => okPos pos
  | .arm _ => true
  | .confirm => true
  | .armedTick _ => true
  | .trialTimeout _ => true
  | .diagExpiry point => okPoint point
  | .porNLow => true
  | .blkRstNRelease _ => true
  | .alarmSourceQuiet source => okSource source
  | .roofCleanPass _ => true

end Sys2Proof
end

