-- ==== Sys2Proof/Laws/PerInstr.lean ====
section
/-!
SUPPORT. Laws of the syntax, one lemma for each command. Ranges: a well-formed command names no queue, page or instance
beyond 4,096, which is the largest number of guests of any build (R74).
-/

namespace Sys2Proof.Laws

set_option Elab.async false

/-- The command queue, the instance page or the instance that a command names. -/
def Ranges.queueOf : Instr → Option Nat
  | .devQuery q => some q
  | .devCapsNegotiate q => some q
  | .instCreate q => some q
  | .instDestroy q => some q
  | .instQuiesce q => some q
  | .instReset q => some q
  | .shareSet q => some q
  | .ringCreate q => some q
  | .ringDestroy q => some q
  | .ringResume q => some q
  | .ringReset q => some q
  | .txnBegin q => some q
  | .txnCommit q => some q
  | .txnRollback q => some q
  | .keymsgApply q => some q
  | .unlock q => some q
  | .stage q => some q
  | .stageForward q => some q
  | .keep q => some q
  | .handover q _ => some q
  | .rebuildAt q => some q
  | .rebuildChain q => some q
  | .cancel q => some q
  | .fwConfirm q => some q
  | .moverResume q => some q
  | .hearthAbort q => some q
  | .diagInject q => some q
  | .counterConfig q => some q
  | .larderAttach q => some q
  | .larderReset q => some q
  | .cmdUnknown q => some q
  | .cmdReplyAck q => some q
  | .drainPending q => some q
  | .cmdQueueEnable page _ _ => some page
  | .cmdQueueDisable page _ _ => some page
  | .cmdQueueTailWrite page _ _ => some page
  | .txnTimeout => none
  | .doorbell page _ _ => some page
  | .harvestReadReturn _ => none
  | .eventQueueEnable page _ _ => some page
  | .eventQueueHeadWrite page _ _ => some page
  | .prefetchCfgWrite _ _ => none
  | .keyinDataWrite _ _ => none
  | .keyinClear _ _ => none
  | .idDataRead => none
  | .start _ _ => none
  | .finish _ _ => none
  | .clear _ _ => none
  | .scuDataWrite _ _ => none
  | .scuBlockAbsorbed _ => none
  | .go _ _ _ => none
  | .softReset _ _ _ => none
  | .studyRestart _ _ _ => none
  | .studyWatchdog _ => none
  | .lockstepMismatch _ => none
  | .doze _ _ => none
  | .retain _ _ => none
  | .off _ _ => none
  | .active _ _ => none
  | .powerRefuseTimeout => none
  | .idle => none
  | .pause _ _ _ => none
  | .samplingEnable page _ _ => some page
  | .samplingDisable page _ _ => some page
  | .samplingHeadWrite page _ _ => some page
  | .bwWindowWrite _ _ => none
  | .atticWrite _ _ => none
  | .registerWrite _ _ _ => none
  | .absent _ _ _ => none
  | .roundBoundary => none
  | .schedulerGrant => none
  | .descriptorReadReturn _ => none
  | .descReread _ => none
  | .listBlockReturn _ _ _ => none
  | .seal _ => none
  | .openOp _ => none
  | .gmacSign _ => none
  | .gmacCheck _ => none
  | .ctr _ => none
  | .digest _ => none
  | .ctxInstall _ => none
  | .ctxRekey _ => none
  | .ctxRetire _ => none
  | .pk _ => none
  | .nop _ => none
  | .fence _ => none
  | .retireRefsZero _ => none
  | .tombstoneWriteAck _ => none
  | .larderFetchStart _ => none
  | .evictionTokenRefill => none
  | .nodeReadReturn _ _ => none
  | .blobReadReturn _ => none
  | .victimWritebackAck _ => none
  | .nodeWriteback _ _ => none
  | .reauthentication _ _ => none
  | .partStart _ _ => none
  | .partEnd _ => none
  | .mismatch _ => none
  | .selfTestEnd _ _ _ => none
  | .dummyKeyReplace _ => none
  | .digestPartStart _ _ _ => none
  | .digestPartEnd _ => none
  | .hallwayReadResponse _ _ _ _ _ => none
  | .hallwayWriteAck _ _ _ _ => none
  | .readTimeout _ _ => none
  | .writeTimeout _ _ => none
  | .completionAck _ => none
  | .eventRecordAck inst => some inst
  | .coalescingTimeout inst => some inst
  | .counterWrap inst _ => some inst
  | .bwWindowEnd => none
  | .hearthHandoff => none
  | .pkOperandsArrived _ => none
  | .validationPhaseEnd _ => none
  | .pkNominalTimeEnd _ _ => none
  | .pkAbortBoundary _ => none
  | .engineWipeDone _ => none
  | .hearthSelfTestEnd _ _ => none
  | .microcodeLoad _ => none
  | .coldPowerOn _ => none
  | .blockReset => none
  | .pwrMainGoodFall => none
  | .retainExit _ _ => none
  | .cellarPor => none
  | .alarmSourceAssert _ => none
  | .faultWindowStep _ => none
  | .neighbourAlarm _ _ _ => none
  | .rngHealthFail => none
  | .rngStartupPass => none
  | .drbgReseed _ => none
  | .tickCellarWrite => none
  | .laneAttemptStart _ _ => none
  | .adaptDone _ _ => none
  | .laneAccept _ _ _ => none
  | .laneAttemptFail _ _ _ => none
  | .laneRetrySeries _ _ => none
  | .laneOutOfService _ _ => none
  | .hello _ _ => none
  | .helloTimeout _ => none
  | .forwardedBlock _ => none
  | .stageAbort => none
  | .chainReport _ _ => none
  | .arm _ => none
  | .confirm => none
  | .armedTick _ => none
  | .trialTimeout _ => none
  | .diagExpiry _ => none
  | .porNLow => none
  | .blkRstNRelease _ => none
  | .alarmSourceQuiet _ => none
  | .roofCleanPass _ => none

/-- The queue, page or instance of a well-formed command is at most 4,096. -/
def Ranges.Statement (i : Instr) : Prop := i.wellFormed = true → ∀ n, Ranges.queueOf i = some n → n ≤ 4096

theorem Ranges.devQuery (q : Nat) : Ranges.Statement (.devQuery q) := by
  intro h n e
  simp_all [Ranges.queueOf, Instr.wellFormed, okQueue]

theorem Ranges.devCapsNegotiate (q : Nat) : Ranges.Statement (.devCapsNegotiate q) := by
  intro h n e
  simp_all [Ranges.queueOf, Instr.wellFormed, okQueue]

theorem Ranges.instCreate (q : Nat) : Ranges.Statement (.instCreate q) := by
  intro h n e
  simp_all [Ranges.queueOf, Instr.wellFormed, okQueue]

theorem Ranges.instDestroy (q : Nat) : Ranges.Statement (.instDestroy q) := by
  intro h n e
  simp_all [Ranges.queueOf, Instr.wellFormed, okQueue]

theorem Ranges.instQuiesce (q : Nat) : Ranges.Statement (.instQuiesce q) := by
  intro h n e
  simp_all [Ranges.queueOf, Instr.wellFormed, okQueue]

theorem Ranges.instReset (q : Nat) : Ranges.Statement (.instReset q) := by
  intro h n e
  simp_all [Ranges.queueOf, Instr.wellFormed, okQueue]

theorem Ranges.shareSet (q : Nat) : Ranges.Statement (.shareSet q) := by
  intro h n e
  simp_all [Ranges.queueOf, Instr.wellFormed, okQueue]

theorem Ranges.ringCreate (q : Nat) : Ranges.Statement (.ringCreate q) := by
  intro h n e
  simp_all [Ranges.queueOf, Instr.wellFormed, okQueue]

theorem Ranges.ringDestroy (q : Nat) : Ranges.Statement (.ringDestroy q) := by
  intro h n e
  simp_all [Ranges.queueOf, Instr.wellFormed, okQueue]

theorem Ranges.ringResume (q : Nat) : Ranges.Statement (.ringResume q) := by
  intro h n e
  simp_all [Ranges.queueOf, Instr.wellFormed, okQueue]

theorem Ranges.ringReset (q : Nat) : Ranges.Statement (.ringReset q) := by
  intro h n e
  simp_all [Ranges.queueOf, Instr.wellFormed, okQueue]

theorem Ranges.txnBegin (q : Nat) : Ranges.Statement (.txnBegin q) := by
  intro h n e
  simp_all [Ranges.queueOf, Instr.wellFormed, okQueue]

theorem Ranges.txnCommit (q : Nat) : Ranges.Statement (.txnCommit q) := by
  intro h n e
  simp_all [Ranges.queueOf, Instr.wellFormed, okQueue]

theorem Ranges.txnRollback (q : Nat) : Ranges.Statement (.txnRollback q) := by
  intro h n e
  simp_all [Ranges.queueOf, Instr.wellFormed, okQueue]

theorem Ranges.keymsgApply (q : Nat) : Ranges.Statement (.keymsgApply q) := by
  intro h n e
  simp_all [Ranges.queueOf, Instr.wellFormed, okQueue]

theorem Ranges.unlock (q : Nat) : Ranges.Statement (.unlock q) := by
  intro h n e
  simp_all [Ranges.queueOf, Instr.wellFormed, okQueue]

theorem Ranges.stage (q : Nat) : Ranges.Statement (.stage q) := by
  intro h n e
  simp_all [Ranges.queueOf, Instr.wellFormed, okQueue]

theorem Ranges.stageForward (q : Nat) : Ranges.Statement (.stageForward q) := by
  intro h n e
  simp_all [Ranges.queueOf, Instr.wellFormed, okQueue]

theorem Ranges.keep (q : Nat) : Ranges.Statement (.keep q) := by
  intro h n e
  simp_all [Ranges.queueOf, Instr.wellFormed, okQueue]

theorem Ranges.handover (q : Nat) (x : LandingRun) : Ranges.Statement (.handover q x) := by
  intro h n e
  simp_all [Ranges.queueOf, Instr.wellFormed, okQueue]

theorem Ranges.rebuildAt (q : Nat) : Ranges.Statement (.rebuildAt q) := by
  intro h n e
  simp_all [Ranges.queueOf, Instr.wellFormed, okQueue]

theorem Ranges.rebuildChain (q : Nat) : Ranges.Statement (.rebuildChain q) := by
  intro h n e
  simp_all [Ranges.queueOf, Instr.wellFormed, okQueue]

theorem Ranges.cancel (q : Nat) : Ranges.Statement (.cancel q) := by
  intro h n e
  simp_all [Ranges.queueOf, Instr.wellFormed, okQueue]

theorem Ranges.fwConfirm (q : Nat) : Ranges.Statement (.fwConfirm q) := by
  intro h n e
  simp_all [Ranges.queueOf, Instr.wellFormed, okQueue]

theorem Ranges.moverResume (q : Nat) : Ranges.Statement (.moverResume q) := by
  intro h n e
  simp_all [Ranges.queueOf, Instr.wellFormed, okQueue]

theorem Ranges.hearthAbort (q : Nat) : Ranges.Statement (.hearthAbort q) := by
  intro h n e
  simp_all [Ranges.queueOf, Instr.wellFormed, okQueue]

theorem Ranges.diagInject (q : Nat) : Ranges.Statement (.diagInject q) := by
  intro h n e
  simp_all [Ranges.queueOf, Instr.wellFormed, okQueue]

theorem Ranges.counterConfig (q : Nat) : Ranges.Statement (.counterConfig q) := by
  intro h n e
  simp_all [Ranges.queueOf, Instr.wellFormed, okQueue]

theorem Ranges.larderAttach (q : Nat) : Ranges.Statement (.larderAttach q) := by
  intro h n e
  simp_all [Ranges.queueOf, Instr.wellFormed, okQueue]

theorem Ranges.larderReset (q : Nat) : Ranges.Statement (.larderReset q) := by
  intro h n e
  simp_all [Ranges.queueOf, Instr.wellFormed, okQueue]

theorem Ranges.cmdUnknown (q : Nat) : Ranges.Statement (.cmdUnknown q) := by
  intro h n e
  simp_all [Ranges.queueOf, Instr.wellFormed, okQueue]

theorem Ranges.cmdReplyAck (q : Nat) : Ranges.Statement (.cmdReplyAck q) := by
  intro h n e
  simp_all [Ranges.queueOf, Instr.wellFormed, okQueue]

theorem Ranges.drainPending (q : Nat) : Ranges.Statement (.drainPending q) := by
  intro h n e
  simp_all [Ranges.queueOf, Instr.wellFormed, okQueue]

theorem Ranges.cmdQueueEnable (page : Nat) (strb : BitVec 8) (data : Word) :
    Ranges.Statement (.cmdQueueEnable page strb data) := by
  intro h n e
  simp_all [Ranges.queueOf, Instr.wellFormed, okQueue]

theorem Ranges.cmdQueueDisable (page : Nat) (strb : BitVec 8) (data : Word) :
    Ranges.Statement (.cmdQueueDisable page strb data) := by
  intro h n e
  simp_all [Ranges.queueOf, Instr.wellFormed, okQueue]

theorem Ranges.cmdQueueTailWrite (page : Nat) (strb : BitVec 8) (data : Word) :
    Ranges.Statement (.cmdQueueTailWrite page strb data) := by
  intro h n e
  simp_all [Ranges.queueOf, Instr.wellFormed, okQueue]

theorem Ranges.txnTimeout : Ranges.Statement (.txnTimeout) := fun _ _ e => nomatch e

theorem Ranges.doorbell (page : Nat) (strb : BitVec 8) (data : Word) :
    Ranges.Statement (.doorbell page strb data) := by
  intro h n e
  simp_all [Ranges.queueOf, Instr.wellFormed, okQueue]

theorem Ranges.harvestReadReturn (ring : Nat) : Ranges.Statement (.harvestReadReturn ring) := fun _ _ e => nomatch e

theorem Ranges.eventQueueEnable (page : Nat) (strb : BitVec 8) (data : Word) :
    Ranges.Statement (.eventQueueEnable page strb data) := by
  intro h n e
  simp_all [Ranges.queueOf, Instr.wellFormed, okQueue]

theorem Ranges.eventQueueHeadWrite (page : Nat) (strb : BitVec 8) (data : Word) :
    Ranges.Statement (.eventQueueHeadWrite page strb data) := by
  intro h n e
  simp_all [Ranges.queueOf, Instr.wellFormed, okQueue]

theorem Ranges.prefetchCfgWrite (strb : BitVec 8) (data : Word) :
    Ranges.Statement (.prefetchCfgWrite strb data) := fun _ _ e => nomatch e

theorem Ranges.keyinDataWrite (strb : BitVec 8) (data : Word) :
    Ranges.Statement (.keyinDataWrite strb data) := fun _ _ e => nomatch e

theorem Ranges.keyinClear (strb : BitVec 8) (data : Word) :
    Ranges.Statement (.keyinClear strb data) := fun _ _ e => nomatch e

theorem Ranges.idDataRead : Ranges.Statement (.idDataRead) := fun _ _ e => nomatch e

theorem Ranges.start (strb : BitVec 8) (data : Word) : Ranges.Statement (.start strb data) := fun _ _ e => nomatch e

theorem Ranges.finish (strb : BitVec 8) (data : Word) :
    Ranges.Statement (.finish strb data) := fun _ _ e => nomatch e

theorem Ranges.clear (strb : BitVec 8) (data : Word) : Ranges.Statement (.clear strb data) := fun _ _ e => nomatch e

theorem Ranges.scuDataWrite (strb : BitVec 8) (data : Word) :
    Ranges.Statement (.scuDataWrite strb data) := fun _ _ e => nomatch e

theorem Ranges.scuBlockAbsorbed (ctx : Nat) : Ranges.Statement (.scuBlockAbsorbed ctx) := fun _ _ e => nomatch e

theorem Ranges.go (strb : BitVec 8) (data : Word) (b : BringUp) :
    Ranges.Statement (.go strb data b) := fun _ _ e => nomatch e

theorem Ranges.softReset (strb : BitVec 8) (data : Word) (b : BringUp) :
    Ranges.Statement (.softReset strb data b) := fun _ _ e => nomatch e

theorem Ranges.studyRestart (strb : BitVec 8) (data : Word) (x : LandingRun) :
    Ranges.Statement (.studyRestart strb data x) := fun _ _ e => nomatch e

theorem Ranges.studyWatchdog (x : LandingRun) : Ranges.Statement (.studyWatchdog x) := fun _ _ e => nomatch e

theorem Ranges.lockstepMismatch (x : LandingRun) : Ranges.Statement (.lockstepMismatch x) := fun _ _ e => nomatch e

theorem Ranges.doze (strb : BitVec 8) (data : Word) : Ranges.Statement (.doze strb data) := fun _ _ e => nomatch e

theorem Ranges.retain (strb : BitVec 8) (data : Word) :
    Ranges.Statement (.retain strb data) := fun _ _ e => nomatch e

theorem Ranges.off (strb : BitVec 8) (data : Word) : Ranges.Statement (.off strb data) := fun _ _ e => nomatch e

theorem Ranges.active (strb : BitVec 8) (data : Word) :
    Ranges.Statement (.active strb data) := fun _ _ e => nomatch e

theorem Ranges.powerRefuseTimeout : Ranges.Statement (.powerRefuseTimeout) := fun _ _ e => nomatch e

theorem Ranges.idle : Ranges.Statement (.idle) := fun _ _ e => nomatch e

theorem Ranges.pause (port : Nat) (strb : BitVec 8) (data : Word) :
    Ranges.Statement (.pause port strb data) := fun _ _ e => nomatch e

theorem Ranges.samplingEnable (page : Nat) (strb : BitVec 8) (data : Word) :
    Ranges.Statement (.samplingEnable page strb data) := by
  intro h n e
  simp_all [Ranges.queueOf, Instr.wellFormed, okQueue]

theorem Ranges.samplingDisable (page : Nat) (strb : BitVec 8) (data : Word) :
    Ranges.Statement (.samplingDisable page strb data) := by
  intro h n e
  simp_all [Ranges.queueOf, Instr.wellFormed, okQueue]

theorem Ranges.samplingHeadWrite (page : Nat) (strb : BitVec 8) (data : Word) :
    Ranges.Statement (.samplingHeadWrite page strb data) := by
  intro h n e
  simp_all [Ranges.queueOf, Instr.wellFormed, okQueue]

theorem Ranges.bwWindowWrite (strb : BitVec 8) (data : Word) :
    Ranges.Statement (.bwWindowWrite strb data) := fun _ _ e => nomatch e

theorem Ranges.atticWrite (strb : BitVec 8) (data : Word) :
    Ranges.Statement (.atticWrite strb data) := fun _ _ e => nomatch e

theorem Ranges.registerWrite (addr : Nat) (strb : BitVec 8) (data : Word) :
    Ranges.Statement (.registerWrite addr strb data) := fun _ _ e => nomatch e

theorem Ranges.absent (addr : Nat) (write : Bool) (data : Word) :
    Ranges.Statement (.absent addr write data) := fun _ _ e => nomatch e

theorem Ranges.roundBoundary : Ranges.Statement (.roundBoundary) := fun _ _ e => nomatch e

theorem Ranges.schedulerGrant : Ranges.Statement (.schedulerGrant) := fun _ _ e => nomatch e

theorem Ranges.descriptorReadReturn (op : Nat) :
    Ranges.Statement (.descriptorReadReturn op) := fun _ _ e => nomatch e

theorem Ranges.descReread (op : Nat) : Ranges.Statement (.descReread op) := fun _ _ e => nomatch e

theorem Ranges.listBlockReturn (op : Nat) (ent : Nat) (dst : Bool) :
    Ranges.Statement (.listBlockReturn op ent dst) := fun _ _ e => nomatch e

theorem Ranges.seal (op : Nat) : Ranges.Statement (.seal op) := fun _ _ e => nomatch e

theorem Ranges.openOp (op : Nat) : Ranges.Statement (.openOp op) := fun _ _ e => nomatch e

theorem Ranges.gmacSign (op : Nat) : Ranges.Statement (.gmacSign op) := fun _ _ e => nomatch e

theorem Ranges.gmacCheck (op : Nat) : Ranges.Statement (.gmacCheck op) := fun _ _ e => nomatch e

theorem Ranges.ctr (op : Nat) : Ranges.Statement (.ctr op) := fun _ _ e => nomatch e

theorem Ranges.digest (op : Nat) : Ranges.Statement (.digest op) := fun _ _ e => nomatch e

theorem Ranges.ctxInstall (op : Nat) : Ranges.Statement (.ctxInstall op) := fun _ _ e => nomatch e

theorem Ranges.ctxRekey (op : Nat) : Ranges.Statement (.ctxRekey op) := fun _ _ e => nomatch e

theorem Ranges.ctxRetire (op : Nat) : Ranges.Statement (.ctxRetire op) := fun _ _ e => nomatch e

theorem Ranges.pk (op : Nat) : Ranges.Statement (.pk op) := fun _ _ e => nomatch e

theorem Ranges.nop (op : Nat) : Ranges.Statement (.nop op) := fun _ _ e => nomatch e

theorem Ranges.fence (op : Nat) : Ranges.Statement (.fence op) := fun _ _ e => nomatch e

theorem Ranges.retireRefsZero (index : Nat) : Ranges.Statement (.retireRefsZero index) := fun _ _ e => nomatch e

theorem Ranges.tombstoneWriteAck (index : Nat) :
    Ranges.Statement (.tombstoneWriteAck index) := fun _ _ e => nomatch e

theorem Ranges.larderFetchStart (index : Nat) : Ranges.Statement (.larderFetchStart index) := fun _ _ e => nomatch e

theorem Ranges.evictionTokenRefill : Ranges.Statement (.evictionTokenRefill) := fun _ _ e => nomatch e

theorem Ranges.nodeReadReturn (level : Nat) (node : Nat) :
    Ranges.Statement (.nodeReadReturn level node) := fun _ _ e => nomatch e

theorem Ranges.blobReadReturn (index : Nat) : Ranges.Statement (.blobReadReturn index) := fun _ _ e => nomatch e

theorem Ranges.victimWritebackAck (index : Nat) :
    Ranges.Statement (.victimWritebackAck index) := fun _ _ e => nomatch e

theorem Ranges.nodeWriteback (level : Nat) (node : Nat) :
    Ranges.Statement (.nodeWriteback level node) := fun _ _ e => nomatch e

theorem Ranges.reauthentication (level : Nat) (node : Nat) :
    Ranges.Statement (.reauthentication level node) := fun _ _ e => nomatch e

theorem Ranges.partStart (op : Nat) (alcove : Nat) :
    Ranges.Statement (.partStart op alcove) := fun _ _ e => nomatch e

theorem Ranges.partEnd (op : Nat) : Ranges.Statement (.partEnd op) := fun _ _ e => nomatch e

theorem Ranges.mismatch (m : MismatchAt) : Ranges.Statement (.mismatch m) := fun _ _ e => nomatch e

theorem Ranges.selfTestEnd (chacha : Bool) (unit : Nat) (pass : Bool) :
    Ranges.Statement (.selfTestEnd chacha unit pass) := fun _ _ e => nomatch e

theorem Ranges.dummyKeyReplace (alcove : Nat) : Ranges.Statement (.dummyKeyReplace alcove) := fun _ _ e => nomatch e

theorem Ranges.digestPartStart (op : Nat) (core : Nat) (parityOk : Bool) :
    Ranges.Statement (.digestPartStart op core parityOk) := fun _ _ e => nomatch e

theorem Ranges.digestPartEnd (op : Nat) : Ranges.Statement (.digestPartEnd op) := fun _ _ e => nomatch e

theorem Ranges.hallwayReadResponse (port : Nat) (id : Nat) (parityOk : Bool) (status : BitVec 2) (data : List Byte) :
    Ranges.Statement (.hallwayReadResponse port id parityOk status data) := fun _ _ e => nomatch e

theorem Ranges.hallwayWriteAck (port : Nat) (id : Nat) (parityOk : Bool) (status : BitVec 2) :
    Ranges.Statement (.hallwayWriteAck port id parityOk status) := fun _ _ e => nomatch e

theorem Ranges.readTimeout (port : Nat) (id : Nat) :
    Ranges.Statement (.readTimeout port id) := fun _ _ e => nomatch e

theorem Ranges.writeTimeout (port : Nat) (id : Nat) :
    Ranges.Statement (.writeTimeout port id) := fun _ _ e => nomatch e

theorem Ranges.completionAck (op : Nat) : Ranges.Statement (.completionAck op) := fun _ _ e => nomatch e

theorem Ranges.eventRecordAck (inst : Nat) : Ranges.Statement (.eventRecordAck inst) := by
  intro h n e
  simp_all [Ranges.queueOf, Instr.wellFormed, okQueue]

theorem Ranges.coalescingTimeout (inst : Nat) : Ranges.Statement (.coalescingTimeout inst) := by
  intro h n e
  simp_all [Ranges.queueOf, Instr.wellFormed, okQueue]

theorem Ranges.counterWrap (inst : Nat) (counter : Nat) :
    Ranges.Statement (.counterWrap inst counter) := by
  intro h n e
  simp_all [Ranges.queueOf, Instr.wellFormed, okQueue]

theorem Ranges.bwWindowEnd : Ranges.Statement (.bwWindowEnd) := fun _ _ e => nomatch e

theorem Ranges.hearthHandoff : Ranges.Statement (.hearthHandoff) := fun _ _ e => nomatch e

theorem Ranges.pkOperandsArrived (engine : Nat) :
    Ranges.Statement (.pkOperandsArrived engine) := fun _ _ e => nomatch e

theorem Ranges.validationPhaseEnd (engine : Nat) :
    Ranges.Statement (.validationPhaseEnd engine) := fun _ _ e => nomatch e

theorem Ranges.pkNominalTimeEnd (engine : Nat) (parityOk : Bool) :
    Ranges.Statement (.pkNominalTimeEnd engine parityOk) := fun _ _ e => nomatch e

theorem Ranges.pkAbortBoundary (engine : Nat) : Ranges.Statement (.pkAbortBoundary engine) := fun _ _ e => nomatch e

theorem Ranges.engineWipeDone (engine : Nat) : Ranges.Statement (.engineWipeDone engine) := fun _ _ e => nomatch e

theorem Ranges.hearthSelfTestEnd (engine : Nat) (pass : Bool) :
    Ranges.Statement (.hearthSelfTestEnd engine pass) := fun _ _ e => nomatch e

theorem Ranges.microcodeLoad (engine : Nat) : Ranges.Statement (.microcodeLoad engine) := fun _ _ e => nomatch e

theorem Ranges.coldPowerOn (r : RomTest) : Ranges.Statement (.coldPowerOn r) := fun _ _ e => nomatch e

theorem Ranges.blockReset : Ranges.Statement (.blockReset) := fun _ _ e => nomatch e

theorem Ranges.pwrMainGoodFall : Ranges.Statement (.pwrMainGoodFall) := fun _ _ e => nomatch e

theorem Ranges.retainExit (x : LandingRun) (b : BringUp) :
    Ranges.Statement (.retainExit x b) := fun _ _ e => nomatch e

theorem Ranges.cellarPor : Ranges.Statement (.cellarPor) := fun _ _ e => nomatch e

theorem Ranges.alarmSourceAssert (source : Nat) :
    Ranges.Statement (.alarmSourceAssert source) := fun _ _ e => nomatch e

theorem Ranges.faultWindowStep (upsets : List Upset) : Ranges.Statement (.faultWindowStep upsets) := fun _ _ e => nomatch e

theorem Ranges.neighbourAlarm (down : Bool) (pos : Nat) (zeroise : Bool) :
    Ranges.Statement (.neighbourAlarm down pos zeroise) := fun _ _ e => nomatch e

theorem Ranges.rngHealthFail : Ranges.Statement (.rngHealthFail) := fun _ _ e => nomatch e

theorem Ranges.rngStartupPass : Ranges.Statement (.rngStartupPass) := fun _ _ e => nomatch e

theorem Ranges.drbgReseed (unit : Nat) : Ranges.Statement (.drbgReseed unit) := fun _ _ e => nomatch e

theorem Ranges.tickCellarWrite : Ranges.Statement (.tickCellarWrite) := fun _ _ e => nomatch e

theorem Ranges.laneAttemptStart (down : Bool) (lane : Nat) :
    Ranges.Statement (.laneAttemptStart down lane) := fun _ _ e => nomatch e

theorem Ranges.adaptDone (down : Bool) (lane : Nat) :
    Ranges.Statement (.adaptDone down lane) := fun _ _ e => nomatch e

theorem Ranges.laneAccept (down : Bool) (lane : Nat) (fom : BitVec 8) :
    Ranges.Statement (.laneAccept down lane fom) := fun _ _ e => nomatch e

theorem Ranges.laneAttemptFail (down : Bool) (lane : Nat) (fom : BitVec 8) :
    Ranges.Statement (.laneAttemptFail down lane fom) := fun _ _ e => nomatch e

theorem Ranges.laneRetrySeries (down : Bool) (lane : Nat) :
    Ranges.Statement (.laneRetrySeries down lane) := fun _ _ e => nomatch e

theorem Ranges.laneOutOfService (down : Bool) (lane : Nat) :
    Ranges.Statement (.laneOutOfService down lane) := fun _ _ e => nomatch e

theorem Ranges.hello (down : Bool) (m : HelloMsg) : Ranges.Statement (.hello down m) := fun _ _ e => nomatch e

theorem Ranges.helloTimeout (down : Bool) : Ranges.Statement (.helloTimeout down) := fun _ _ e => nomatch e

theorem Ranges.forwardedBlock (b : FwdBlock) : Ranges.Statement (.forwardedBlock b) := fun _ _ e => nomatch e

theorem Ranges.stageAbort : Ranges.Statement (.stageAbort) := fun _ _ e => nomatch e

theorem Ranges.chainReport (r : ReportKind) (pos : Nat) :
    Ranges.Statement (.chainReport r pos) := fun _ _ e => nomatch e

theorem Ranges.arm (m : ArmMsg) : Ranges.Statement (.arm m) := fun _ _ e => nomatch e

theorem Ranges.confirm : Ranges.Statement (.confirm) := fun _ _ e => nomatch e

theorem Ranges.armedTick (x : LandingRun) : Ranges.Statement (.armedTick x) := fun _ _ e => nomatch e

theorem Ranges.trialTimeout (x : LandingRun) : Ranges.Statement (.trialTimeout x) := fun _ _ e => nomatch e

theorem Ranges.diagExpiry (point : Nat) : Ranges.Statement (.diagExpiry point) := fun _ _ e => nomatch e

theorem Ranges.porNLow : Ranges.Statement (.porNLow) := fun _ _ e => nomatch e

theorem Ranges.blkRstNRelease (r : RomTest) : Ranges.Statement (.blkRstNRelease r) := fun _ _ e => nomatch e

theorem Ranges.alarmSourceQuiet (source : Nat) :
    Ranges.Statement (.alarmSourceQuiet source) := fun _ _ e => nomatch e

theorem Ranges.roofCleanPass (impedance : Bool) :
    Ranges.Statement (.roofCleanPass impedance) := fun _ _ e => nomatch e

end Sys2Proof.Laws
end

