-- ==== Sys2Proof/Laws/ShapeA.lean ====
section
/-!
SUPPORT. What no command changes: Ops, Work, Study.
-/

set_option linter.unusedSimpArgs false
set_option linter.unusedTactic false
set_option linter.unreachableTactic false

namespace Sys2Proof.Machine

theorem modInst_shape (i : Nat) (f : Inst → Inst) (s : State) :
    (modInst i f s).shape = s.shape := by
  unfold modInst
  repeat' (first | with_reducible rfl | (intro _) | (rw [foldl_shape]) | (rw [foldl_pair_shape]) |
    (simp only [shape_mk, shape_rules, shape_eta, List.length_map, List.length_zipIdx, modAt_length]) | split)

theorem modRing_shape (r : Nat) (f : Ring → Ring) (s : State) :
    (modRing r f s).shape = s.shape := by
  unfold modRing
  repeat' (first | with_reducible rfl | (intro _) | (rw [foldl_shape]) | (rw [foldl_pair_shape]) |
    (simp only [shape_mk, shape_rules, shape_eta, List.length_map, List.length_zipIdx, modAt_length]) | split)

theorem modOp_shape (id : Nat) (f : Op → Op) (s : State) :
    (modOp id f s).shape = s.shape := by
  unfold modOp
  repeat' (first | with_reducible rfl | (intro _) | (rw [foldl_shape]) | (rw [foldl_pair_shape]) |
    (simp only [shape_mk, shape_rules, shape_eta, List.length_map, List.length_zipIdx, modAt_length]) | split)

theorem modPort_shape (n : Nat) (f : Port → Port) (s : State) :
    (modPort n f s).shape = s.shape := by
  unfold modPort
  repeat' (first | with_reducible rfl | (intro _) | (rw [foldl_shape]) | (rw [foldl_pair_shape]) |
    (simp only [shape_mk, shape_rules, shape_eta, List.length_map, List.length_zipIdx, modAt_length]) | split)

theorem modCq_shape (q : Nat) (f : CmdQ → CmdQ) (s : State) :
    (modCq q f s).shape = s.shape := by
  unfold modCq
  repeat' (first | with_reducible rfl | (intro _) | (rw [foldl_shape]) | (rw [foldl_pair_shape]) |
    (simp only [shape_mk, shape_rules, shape_eta, List.length_map, List.length_zipIdx, modAt_length,
          modInst_shape]) | split)

theorem modEq_shape (q : Nat) (f : EventQ → EventQ) (s : State) :
    (modEq q f s).shape = s.shape := by
  unfold modEq
  repeat' (first | with_reducible rfl | (intro _) | (rw [foldl_shape]) | (rw [foldl_pair_shape]) |
    (simp only [shape_mk, shape_rules, shape_eta, List.length_map, List.length_zipIdx, modAt_length,
          modInst_shape]) | split)

theorem mapEngines_shape (f : Engine → Engine) (s : State) :
    (mapEngines f s).shape = s.shape := by
  unfold mapEngines
  repeat' (first | with_reducible rfl | (intro _) | (rw [foldl_shape]) | (rw [foldl_pair_shape]) |
    (simp only [shape_mk, shape_rules, shape_eta, List.length_map, List.length_zipIdx, modAt_length]) | split)

theorem mapSlots_shape (f : Nat → Slot → Slot) (s : State) :
    (mapSlots f s).shape = s.shape := by
  unfold mapSlots
  repeat' (first | with_reducible rfl | (intro _) | (rw [foldl_shape]) | (rw [foldl_pair_shape]) |
    (simp only [shape_mk, shape_rules, shape_eta, List.length_map, List.length_zipIdx, modAt_length]) | split)

theorem keepSlots_shape (f : Nat → Slot → Bool) (s : State) :
    (keepSlots f s).shape = s.shape := by
  unfold keepSlots
  repeat' (first | with_reducible rfl | (intro _) | (rw [foldl_shape]) | (rw [foldl_pair_shape]) |
    (simp only [shape_mk, shape_rules, shape_eta, List.length_map, List.length_zipIdx, modAt_length]) | split)

theorem mapFetches_shape (f : Fetch → Fetch) (s : State) :
    (mapFetches f s).shape = s.shape := by
  unfold mapFetches
  repeat' (first | with_reducible rfl | (intro _) | (rw [foldl_shape]) | (rw [foldl_pair_shape]) |
    (simp only [shape_mk, shape_rules, shape_eta, List.length_map, List.length_zipIdx, modAt_length]) | split)

theorem draw_shape (s : State) :
    (draw s).shape = s.shape := by
  unfold draw
  repeat' (first | with_reducible rfl | (intro _) | (rw [foldl_shape]) | (rw [foldl_pair_shape]) |
    (simp only [shape_mk, shape_rules, shape_eta, List.length_map, List.length_zipIdx, modAt_length]) | split)

theorem setDrbg_shape (u : Nat) (d : Drbg) (s : State) :
    (setDrbg u d s).shape = s.shape := by
  unfold setDrbg
  repeat' (first | with_reducible rfl | (intro _) | (rw [foldl_shape]) | (rw [foldl_pair_shape]) |
    (simp only [shape_mk, shape_rules, shape_eta, List.length_map, List.length_zipIdx, modAt_length]) | split)

theorem seedDrbg_shape (u : Nat) (s : State) :
    (seedDrbg u s).shape = s.shape := by
  unfold seedDrbg
  repeat' (first | with_reducible rfl | (intro _) | (rw [foldl_shape]) | (rw [foldl_pair_shape]) |
    (simp only [shape_mk, shape_rules, shape_eta, List.length_map, List.length_zipIdx, modAt_length, draw_shape,
          setDrbg_shape]) | split)

theorem reseedDrbg_shape (u : Nat) (addin : List Byte) (s : State) :
    (reseedDrbg u addin s).shape = s.shape := by
  unfold reseedDrbg
  repeat' (first | with_reducible rfl | (intro _) | (rw [foldl_shape]) | (rw [foldl_pair_shape]) |
    (simp only [shape_mk, shape_rules, shape_eta, List.length_map, List.length_zipIdx, modAt_length, draw_shape,
          setDrbg_shape]) | split)

theorem generate_shape (u n : Nat) (addin : List Byte) (pr : Bool) (s : State) :
    (generate u n addin pr s).2.shape = s.shape := by
  unfold generate
  repeat' (first | with_reducible rfl | (intro _) | (rw [foldl_shape]) | (rw [foldl_pair_shape]) |
    (simp only [shape_mk, shape_rules, shape_eta, List.length_map, List.length_zipIdx, modAt_length, draw_shape,
          setDrbg_shape, reseedDrbg_shape]) | split)

theorem rotateLanes_shape (a n : Nat) (s : State) :
    (rotateLanes a n s).shape = s.shape := by
  unfold rotateLanes
  repeat' (first | with_reducible rfl | (intro _) | (rw [foldl_shape]) | (rw [foldl_pair_shape]) |
    (simp only [shape_mk, shape_rules, shape_eta, List.length_map, List.length_zipIdx, modAt_length,
          generate_shape]) | split)

theorem addCounter_shape (i n amt : Nat) (s : State) :
    (addCounter i n amt s).shape = s.shape := by
  unfold addCounter
  repeat' (first | with_reducible rfl | (intro _) | (rw [foldl_shape]) | (rw [foldl_pair_shape]) |
    (simp only [shape_mk, shape_rules, shape_eta, List.length_map, List.length_zipIdx, modAt_length,
          modInst_shape]) | split)

theorem subCounter_shape (i n amt : Nat) (s : State) :
    (subCounter i n amt s).shape = s.shape := by
  unfold subCounter
  repeat' (first | with_reducible rfl | (intro _) | (rw [foldl_shape]) | (rw [foldl_pair_shape]) |
    (simp only [shape_mk, shape_rules, shape_eta, List.length_map, List.length_zipIdx, modAt_length,
          modInst_shape]) | split)

theorem countWith_shape (g : Word → Bool) (i ev amt : Nat) (t : EvTag) (s : State) :
    (countWith g i ev amt t s).shape = s.shape := by
  unfold countWith
  repeat' (first | with_reducible rfl | (intro _) | (rw [foldl_shape]) | (rw [foldl_pair_shape]) |
    (simp only [shape_mk, shape_rules, shape_eta, List.length_map, List.length_zipIdx, modAt_length,
          addCounter_shape]) | split)

theorem countIn_shape (i ev amt : Nat) (t : EvTag) (s : State) :
    (countIn i ev amt t s).shape = s.shape := by
  unfold countIn
  repeat' (first | with_reducible rfl | (intro _) | (rw [foldl_shape]) | (rw [foldl_pair_shape]) |
    (simp only [shape_mk, shape_rules, shape_eta, List.length_map, List.length_zipIdx, modAt_length,
          countWith_shape]) | split)

theorem uncountIn_shape (i ev amt : Nat) (t : EvTag) (s : State) :
    (uncountIn i ev amt t s).shape = s.shape := by
  unfold uncountIn
  repeat' (first | with_reducible rfl | (intro _) | (rw [foldl_shape]) | (rw [foldl_pair_shape]) |
    (simp only [shape_mk, shape_rules, shape_eta, List.length_map, List.length_zipIdx, modAt_length,
          subCounter_shape]) | split)

theorem countIf_shape (g : Word → Bool) (ev amt : Nat) (t : EvTag) (s : State) :
    (countIf g ev amt t s).shape = s.shape := by
  unfold countIf
  repeat' (first | with_reducible rfl | (intro _) | (rw [foldl_shape]) | (rw [foldl_pair_shape]) |
    (simp only [shape_mk, shape_rules, shape_eta, List.length_map, List.length_zipIdx, modAt_length,
          countWith_shape]) | split)

theorem count_shape (ev amt : Nat) (t : EvTag) (s : State) :
    (count ev amt t s).shape = s.shape := by
  unfold count
  repeat' (first | with_reducible rfl | (intro _) | (rw [foldl_shape]) | (rw [foldl_pair_shape]) |
    (simp only [shape_mk, shape_rules, shape_eta, List.length_map, List.length_zipIdx, modAt_length,
          countIn_shape]) | split)

theorem fixedCount_shape (i n amt : Nat) (s : State) :
    (fixedCount i n amt s).shape = s.shape := by
  unfold fixedCount
  repeat' (first | with_reducible rfl | (intro _) | (rw [foldl_shape]) | (rw [foldl_pair_shape]) |
    (simp only [shape_mk, shape_rules, shape_eta, List.length_map, List.length_zipIdx, modAt_length,
          addCounter_shape]) | split)

theorem issueWrites_shape (n : Nat) (s : State) :
    (issueWrites n s).shape = s.shape := by
  unfold issueWrites
  repeat' (first | with_reducible rfl | (intro _) | (rw [foldl_shape]) | (rw [foldl_pair_shape]) |
    (simp only [shape_mk, shape_rules, shape_eta, List.length_map, List.length_zipIdx, modAt_length,
          modPort_shape, countIn_shape]) | split)

theorem pump_shape (n : Nat) (s : State) :
    (pump n s).shape = s.shape := by
  unfold pump
  repeat' (first | with_reducible rfl | (intro _) | (rw [foldl_shape]) | (rw [foldl_pair_shape]) |
    (simp only [shape_mk, shape_rules, shape_eta, List.length_map, List.length_zipIdx, modAt_length,
          modPort_shape, issueWrites_shape]) | split)

theorem readReq_shape (n addr len tag : Nat) (o : Owner) (off : Nat) (s : State) :
    (readReq n addr len tag o off s).shape = s.shape := by
  unfold readReq
  repeat' (first | with_reducible rfl | (intro _) | (rw [foldl_shape]) | (rw [foldl_pair_shape]) |
    (simp only [shape_mk, shape_rules, shape_eta, List.length_map, List.length_zipIdx, modAt_length,
          modPort_shape, pump_shape]) | split)

theorem writeReq_shape (n addr : Nat) (data : List Byte) (tag : Nat) (o : Owner) (s : State) :
    (writeReq n addr data tag o s).shape = s.shape := by
  unfold writeReq
  repeat' (first | with_reducible rfl | (intro _) | (rw [foldl_shape]) | (rw [foldl_pair_shape]) |
    (simp only [shape_mk, shape_rules, shape_eta, List.length_map, List.length_zipIdx, modAt_length,
          modPort_shape, pump_shape]) | split)

theorem dropReads_shape (f : Owner → Bool) (s : State) :
    (dropReads f s).shape = s.shape := by
  unfold dropReads
  repeat' (first | with_reducible rfl | (intro _) | (rw [foldl_shape]) | (rw [foldl_pair_shape]) |
    (simp only [shape_mk, shape_rules, shape_eta, List.length_map, List.length_zipIdx, modAt_length]) | split)

theorem orphanReads_shape (f : Owner → Bool) (s : State) :
    (orphanReads f s).shape = s.shape := by
  unfold orphanReads
  repeat' (first | with_reducible rfl | (intro _) | (rw [foldl_shape]) | (rw [foldl_pair_shape]) |
    (simp only [shape_mk, shape_rules, shape_eta, List.length_map, List.length_zipIdx, modAt_length,
          dropReads_shape]) | split)

theorem dropWrites_shape (f : Owner → Bool) (s : State) :
    (dropWrites f s).shape = s.shape := by
  unfold dropWrites
  repeat' (first | with_reducible rfl | (intro _) | (rw [foldl_shape]) | (rw [foldl_pair_shape]) |
    (simp only [shape_mk, shape_rules, shape_eta, List.length_map, List.length_zipIdx, modAt_length]) | split)

theorem disownWrites_shape (f : Owner → Bool) (s : State) :
    (disownWrites f s).shape = s.shape := by
  unfold disownWrites
  repeat' (first | with_reducible rfl | (intro _) | (rw [foldl_shape]) | (rw [foldl_pair_shape]) |
    (simp only [shape_mk, shape_rules, shape_eta, List.length_map, List.length_zipIdx, modAt_length]) | split)

theorem arrive_shape (o : Owner) (data : List Byte) (s : State) :
    (arrive o data s).shape = s.shape := by
  unfold arrive
  repeat' (first | with_reducible rfl | (intro _) | (rw [foldl_shape]) | (rw [foldl_pair_shape]) |
    (simp only [shape_mk, shape_rules, shape_eta, List.length_map, List.length_zipIdx, modAt_length]) | split)

theorem takeArrived_shape (o : Owner) (s : State) :
    (takeArrived o s).shape = s.shape := by
  unfold takeArrived
  repeat' (first | with_reducible rfl | (intro _) | (rw [foldl_shape]) | (rw [foldl_pair_shape]) |
    (simp only [shape_mk, shape_rules, shape_eta, List.length_map, List.length_zipIdx, modAt_length]) | split)

theorem setPend_shape (i typ ring : Nat) (s : State) :
    (setPend i typ ring s).shape = s.shape := by
  unfold setPend
  repeat' (first | with_reducible rfl | (intro _) | (rw [foldl_shape]) | (rw [foldl_pair_shape]) |
    (simp only [shape_mk, shape_rules, shape_eta, List.length_map, List.length_zipIdx, modAt_length,
          modRing_shape, modEq_shape]) | split)

theorem irqCheck_shape (i : Nat) (s : State) :
    (irqCheck i s).shape = s.shape := by
  unfold irqCheck
  repeat' (first | with_reducible rfl | (intro _) | (rw [foldl_shape]) | (rw [foldl_pair_shape]) |
    (simp only [shape_mk, shape_rules, shape_eta, List.length_map, List.length_zipIdx, modAt_length,
          modEq_shape, count_shape, writeReq_shape]) | split)

theorem evWrite_shape (i typ status ring index aux : Nat) (s : State) :
    (evWrite i typ status ring index aux s).shape = s.shape := by
  unfold evWrite
  repeat' (first | with_reducible rfl | (intro _) | (rw [foldl_shape]) | (rw [foldl_pair_shape]) |
    (simp only [shape_mk, shape_rules, shape_eta, List.length_map, List.length_zipIdx, modAt_length,
          modEq_shape, writeReq_shape, setPend_shape, irqCheck_shape]) | split)

theorem evFail_shape (i : Nat) (s : State) :
    (evFail i s).shape = s.shape := by
  unfold evFail
  repeat' (first | with_reducible rfl | (intro _) | (rw [foldl_shape]) | (rw [foldl_pair_shape]) |
    (simp only [shape_mk, shape_rules, shape_eta, List.length_map, List.length_zipIdx, modAt_length,
          modEq_shape, setPend_shape, irqCheck_shape]) | split)

theorem evAck_shape (i : Nat) (n : Idx) (s : State) :
    (evAck i n s).shape = s.shape := by
  unfold evAck
  repeat' (first | with_reducible rfl | (intro _) | (rw [foldl_shape]) | (rw [foldl_pair_shape]) |
    (simp only [shape_mk, shape_rules, shape_eta, List.length_map, List.length_zipIdx, modAt_length,
          modEq_shape, irqCheck_shape]) | split)

theorem wake_shape (cause : Nat) (s : State) :
    (wake cause s).shape = s.shape := by
  unfold wake
  repeat' (first | with_reducible rfl | (intro _) | (rw [foldl_shape]) | (rw [foldl_pair_shape]) |
    (simp only [shape_mk, shape_rules, shape_eta, List.length_map, List.length_zipIdx, modAt_length]) | split)

theorem faultTally_shape (s : State) :
    (faultTally s).shape = s.shape := by
  unfold faultTally
  repeat' (first | with_reducible rfl | (intro _) | (rw [foldl_shape]) | (rw [foldl_pair_shape]) |
    (simp only [shape_mk, shape_rules, shape_eta, List.length_map, List.length_zipIdx, modAt_length,
          countIn_shape]) | split)

theorem fireAt_shape (p : Nat) (s : State) :
    (fireAt p s).shape = s.shape := by
  unfold fireAt
  repeat' (first | with_reducible rfl | (intro _) | (rw [foldl_shape]) | (rw [foldl_pair_shape]) |
    (simp only [shape_mk, shape_rules, shape_eta, List.length_map, List.length_zipIdx, modAt_length]) | split)

theorem eccUncorr_shape (code : Nat) (s : State) :
    (eccUncorr code s).shape = s.shape := by
  unfold eccUncorr
  repeat' (first | with_reducible rfl | (intro _) | (rw [foldl_shape]) | (rw [foldl_pair_shape]) |
    (simp only [shape_mk, shape_rules, shape_eta, List.length_map, List.length_zipIdx, modAt_length]) | split)

theorem eccCorr_shape (s : State) :
    (eccCorr s).shape = s.shape := by
  unfold eccCorr
  repeat' (first | with_reducible rfl | (intro _) | (rw [foldl_shape]) | (rw [foldl_pair_shape]) |
    (simp only [shape_mk, shape_rules, shape_eta, List.length_map, List.length_zipIdx, modAt_length]) | split)

theorem eccRead_shape (code : Nat) (s : State) :
    (eccRead code s).2.shape = s.shape := by
  unfold eccRead
  repeat' (first | with_reducible rfl | (intro _) | (rw [foldl_shape]) | (rw [foldl_pair_shape]) |
    (simp only [shape_mk, shape_rules, shape_eta, List.length_map, List.length_zipIdx, modAt_length,
          fireAt_shape, eccUncorr_shape, eccCorr_shape]) | split)

theorem readDirectory_shape (s : State) :
    (readDirectory s).2.shape = s.shape := by
  unfold readDirectory
  repeat' (first | with_reducible rfl | (intro _) | (rw [foldl_shape]) | (rw [foldl_pair_shape]) |
    (simp only [shape_mk, shape_rules, shape_eta, List.length_map, List.length_zipIdx, modAt_length,
          eccRead_shape]) | split)

theorem readKeyStore_shape (s : State) :
    (readKeyStore s).2.shape = s.shape := by
  unfold readKeyStore
  repeat' (first | with_reducible rfl | (intro _) | (rw [foldl_shape]) | (rw [foldl_pair_shape]) |
    (simp only [shape_mk, shape_rules, shape_eta, List.length_map, List.length_zipIdx, modAt_length,
          eccRead_shape]) | split)

theorem countOp_shape (ev amt : Nat) (o : Op) (s : State) :
    (countOp ev amt o s).shape = s.shape := by
  unfold countOp
  repeat' (first | with_reducible rfl | (intro _) | (rw [foldl_shape]) | (rw [foldl_pair_shape]) |
    (simp only [shape_mk, shape_rules, shape_eta, List.length_map, List.length_zipIdx, modAt_length,
          countIn_shape, count_shape]) | split)

theorem fixedOp_shape (n amt : Nat) (o : Op) (s : State) :
    (fixedOp n amt o s).shape = s.shape := by
  unfold fixedOp
  repeat' (first | with_reducible rfl | (intro _) | (rw [foldl_shape]) | (rw [foldl_pair_shape]) |
    (simp only [shape_mk, shape_rules, shape_eta, List.length_map, List.length_zipIdx, modAt_length,
          fixedCount_shape]) | split)

theorem chargeInst_shape (i units : Nat) (s : State) :
    (chargeInst i units s).shape = s.shape := by
  unfold chargeInst
  repeat' (first | with_reducible rfl | (intro _) | (rw [foldl_shape]) | (rw [foldl_pair_shape]) |
    (simp only [shape_mk, shape_rules, shape_eta, List.length_map, List.length_zipIdx, modAt_length,
          modInst_shape, fixedCount_shape]) | split)

theorem refundInst_shape (i units : Nat) (s : State) :
    (refundInst i units s).shape = s.shape := by
  unfold refundInst
  repeat' (first | with_reducible rfl | (intro _) | (rw [foldl_shape]) | (rw [foldl_pair_shape]) |
    (simp only [shape_mk, shape_rules, shape_eta, List.length_map, List.length_zipIdx, modAt_length,
          modInst_shape, subCounter_shape]) | split)

theorem chargeTo_shape (o : Op) (cost : Nat) (s : State) :
    (chargeTo o cost s).shape = s.shape := by
  unfold chargeTo
  repeat' (first | with_reducible rfl | (intro _) | (rw [foldl_shape]) | (rw [foldl_pair_shape]) |
    (simp only [shape_mk, shape_rules, shape_eta, List.length_map, List.length_zipIdx, modAt_length,
          modOp_shape, chargeInst_shape, refundInst_shape]) | split)

theorem correctCharge_shape (o : Op) (cost : Nat) (s : State) :
    (correctCharge o cost s).shape = s.shape := by
  unfold correctCharge
  repeat' (first | with_reducible rfl | (intro _) | (rw [foldl_shape]) | (rw [foldl_pair_shape]) |
    (simp only [shape_mk, shape_rules, shape_eta, List.length_map, List.length_zipIdx, modAt_length,
          modRing_shape, chargeTo_shape]) | split)

theorem issueSrc_shape (id : Nat) (s : State) :
    (issueSrc id s).shape = s.shape := by
  unfold issueSrc
  repeat' (first | with_reducible rfl | (intro _) | (rw [foldl_shape]) | (rw [foldl_pair_shape]) |
    (simp only [shape_mk, shape_rules, shape_eta, List.length_map, List.length_zipIdx, modAt_length,
          modOp_shape, readReq_shape]) | split)

theorem emit_shape (id off : Nat) (data : List Byte) (s : State) :
    (emit id off data s).shape = s.shape := by
  unfold emit
  repeat' (first | with_reducible rfl | (intro _) | (rw [foldl_shape]) | (rw [foldl_pair_shape]) |
    (simp only [shape_mk, shape_rules, shape_eta, List.length_map, List.length_zipIdx, modAt_length,
          modOp_shape, writeReq_shape, countOp_shape]) | split)

theorem emitAt_shape (id addr : Nat) (data : List Byte) (s : State) :
    (emitAt id addr data s).shape = s.shape := by
  unfold emitAt
  repeat' (first | with_reducible rfl | (intro _) | (rw [foldl_shape]) | (rw [foldl_pair_shape]) |
    (simp only [shape_mk, shape_rules, shape_eta, List.length_map, List.length_zipIdx, modAt_length,
          modOp_shape, writeReq_shape]) | split)

theorem dropOutput_shape (o : Op) (s : State) :
    (dropOutput o s).shape = s.shape := by
  unfold dropOutput
  repeat' (first | with_reducible rfl | (intro _) | (rw [foldl_shape]) | (rw [foldl_pair_shape]) |
    (simp only [shape_mk, shape_rules, shape_eta, List.length_map, List.length_zipIdx, modAt_length,
          modOp_shape, dropWrites_shape]) | split)

theorem keepRecord_shape (o : Op) (s : State) :
    (keepRecord o s).shape = s.shape := by
  unfold keepRecord
  repeat' (first | with_reducible rfl | (intro _) | (rw [foldl_shape]) | (rw [foldl_pair_shape]) |
    (simp only [shape_mk, shape_rules, shape_eta, List.length_map, List.length_zipIdx, modAt_length]) | split)

theorem freeRecords_shape (s : State) :
    (freeRecords s).shape = s.shape := by
  unfold freeRecords
  repeat' (first | with_reducible rfl | (intro _) | (rw [foldl_shape]) | (rw [foldl_pair_shape]) |
    (simp only [shape_mk, shape_rules, shape_eta, List.length_map, List.length_zipIdx, modAt_length]) | split)

theorem skipSample_shape (i : Nat) (s : State) :
    (skipSample i s).shape = s.shape := by
  unfold skipSample
  repeat' (first | with_reducible rfl | (intro _) | (rw [foldl_shape]) | (rw [foldl_pair_shape]) |
    (simp only [shape_mk, shape_rules, shape_eta, List.length_map, List.length_zipIdx, modAt_length,
          modInst_shape]) | split)

theorem releaseOp_shape (id : Nat) (s : State) :
    (releaseOp id s).shape = s.shape := by
  unfold releaseOp
  repeat' (first | with_reducible rfl | (intro _) | (rw [foldl_shape]) | (rw [foldl_pair_shape]) |
    (simp only [shape_mk, shape_rules, shape_eta, List.length_map, List.length_zipIdx, modAt_length,
          dropReads_shape, orphanReads_shape, keepRecord_shape, skipSample_shape]) | split)

theorem releaseAll_shape (f : Op → Bool) (s : State) :
    (releaseAll f s).shape = s.shape := by
  unfold releaseAll
  repeat' (first | with_reducible rfl | (intro _) | (rw [foldl_shape]) | (rw [foldl_pair_shape]) |
    (simp only [shape_mk, shape_rules, shape_eta, List.length_map, List.length_zipIdx, modAt_length,
          releaseOp_shape]) | split)

theorem issueSamples_shape (s : State) :
    (issueSamples s).shape = s.shape := by
  unfold issueSamples
  repeat' (first | with_reducible rfl | (intro _) | (rw [foldl_shape]) | (rw [foldl_pair_shape]) |
    (simp only [shape_mk, shape_rules, shape_eta, List.length_map, List.length_zipIdx, modAt_length,
          modInst_shape, writeReq_shape]) | split)

theorem writeIndex_shape (n : Nat) (s : State) :
    (writeIndex n s).shape = s.shape := by
  unfold writeIndex
  repeat' (first | with_reducible rfl | (intro _) | (rw [foldl_shape]) | (rw [foldl_pair_shape]) |
    (simp only [shape_mk, shape_rules, shape_eta, List.length_map, List.length_zipIdx, modAt_length,
          writeReq_shape]) | split)

theorem dropSpecs_shape (n : Nat) (s : State) :
    (dropSpecs n s).shape = s.shape := by
  unfold dropSpecs
  repeat' (first | with_reducible rfl | (intro _) | (rw [foldl_shape]) | (rw [foldl_pair_shape]) |
    (simp only [shape_mk, shape_rules, shape_eta, List.length_map, List.length_zipIdx, modAt_length,
          dropReads_shape]) | split)

theorem ringErrorRecord_shape (n : Nat) (s : State) :
    (ringErrorRecord n s).shape = s.shape := by
  unfold ringErrorRecord
  repeat' (first | with_reducible rfl | (intro _) | (rw [foldl_shape]) | (rw [foldl_pair_shape]) |
    (simp only [shape_mk, shape_rules, shape_eta, List.length_map, List.length_zipIdx, modAt_length,
          modRing_shape, evWrite_shape]) | split)

theorem orphanErrorRecord_shape (n : Nat) (s : State) :
    (orphanErrorRecord n s).shape = s.shape := by
  unfold orphanErrorRecord
  repeat' (first | with_reducible rfl | (intro _) | (rw [foldl_shape]) | (rw [foldl_pair_shape]) |
    (simp only [shape_mk, shape_rules, shape_eta, List.length_map, List.length_zipIdx, modAt_length,
          ringErrorRecord_shape]) | split)

theorem dueErrorRecord_shape (n : Nat) (e : Idx) (s : State) :
    (dueErrorRecord n e s).shape = s.shape := by
  unfold dueErrorRecord
  repeat' (first | with_reducible rfl | (intro _) | (rw [foldl_shape]) | (rw [foldl_pair_shape]) |
    (simp only [shape_mk, shape_rules, shape_eta, List.length_map, List.length_zipIdx, modAt_length,
          ringErrorRecord_shape]) | split)

theorem stopAt_shape (n : Nat) (e h : Idx) (st : Status) (now : Bool) (s : State) :
    (stopAt n e h st now s).shape = s.shape := by
  unfold stopAt
  repeat' (first | with_reducible rfl | (intro _) | (rw [foldl_shape]) | (rw [foldl_pair_shape]) |
    (simp only [shape_mk, shape_rules, shape_eta, List.length_map, List.length_zipIdx, modAt_length,
          releaseAll_shape, writeIndex_shape, dropSpecs_shape, ringErrorRecord_shape]) | split)

theorem stopRing_shape (n : Nat) (e : Idx) (st : Status) (now : Bool) (s : State) :
    (stopRing n e st now s).shape = s.shape := by
  unfold stopRing
  repeat' (first | with_reducible rfl | (intro _) | (rw [foldl_shape]) | (rw [foldl_pair_shape]) |
    (simp only [shape_mk, shape_rules, shape_eta, List.length_map, List.length_zipIdx, modAt_length,
          stopAt_shape]) | split)

theorem postOp_shape (o : Op) (s : State) :
    (postOp o s).shape = s.shape := by
  unfold postOp
  repeat' (first | with_reducible rfl | (intro _) | (rw [foldl_shape]) | (rw [foldl_pair_shape]) |
    (simp only [shape_mk, shape_rules, shape_eta, List.length_map, List.length_zipIdx, modAt_length,
          modOp_shape, writeReq_shape, releaseOp_shape]) | split)

theorem tryPost_shape (n : Nat) (s : State) :
    (tryPost n s).shape = s.shape := by
  unfold tryPost
  repeat' (first | with_reducible rfl | (intro _) | (rw [foldl_shape]) | (rw [foldl_pair_shape]) |
    (simp only [shape_mk, shape_rules, shape_eta, List.length_map, List.length_zipIdx, modAt_length,
          postOp_shape]) | split)

theorem zeroWrites_shape (o : Op) (s : State) :
    (zeroWrites o s).shape = s.shape := by
  unfold zeroWrites
  repeat' (first | with_reducible rfl | (intro _) | (rw [foldl_shape]) | (rw [foldl_pair_shape]) |
    (simp only [shape_mk, shape_rules, shape_eta, List.length_map, List.length_zipIdx, modAt_length,
          writeReq_shape]) | split)

theorem endOp_shape (id : Nat) (st : Status) (good : Nat) (s : State) :
    (endOp id st good s).shape = s.shape := by
  unfold endOp
  repeat' (first | with_reducible rfl | (intro _) | (rw [foldl_shape]) | (rw [foldl_pair_shape]) |
    (simp only [shape_mk, shape_rules, shape_eta, List.length_map, List.length_zipIdx, modAt_length,
          modOp_shape, dropReads_shape, countOp_shape, releaseOp_shape, stopRing_shape, tryPost_shape,
          zeroWrites_shape]) | split)

theorem failUndispatched_shape (o : Op) (st : Status) (s : State) :
    (failUndispatched o st s).shape = s.shape := by
  unfold failUndispatched
  repeat' (first | with_reducible rfl | (intro _) | (rw [foldl_shape]) | (rw [foldl_pair_shape]) |
    (simp only [shape_mk, shape_rules, shape_eta, List.length_map, List.length_zipIdx, modAt_length,
          chargeTo_shape, endOp_shape]) | split)

theorem failWrite_shape (id ring : Nat) (e : Idx) (st : Status) (s : State) :
    (failWrite id ring e st s).shape = s.shape := by
  unfold failWrite
  repeat' (first | with_reducible rfl | (intro _) | (rw [foldl_shape]) | (rw [foldl_pair_shape]) |
    (simp only [shape_mk, shape_rules, shape_eta, List.length_map, List.length_zipIdx, modAt_length,
          modOp_shape, dropWrites_shape, stopRing_shape, endOp_shape]) | split)

theorem failRead_shape (id : Nat) (st : Status) (s : State) :
    (failRead id st s).shape = s.shape := by
  unfold failRead
  repeat' (first | with_reducible rfl | (intro _) | (rw [foldl_shape]) | (rw [foldl_pair_shape]) |
    (simp only [shape_mk, shape_rules, shape_eta, List.length_map, List.length_zipIdx, modAt_length,
          endOp_shape]) | split)

theorem noteTaken_shape (q : Nat) (s : State) :
    (noteTaken q s).shape = s.shape := by
  unfold noteTaken
  repeat' (first | with_reducible rfl | (intro _) | (rw [foldl_shape]) | (rw [foldl_pair_shape]) |
    (simp only [shape_mk, shape_rules, shape_eta, List.length_map, List.length_zipIdx, modAt_length]) | split)

theorem studyFetch_shape (s : State) :
    (studyFetch s).shape = s.shape := by
  unfold studyFetch
  repeat' (first | with_reducible rfl | (intro _) | (rw [foldl_shape]) | (rw [foldl_pair_shape]) |
    (simp only [shape_mk, shape_rules, shape_eta, List.length_map, List.length_zipIdx, modAt_length,
          modCq_shape, readReq_shape]) | split)

theorem dropPacketRead_shape (q : Nat) (s : State) :
    (dropPacketRead q s).shape = s.shape := by
  unfold dropPacketRead
  repeat' (first | with_reducible rfl | (intro _) | (rw [foldl_shape]) | (rw [foldl_pair_shape]) |
    (simp only [shape_mk, shape_rules, shape_eta, List.length_map, List.length_zipIdx, modAt_length,
          modCq_shape, dropReads_shape]) | split)

theorem keyinDone_shape (q : Nat) (p : List Byte) (s : State) :
    (keyinDone q p s).shape = s.shape := by
  unfold keyinDone
  repeat' (first | with_reducible rfl | (intro _) | (rw [foldl_shape]) | (rw [foldl_pair_shape]) |
    (simp only [shape_mk, shape_rules, shape_eta, List.length_map, List.length_zipIdx, modAt_length]) | split)

theorem commitRefused_shape (q : Nat) (p : List Byte) (s : State) :
    (commitRefused q p s).shape = s.shape := by
  unfold commitRefused
  repeat' (first | with_reducible rfl | (intro _) | (rw [foldl_shape]) | (rw [foldl_pair_shape]) |
    (simp only [shape_mk, shape_rules, shape_eta, List.length_map, List.length_zipIdx, modAt_length]) | split)

theorem reply_shape (q : Nat) (st : Status) (detail : Nat) (body : List Byte) (s : State) :
    (reply q st detail body s).shape = s.shape := by
  unfold reply
  repeat' (first | with_reducible rfl | (intro _) | (rw [foldl_shape]) | (rw [foldl_pair_shape]) |
    (simp only [shape_mk, shape_rules, shape_eta, List.length_map, List.length_zipIdx, modAt_length,
          modCq_shape, writeReq_shape]) | split)

theorem replyWord2_shape (q : Nat) (s : State) :
    (replyWord2 q s).shape = s.shape := by
  unfold replyWord2
  repeat' (first | with_reducible rfl | (intro _) | (rw [foldl_shape]) | (rw [foldl_pair_shape]) |
    (simp only [shape_mk, shape_rules, shape_eta, List.length_map, List.length_zipIdx, modAt_length,
          modCq_shape, writeReq_shape, reply_shape]) | split)

theorem waitFor_shape (q : Nat) (w : Wait) (s : State) :
    (waitFor q w s).shape = s.shape := by
  unfold waitFor
  repeat' (first | with_reducible rfl | (intro _) | (rw [foldl_shape]) | (rw [foldl_pair_shape]) |
    (simp only [shape_mk, shape_rules, shape_eta, List.length_map, List.length_zipIdx, modAt_length,
          modCq_shape]) | split)

theorem takeArrivedPacket_shape (q : Nat) (pkt : List Byte) (s : State) :
    (takeArrivedPacket q pkt s).shape = s.shape := by
  unfold takeArrivedPacket
  repeat' (first | with_reducible rfl | (intro _) | (rw [foldl_shape]) | (rw [foldl_pair_shape]) |
    (simp only [shape_mk, shape_rules, shape_eta, List.length_map, List.length_zipIdx, modAt_length,
          modCq_shape]) | split)

theorem serve_shape (q : Nat) (mine : List Byte → Bool) (k : List Byte → State → State) (s : State) (hk : ∀ a s, (k a s).shape = s.shape) :
    (serve q mine k s).shape = s.shape := by
  unfold serve
  repeat' (first | with_reducible rfl | (intro _) | (rw [foldl_shape]) | (rw [foldl_pair_shape]) |
    (simp only [shape_mk, shape_rules, shape_eta, List.length_map, List.length_zipIdx, modAt_length,
          keyinDone_shape, commitRefused_shape, reply_shape, takeArrivedPacket_shape, hk]) | split)

theorem coldPage_shape (i : Nat) (s : State) :
    (coldPage i s).shape = s.shape := by
  unfold coldPage
  repeat' (first | with_reducible rfl | (intro _) | (rw [foldl_shape]) | (rw [foldl_pair_shape]) |
    (simp only [shape_mk, shape_rules, shape_eta, List.length_map, List.length_zipIdx, modAt_length,
          modInst_shape]) | split)

theorem quietRing_shape (n : Nat) (s : State) :
    (quietRing n s).shape = s.shape := by
  unfold quietRing
  repeat' (first | with_reducible rfl | (intro _) | (rw [foldl_shape]) | (rw [foldl_pair_shape]) |
    (simp only [shape_mk, shape_rules, shape_eta, List.length_map, List.length_zipIdx, modAt_length,
          modRing_shape, dropReads_shape, dropSpecs_shape]) | split)

theorem dropRings_shape (i : Nat) (s : State) :
    (dropRings i s).shape = s.shape := by
  unfold dropRings
  repeat' (first | with_reducible rfl | (intro _) | (rw [foldl_shape]) | (rw [foldl_pair_shape]) |
    (simp only [shape_mk, shape_rules, shape_eta, List.length_map, List.length_zipIdx, modAt_length,
          quietRing_shape]) | split)

theorem dropTagged_shape (i : Nat) (s : State) :
    (dropTagged i s).shape = s.shape := by
  unfold dropTagged
  repeat' (first | with_reducible rfl | (intro _) | (rw [foldl_shape]) | (rw [foldl_pair_shape]) |
    (simp only [shape_mk, shape_rules, shape_eta, List.length_map, List.length_zipIdx, modAt_length]) | split)

theorem makeOld_shape (o : Op) (s : State) :
    (makeOld o s).shape = s.shape := by
  unfold makeOld
  repeat' (first | with_reducible rfl | (intro _) | (rw [foldl_shape]) | (rw [foldl_pair_shape]) |
    (simp only [shape_mk, shape_rules, shape_eta, List.length_map, List.length_zipIdx, modAt_length,
          modOp_shape, mapEngines_shape, orphanReads_shape, releaseOp_shape]) | split)

theorem generationStep_shape (i : Nat) (s : State) :
    (generationStep i s).shape = s.shape := by
  unfold generationStep
  repeat' (first | with_reducible rfl | (intro _) | (rw [foldl_shape]) | (rw [foldl_pair_shape]) |
    (simp only [shape_mk, shape_rules, shape_eta, List.length_map, List.length_zipIdx, modAt_length,
          modInst_shape, freeRecords_shape, quietRing_shape, dropTagged_shape, makeOld_shape]) | split)

theorem wakeIndex_shape (index : Nat) (s : State) :
    (wakeIndex index s).shape = s.shape := by
  unfold wakeIndex
  repeat' (first | with_reducible rfl | (intro _) | (rw [foldl_shape]) | (rw [foldl_pair_shape]) |
    (simp only [shape_mk, shape_rules, shape_eta, List.length_map, List.length_zipIdx, modAt_length]) | split)

theorem dropDoorWork_shape (i : Nat) (s : State) :
    (dropDoorWork i s).shape = s.shape := by
  unfold dropDoorWork
  repeat' (first | with_reducible rfl | (intro _) | (rw [foldl_shape]) | (rw [foldl_pair_shape]) |
    (simp only [shape_mk, shape_rules, shape_eta, List.length_map, List.length_zipIdx, modAt_length,
          dropReads_shape]) | split)

theorem retireResident_shape (i : Nat) (s : State) :
    (retireResident i s).shape = s.shape := by
  unfold retireResident
  repeat' (first | with_reducible rfl | (intro _) | (rw [foldl_shape]) | (rw [foldl_pair_shape]) |
    (simp only [shape_mk, shape_rules, shape_eta, List.length_map, List.length_zipIdx, modAt_length,
          mapSlots_shape, keepSlots_shape, mapFetches_shape, endOp_shape, wakeIndex_shape]) | split)

theorem endReset_shape (i : Nat) (s : State) :
    (endReset i s).shape = s.shape := by
  unfold endReset
  repeat' (first | with_reducible rfl | (intro _) | (rw [foldl_shape]) | (rw [foldl_pair_shape]) |
    (simp only [shape_mk, shape_rules, shape_eta, List.length_map, List.length_zipIdx, modAt_length,
          modInst_shape, coldPage_shape, dropRings_shape]) | split)

theorem endDestroy_shape (i : Nat) (s : State) :
    (endDestroy i s).shape = s.shape := by
  unfold endDestroy
  repeat' (first | with_reducible rfl | (intro _) | (rw [foldl_shape]) | (rw [foldl_pair_shape]) |
    (simp only [shape_mk, shape_rules, shape_eta, List.length_map, List.length_zipIdx, modAt_length,
          modInst_shape, coldPage_shape, dropRings_shape, dropDoorWork_shape, retireResident_shape]) | split)

theorem settleDestroy_shape (i : Nat) (s : State) :
    (settleDestroy i s).shape = s.shape := by
  unfold settleDestroy
  repeat' (first | with_reducible rfl | (intro _) | (rw [foldl_shape]) | (rw [foldl_pair_shape]) |
    (simp only [shape_mk, shape_rules, shape_eta, List.length_map, List.length_zipIdx, modAt_length,
          modInst_shape, endDestroy_shape]) | split)

theorem settleQuiesce_shape (i : Nat) (s : State) :
    (settleQuiesce i s).shape = s.shape := by
  unfold settleQuiesce
  repeat' (first | with_reducible rfl | (intro _) | (rw [foldl_shape]) | (rw [foldl_pair_shape]) |
    (simp only [shape_mk, shape_rules, shape_eta, List.length_map, List.length_zipIdx, modAt_length,
          modInst_shape]) | split)

theorem disownRing_shape (n : Nat) (s : State) :
    (disownRing n s).shape = s.shape := by
  unfold disownRing
  repeat' (first | with_reducible rfl | (intro _) | (rw [foldl_shape]) | (rw [foldl_pair_shape]) |
    (simp only [shape_mk, shape_rules, shape_eta, List.length_map, List.length_zipIdx, modAt_length]) | split)

theorem settleRing_shape (n : Nat) (s : State) :
    (settleRing n s).shape = s.shape := by
  unfold settleRing
  repeat' (first | with_reducible rfl | (intro _) | (rw [foldl_shape]) | (rw [foldl_pair_shape]) |
    (simp only [shape_mk, shape_rules, shape_eta, List.length_map, List.length_zipIdx, modAt_length,
          modRing_shape, evWrite_shape, writeIndex_shape, disownRing_shape]) | split)

theorem waitEnd_shape (w : Wait) (s : State) (st : Status) (b : List Byte) (t : State)
    (h : waitEnd w s = some (st, b, t)) : t.shape = s.shape := by
  unfold waitEnd at h
  repeat' (split at h)
  all_goals (first
    | contradiction
    | (simp only [Option.some.injEq, Prod.mk.injEq] at h
       obtain ⟨-, -, rfl⟩ := h
       first | rfl | simp only [endReset_shape, settleDestroy_shape]))

theorem settleServing_shape (q : Nat) (s : State) :
    (settleServing q s).shape = s.shape := by
  unfold settleServing
  repeat' (first | with_reducible rfl | (intro _) | (rw [foldl_shape]) | (rw [foldl_pair_shape]) |
    (exact waitEnd_shape _ _ _ _ _ ‹_›) |
    (simp only [shape_mk, shape_rules, shape_eta, List.length_map, List.length_zipIdx, modAt_length,
          reply_shape]) | split)

theorem drainLate_shape (q : Nat) (s : State) :
    (drainLate q s).shape = s.shape := by
  unfold drainLate
  repeat' (first | with_reducible rfl | (intro _) | (rw [foldl_shape]) | (rw [foldl_pair_shape]) |
    (simp only [shape_mk, shape_rules, shape_eta, List.length_map, List.length_zipIdx, modAt_length,
          reply_shape]) | split)

theorem settleLate_shape (s : State) :
    (settleLate s).shape = s.shape := by
  unfold settleLate
  repeat' (first | with_reducible rfl | (intro _) | (rw [foldl_shape]) | (rw [foldl_pair_shape]) |
    ((rename_i h; split at h; exact waitEnd_shape _ _ _ _ _ h; contradiction)) |
    (simp only [shape_mk, shape_rules, shape_eta, List.length_map, List.length_zipIdx, modAt_length,
          evWrite_shape]) | split)

theorem settleKek_shape (i : Nat) (s : State) :
    (settleKek i s).shape = s.shape := by
  unfold settleKek
  repeat' (first | with_reducible rfl | (intro _) | (rw [foldl_shape]) | (rw [foldl_pair_shape]) |
    (simp only [shape_mk, shape_rules, shape_eta, List.length_map, List.length_zipIdx, modAt_length,
          modInst_shape]) | split)

theorem endTxn_shape (code : Nat) (byItself : Bool) (s : State) :
    (endTxn code byItself s).shape = s.shape := by
  unfold endTxn
  repeat' (first | with_reducible rfl | (intro _) | (rw [foldl_shape]) | (rw [foldl_pair_shape]) |
    (simp only [shape_mk, shape_rules, shape_eta, List.length_map, List.length_zipIdx, modAt_length,
          evWrite_shape]) | split)

theorem dbFlag_shape (page ring : Nat) (f : DbStatus → DbStatus) (s : State) :
    (dbFlag page ring f s).shape = s.shape := by
  unfold dbFlag
  repeat' (first | with_reducible rfl | (intro _) | (rw [foldl_shape]) | (rw [foldl_pair_shape]) |
    (simp only [shape_mk, shape_rules, shape_eta, List.length_map, List.length_zipIdx, modAt_length,
          modInst_shape]) | split)

theorem drainRing_shape (n : Nat) (st : RingState) (s : State) :
    (drainRing n st s).shape = s.shape := by
  unfold drainRing
  repeat' (first | with_reducible rfl | (intro _) | (rw [foldl_shape]) | (rw [foldl_pair_shape]) |
    (simp only [shape_mk, shape_rules, shape_eta, List.length_map, List.length_zipIdx, modAt_length,
          modRing_shape, releaseAll_shape, orphanErrorRecord_shape, tryPost_shape, quietRing_shape,
          dbFlag_shape]) | split)

theorem takeWrap_shape (i n : Nat) (s : State) :
    (takeWrap i n s).shape = s.shape := by
  unfold takeWrap
  repeat' (first | with_reducible rfl | (intro _) | (rw [foldl_shape]) | (rw [foldl_pair_shape]) |
    (simp only [shape_mk, shape_rules, shape_eta, List.length_map, List.length_zipIdx, modAt_length,
          modInst_shape, evWrite_shape]) | split)

theorem applyCounter_shape (i n en ev : Nat) (f : Word) (s : State) :
    (applyCounter i n en ev f s).shape = s.shape := by
  unfold applyCounter
  repeat' (first | with_reducible rfl | (intro _) | (rw [foldl_shape]) | (rw [foldl_pair_shape]) |
    (simp only [shape_mk, shape_rules, shape_eta, List.length_map, List.length_zipIdx, modAt_length,
          modInst_shape, takeWrap_shape]) | split)

theorem setQuanta_shape (s : State) :
    (setQuanta s).shape = s.shape := by
  unfold setQuanta
  repeat' (first | with_reducible rfl | (intro _) | (rw [foldl_shape]) | (rw [foldl_pair_shape]) |
    (simp only [shape_mk, shape_rules, shape_eta, List.length_map, List.length_zipIdx, modAt_length]) | split)

theorem applyShare_shape (i w q h : Nat) (s : State) :
    (applyShare i w q h s).shape = s.shape := by
  unfold applyShare
  repeat' (first | with_reducible rfl | (intro _) | (rw [foldl_shape]) | (rw [foldl_pair_shape]) |
    (simp only [shape_mk, shape_rules, shape_eta, List.length_map, List.length_zipIdx, modAt_length,
          modInst_shape]) | split)

theorem clampShares_shape (s : State) :
    (clampShares s).shape = s.shape := by
  unfold clampShares
  repeat' (first | with_reducible rfl | (intro _) | (rw [foldl_shape]) | (rw [foldl_pair_shape]) |
    (simp only [shape_mk, shape_rules, shape_eta, List.length_map, List.length_zipIdx, modAt_length]) | split)

theorem abandonQuiesce_shape (i : Nat) (s : State) :
    (abandonQuiesce i s).shape = s.shape := by
  unfold abandonQuiesce
  repeat' (first | with_reducible rfl | (intro _) | (rw [foldl_shape]) | (rw [foldl_pair_shape]) |
    (simp only [shape_mk, shape_rules, shape_eta, List.length_map, List.length_zipIdx, modAt_length]) | split)

theorem applyStaged_shape (c : Staged) (s : State) :
    (applyStaged c s).shape = s.shape := by
  unfold applyStaged
  repeat' (first | with_reducible rfl | (intro _) | (rw [foldl_shape]) | (rw [foldl_pair_shape]) |
    (simp only [shape_mk, shape_rules, shape_eta, List.length_map, List.length_zipIdx, modAt_length,
          modInst_shape, dropPacketRead_shape, coldPage_shape, generationStep_shape, settleDestroy_shape,
          settleRing_shape, drainRing_shape, applyCounter_shape, applyShare_shape, abandonQuiesce_shape]) | split)

theorem applyInOrder_shape (l : List Staged) (s : State) : (applyInOrder l s).shape = s.shape := by
  induction l generalizing s with
  | nil => rfl
  | cons c t ih =>
    unfold applyInOrder
    repeat' (first | with_reducible rfl | (simp only [ih, applyStaged_shape, shape_mk, shape_rules, shape_eta]) | split)

theorem applyLater_shape (s : State) :
    (applyLater s).shape = s.shape := by
  unfold applyLater
  repeat' (first | with_reducible rfl | (intro _) | (rw [foldl_shape]) | (rw [foldl_pair_shape]) |
    (simp only [shape_mk, shape_rules, shape_eta, List.length_map, List.length_zipIdx, modAt_length,
          applyInOrder_shape]) | split)

theorem stagedView_shape (l : List Staged) (s : State) :
    (stagedView l s).shape = s.shape := by
  unfold stagedView
  repeat' (first | with_reducible rfl | (intro _) | (rw [foldl_shape]) | (rw [foldl_pair_shape]) |
    (simp only [shape_mk, shape_rules, shape_eta, List.length_map, List.length_zipIdx, modAt_length,
          applyStaged_shape]) | split)

theorem stageOrRun_shape (q : Nat) (p : List Byte) (now : Nat → State → State) (s : State) (hnow : ∀ a s, (now a s).shape = s.shape) :
    (stageOrRun q p now s).shape = s.shape := by
  unfold stageOrRun
  repeat' (first | with_reducible rfl | (intro _) | (rw [foldl_shape]) | (rw [foldl_pair_shape]) |
    (simp only [shape_mk, shape_rules, shape_eta, List.length_map, List.length_zipIdx, modAt_length,
          reply_shape, stagedView_shape, hnow]) | split)

theorem settle_shape (s : State) :
    (settle s).shape = s.shape := by
  unfold settle
  repeat' (first | with_reducible rfl | (intro _) | (rw [foldl_shape]) | (rw [foldl_pair_shape]) |
    (simp only [shape_mk, shape_rules, shape_eta, List.length_map, List.length_zipIdx, modAt_length,
          studyFetch_shape, settleDestroy_shape, settleQuiesce_shape, settleRing_shape, settleServing_shape,
          settleLate_shape, settleKek_shape, applyLater_shape]) | split)

theorem undoAttach_shape (w : Wait) (s : State) :
    (undoAttach w s).shape = s.shape := by
  unfold undoAttach
  repeat' (first | with_reducible rfl | (intro _) | (rw [foldl_shape]) | (rw [foldl_pair_shape]) |
    (simp only [shape_mk, shape_rules, shape_eta, List.length_map, List.length_zipIdx, modAt_length,
          dropReads_shape]) | split)

theorem answerTaken_shape (st : Status) (keep : Nat → List Byte → Wait → Bool) (s : State) :
    (answerTaken st keep s).shape = s.shape := by
  unfold answerTaken
  repeat' (first | with_reducible rfl | (intro _) | (rw [foldl_shape]) | (rw [foldl_pair_shape]) |
    (simp only [shape_mk, shape_rules, shape_eta, List.length_map, List.length_zipIdx, modAt_length,
          keyinDone_shape, reply_shape, takeArrivedPacket_shape, undoAttach_shape]) | split)

end Sys2Proof.Machine
end

