-- ==== Sys2Proof/Laws/ShapeB.lean ====
section
/-!
SUPPORT. What no command changes: Larder, Flags, Alarm, Bundle, Staging, Bringup, Lifecycle, Parts.
-/

set_option linter.unusedSimpArgs false
set_option linter.unusedTactic false
set_option linter.unreachableTactic false

namespace Sys2Proof.Machine

theorem modNode_shape (level n : Nat) (f : Node → Node) (s : State) :
    (modNode level n f s).shape = s.shape := by
  unfold modNode
  repeat' (first | with_reducible rfl | (intro _) | (rw [foldl_shape]) | (rw [foldl_pair_shape]) |
    (simp only [shape_mk, shape_rules, shape_eta, List.length_map, List.length_zipIdx, modAt_length]) | split)

theorem markDirty_shape (s : State) :
    (markDirty s).shape = s.shape := by
  unfold markDirty
  repeat' (first | with_reducible rfl | (intro _) | (rw [foldl_shape]) | (rw [foldl_pair_shape]) |
    (simp only [shape_mk, shape_rules, shape_eta, List.length_map, List.length_zipIdx, modAt_length]) | split)

theorem countIntegrity_shape (index : Nat) (s : State) :
    (countIntegrity index s).shape = s.shape := by
  unfold countIntegrity
  repeat' (first | with_reducible rfl | (intro _) | (rw [foldl_shape]) | (rw [foldl_pair_shape]) |
    (simp only [shape_mk, shape_rules, shape_eta, List.length_map, List.length_zipIdx, modAt_length]) | split)

theorem holdRoot_shape (old : Ctrs) (s : State) :
    (holdRoot old s).shape = s.shape := by
  unfold holdRoot
  repeat' (first | with_reducible rfl | (intro _) | (rw [foldl_shape]) | (rw [foldl_pair_shape]) |
    (simp only [shape_mk, shape_rules, shape_eta, List.length_map, List.length_zipIdx, modAt_length]) | split)

theorem dropChildReads_shape (level n : Nat) (s : State) :
    (dropChildReads level n s).shape = s.shape := by
  unfold dropChildReads
  repeat' (first | with_reducible rfl | (intro _) | (rw [foldl_shape]) | (rw [foldl_pair_shape]) |
    (simp only [shape_mk, shape_rules, shape_eta, List.length_map, List.length_zipIdx, modAt_length,
          mapFetches_shape, dropReads_shape]) | split)

theorem raiseAt_shape (level n c : Nat) (s : State) :
    (raiseAt level n c s).2.shape = s.shape := by
  unfold raiseAt
  repeat' (first | with_reducible rfl | (intro _) | (rw [foldl_shape]) | (rw [foldl_pair_shape]) |
    (simp only [shape_mk, shape_rules, shape_eta, List.length_map, List.length_zipIdx, modAt_length,
          modNode_shape, markDirty_shape, holdRoot_shape, dropChildReads_shape]) | split)

theorem writeNode_shape (o : Owner) (x : Node) (s : State) :
    (writeNode o x s).shape = s.shape := by
  unfold writeNode
  repeat' (first | with_reducible rfl | (intro _) | (rw [foldl_shape]) | (rw [foldl_pair_shape]) |
    (simp only [shape_mk, shape_rules, shape_eta, List.length_map, List.length_zipIdx, modAt_length,
          writeReq_shape, modNode_shape, raiseAt_shape]) | split)

theorem dropNode_shape (level n : Nat) (s : State) :
    (dropNode level n s).shape = s.shape := by
  unfold dropNode
  repeat' (first | with_reducible rfl | (intro _) | (rw [foldl_shape]) | (rw [foldl_pair_shape]) |
    (simp only [shape_mk, shape_rules, shape_eta, List.length_map, List.length_zipIdx, modAt_length]) | split)

theorem nodeRoom_shape (level n : Nat) (s t : State) (h : nodeRoom level n s = some t) : t.shape = s.shape := by
  unfold nodeRoom at h
  repeat' (split at h)
  all_goals (first
    | contradiction
    | (simp only [Option.some.injEq] at h
       subst h
       first | rfl | simp only [dropNode_shape]))

theorem cacheNode_shape (level n : Nat) (c : Ctrs) (s : State) :
    (cacheNode level n c s).shape = s.shape := by
  unfold cacheNode
  repeat' (first | with_reducible rfl | (intro _) | (rw [foldl_shape]) | (rw [foldl_pair_shape]) |
    (exact nodeRoom_shape _ _ _ _ ‹_›) |
    (simp only [shape_mk, shape_rules, shape_eta, List.length_map, List.length_zipIdx, modAt_length]) | split)

theorem askNode_shape (level n : Nat) (s : State) :
    (askNode level n s).shape = s.shape := by
  unfold askNode
  repeat' (first | with_reducible rfl | (intro _) | (rw [foldl_shape]) | (rw [foldl_pair_shape]) |
    (simp only [shape_mk, shape_rules, shape_eta, List.length_map, List.length_zipIdx, modAt_length,
          readReq_shape]) | split)

theorem ensurePath_shape (i k : Nat) (s : State) : (ensurePath i k s).2.shape = s.shape := by
  induction k generalizing s with
  | zero => rfl
  | succ k ih =>
    unfold ensurePath
    repeat' (first | with_reducible rfl | (simp only [ih, modNode_shape, cacheNode_shape, askNode_shape]) | split)

theorem readPath_shape (i k : Nat) (s : State) : (readPath i k s).2.shape = s.shape := by
  induction k generalizing s with
  | zero => rfl
  | succ k ih =>
    unfold readPath
    repeat' (first | with_reducible rfl | (simp only [ih, shape_mk, shape_rules, shape_eta, eccRead_shape, ensurePath_shape,
      dropNode_shape]) | split)

theorem path_shape (i : Nat) (s : State) :
    (path i s).2.shape = s.shape := by
  unfold path
  repeat' (first | with_reducible rfl | (intro _) | (rw [foldl_shape]) | (rw [foldl_pair_shape]) |
    (simp only [shape_mk, shape_rules, shape_eta, List.length_map, List.length_zipIdx, modAt_length,
          ensurePath_shape, readPath_shape]) | split)

theorem askParents_shape (s : State) :
    (askParents s).shape = s.shape := by
  unfold askParents
  repeat' (first | with_reducible rfl | (intro _) | (rw [foldl_shape]) | (rw [foldl_pair_shape]) |
    (simp only [shape_mk, shape_rules, shape_eta, List.length_map, List.length_zipIdx, modAt_length,
          askNode_shape]) | split)

theorem modCtx_shape (index : Nat) (f : Slot → Slot) (s : State) :
    (modCtx index f s).shape = s.shape := by
  unfold modCtx
  repeat' (first | with_reducible rfl | (intro _) | (rw [foldl_shape]) | (rw [foldl_pair_shape]) |
    (simp only [shape_mk, shape_rules, shape_eta, List.length_map, List.length_zipIdx, modAt_length,
          mapSlots_shape]) | split)

theorem freeIndex_shape (index : Nat) (s : State) :
    (freeIndex index s).shape = s.shape := by
  unfold freeIndex
  repeat' (first | with_reducible rfl | (intro _) | (rw [foldl_shape]) | (rw [foldl_pair_shape]) |
    (simp only [shape_mk, shape_rules, shape_eta, List.length_map, List.length_zipIdx, modAt_length,
          keepSlots_shape]) | split)

theorem modFetch_shape (index : Nat) (f : Fetch → Fetch) (s : State) :
    (modFetch index f s).shape = s.shape := by
  unfold modFetch
  repeat' (first | with_reducible rfl | (intro _) | (rw [foldl_shape]) | (rw [foldl_pair_shape]) |
    (simp only [shape_mk, shape_rules, shape_eta, List.length_map, List.length_zipIdx, modAt_length,
          mapFetches_shape]) | split)

theorem dropFetch_shape (index : Nat) (s : State) :
    (dropFetch index s).shape = s.shape := by
  unfold dropFetch
  repeat' (first | with_reducible rfl | (intro _) | (rw [foldl_shape]) | (rw [foldl_pair_shape]) |
    (simp only [shape_mk, shape_rules, shape_eta, List.length_map, List.length_zipIdx, modAt_length]) | split)

theorem failFetch_shape (index : Nat) (st : Status) (s : State) :
    (failFetch index st s).shape = s.shape := by
  unfold failFetch
  repeat' (first | with_reducible rfl | (intro _) | (rw [foldl_shape]) | (rw [foldl_pair_shape]) |
    (simp only [shape_mk, shape_rules, shape_eta, List.length_map, List.length_zipIdx, modAt_length,
          dropReads_shape, failUndispatched_shape, wakeIndex_shape, countIntegrity_shape, dropFetch_shape]) | split)

theorem installSlot_shape (x : Slot) (map : BitVec 1024) (s : State) :
    (installSlot x map s).shape = s.shape := by
  unfold installSlot
  repeat' (first | with_reducible rfl | (intro _) | (rw [foldl_shape]) | (rw [foldl_pair_shape]) |
    (simp only [shape_mk, shape_rules, shape_eta, List.length_map, List.length_zipIdx, modAt_length]) | split)

theorem writeVictim_shape (x : Slot) (s : State) :
    (writeVictim x s).shape = s.shape := by
  unfold writeVictim
  repeat' (first | with_reducible rfl | (intro _) | (rw [foldl_shape]) | (rw [foldl_pair_shape]) |
    (simp only [shape_mk, shape_rules, shape_eta, List.length_map, List.length_zipIdx, modAt_length,
          writeReq_shape, raiseAt_shape, modCtx_shape]) | split)

theorem slotLost_shape (index : Nat) (s : State) :
    (slotLost index s).shape = s.shape := by
  unfold slotLost
  repeat' (first | with_reducible rfl | (intro _) | (rw [foldl_shape]) | (rw [foldl_pair_shape]) |
    (simp only [shape_mk, shape_rules, shape_eta, List.length_map, List.length_zipIdx, modAt_length,
          markDirty_shape, modCtx_shape]) | split)

theorem readSlotWord_shape (index : Nat) (k : State → State) (s : State) (hk : ∀  s, (k  s).shape = s.shape) :
    (readSlotWord index k s).shape = s.shape := by
  unfold readSlotWord
  repeat' (first | with_reducible rfl | (intro _) | (rw [foldl_shape]) | (rw [foldl_pair_shape]) |
    (simp only [shape_mk, shape_rules, shape_eta, List.length_map, List.length_zipIdx, modAt_length,
          eccRead_shape, slotLost_shape, hk]) | split)

theorem placeFetch_shape (index k : Nat) (s : State) : (placeFetch index k s).2.shape = s.shape := by
  induction k generalizing s with
  | zero => rfl
  | succ k ih =>
    unfold placeFetch
    repeat' (first | with_reducible rfl | (rw [readSlotWord_shape _ _ _ (writeVictim_shape _)]) | (simp only [ih, shape_mk, shape_rules, shape_eta, modFetch_shape, dropFetch_shape,
      installSlot_shape, keepSlots_shape, writeVictim_shape, path_shape]) | split)

theorem addMiss_shape (index inst : Nat) (probe : Option Nat) (s : State) :
    (addMiss index inst probe s).shape = s.shape := by
  unfold addMiss
  repeat' (first | with_reducible rfl | (intro _) | (rw [foldl_shape]) | (rw [foldl_pair_shape]) |
    (simp only [shape_mk, shape_rules, shape_eta, List.length_map, List.length_zipIdx, modAt_length]) | split)

theorem askBlob_shape (f : Fetch) (s : State) :
    (askBlob f s).shape = s.shape := by
  unfold askBlob
  repeat' (first | with_reducible rfl | (intro _) | (rw [foldl_shape]) | (rw [foldl_pair_shape]) |
    (simp only [shape_mk, shape_rules, shape_eta, List.length_map, List.length_zipIdx, modAt_length,
          readReq_shape]) | split)

theorem advanceFetch_shape (f : Fetch) (s : State) :
    (advanceFetch f s).2.shape = s.shape := by
  unfold advanceFetch
  repeat' (first | with_reducible rfl | (intro _) | (rw [foldl_shape]) | (rw [foldl_pair_shape]) |
    (simp only [shape_mk, shape_rules, shape_eta, List.length_map, List.length_zipIdx, modAt_length, path_shape,
          askBlob_shape]) | split)

theorem progressTomb_shape (index : Nat) (s : State) :
    (progressTomb index s).shape = s.shape := by
  unfold progressTomb
  repeat' (first | with_reducible rfl | (intro _) | (rw [foldl_shape]) | (rw [foldl_pair_shape]) |
    (simp only [shape_mk, shape_rules, shape_eta, List.length_map, List.length_zipIdx, modAt_length,
          writeReq_shape, raiseAt_shape, path_shape, modCtx_shape]) | split)

theorem endRetire_shape (x : Slot) (st : Status) (s : State) :
    (endRetire x st s).shape = s.shape := by
  unfold endRetire
  repeat' (first | with_reducible rfl | (intro _) | (rw [foldl_shape]) | (rw [foldl_pair_shape]) |
    (simp only [shape_mk, shape_rules, shape_eta, List.length_map, List.length_zipIdx, modAt_length,
          endOp_shape]) | split)

theorem zeroiseRetired_shape (x : Slot) (s : State) :
    (zeroiseRetired x s).shape = s.shape := by
  unfold zeroiseRetired
  repeat' (first | with_reducible rfl | (intro _) | (rw [foldl_shape]) | (rw [foldl_pair_shape]) |
    (simp only [shape_mk, shape_rules, shape_eta, List.length_map, List.length_zipIdx, modAt_length,
          keepSlots_shape, wakeIndex_shape, modCtx_shape, freeIndex_shape, progressTomb_shape,
          endRetire_shape]) | split)

theorem endFlush_shape (ok : Bool) (s : State) :
    (endFlush ok s).shape = s.shape := by
  unfold endFlush
  repeat' (first | with_reducible rfl | (intro _) | (rw [foldl_shape]) | (rw [foldl_pair_shape]) |
    (simp only [shape_mk, shape_rules, shape_eta, List.length_map, List.length_zipIdx, modAt_length]) | split)

theorem flushSlot_shape (x : Slot) (s : State) :
    (flushSlot x s).shape = s.shape := by
  unfold flushSlot
  repeat' (first | with_reducible rfl | (intro _) | (rw [foldl_shape]) | (rw [foldl_pair_shape]) |
    (simp only [shape_mk, shape_rules, shape_eta, List.length_map, List.length_zipIdx, modAt_length,
          writeReq_shape, raiseAt_shape, modCtx_shape]) | split)

theorem flushLevel_shape (k : Nat) (s : State) :
    (flushLevel k s).shape = s.shape := by
  unfold flushLevel
  repeat' (first | with_reducible rfl | (intro _) | (rw [foldl_shape]) | (rw [foldl_pair_shape]) |
    (simp only [shape_mk, shape_rules, shape_eta, List.length_map, List.length_zipIdx, modAt_length,
          modNode_shape, writeNode_shape]) | split)

theorem flushStep_shape (s : State) :
    (flushStep s).shape = s.shape := by
  unfold flushStep
  repeat' (first | with_reducible rfl | (intro _) | (rw [foldl_shape]) | (rw [foldl_pair_shape]) |
    (rw [readSlotWord_shape]) |
    (simp only [shape_mk, shape_rules, shape_eta, List.length_map, List.length_zipIdx, modAt_length, path_shape,
          askParents_shape, readSlotWord_shape, progressTomb_shape, zeroiseRetired_shape, endFlush_shape,
          flushSlot_shape, flushLevel_shape]) | split)

theorem startFlush_shape (w : FlushFor) (s : State) :
    (startFlush w s).shape = s.shape := by
  unfold startFlush
  repeat' (first | with_reducible rfl | (intro _) | (rw [foldl_shape]) | (rw [foldl_pair_shape]) |
    (simp only [shape_mk, shape_rules, shape_eta, List.length_map, List.length_zipIdx, modAt_length,
          flushStep_shape]) | split)

theorem attachEnd_shape (ok : Bool) (s : State) :
    (attachEnd ok s).shape = s.shape := by
  unfold attachEnd
  repeat' (first | with_reducible rfl | (intro _) | (rw [foldl_shape]) | (rw [foldl_pair_shape]) |
    (simp only [shape_mk, shape_rules, shape_eta, List.length_map, List.length_zipIdx, modAt_length,
          dropReads_shape, reply_shape]) | split)

theorem makeStale_shape (s : State) :
    (makeStale s).shape = s.shape := by
  unfold makeStale
  repeat' (first | with_reducible rfl | (intro _) | (rw [foldl_shape]) | (rw [foldl_pair_shape]) |
    (simp only [shape_mk, shape_rules, shape_eta, List.length_map, List.length_zipIdx, modAt_length,
          dropReads_shape, failUndispatched_shape, freeIndex_shape, endRetire_shape, attachEnd_shape]) | split)

theorem clearPantry_shape (s : State) :
    (clearPantry s).shape = s.shape := by
  unfold clearPantry
  repeat' (first | with_reducible rfl | (intro _) | (rw [foldl_shape]) | (rw [foldl_pair_shape]) |
    (simp only [shape_mk, shape_rules, shape_eta, List.length_map, List.length_zipIdx, modAt_length]) | split)

theorem flushFabricError_shape (s : State) :
    (flushFabricError s).shape = s.shape := by
  unfold flushFabricError
  repeat' (first | with_reducible rfl | (intro _) | (rw [foldl_shape]) | (rw [foldl_pair_shape]) |
    (simp only [shape_mk, shape_rules, shape_eta, List.length_map, List.length_zipIdx, modAt_length,
          endFlush_shape]) | split)

theorem slotWritten_shape (index : Nat) (s : State) :
    (slotWritten index s).shape = s.shape := by
  unfold slotWritten
  repeat' (first | with_reducible rfl | (intro _) | (rw [foldl_shape]) | (rw [foldl_pair_shape]) |
    (simp only [shape_mk, shape_rules, shape_eta, List.length_map, List.length_zipIdx, modAt_length,
          zeroiseRetired_shape]) | split)

theorem flushWritten_shape (o : Owner) (ok : Bool) (s : State) :
    (flushWritten o ok s).shape = s.shape := by
  unfold flushWritten
  repeat' (first | with_reducible rfl | (intro _) | (rw [foldl_shape]) | (rw [foldl_pair_shape]) |
    (simp only [shape_mk, shape_rules, shape_eta, List.length_map, List.length_zipIdx, modAt_length,
          wakeIndex_shape, modNode_shape, modCtx_shape, flushSlot_shape, slotWritten_shape]) | split)

theorem attachStep_shape (s : State) :
    (attachStep s).shape = s.shape := by
  unfold attachStep
  repeat' (first | with_reducible rfl | (intro _) | (rw [foldl_shape]) | (rw [foldl_pair_shape]) |
    (simp only [shape_mk, shape_rules, shape_eta, List.length_map, List.length_zipIdx, modAt_length,
          askNode_shape, attachEnd_shape]) | split)

theorem nodeFailed_shape (level n : Nat) (s : State) :
    (nodeFailed level n s).shape = s.shape := by
  unfold nodeFailed
  repeat' (first | with_reducible rfl | (intro _) | (rw [foldl_shape]) | (rw [foldl_pair_shape]) |
    (simp only [shape_mk, shape_rules, shape_eta, List.length_map, List.length_zipIdx, modAt_length,
          mapFetches_shape, countIntegrity_shape, modCtx_shape, failFetch_shape, endRetire_shape,
          endFlush_shape]) | split)

theorem holdRegs_shape (s : State) :
    (holdRegs s).shape = s.shape := by
  unfold holdRegs
  repeat' (first | with_reducible rfl | (intro _) | (rw [foldl_shape]) | (rw [foldl_pair_shape]) |
    (simp only [shape_mk, shape_rules, shape_eta, List.length_map, List.length_zipIdx, modAt_length]) | split)

theorem lowerCmdRdy_shape (s : State) :
    (lowerCmdRdy s).shape = s.shape := by
  unfold lowerCmdRdy
  repeat' (first | with_reducible rfl | (intro _) | (rw [foldl_shape]) | (rw [foldl_pair_shape]) |
    (simp only [shape_mk, shape_rules, shape_eta, List.length_map, List.length_zipIdx, modAt_length,
          dropPacketRead_shape, holdRegs_shape]) | split)

theorem raiseCmdRdy_shape (s : State) :
    (raiseCmdRdy s).shape = s.shape := by
  unfold raiseCmdRdy
  repeat' (first | with_reducible rfl | (intro _) | (rw [foldl_shape]) | (rw [foldl_pair_shape]) |
    (simp only [shape_mk, shape_rules, shape_eta, List.length_map, List.length_zipIdx, modAt_length]) | split)

theorem answerWrite_shape (addr : Nat) (s : State) :
    (answerWrite addr s).shape = s.shape := by
  unfold answerWrite
  repeat' (first | with_reducible rfl | (intro _) | (rw [foldl_shape]) | (rw [foldl_pair_shape]) |
    (simp only [shape_mk, shape_rules, shape_eta, List.length_map, List.length_zipIdx, modAt_length]) | split)

theorem modLink_shape (down : Bool) (f : Link → Link) (s : State) :
    (modLink down f s).shape = s.shape := by
  unfold modLink
  repeat' (first | with_reducible rfl | (intro _) | (rw [foldl_shape]) | (rw [foldl_pair_shape]) |
    (simp only [shape_mk, shape_rules, shape_eta, List.length_map, List.length_zipIdx, modAt_length]) | split)

theorem helloOut_shape (s : State) :
    (helloOut s).2.shape = s.shape := by
  unfold helloOut
  repeat' (first | with_reducible rfl | (intro _) | (rw [foldl_shape]) | (rw [foldl_pair_shape]) |
    (simp only [shape_mk, shape_rules, shape_eta, List.length_map, List.length_zipIdx, modAt_length,
          generate_shape]) | split)

theorem sendHello_shape (down : Bool) (s : State) :
    (sendHello down s).shape = s.shape := by
  unfold sendHello
  repeat' (first | with_reducible rfl | (intro _) | (rw [foldl_shape]) | (rw [foldl_pair_shape]) |
    (simp only [shape_mk, shape_rules, shape_eta, List.length_map, List.length_zipIdx, modAt_length,
          modLink_shape, helloOut_shape]) | split)

theorem sendHellos_shape (s : State) :
    (sendHellos s).shape = s.shape := by
  unfold sendHellos
  repeat' (first | with_reducible rfl | (intro _) | (rw [foldl_shape]) | (rw [foldl_pair_shape]) |
    (simp only [shape_mk, shape_rules, shape_eta, List.length_map, List.length_zipIdx, modAt_length,
          sendHello_shape]) | split)

theorem sendBoth_shape (ver : BitVec 16) (m : StairMsg) (s : State) :
    (sendBoth ver m s).shape = s.shape := by
  unfold sendBoth
  repeat' (first | with_reducible rfl | (intro _) | (rw [foldl_shape]) | (rw [foldl_pair_shape]) |
    (simp only [shape_mk, shape_rules, shape_eta, List.length_map, List.length_zipIdx, modAt_length,
          modLink_shape]) | split)

theorem zeroiseCellar_shape (s : State) :
    (zeroiseCellar s).shape = s.shape := by
  unfold zeroiseCellar
  repeat' (first | with_reducible rfl | (intro _) | (rw [foldl_shape]) | (rw [foldl_pair_shape]) |
    (simp only [shape_mk, shape_rules, shape_eta, List.length_map, List.length_zipIdx, modAt_length]) | split)

theorem newRoot_shape (s : State) :
    (newRoot s).shape = s.shape := by
  unfold newRoot
  repeat' (first | with_reducible rfl | (intro _) | (rw [foldl_shape]) | (rw [foldl_pair_shape]) |
    (simp only [shape_mk, shape_rules, shape_eta, List.length_map, List.length_zipIdx, modAt_length,
          generate_shape]) | split)

theorem seedDrbgs_shape (s : State) :
    (seedDrbgs s).shape = s.shape := by
  unfold seedDrbgs
  repeat' (first | with_reducible rfl | (intro _) | (rw [foldl_shape]) | (rw [foldl_pair_shape]) |
    (simp only [shape_mk, shape_rules, shape_eta, List.length_map, List.length_zipIdx, modAt_length,
          seedDrbg_shape]) | split)

theorem newDummyKey_shape (n : Nat) (s : State) :
    (newDummyKey n s).shape = s.shape := by
  unfold newDummyKey
  repeat' (first | with_reducible rfl | (intro _) | (rw [foldl_shape]) | (rw [foldl_pair_shape]) |
    (simp only [shape_mk, shape_rules, shape_eta, List.length_map, List.length_zipIdx, modAt_length,
          generate_shape]) | split)

theorem newDrbgs_shape (s : State) :
    (newDrbgs s).shape = s.shape := by
  unfold newDrbgs
  repeat' (first | with_reducible rfl | (intro _) | (rw [foldl_shape]) | (rw [foldl_pair_shape]) |
    (simp only [shape_mk, shape_rules, shape_eta, List.length_map, List.length_zipIdx, modAt_length,
          seedDrbgs_shape, newDummyKey_shape]) | split)

theorem clearKeys_shape (s : State) :
    (clearKeys s).shape = s.shape := by
  unfold clearKeys
  repeat' (first | with_reducible rfl | (intro _) | (rw [foldl_shape]) | (rw [foldl_pair_shape]) |
    (simp only [shape_mk, shape_rules, shape_eta, List.length_map, List.length_zipIdx, modAt_length]) | split)

theorem dropEnvelope_shape (s : State) :
    (dropEnvelope s).shape = s.shape := by
  unfold dropEnvelope
  repeat' (first | with_reducible rfl | (intro _) | (rw [foldl_shape]) | (rw [foldl_pair_shape]) |
    (simp only [shape_mk, shape_rules, shape_eta, List.length_map, List.length_zipIdx, modAt_length,
          reply_shape, takeArrivedPacket_shape]) | split)

theorem zeroise_shape (s : State) :
    (zeroise s).shape = s.shape := by
  unfold zeroise
  repeat' (first | with_reducible rfl | (intro _) | (rw [foldl_shape]) | (rw [foldl_pair_shape]) |
    (simp only [shape_mk, shape_rules, shape_eta, List.length_map, List.length_zipIdx, modAt_length,
          dropWrites_shape, makeStale_shape, zeroiseCellar_shape, newDrbgs_shape, clearKeys_shape,
          dropEnvelope_shape]) | split)

theorem lockOp_shape (o : Op) (s : State) :
    (lockOp o s).shape = s.shape := by
  unfold lockOp
  repeat' (first | with_reducible rfl | (intro _) | (rw [foldl_shape]) | (rw [foldl_pair_shape]) |
    (simp only [shape_mk, shape_rules, shape_eta, List.length_map, List.length_zipIdx, modAt_length,
          modOp_shape, mapEngines_shape, mapSlots_shape, dropReads_shape, dropOutput_shape, endOp_shape,
          failUndispatched_shape]) | split)

theorem seedChanged_shape (i : Nat) (s : State) :
    (seedChanged i s).shape = s.shape := by
  unfold seedChanged
  repeat' (first | with_reducible rfl | (intro _) | (rw [foldl_shape]) | (rw [foldl_pair_shape]) |
    (simp only [shape_mk, shape_rules, shape_eta, List.length_map, List.length_zipIdx, modAt_length,
          releaseOp_shape, tryPost_shape, wakeIndex_shape, dropDoorWork_shape, retireResident_shape]) | split)

theorem applyKek_shape (s : State) :
    (applyKek s).shape = s.shape := by
  unfold applyKek
  repeat' (first | with_reducible rfl | (intro _) | (rw [foldl_shape]) | (rw [foldl_pair_shape]) |
    (simp only [shape_mk, shape_rules, shape_eta, List.length_map, List.length_zipIdx, modAt_length,
          modInst_shape, seedChanged_shape]) | split)

theorem answerKek_shape (s : State) :
    (answerKek s).shape = s.shape := by
  unfold answerKek
  repeat' (first | with_reducible rfl | (intro _) | (rw [foldl_shape]) | (rw [foldl_pair_shape]) |
    (simp only [shape_mk, shape_rules, shape_eta, List.length_map, List.length_zipIdx, modAt_length,
          reply_shape]) | split)

theorem undoDrain_shape (s : State) (w : Wait) :
    (undoDrain s w).shape = s.shape := by
  unfold undoDrain
  repeat' (first | with_reducible rfl | (intro _) | (rw [foldl_shape]) | (rw [foldl_pair_shape]) |
    (simp only [shape_mk, shape_rules, shape_eta, List.length_map, List.length_zipIdx, modAt_length,
          modInst_shape, modRing_shape]) | split)

theorem undoDrains_shape (s : State) :
    (undoDrains s).shape = s.shape := by
  unfold undoDrains
  repeat' (first | with_reducible rfl | (intro _) | (rw [foldl_shape]) | (rw [foldl_pair_shape]) |
    (simp only [shape_mk, shape_rules, shape_eta, List.length_map, List.length_zipIdx, modAt_length,
          undoDrain_shape]) | split)

theorem dropImages_shape (s : State) :
    (dropImages s).shape = s.shape := by
  unfold dropImages
  repeat' (first | with_reducible rfl | (intro _) | (rw [foldl_shape]) | (rw [foldl_pair_shape]) |
    (simp only [shape_mk, shape_rules, shape_eta, List.length_map, List.length_zipIdx, modAt_length,
          dropReads_shape, disownWrites_shape]) | split)

theorem dropStage_shape (st : Status) (s : State) :
    (dropStage st s).shape = s.shape := by
  unfold dropStage
  repeat' (first | with_reducible rfl | (intro _) | (rw [foldl_shape]) | (rw [foldl_pair_shape]) |
    (simp only [shape_mk, shape_rules, shape_eta, List.length_map, List.length_zipIdx, modAt_length,
          modLink_shape, dropImages_shape]) | split)

theorem startLock_shape (s : State) :
    (startLock s).shape = s.shape := by
  unfold startLock
  repeat' (first | with_reducible rfl | (intro _) | (rw [foldl_shape]) | (rw [foldl_pair_shape]) |
    (simp only [shape_mk, shape_rules, shape_eta, List.length_map, List.length_zipIdx, modAt_length,
          dropReads_shape, endTxn_shape, answerTaken_shape, dropEnvelope_shape, lockOp_shape,
          applyKek_shape, answerKek_shape, undoDrains_shape, dropStage_shape]) | split)

theorem endLock_shape (s : State) :
    (endLock s).shape = s.shape := by
  unfold endLock
  repeat' (first | with_reducible rfl | (intro _) | (rw [foldl_shape]) | (rw [foldl_pair_shape]) |
    (simp only [shape_mk, shape_rules, shape_eta, List.length_map, List.length_zipIdx, modAt_length,
          mapEngines_shape, makeStale_shape, clearPantry_shape]) | split)

theorem toClear_shape (s : State) :
    (toClear s).shape = s.shape := by
  unfold toClear
  repeat' (first | with_reducible rfl | (intro _) | (rw [foldl_shape]) | (rw [foldl_pair_shape]) |
    (simp only [shape_mk, shape_rules, shape_eta, List.length_map, List.length_zipIdx, modAt_length]) | split)

theorem wipesEnd_shape (s : State) :
    (wipesEnd s).shape = s.shape := by
  unfold wipesEnd
  repeat' (first | with_reducible rfl | (intro _) | (rw [foldl_shape]) | (rw [foldl_pair_shape]) |
    (simp only [shape_mk, shape_rules, shape_eta, List.length_map, List.length_zipIdx, modAt_length,
          sendHellos_shape, newRoot_shape, endLock_shape]) | split)

theorem lockProgress_shape (s : State) :
    (lockProgress s).shape = s.shape := by
  unfold lockProgress
  repeat' (first | with_reducible rfl | (intro _) | (rw [foldl_shape]) | (rw [foldl_pair_shape]) |
    (simp only [shape_mk, shape_rules, shape_eta, List.length_map, List.length_zipIdx, modAt_length,
          startFlush_shape, toClear_shape]) | split)

theorem lockEventOf_shape (src : Nat) (s : State) :
    (lockEventOf src s).shape = s.shape := by
  unfold lockEventOf
  repeat' (first | with_reducible rfl | (intro _) | (rw [foldl_shape]) | (rw [foldl_pair_shape]) |
    (simp only [shape_mk, shape_rules, shape_eta, List.length_map, List.length_zipIdx, modAt_length]) | split)

theorem sendAlarm_shape (level : Nat) (s : State) :
    (sendAlarm level s).shape = s.shape := by
  unfold sendAlarm
  repeat' (first | with_reducible rfl | (intro _) | (rw [foldl_shape]) | (rw [foldl_pair_shape]) |
    (simp only [shape_mk, shape_rules, shape_eta, List.length_map, List.length_zipIdx, modAt_length,
          sendBoth_shape]) | split)

theorem vbatAlarm_shape (src : Nat) (s : State) :
    (vbatAlarm src s).shape = s.shape := by
  unfold vbatAlarm
  repeat' (first | with_reducible rfl | (intro _) | (rw [foldl_shape]) | (rw [foldl_pair_shape]) |
    (simp only [shape_mk, shape_rules, shape_eta, List.length_map, List.length_zipIdx, modAt_length,
          zeroiseCellar_shape, lockEventOf_shape]) | split)

theorem sleepAlarm_shape (src : Nat) (s : State) :
    (sleepAlarm src s).shape = s.shape := by
  unfold sleepAlarm
  repeat' (first | with_reducible rfl | (intro _) | (rw [foldl_shape]) | (rw [foldl_pair_shape]) |
    (simp only [shape_mk, shape_rules, shape_eta, List.length_map, List.length_zipIdx, modAt_length,
          zeroiseCellar_shape, lockEventOf_shape]) | split)

theorem alarmWake_shape (s : State) :
    (alarmWake s).shape = s.shape := by
  unfold alarmWake
  repeat' (first | with_reducible rfl | (intro _) | (rw [foldl_shape]) | (rw [foldl_pair_shape]) |
    (simp only [shape_mk, shape_rules, shape_eta, List.length_map, List.length_zipIdx, modAt_length,
          wake_shape]) | split)

theorem mainAlarm_shape (src : Nat) (s : State) :
    (mainAlarm src s).shape = s.shape := by
  unfold mainAlarm
  repeat' (first | with_reducible rfl | (intro _) | (rw [foldl_shape]) | (rw [foldl_pair_shape]) |
    (simp only [shape_mk, shape_rules, shape_eta, List.length_map, List.length_zipIdx, modAt_length,
          evWrite_shape, zeroise_shape, startLock_shape, lockEventOf_shape, sendAlarm_shape,
          alarmWake_shape]) | split)

theorem raiseAlarm_shape (src : Nat) (s : State) :
    (raiseAlarm src s).shape = s.shape := by
  unfold raiseAlarm
  repeat' (first | with_reducible rfl | (intro _) | (rw [foldl_shape]) | (rw [foldl_pair_shape]) |
    (simp only [shape_mk, shape_rules, shape_eta, List.length_map, List.length_zipIdx, modAt_length,
          vbatAlarm_shape, sleepAlarm_shape, mainAlarm_shape]) | split)

theorem assertSource_shape (src : Nat) (s : State) :
    (assertSource src s).shape = s.shape := by
  unfold assertSource
  repeat' (first | with_reducible rfl | (intro _) | (rw [foldl_shape]) | (rw [foldl_pair_shape]) |
    (simp only [shape_mk, shape_rules, shape_eta, List.length_map, List.length_zipIdx, modAt_length,
          raiseAlarm_shape]) | split)

theorem quietSource_shape (src : Nat) (s : State) :
    (quietSource src s).shape = s.shape := by
  unfold quietSource
  repeat' (first | with_reducible rfl | (intro _) | (rw [foldl_shape]) | (rw [foldl_pair_shape]) |
    (simp only [shape_mk, shape_rules, shape_eta, List.length_map, List.length_zipIdx, modAt_length]) | split)

theorem checkFaultRate_shape (s : State) :
    (checkFaultRate s).shape = s.shape := by
  unfold checkFaultRate
  repeat' (first | with_reducible rfl | (intro _) | (rw [foldl_shape]) | (rw [foldl_pair_shape]) |
    (simp only [shape_mk, shape_rules, shape_eta, List.length_map, List.length_zipIdx, modAt_length,
          assertSource_shape, quietSource_shape]) | split)

theorem cellarMicro_shape (s : State) :
    (cellarMicro s).shape = s.shape := by
  unfold cellarMicro
  repeat' (first | with_reducible rfl | (intro _) | (rw [foldl_shape]) | (rw [foldl_pair_shape]) |
    (simp only [shape_mk, shape_rules, shape_eta, List.length_map, List.length_zipIdx, modAt_length,
          checkFaultRate_shape]) | split)

theorem faultReport_shape (s : State) :
    (faultReport s).shape = s.shape := by
  unfold faultReport
  repeat' (first | with_reducible rfl | (intro _) | (rw [foldl_shape]) | (rw [foldl_pair_shape]) |
    (simp only [shape_mk, shape_rules, shape_eta, List.length_map, List.length_zipIdx, modAt_length,
          faultTally_shape, checkFaultRate_shape]) | split)

theorem askBlock_shape (addr i : Nat) (s : State) :
    (askBlock addr i s).shape = s.shape := by
  unfold askBlock
  repeat' (first | with_reducible rfl | (intro _) | (rw [foldl_shape]) | (rw [foldl_pair_shape]) |
    (simp only [shape_mk, shape_rules, shape_eta, List.length_map, List.length_zipIdx, modAt_length,
          readReq_shape]) | split)

theorem putBlock_shape (addr i : Nat) (b : List Byte) (s : State) :
    (putBlock addr i b s).shape = s.shape := by
  unfold putBlock
  repeat' (first | with_reducible rfl | (intro _) | (rw [foldl_shape]) | (rw [foldl_pair_shape]) |
    (simp only [shape_mk, shape_rules, shape_eta, List.length_map, List.length_zipIdx, modAt_length,
          writeReq_shape]) | split)

theorem copyFails_shape (st : Status) (d : Nat) (s : State) :
    (copyFails st d s).shape = s.shape := by
  unfold copyFails
  repeat' (first | with_reducible rfl | (intro _) | (rw [foldl_shape]) | (rw [foldl_pair_shape]) |
    (simp only [shape_mk, shape_rules, shape_eta, List.length_map, List.length_zipIdx, modAt_length,
          reply_shape, dropStage_shape]) | split)

theorem copyNext_shape (c : Copy) (s : State) :
    (copyNext c s).shape = s.shape := by
  unfold copyNext
  repeat' (first | with_reducible rfl | (intro _) | (rw [foldl_shape]) | (rw [foldl_pair_shape]) |
    (simp only [shape_mk, shape_rules, shape_eta, List.length_map, List.length_zipIdx, modAt_length,
          askBlock_shape, copyFails_shape]) | split)

theorem copyBlock_shape (c : Copy) (b : List Byte) (s : State) :
    (copyBlock c b s).shape = s.shape := by
  unfold copyBlock
  repeat' (first | with_reducible rfl | (intro _) | (rw [foldl_shape]) | (rw [foldl_pair_shape]) |
    (simp only [shape_mk, shape_rules, shape_eta, List.length_map, List.length_zipIdx, modAt_length,
          modLink_shape, putBlock_shape, copyFails_shape]) | split)

theorem copyDone_shape (c : Copy) (s : State) :
    (copyDone c s).shape = s.shape := by
  unfold copyDone
  repeat' (first | with_reducible rfl | (intro _) | (rw [foldl_shape]) | (rw [foldl_pair_shape]) |
    (simp only [shape_mk, shape_rules, shape_eta, List.length_map, List.length_zipIdx, modAt_length,
          reply_shape, copyFails_shape]) | split)

theorem copyWritten_shape (c : Copy) (s : State) :
    (copyWritten c s).shape = s.shape := by
  unfold copyWritten
  repeat' (first | with_reducible rfl | (intro _) | (rw [foldl_shape]) | (rw [foldl_pair_shape]) |
    (simp only [shape_mk, shape_rules, shape_eta, List.length_map, List.length_zipIdx, modAt_length,
          copyNext_shape, copyDone_shape]) | split)

theorem reportUp_shape (ver : BitVec 16) (r : ReportKind) (s : State) :
    (reportUp ver r s).shape = s.shape := by
  unfold reportUp
  repeat' (first | with_reducible rfl | (intro _) | (rw [foldl_shape]) | (rw [foldl_pair_shape]) |
    (simp only [shape_mk, shape_rules, shape_eta, List.length_map, List.length_zipIdx, modAt_length,
          modLink_shape]) | split)

theorem endForward_shape (s : State) :
    (endForward s).shape = s.shape := by
  unfold endForward
  repeat' (first | with_reducible rfl | (intro _) | (rw [foldl_shape]) | (rw [foldl_pair_shape]) |
    (simp only [shape_mk, shape_rules, shape_eta, List.length_map, List.length_zipIdx, modAt_length,
          dropImages_shape]) | split)

theorem fwdFails_shape (st : Status) (s : State) :
    (fwdFails st s).shape = s.shape := by
  unfold fwdFails
  repeat' (first | with_reducible rfl | (intro _) | (rw [foldl_shape]) | (rw [foldl_pair_shape]) |
    (simp only [shape_mk, shape_rules, shape_eta, List.length_map, List.length_zipIdx, modAt_length,
          reportUp_shape, endForward_shape]) | split)

theorem fwdDone_shape (s : State) :
    (fwdDone s).shape = s.shape := by
  unfold fwdDone
  repeat' (first | with_reducible rfl | (intro _) | (rw [foldl_shape]) | (rw [foldl_pair_shape]) |
    (simp only [shape_mk, shape_rules, shape_eta, List.length_map, List.length_zipIdx, modAt_length,
          reportUp_shape, fwdFails_shape]) | split)

theorem atticWritten_shape (s : State) :
    (atticWritten s).shape = s.shape := by
  unfold atticWritten
  repeat' (first | with_reducible rfl | (intro _) | (rw [foldl_shape]) | (rw [foldl_pair_shape]) |
    (simp only [shape_mk, shape_rules, shape_eta, List.length_map, List.length_zipIdx, modAt_length,
          copyWritten_shape, fwdDone_shape]) | split)

theorem clearMain_shape (soft cold : Bool) (s : State) :
    (clearMain soft cold s).shape = s.shape := by
  unfold clearMain
  repeat' (first | with_reducible rfl | (intro _) | (rw [foldl_shape]) | (rw [foldl_pair_shape]) |
    (simp only [shape_mk, shape_rules, shape_eta, List.length_map, List.length_zipIdx, modAt_length]) | split)

theorem romStarts_shape (s : State) :
    (romStarts s).shape = s.shape := by
  unfold romStarts
  repeat' (first | with_reducible rfl | (intro _) | (rw [foldl_shape]) | (rw [foldl_pair_shape]) |
    (simp only [shape_mk, shape_rules, shape_eta, List.length_map, List.length_zipIdx, modAt_length]) | split)

theorem bootStop_shape (err : Nat) (s : State) :
    (bootStop err s).shape = s.shape := by
  unfold bootStop
  repeat' (first | with_reducible rfl | (intro _) | (rw [foldl_shape]) | (rw [foldl_pair_shape]) |
    (simp only [shape_mk, shape_rules, shape_eta, List.length_map, List.length_zipIdx, modAt_length]) | split)

theorem bootFail_shape (err detail : Nat) (s : State) :
    (bootFail err detail s).shape = s.shape := by
  unfold bootFail
  repeat' (first | with_reducible rfl | (intro _) | (rw [foldl_shape]) | (rw [foldl_pair_shape]) |
    (simp only [shape_mk, shape_rules, shape_eta, List.length_map, List.length_zipIdx, modAt_length,
          dropImages_shape]) | split)

theorem reportUnits_shape (n : Nat) (s : State) :
    (reportUnits n s).shape = s.shape := by
  unfold reportUnits
  repeat' (first | with_reducible rfl | (intro _) | (rw [foldl_shape]) | (rw [foldl_pair_shape]) |
    (simp only [shape_mk, shape_rules, shape_eta, List.length_map, List.length_zipIdx, modAt_length,
          faultReport_shape]) | split)

theorem startUnits_shape (b : BringUp) (s : State) :
    (startUnits b s).shape = s.shape := by
  unfold startUnits
  repeat' (first | with_reducible rfl | (intro _) | (rw [foldl_shape]) | (rw [foldl_pair_shape]) |
    (simp only [shape_mk, shape_rules, shape_eta, List.length_map, List.length_zipIdx, modAt_length,
          reportUnits_shape]) | split)

theorem startKeys_shape (fails : Nat) (s : State) :
    (startKeys fails s).shape = s.shape := by
  unfold startKeys
  repeat' (first | with_reducible rfl | (intro _) | (rw [foldl_shape]) | (rw [foldl_pair_shape]) |
    (simp only [shape_mk, shape_rules, shape_eta, List.length_map, List.length_zipIdx, modAt_length,
          newRoot_shape, newDrbgs_shape]) | split)

theorem entropyRuns_shape (fails : Nat) (k : State → State) (s : State) (hk : ∀  s, (k  s).shape = s.shape) :
    (entropyRuns fails k s).shape = s.shape := by
  unfold entropyRuns
  repeat' (first | with_reducible rfl | (intro _) | (rw [foldl_shape]) | (rw [foldl_pair_shape]) |
    (simp only [shape_mk, shape_rules, shape_eta, List.length_map, List.length_zipIdx, modAt_length,
          bootFail_shape, startKeys_shape, hk]) | split)

theorem entropyAgain_shape (b : BringUp) (k : State → State) (s : State) (hk : ∀  s, (k  s).shape = s.shape) :
    (entropyAgain b k s).shape = s.shape := by
  unfold entropyAgain
  repeat' (first | with_reducible rfl | (intro _) | (rw [foldl_shape]) | (rw [foldl_pair_shape]) |
    (rw [entropyRuns_shape]) |
    (simp only [shape_mk, shape_rules, shape_eta, List.length_map, List.length_zipIdx, modAt_length,
          entropyRuns_shape, hk]) | split)

theorem startStair_shape (s : State) :
    (startStair s).shape = s.shape := by
  unfold startStair
  repeat' (first | with_reducible rfl | (intro _) | (rw [foldl_shape]) | (rw [foldl_pair_shape]) |
    (simp only [shape_mk, shape_rules, shape_eta, List.length_map, List.length_zipIdx, modAt_length]) | split)

theorem serviceEnd_shape (b : BringUp) (s : State) :
    (serviceEnd b s).shape = s.shape := by
  unfold serviceEnd
  repeat' (first | with_reducible rfl | (intro _) | (rw [foldl_shape]) | (rw [foldl_pair_shape]) |
    (rw [entropyAgain_shape]) |
    (simp only [shape_mk, shape_rules, shape_eta, List.length_map, List.length_zipIdx, modAt_length,
          entropyAgain_shape]) | split)

theorem closeQueues_shape (s : State) :
    (closeQueues s).shape = s.shape := by
  unfold closeQueues
  repeat' (first | with_reducible rfl | (intro _) | (rw [foldl_shape]) | (rw [foldl_pair_shape]) |
    (simp only [shape_mk, shape_rules, shape_eta, List.length_map, List.length_zipIdx, modAt_length]) | split)

theorem pantryEnd_shape (b : BringUp) (s : State) :
    (pantryEnd b s).shape = s.shape := by
  unfold pantryEnd
  repeat' (first | with_reducible rfl | (intro _) | (rw [foldl_shape]) | (rw [foldl_pair_shape]) |
    (rw [entropyAgain_shape]) |
    (simp only [shape_mk, shape_rules, shape_eta, List.length_map, List.length_zipIdx, modAt_length,
          raiseCmdRdy_shape, bootStop_shape, entropyAgain_shape, closeQueues_shape]) | split)

theorem lineCame_shape (p : Nat) (x : Option (List Byte)) (s : State) :
    (lineCame p x s).shape = s.shape := by
  unfold lineCame
  repeat' (first | with_reducible rfl | (intro _) | (rw [foldl_shape]) | (rw [foldl_pair_shape]) |
    (simp only [shape_mk, shape_rules, shape_eta, List.length_map, List.length_zipIdx, modAt_length, draw_shape,
          writeReq_shape, bootFail_shape]) | split)

theorem askLine_shape (p : Nat) (s : State) :
    (askLine p s).shape = s.shape := by
  unfold askLine
  repeat' (first | with_reducible rfl | (intro _) | (rw [foldl_shape]) | (rw [foldl_pair_shape]) |
    (simp only [shape_mk, shape_rules, shape_eta, List.length_map, List.length_zipIdx, modAt_length,
          readReq_shape, lineCame_shape]) | split)

theorem lineWritten_shape (ok : Bool) (s : State) :
    (lineWritten ok s).shape = s.shape := by
  unfold lineWritten
  repeat' (first | with_reducible rfl | (intro _) | (rw [foldl_shape]) | (rw [foldl_pair_shape]) |
    (simp only [shape_mk, shape_rules, shape_eta, List.length_map, List.length_zipIdx, modAt_length,
          bootFail_shape, serviceEnd_shape]) | split)

theorem serviceFrom_shape (b : BringUp) (s : State) :
    (serviceFrom b s).shape = s.shape := by
  unfold serviceFrom
  repeat' (first | with_reducible rfl | (intro _) | (rw [foldl_shape]) | (rw [foldl_pair_shape]) |
    (simp only [shape_mk, shape_rules, shape_eta, List.length_map, List.length_zipIdx, modAt_length,
          holdRegs_shape, startUnits_shape]) | split)

theorem exchangeStarts_shape (s : State) :
    (exchangeStarts s).shape = s.shape := by
  unfold exchangeStarts
  repeat' (first | with_reducible rfl | (intro _) | (rw [foldl_shape]) | (rw [foldl_pair_shape]) |
    (simp only [shape_mk, shape_rules, shape_eta, List.length_map, List.length_zipIdx, modAt_length,
          startStair_shape, askLine_shape]) | split)

theorem bootImage_shape (b : BringUp) (s : State) :
    (bootImage b s).shape = s.shape := by
  unfold bootImage
  repeat' (first | with_reducible rfl | (intro _) | (rw [foldl_shape]) | (rw [foldl_pair_shape]) |
    (simp only [shape_mk, shape_rules, shape_eta, List.length_map, List.length_zipIdx, modAt_length,
          bootFail_shape, serviceFrom_shape]) | split)

theorem bootAsk_shape (s : State) :
    (bootAsk s).shape = s.shape := by
  unfold bootAsk
  repeat' (first | with_reducible rfl | (intro _) | (rw [foldl_shape]) | (rw [foldl_pair_shape]) |
    (simp only [shape_mk, shape_rules, shape_eta, List.length_map, List.length_zipIdx, modAt_length,
          askBlock_shape, bootFail_shape]) | split)

theorem bootFromSram_shape (b : BringUp) (s : State) :
    (bootFromSram b s).shape = s.shape := by
  unfold bootFromSram
  repeat' (first | with_reducible rfl | (intro _) | (rw [foldl_shape]) | (rw [foldl_pair_shape]) |
    (simp only [shape_mk, shape_rules, shape_eta, List.length_map, List.length_zipIdx, modAt_length,
          bootFail_shape, bootImage_shape]) | split)

theorem toWaitGo_shape (s : State) :
    (toWaitGo s).shape = s.shape := by
  unfold toWaitGo
  repeat' (first | with_reducible rfl | (intro _) | (rw [foldl_shape]) | (rw [foldl_pair_shape]) |
    (simp only [shape_mk, shape_rules, shape_eta, List.length_map, List.length_zipIdx, modAt_length,
          bootFail_shape, bootFromSram_shape]) | split)

theorem bootTick_shape (s : State) :
    (bootTick s).shape = s.shape := by
  unfold bootTick
  repeat' (first | with_reducible rfl | (intro _) | (rw [foldl_shape]) | (rw [foldl_pair_shape]) |
    (rw [entropyRuns_shape]) |
    (simp only [shape_mk, shape_rules, shape_eta, List.length_map, List.length_zipIdx, modAt_length,
          bootStop_shape, entropyRuns_shape, pantryEnd_shape, exchangeStarts_shape, toWaitGo_shape]) | split)

theorem bootFromHost_shape (b : BringUp) (s : State) :
    (bootFromHost b s).shape = s.shape := by
  unfold bootFromHost
  repeat' (first | with_reducible rfl | (intro _) | (rw [foldl_shape]) | (rw [foldl_pair_shape]) |
    (simp only [shape_mk, shape_rules, shape_eta, List.length_map, List.length_zipIdx, modAt_length,
          bootFail_shape, bootAsk_shape]) | split)

theorem bootBlock_shape (b : BringUp) (blk : List Byte) (s : State) :
    (bootBlock b blk s).shape = s.shape := by
  unfold bootBlock
  repeat' (first | with_reducible rfl | (intro _) | (rw [foldl_shape]) | (rw [foldl_pair_shape]) |
    (simp only [shape_mk, shape_rules, shape_eta, List.length_map, List.length_zipIdx, modAt_length,
          bootFail_shape, bootImage_shape, bootAsk_shape]) | split)

theorem startSoftReset_shape (keep rom : Bool) (b : Option BringUp) (r : RomTest) (s : State) :
    (startSoftReset keep rom b r s).shape = s.shape := by
  unfold startSoftReset
  repeat' (first | with_reducible rfl | (intro _) | (rw [foldl_shape]) | (rw [foldl_pair_shape]) |
    (simp only [shape_mk, shape_rules, shape_eta, List.length_map, List.length_zipIdx, modAt_length,
          dropReads_shape, endTxn_shape, dropImages_shape]) | split)

theorem startRollout_shape (hold : Bool) (s : State) :
    (startRollout hold s).shape = s.shape := by
  unfold startRollout
  repeat' (first | with_reducible rfl | (intro _) | (rw [foldl_shape]) | (rw [foldl_pair_shape]) |
    (simp only [shape_mk, shape_rules, shape_eta, List.length_map, List.length_zipIdx, modAt_length]) | split)

theorem imageStops_shape (s : State) :
    (imageStops s).shape = s.shape := by
  unfold imageStops
  repeat' (first | with_reducible rfl | (intro _) | (rw [foldl_shape]) | (rw [foldl_pair_shape]) |
    (simp only [shape_mk, shape_rules, shape_eta, List.length_map, List.length_zipIdx, modAt_length,
          endTxn_shape, lowerCmdRdy_shape, dropStage_shape, endForward_shape]) | split)

theorem rebuildImage_shape (hold : Bool) (s : State) :
    (rebuildImage hold s).shape = s.shape := by
  unfold rebuildImage
  repeat' (first | with_reducible rfl | (intro _) | (rw [foldl_shape]) | (rw [foldl_pair_shape]) |
    (simp only [shape_mk, shape_rules, shape_eta, List.length_map, List.length_zipIdx, modAt_length,
          setDrbg_shape, answerTaken_shape, raiseCmdRdy_shape, sendHellos_shape, seedDrbgs_shape,
          startRollout_shape]) | split)

theorem fwLast_shape (st : Status) (s : State) :
    (fwLast st s).shape = s.shape := by
  unfold fwLast
  repeat' (first | with_reducible rfl | (intro _) | (rw [foldl_shape]) | (rw [foldl_pair_shape]) |
    (simp only [shape_mk, shape_rules, shape_eta, List.length_map, List.length_zipIdx, modAt_length]) | split)

theorem answerActivate_shape (st : Status) (s : State) :
    (answerActivate st s).shape = s.shape := by
  unfold answerActivate
  repeat' (first | with_reducible rfl | (intro _) | (rw [foldl_shape]) | (rw [foldl_pair_shape]) |
    (simp only [shape_mk, shape_rules, shape_eta, List.length_map, List.length_zipIdx, modAt_length,
          reply_shape]) | split)

theorem giveUp_shape (r : RomTest) (s : State) :
    (giveUp r s).shape = s.shape := by
  unfold giveUp
  repeat' (first | with_reducible rfl | (intro _) | (rw [foldl_shape]) | (rw [foldl_pair_shape]) |
    (simp only [shape_mk, shape_rules, shape_eta, List.length_map, List.length_zipIdx, modAt_length,
          answerTaken_shape, startSoftReset_shape]) | split)

theorem fallEnd_shape (l : Landing) (s : State) :
    (fallEnd l s).shape = s.shape := by
  unfold fallEnd
  repeat' (first | with_reducible rfl | (intro _) | (rw [foldl_shape]) | (rw [foldl_pair_shape]) |
    (simp only [shape_mk, shape_rules, shape_eta, List.length_map, List.length_zipIdx, modAt_length,
          rebuildImage_shape, answerActivate_shape, giveUp_shape]) | split)

theorem startStaged_shape (handover : Bool) (l : Landing) (s : State) :
    (startStaged handover l s).shape = s.shape := by
  unfold startStaged
  repeat' (first | with_reducible rfl | (intro _) | (rw [foldl_shape]) | (rw [foldl_pair_shape]) |
    (simp only [shape_mk, shape_rules, shape_eta, List.length_map, List.length_zipIdx, modAt_length,
          raiseCmdRdy_shape, startRollout_shape, rebuildImage_shape, answerActivate_shape]) | split)

theorem imageAgain_shape (s : State) :
    (imageAgain s).shape = s.shape := by
  unfold imageAgain
  repeat' (first | with_reducible rfl | (intro _) | (rw [foldl_shape]) | (rw [foldl_pair_shape]) |
    (simp only [shape_mk, shape_rules, shape_eta, List.length_map, List.length_zipIdx, modAt_length,
          serviceFrom_shape, rebuildImage_shape]) | split)

theorem restartEnd_shape (l : Landing) (s : State) :
    (restartEnd l s).shape = s.shape := by
  unfold restartEnd
  repeat' (first | with_reducible rfl | (intro _) | (rw [foldl_shape]) | (rw [foldl_pair_shape]) |
    (simp only [shape_mk, shape_rules, shape_eta, List.length_map, List.length_zipIdx, modAt_length,
          giveUp_shape, imageAgain_shape]) | split)

theorem landingEnd_shape (l : Landing) (s : State) :
    (landingEnd l s).shape = s.shape := by
  unfold landingEnd
  repeat' (first | with_reducible rfl | (intro _) | (rw [foldl_shape]) | (rw [foldl_pair_shape]) |
    (simp only [shape_mk, shape_rules, shape_eta, List.length_map, List.length_zipIdx, modAt_length,
          fallEnd_shape, startStaged_shape, restartEnd_shape]) | split)

theorem land_shape (l : Landing) (s : State) :
    (land l s).shape = s.shape := by
  unfold land
  repeat' (first | with_reducible rfl | (intro _) | (rw [foldl_shape]) | (rw [foldl_pair_shape]) |
    (simp only [shape_mk, shape_rules, shape_eta, List.length_map, List.length_zipIdx, modAt_length,
          landingEnd_shape]) | split)

theorem landingTick_shape (s : State) :
    (landingTick s).shape = s.shape := by
  unfold landingTick
  repeat' (first | with_reducible rfl | (intro _) | (rw [foldl_shape]) | (rw [foldl_pair_shape]) |
    (simp only [shape_mk, shape_rules, shape_eta, List.length_map, List.length_zipIdx, modAt_length,
          landingEnd_shape]) | split)

theorem landAsk_shape (l : Landing) (s : State) :
    (landAsk l s).shape = s.shape := by
  unfold landAsk
  repeat' (first | with_reducible rfl | (intro _) | (rw [foldl_shape]) | (rw [foldl_pair_shape]) |
    (simp only [shape_mk, shape_rules, shape_eta, List.length_map, List.length_zipIdx, modAt_length,
          askBlock_shape]) | split)

theorem landLost_shape (r : RomTest) (s : State) :
    (landLost r s).shape = s.shape := by
  unfold landLost
  repeat' (first | with_reducible rfl | (intro _) | (rw [foldl_shape]) | (rw [foldl_pair_shape]) |
    (simp only [shape_mk, shape_rules, shape_eta, List.length_map, List.length_zipIdx, modAt_length,
          giveUp_shape]) | split)

theorem readSlot_shape (kind : Nat) (x : LandingRun) (s : State) :
    (readSlot kind x s).shape = s.shape := by
  unfold readSlot
  repeat' (first | with_reducible rfl | (intro _) | (rw [foldl_shape]) | (rw [foldl_pair_shape]) |
    (simp only [shape_mk, shape_rules, shape_eta, List.length_map, List.length_zipIdx, modAt_length,
          landAsk_shape, landLost_shape]) | split)

theorem fallBack_shape (swapped : Bool) (x : LandingRun) (s : State) :
    (fallBack swapped x s).shape = s.shape := by
  unfold fallBack
  repeat' (first | with_reducible rfl | (intro _) | (rw [foldl_shape]) | (rw [foldl_pair_shape]) |
    (simp only [shape_mk, shape_rules, shape_eta, List.length_map, List.length_zipIdx, modAt_length,
          dropImages_shape, imageStops_shape, fwLast_shape, readSlot_shape]) | split)

theorem landFails_shape (l : Landing) (s : State) :
    (landFails l s).shape = s.shape := by
  unfold landFails
  repeat' (first | with_reducible rfl | (intro _) | (rw [foldl_shape]) | (rw [foldl_pair_shape]) |
    (simp only [shape_mk, shape_rules, shape_eta, List.length_map, List.length_zipIdx, modAt_length,
          dropImages_shape, landLost_shape, fallBack_shape]) | split)

theorem landRead_shape (l : Landing) (s : State) :
    (landRead l s).shape = s.shape := by
  unfold landRead
  repeat' (first | with_reducible rfl | (intro _) | (rw [foldl_shape]) | (rw [foldl_pair_shape]) |
    (simp only [shape_mk, shape_rules, shape_eta, List.length_map, List.length_zipIdx, modAt_length, land_shape,
          fallBack_shape, landFails_shape]) | split)

theorem landBlock_shape (l : Landing) (b : List Byte) (s : State) :
    (landBlock l b s).shape = s.shape := by
  unfold landBlock
  repeat' (first | with_reducible rfl | (intro _) | (rw [foldl_shape]) | (rw [foldl_pair_shape]) |
    (simp only [shape_mk, shape_rules, shape_eta, List.length_map, List.length_zipIdx, modAt_length,
          landAsk_shape, landFails_shape, landRead_shape]) | split)

theorem activate_shape (handover : Bool) (x : LandingRun) (s : State) :
    (activate handover x s).shape = s.shape := by
  unfold activate
  repeat' (first | with_reducible rfl | (intro _) | (rw [foldl_shape]) | (rw [foldl_pair_shape]) |
    (simp only [shape_mk, shape_rules, shape_eta, List.length_map, List.length_zipIdx, modAt_length,
          imageStops_shape, landAsk_shape, landFails_shape]) | split)

theorem dropLines_shape (s : State) :
    (dropLines s).shape = s.shape := by
  unfold dropLines
  repeat' (first | with_reducible rfl | (intro _) | (rw [foldl_shape]) | (rw [foldl_pair_shape]) |
    (simp only [shape_mk, shape_rules, shape_eta, List.length_map, List.length_zipIdx, modAt_length,
          dropReads_shape, disownWrites_shape]) | split)

theorem restartImage_shape (x : LandingRun) (s : State) :
    (restartImage x s).shape = s.shape := by
  unfold restartImage
  repeat' (first | with_reducible rfl | (intro _) | (rw [foldl_shape]) | (rw [foldl_pair_shape]) |
    (simp only [shape_mk, shape_rules, shape_eta, List.length_map, List.length_zipIdx, modAt_length, land_shape,
          readSlot_shape]) | split)

theorem restartStudy_shape (x : LandingRun) (s : State) :
    (restartStudy x s).shape = s.shape := by
  unfold restartStudy
  repeat' (first | with_reducible rfl | (intro _) | (rw [foldl_shape]) | (rw [foldl_pair_shape]) |
    (simp only [shape_mk, shape_rules, shape_eta, List.length_map, List.length_zipIdx, modAt_length,
          dropImages_shape, imageStops_shape, fallBack_shape, dropLines_shape, restartImage_shape]) | split)

theorem imageCame_shape (b : List Byte) (s : State) :
    (imageCame b s).shape = s.shape := by
  unfold imageCame
  repeat' (first | with_reducible rfl | (intro _) | (rw [foldl_shape]) | (rw [foldl_pair_shape]) |
    (simp only [shape_mk, shape_rules, shape_eta, List.length_map, List.length_zipIdx, modAt_length,
          copyBlock_shape, bootBlock_shape, landBlock_shape]) | split)

theorem imageFailed_shape (i : Nat) (s : State) :
    (imageFailed i s).shape = s.shape := by
  unfold imageFailed
  repeat' (first | with_reducible rfl | (intro _) | (rw [foldl_shape]) | (rw [foldl_pair_shape]) |
    (simp only [shape_mk, shape_rules, shape_eta, List.length_map, List.length_zipIdx, modAt_length,
          dropImages_shape, copyFails_shape, fwdFails_shape, bootFail_shape, landFails_shape]) | split)

theorem firmwareFailed_shape (n : Nat) (w : Owner) (s : State) :
    (firmwareFailed n w s).shape = s.shape := by
  unfold firmwareFailed
  repeat' (first | with_reducible rfl | (intro _) | (rw [foldl_shape]) | (rw [foldl_pair_shape]) |
    (simp only [shape_mk, shape_rules, shape_eta, List.length_map, List.length_zipIdx, modAt_length,
          dropReads_shape, lineCame_shape, lineWritten_shape, imageFailed_shape]) | split)

theorem firmwareHalted_shape (n : Nat) (p : Port) (s : State) :
    (firmwareHalted n p s).shape = s.shape := by
  unfold firmwareHalted
  repeat' (first | with_reducible rfl | (intro _) | (rw [foldl_shape]) | (rw [foldl_pair_shape]) |
    (simp only [shape_mk, shape_rules, shape_eta, List.length_map, List.length_zipIdx, modAt_length,
          firmwareFailed_shape]) | split)

theorem answerDrains_shape (s : State) :
    (answerDrains s).shape = s.shape := by
  unfold answerDrains
  repeat' (first | with_reducible rfl | (intro _) | (rw [foldl_shape]) | (rw [foldl_pair_shape]) |
    (simp only [shape_mk, shape_rules, shape_eta, List.length_map, List.length_zipIdx, modAt_length,
          drainLate_shape, answerTaken_shape, dropStage_shape]) | split)

theorem softEnd_shape (s : State) :
    (softEnd s).shape = s.shape := by
  unfold softEnd
  repeat' (first | with_reducible rfl | (intro _) | (rw [foldl_shape]) | (rw [foldl_pair_shape]) |
    (simp only [shape_mk, shape_rules, shape_eta, List.length_map, List.length_zipIdx, modAt_length,
          clearMain_shape, romStarts_shape]) | split)

theorem abandonOps_shape (s : State) :
    (abandonOps s).shape = s.shape := by
  unfold abandonOps
  repeat' (first | with_reducible rfl | (intro _) | (rw [foldl_shape]) | (rw [foldl_pair_shape]) |
    (simp only [shape_mk, shape_rules, shape_eta, List.length_map, List.length_zipIdx, modAt_length,
          dropTagged_shape, makeOld_shape]) | split)

theorem softFlush_shape (s : State) :
    (softFlush s).shape = s.shape := by
  unfold softFlush
  repeat' (first | with_reducible rfl | (intro _) | (rw [foldl_shape]) | (rw [foldl_pair_shape]) |
    (simp only [shape_mk, shape_rules, shape_eta, List.length_map, List.length_zipIdx, modAt_length,
          releaseAll_shape, startFlush_shape]) | split)

theorem softProgress_shape (s : State) :
    (softProgress s).shape = s.shape := by
  unfold softProgress
  repeat' (first | with_reducible rfl | (intro _) | (rw [foldl_shape]) | (rw [foldl_pair_shape]) |
    (simp only [shape_mk, shape_rules, shape_eta, List.length_map, List.length_zipIdx, modAt_length,
          lowerCmdRdy_shape, answerDrains_shape, softEnd_shape, abandonOps_shape, softFlush_shape]) | split)

theorem refusePower_shape (code : Nat) (s : State) :
    (refusePower code s).shape = s.shape := by
  unfold refusePower
  repeat' (first | with_reducible rfl | (intro _) | (rw [foldl_shape]) | (rw [foldl_pair_shape]) |
    (simp only [shape_mk, shape_rules, shape_eta, List.length_map, List.length_zipIdx, modAt_length]) | split)

theorem mainOff_shape (retain : Bool) (s : State) :
    (mainOff retain s).shape = s.shape := by
  unfold mainOff
  repeat' (first | with_reducible rfl | (intro _) | (rw [foldl_shape]) | (rw [foldl_pair_shape]) |
    (simp only [shape_mk, shape_rules, shape_eta, List.length_map, List.length_zipIdx, modAt_length,
          mapEngines_shape]) | split)

theorem powerProgress_shape (s : State) :
    (powerProgress s).shape = s.shape := by
  unfold powerProgress
  repeat' (first | with_reducible rfl | (intro _) | (rw [foldl_shape]) | (rw [foldl_pair_shape]) |
    (simp only [shape_mk, shape_rules, shape_eta, List.length_map, List.length_zipIdx, modAt_length,
          startFlush_shape, lowerCmdRdy_shape, raiseCmdRdy_shape, answerDrains_shape, refusePower_shape,
          mainOff_shape]) | split)

theorem dirProgress_shape (s : State) :
    (dirProgress s).shape = s.shape := by
  unfold dirProgress
  repeat' (first | with_reducible rfl | (intro _) | (rw [foldl_shape]) | (rw [foldl_pair_shape]) |
    (simp only [shape_mk, shape_rules, shape_eta, List.length_map, List.length_zipIdx, modAt_length,
          zeroiseRetired_shape, makeStale_shape, clearPantry_shape]) | split)

theorem keyProgress_shape (s : State) :
    (keyProgress s).shape = s.shape := by
  unfold keyProgress
  repeat' (first | with_reducible rfl | (intro _) | (rw [foldl_shape]) | (rw [foldl_pair_shape]) |
    (simp only [shape_mk, shape_rules, shape_eta, List.length_map, List.length_zipIdx, modAt_length,
          startFlush_shape]) | split)

theorem loadProgress_shape (s : State) :
    (loadProgress s).shape = s.shape := by
  unfold loadProgress
  repeat' (first | with_reducible rfl | (intro _) | (rw [foldl_shape]) | (rw [foldl_pair_shape]) |
    (simp only [shape_mk, shape_rules, shape_eta, List.length_map, List.length_zipIdx, modAt_length]) | split)

theorem releaseProgress_shape (s : State) :
    (releaseProgress s).shape = s.shape := by
  unfold releaseProgress
  repeat' (first | with_reducible rfl | (intro _) | (rw [foldl_shape]) | (rw [foldl_pair_shape]) |
    (simp only [shape_mk, shape_rules, shape_eta, List.length_map, List.length_zipIdx, modAt_length,
          mapEngines_shape]) | split)

theorem finish_shape (s : State) :
    (finish s).shape = s.shape := by
  unfold finish
  repeat' (first | with_reducible rfl | (intro _) | (rw [foldl_shape]) | (rw [foldl_pair_shape]) |
    (simp only [shape_mk, shape_rules, shape_eta, List.length_map, List.length_zipIdx, modAt_length,
          issueSamples_shape, settle_shape, flushStep_shape, lockProgress_shape, softProgress_shape,
          powerProgress_shape, dirProgress_shape, keyProgress_shape, loadProgress_shape,
          releaseProgress_shape]) | split)

theorem stir_shape (s : State) :
    (stir s).shape = s.shape := by
  unfold stir
  repeat' (first | with_reducible rfl | (intro _) | (rw [foldl_shape]) | (rw [foldl_pair_shape]) |
    (simp only [shape_mk, shape_rules, shape_eta, List.length_map, List.length_zipIdx, modAt_length]) | split)

theorem wakeForCommand_shape (s : State) :
    (wakeForCommand s).shape = s.shape := by
  unfold wakeForCommand
  repeat' (first | with_reducible rfl | (intro _) | (rw [foldl_shape]) | (rw [foldl_pair_shape]) |
    (simp only [shape_mk, shape_rules, shape_eta, List.length_map, List.length_zipIdx, modAt_length,
          wake_shape]) | split)

theorem advancePart_shape (id : Nat) (s : State) :
    (advancePart id s).shape = s.shape := by
  unfold advancePart
  repeat' (first | with_reducible rfl | (intro _) | (rw [foldl_shape]) | (rw [foldl_pair_shape]) |
    (simp only [shape_mk, shape_rules, shape_eta, List.length_map, List.length_zipIdx, modAt_length,
          modOp_shape, rotateLanes_shape, emit_shape]) | split)

end Sys2Proof.Machine
end

