-- ==== Sys2Proof/Laws/ShapeC.lean ====
section
/-!
SUPPORT. What no command changes: Dispatching, Threshold, Ringing, Hallway.
-/

set_option linter.unusedSimpArgs false
set_option linter.unusedTactic false
set_option linter.unreachableTactic false

namespace Sys2Proof.Machine

theorem sampleIn_shape (b id : Nat) (s : State) :
    (sampleIn b id s).shape = s.shape := by
  unfold sampleIn
  repeat' (first | with_reducible rfl | (intro _) | (rw [foldl_shape]) | (rw [foldl_pair_shape]) |
    (simp only [shape_mk, shape_rules, shape_eta, List.length_map, List.length_zipIdx, modAt_length,
          modInst_shape, modOp_shape]) | split)

theorem noteDispatch_shape (o : Op) (s : State) :
    (noteDispatch o s).shape = s.shape := by
  unfold noteDispatch
  repeat' (first | with_reducible rfl | (intro _) | (rw [foldl_shape]) | (rw [foldl_pair_shape]) |
    (simp only [shape_mk, shape_rules, shape_eta, List.length_map, List.length_zipIdx, modAt_length,
          modRing_shape, draw_shape, countOp_shape, fixedOp_shape, sampleIn_shape]) | split)

theorem failCheck_shape (o : Op) (st : Status) (s : State) :
    (failCheck o st s).shape = s.shape := by
  unfold failCheck
  repeat' (first | with_reducible rfl | (intro _) | (rw [foldl_shape]) | (rw [foldl_pair_shape]) |
    (simp only [shape_mk, shape_rules, shape_eta, List.length_map, List.length_zipIdx, modAt_length,
          failUndispatched_shape]) | split)

theorem countMiss_shape (o : Op) (s : State) :
    (countMiss o s).shape = s.shape := by
  unfold countMiss
  repeat' (first | with_reducible rfl | (intro _) | (rw [foldl_shape]) | (rw [foldl_pair_shape]) |
    (simp only [shape_mk, shape_rules, shape_eta, List.length_map, List.length_zipIdx, modAt_length,
          countOp_shape, fixedOp_shape]) | split)

theorem park_shape (o : Op) (i : Nat) (s : State) :
    (park o i s).shape = s.shape := by
  unfold park
  repeat' (first | with_reducible rfl | (intro _) | (rw [foldl_shape]) | (rw [foldl_pair_shape]) |
    (simp only [shape_mk, shape_rules, shape_eta, List.length_map, List.length_zipIdx, modAt_length,
          modOp_shape, addMiss_shape, countMiss_shape]) | split)

theorem countHit_shape (o : Op) (s : State) :
    (countHit o s).shape = s.shape := by
  unfold countHit
  repeat' (first | with_reducible rfl | (intro _) | (rw [foldl_shape]) | (rw [foldl_pair_shape]) |
    (simp only [shape_mk, shape_rules, shape_eta, List.length_map, List.length_zipIdx, modAt_length,
          countOp_shape]) | split)

theorem withCtx_shape (o : Op) (k : Slot → State → State) (s : State) (hk : ∀ a s, (k a s).shape = s.shape) :
    (withCtx o k s).shape = s.shape := by
  unfold withCtx
  repeat' (first | with_reducible rfl | (intro _) | (rw [foldl_shape]) | (rw [foldl_pair_shape]) |
    (simp only [shape_mk, shape_rules, shape_eta, List.length_map, List.length_zipIdx, modAt_length,
          eccRead_shape, readDirectory_shape, modCtx_shape, slotLost_shape, failCheck_shape,
          countMiss_shape, park_shape, hk]) | split)

theorem ctxRecord_shape (o : Op) (st : Status) (pn : Nat) (s : State) :
    (ctxRecord o st pn s).shape = s.shape := by
  unfold ctxRecord
  repeat' (first | with_reducible rfl | (intro _) | (rw [foldl_shape]) | (rw [foldl_pair_shape]) |
    (simp only [shape_mk, shape_rules, shape_eta, List.length_map, List.length_zipIdx, modAt_length,
          evWrite_shape]) | split)

theorem assignPn_shape (o : Op) (x : Slot) (s : State) :
    (assignPn o x s).shape = s.shape := by
  unfold assignPn
  repeat' (first | with_reducible rfl | (intro _) | (rw [foldl_shape]) | (rw [foldl_pair_shape]) |
    (simp only [shape_mk, shape_rules, shape_eta, List.length_map, List.length_zipIdx, modAt_length,
          modOp_shape, countOp_shape, markDirty_shape, modCtx_shape, ctxRecord_shape]) | split)

theorem readList_shape (id ent : Nat) (dst : Bool) (s : State) :
    (readList id ent dst s).shape = s.shape := by
  unfold readList
  repeat' (first | with_reducible rfl | (intro _) | (rw [foldl_shape]) | (rw [foldl_pair_shape]) |
    (simp only [shape_mk, shape_rules, shape_eta, List.length_map, List.length_zipIdx, modAt_length,
          readReq_shape]) | split)

theorem readLists_shape (id : Nat) (s : State) :
    (readLists id s).shape = s.shape := by
  unfold readLists
  repeat' (first | with_reducible rfl | (intro _) | (rw [foldl_shape]) | (rw [foldl_pair_shape]) |
    (simp only [shape_mk, shape_rules, shape_eta, List.length_map, List.length_zipIdx, modAt_length,
          readList_shape]) | split)

theorem joinPartQ_shape (id : Nat) (s : State) :
    (joinPartQ id s).shape = s.shape := by
  unfold joinPartQ
  repeat' (first | with_reducible rfl | (intro _) | (rw [foldl_shape]) | (rw [foldl_pair_shape]) |
    (simp only [shape_mk, shape_rules, shape_eta, List.length_map, List.length_zipIdx, modAt_length]) | split)

theorem startReads_shape (id : Nat) (s : State) :
    (startReads id s).shape = s.shape := by
  unfold startReads
  repeat' (first | with_reducible rfl | (intro _) | (rw [foldl_shape]) | (rw [foldl_pair_shape]) |
    (simp only [shape_mk, shape_rules, shape_eta, List.length_map, List.length_zipIdx, modAt_length,
          modOp_shape, readReq_shape, issueSrc_shape, readLists_shape, joinPartQ_shape]) | split)

theorem noteAgain_shape (o : Op) (s : State) :
    (noteAgain o s).shape = s.shape := by
  unfold noteAgain
  repeat' (first | with_reducible rfl | (intro _) | (rw [foldl_shape]) | (rw [foldl_pair_shape]) |
    (simp only [shape_mk, shape_rules, shape_eta, List.length_map, List.length_zipIdx, modAt_length,
          modOp_shape, noteDispatch_shape]) | split)

theorem dispatchAead_shape (o : Op) (x : Slot) (s : State) :
    (dispatchAead o x s).shape = s.shape := by
  unfold dispatchAead
  repeat' (first | with_reducible rfl | (intro _) | (rw [foldl_shape]) | (rw [foldl_pair_shape]) |
    (simp only [shape_mk, shape_rules, shape_eta, List.length_map, List.length_zipIdx, modAt_length,
          modOp_shape, failCheck_shape, countHit_shape, assignPn_shape, startReads_shape, noteAgain_shape]) | split)

theorem pinKek_shape (o : Op) (ver : Option Nat) (s : State) :
    (pinKek o ver s).shape = s.shape := by
  unfold pinKek
  repeat' (first | with_reducible rfl | (intro _) | (rw [foldl_shape]) | (rw [foldl_pair_shape]) |
    (simp only [shape_mk, shape_rules, shape_eta, List.length_map, List.length_zipIdx, modAt_length,
          modOp_shape]) | split)

theorem installDone_shape (id : Nat) (serial : Nat) (s : State) :
    (installDone id serial s).shape = s.shape := by
  unfold installDone
  repeat' (first | with_reducible rfl | (intro _) | (rw [foldl_shape]) | (rw [foldl_pair_shape]) |
    (simp only [shape_mk, shape_rules, shape_eta, List.length_map, List.length_zipIdx, modAt_length,
          endOp_shape, markDirty_shape, noteDispatch_shape]) | split)

theorem installRest_shape (id : Nat) (tomb : Option Nat) (s : State) :
    (installRest id tomb s).shape = s.shape := by
  unfold installRest
  repeat' (first | with_reducible rfl | (intro _) | (rw [foldl_shape]) | (rw [foldl_pair_shape]) |
    (simp only [shape_mk, shape_rules, shape_eta, List.length_map, List.length_zipIdx, modAt_length,
          modOp_shape, wakeIndex_shape, modFetch_shape, dropFetch_shape, placeFetch_shape, failCheck_shape,
          installDone_shape]) | split)

theorem dispatchInstall_shape (o : Op) (s : State) :
    (dispatchInstall o s).shape = s.shape := by
  unfold dispatchInstall
  repeat' (first | with_reducible rfl | (intro _) | (rw [foldl_shape]) | (rw [foldl_pair_shape]) |
    (simp only [shape_mk, shape_rules, shape_eta, List.length_map, List.length_zipIdx, modAt_length,
          modOp_shape, readDirectory_shape, readKeyStore_shape, addMiss_shape, failCheck_shape,
          pinKek_shape]) | split)

theorem dispatchRekey_shape (o : Op) (s : State) :
    (dispatchRekey o s).shape = s.shape := by
  unfold dispatchRekey
  repeat' (first | with_reducible rfl | (intro _) | (rw [foldl_shape]) | (rw [foldl_pair_shape]) |
    (rw [withCtx_shape]) |
    (simp only [shape_mk, shape_rules, shape_eta, List.length_map, List.length_zipIdx, modAt_length,
          modOp_shape, readKeyStore_shape, endOp_shape, markDirty_shape, modCtx_shape, noteDispatch_shape,
          failCheck_shape, countHit_shape, withCtx_shape, pinKek_shape]) | split)

theorem dispatchRetire_shape (o : Op) (s : State) :
    (dispatchRetire o s).shape = s.shape := by
  unfold dispatchRetire
  repeat' (first | with_reducible rfl | (intro _) | (rw [foldl_shape]) | (rw [foldl_pair_shape]) |
    (rw [withCtx_shape]) |
    (simp only [shape_mk, shape_rules, shape_eta, List.length_map, List.length_zipIdx, modAt_length,
          modOp_shape, mapFetches_shape, markDirty_shape, modCtx_shape, noteDispatch_shape, countHit_shape,
          withCtx_shape]) | split)

theorem dispatchDigest_shape (o : Op) (s : State) :
    (dispatchDigest o s).shape = s.shape := by
  unfold dispatchDigest
  repeat' (first | with_reducible rfl | (intro _) | (rw [foldl_shape]) | (rw [foldl_pair_shape]) |
    (simp only [shape_mk, shape_rules, shape_eta, List.length_map, List.length_zipIdx, modAt_length,
          startReads_shape, noteAgain_shape]) | split)

theorem dispatchPk_shape (o : Op) (s : State) :
    (dispatchPk o s).shape = s.shape := by
  unfold dispatchPk
  repeat' (first | with_reducible rfl | (intro _) | (rw [foldl_shape]) | (rw [foldl_pair_shape]) |
    (simp only [shape_mk, shape_rules, shape_eta, List.length_map, List.length_zipIdx, modAt_length,
          modOp_shape, endOp_shape, noteDispatch_shape]) | split)

theorem dispatchOp_shape (o : Op) (s : State) :
    (dispatchOp o s).shape = s.shape := by
  unfold dispatchOp
  repeat' (first | with_reducible rfl | (intro _) | (rw [foldl_shape]) | (rw [foldl_pair_shape]) |
    (rw [withCtx_shape]) |
    (simp only [shape_mk, shape_rules, shape_eta, List.length_map, List.length_zipIdx, modAt_length,
          eccRead_shape, endOp_shape, slotLost_shape, noteDispatch_shape, failCheck_shape, withCtx_shape,
          dispatchAead_shape, dispatchInstall_shape, dispatchRekey_shape, dispatchRetire_shape,
          dispatchDigest_shape, dispatchPk_shape]) | split)

theorem redispatchLoop_shape (n : Nat) (l : List Nat) (s : State) : (redispatchLoop n l s).shape = s.shape := by
  induction n generalizing l s with
  | zero => rfl
  | succ n ih =>
    unfold redispatchLoop
    repeat' (first | with_reducible rfl | (simp only [ih, dispatchOp_shape]) | split)

theorem redispatch_shape (s : State) :
    (redispatch s).shape = s.shape := by
  unfold redispatch
  repeat' (first | with_reducible rfl | (intro _) | (rw [foldl_shape]) | (rw [foldl_pair_shape]) |
    (simp only [shape_mk, shape_rules, shape_eta, List.length_map, List.length_zipIdx, modAt_length,
          redispatchLoop_shape]) | split)

theorem dispatchRow_shape (op : Nat) (mine : Desc → Bool) (s : State) :
    (dispatchRow op mine s).shape = s.shape := by
  unfold dispatchRow
  repeat' (first | with_reducible rfl | (intro _) | (rw [foldl_shape]) | (rw [foldl_pair_shape]) |
    (simp only [shape_mk, shape_rules, shape_eta, List.length_map, List.length_zipIdx, modAt_length,
          finish_shape, dispatchOp_shape, redispatch_shape]) | split)

theorem failEntry_shape (o : Op) (st : Status) (s : State) :
    (failEntry o st s).shape = s.shape := by
  unfold failEntry
  repeat' (first | with_reducible rfl | (intro _) | (rw [foldl_shape]) | (rw [foldl_pair_shape]) |
    (simp only [shape_mk, shape_rules, shape_eta, List.length_map, List.length_zipIdx, modAt_length,
          correctCharge_shape, endOp_shape]) | split)

theorem acceptOp_shape (id : Nat) (s : State) :
    (acceptOp id s).shape = s.shape := by
  unfold acceptOp
  repeat' (first | with_reducible rfl | (intro _) | (rw [foldl_shape]) | (rw [foldl_pair_shape]) |
    (simp only [shape_mk, shape_rules, shape_eta, List.length_map, List.length_zipIdx, modAt_length,
          modOp_shape, correctCharge_shape]) | split)

theorem afterLists_shape (id : Nat) (s : State) :
    (afterLists id s).shape = s.shape := by
  unfold afterLists
  repeat' (first | with_reducible rfl | (intro _) | (rw [foldl_shape]) | (rw [foldl_pair_shape]) |
    (simp only [shape_mk, shape_rules, shape_eta, List.length_map, List.length_zipIdx, modAt_length,
          modOp_shape, readReq_shape, failEntry_shape, acceptOp_shape]) | split)

theorem afterEntries_shape (id : Nat) (s : State) :
    (afterEntries id s).shape = s.shape := by
  unfold afterEntries
  repeat' (first | with_reducible rfl | (intro _) | (rw [foldl_shape]) | (rw [foldl_pair_shape]) |
    (simp only [shape_mk, shape_rules, shape_eta, List.length_map, List.length_zipIdx, modAt_length,
          modOp_shape, readList_shape, failEntry_shape, afterLists_shape]) | split)

theorem fetchEntry_shape (id ring : Nat) (i : Idx) (s : State) :
    (fetchEntry id ring i s).shape = s.shape := by
  unfold fetchEntry
  repeat' (first | with_reducible rfl | (intro _) | (rw [foldl_shape]) | (rw [foldl_pair_shape]) |
    (simp only [shape_mk, shape_rules, shape_eta, List.length_map, List.length_zipIdx, modAt_length,
          modOp_shape, count_shape, readReq_shape, arrive_shape]) | split)

theorem takeGrant_shape (id : Nat) (x : Op) (s : State) :
    (takeGrant id x s).shape = s.shape := by
  unfold takeGrant
  repeat' (first | with_reducible rfl | (intro _) | (rw [foldl_shape]) | (rw [foldl_pair_shape]) |
    (simp only [shape_mk, shape_rules, shape_eta, List.length_map, List.length_zipIdx, modAt_length,
          modOp_shape, refundInst_shape, releaseOp_shape]) | split)

theorem extendChain_shape (id : Nat) (s : State) :
    (extendChain id s).shape = s.shape := by
  unfold extendChain
  repeat' (first | with_reducible rfl | (intro _) | (rw [foldl_shape]) | (rw [foldl_pair_shape]) |
    (simp only [shape_mk, shape_rules, shape_eta, List.length_map, List.length_zipIdx, modAt_length,
          modRing_shape, failUndispatched_shape, fetchEntry_shape, takeGrant_shape]) | split)

theorem openChain_shape (id : Nat) (s : State) :
    (openChain id s).shape = s.shape := by
  unfold openChain
  repeat' (first | with_reducible rfl | (intro _) | (rw [foldl_shape]) | (rw [foldl_pair_shape]) |
    (simp only [shape_mk, shape_rules, shape_eta, List.length_map, List.length_zipIdx, modAt_length,
          modOp_shape, extendChain_shape]) | split)

theorem slotFailed_shape (o : Op) (st : Status) (s : State) :
    (slotFailed o st s).shape = s.shape := by
  unfold slotFailed
  repeat' (first | with_reducible rfl | (intro _) | (rw [foldl_shape]) | (rw [foldl_pair_shape]) |
    (simp only [shape_mk, shape_rules, shape_eta, List.length_map, List.length_zipIdx, modAt_length,
          releaseOp_shape, stopRing_shape, failUndispatched_shape]) | split)

theorem slotReadFailed_shape (o : Op) (st : Status) (s : State) :
    (slotReadFailed o st s).shape = s.shape := by
  unfold slotReadFailed
  repeat' (first | with_reducible rfl | (intro _) | (rw [foldl_shape]) | (rw [foldl_pair_shape]) |
    (simp only [shape_mk, shape_rules, shape_eta, List.length_map, List.length_zipIdx, modAt_length,
          modOp_shape, arrive_shape, slotFailed_shape]) | split)

theorem takeEntry_shape (o : Op) (r : Ring) (d : Desc) (s : State) :
    (takeEntry o r d s).shape = s.shape := by
  unfold takeEntry
  repeat' (first | with_reducible rfl | (intro _) | (rw [foldl_shape]) | (rw [foldl_pair_shape]) |
    (simp only [shape_mk, shape_rules, shape_eta, List.length_map, List.length_zipIdx, modAt_length,
          modOp_shape]) | split)

theorem takeLastEntry_shape (o : Op) (r : Ring) (d : Desc) (s : State) :
    (takeLastEntry o r d s).shape = s.shape := by
  unfold takeLastEntry
  repeat' (first | with_reducible rfl | (intro _) | (rw [foldl_shape]) | (rw [foldl_pair_shape]) |
    (simp only [shape_mk, shape_rules, shape_eta, List.length_map, List.length_zipIdx, modAt_length,
          takeEntry_shape]) | split)

theorem checkHead_shape (o : Op) (r : Ring) (d : Desc) (s : State) :
    (checkHead o r d s).shape = s.shape := by
  unfold checkHead
  repeat' (first | with_reducible rfl | (intro _) | (rw [foldl_shape]) | (rw [foldl_pair_shape]) |
    (simp only [shape_mk, shape_rules, shape_eta, List.length_map, List.length_zipIdx, modAt_length,
          failEntry_shape, afterEntries_shape, openChain_shape, takeEntry_shape]) | split)

theorem headAfter_shape (o : Op) (d : Desc) (s : State) :
    (headAfter o d s).shape = s.shape := by
  unfold headAfter
  repeat' (first | with_reducible rfl | (intro _) | (rw [foldl_shape]) | (rw [foldl_pair_shape]) |
    (simp only [shape_mk, shape_rules, shape_eta, List.length_map, List.length_zipIdx, modAt_length,
          chargeInst_shape, checkHead_shape]) | split)

theorem checkCopy_shape (o : Op) (r : Ring) (d : Desc) (s : State) :
    (checkCopy o r d s).shape = s.shape := by
  unfold checkCopy
  repeat' (first | with_reducible rfl | (intro _) | (rw [foldl_shape]) | (rw [foldl_pair_shape]) |
    (simp only [shape_mk, shape_rules, shape_eta, List.length_map, List.length_zipIdx, modAt_length,
          failEntry_shape, afterEntries_shape, openChain_shape, takeEntry_shape, takeLastEntry_shape,
          checkHead_shape, headAfter_shape]) | split)

theorem descriptorReturn_shape (id : Nat) (s : State) :
    (descriptorReturn id s).shape = s.shape := by
  unfold descriptorReturn
  repeat' (first | with_reducible rfl | (intro _) | (rw [foldl_shape]) | (rw [foldl_pair_shape]) |
    (simp only [shape_mk, shape_rules, shape_eta, List.length_map, List.length_zipIdx, modAt_length,
          modOp_shape, takeArrived_shape, fireAt_shape, failUndispatched_shape, slotFailed_shape,
          takeLastEntry_shape, checkCopy_shape]) | split)

theorem descReread_shape (id : Nat) (s : State) :
    (descReread id s).shape = s.shape := by
  unfold descReread
  repeat' (first | with_reducible rfl | (intro _) | (rw [foldl_shape]) | (rw [foldl_pair_shape]) |
    (simp only [shape_mk, shape_rules, shape_eta, List.length_map, List.length_zipIdx, modAt_length,
          modOp_shape, count_shape, readReq_shape, failUndispatched_shape, takeLastEntry_shape]) | split)

theorem listReturn_shape (id ent : Nat) (dst : Bool) (s : State) :
    (listReturn id ent dst s).shape = s.shape := by
  unfold listReturn
  repeat' (first | with_reducible rfl | (intro _) | (rw [foldl_shape]) | (rw [foldl_pair_shape]) |
    (simp only [shape_mk, shape_rules, shape_eta, List.length_map, List.length_zipIdx, modAt_length,
          modOp_shape, takeArrived_shape, issueSrc_shape, endOp_shape, advancePart_shape, readList_shape,
          failEntry_shape, afterLists_shape]) | split)

theorem prefetch_shape (n : Nat) (s : State) :
    (prefetch n s).shape = s.shape := by
  unfold prefetch
  repeat' (first | with_reducible rfl | (intro _) | (rw [foldl_shape]) | (rw [foldl_pair_shape]) |
    (simp only [shape_mk, shape_rules, shape_eta, List.length_map, List.length_zipIdx, modAt_length,
          count_shape, readReq_shape]) | split)

theorem grantEntry_shape (i : Nat) (s : State) :
    (grantEntry i s).shape = s.shape := by
  unfold grantEntry
  repeat' (first | with_reducible rfl | (intro _) | (rw [foldl_shape]) | (rw [foldl_pair_shape]) |
    (simp only [shape_mk, shape_rules, shape_eta, List.length_map, List.length_zipIdx, modAt_length,
          modInst_shape, modRing_shape, chargeInst_shape, fetchEntry_shape, prefetch_shape]) | split)

theorem chargeLater_shape (i : Nat) (s : State) :
    (chargeLater i s).shape = s.shape := by
  unfold chargeLater
  repeat' (first | with_reducible rfl | (intro _) | (rw [foldl_shape]) | (rw [foldl_pair_shape]) |
    (simp only [shape_mk, shape_rules, shape_eta, List.length_map, List.length_zipIdx, modAt_length,
          modOp_shape, chargeInst_shape, joinPartQ_shape]) | split)

theorem endVisit_shape (i : Nat) (s : State) :
    (endVisit i s).shape = s.shape := by
  unfold endVisit
  repeat' (first | with_reducible rfl | (intro _) | (rw [foldl_shape]) | (rw [foldl_pair_shape]) |
    (simp only [shape_mk, shape_rules, shape_eta, List.length_map, List.length_zipIdx, modAt_length,
          modInst_shape, count_shape]) | split)

theorem schedulerStep_shape (s : State) :
    (schedulerStep s).shape = s.shape := by
  unfold schedulerStep
  repeat' (first | with_reducible rfl | (intro _) | (rw [foldl_shape]) | (rw [foldl_pair_shape]) |
    (simp only [shape_mk, shape_rules, shape_eta, List.length_map, List.length_zipIdx, modAt_length,
          modInst_shape, grantEntry_shape, chargeLater_shape, endVisit_shape]) | split)

theorem pruneStamps_shape (n : Nat) (s : State) :
    (pruneStamps n s).shape = s.shape := by
  unfold pruneStamps
  repeat' (first | with_reducible rfl | (intro _) | (rw [foldl_shape]) | (rw [foldl_pair_shape]) |
    (simp only [shape_mk, shape_rules, shape_eta, List.length_map, List.length_zipIdx, modAt_length,
          modRing_shape]) | split)

theorem writeSample_shape (o : Op) (r : Ring) (tCompl b n : Nat) (s : State) :
    (writeSample o r tCompl b n s).shape = s.shape := by
  unfold writeSample
  repeat' (first | with_reducible rfl | (intro _) | (rw [foldl_shape]) | (rw [foldl_pair_shape]) |
    (simp only [shape_mk, shape_rules, shape_eta, List.length_map, List.length_zipIdx, modAt_length,
          skipSample_shape]) | split)

theorem countCompletion_shape (o : Op) (s : State) :
    (countCompletion o s).shape = s.shape := by
  unfold countCompletion
  repeat' (first | with_reducible rfl | (intro _) | (rw [foldl_shape]) | (rw [foldl_pair_shape]) |
    (simp only [shape_mk, shape_rules, shape_eta, List.length_map, List.length_zipIdx, modAt_length,
          countIn_shape, count_shape, fixedOp_shape]) | split)

theorem completed_shape (o : Op) (s : State) :
    (completed o s).shape = s.shape := by
  unfold completed
  repeat' (first | with_reducible rfl | (intro _) | (rw [foldl_shape]) | (rw [foldl_pair_shape]) |
    (simp only [shape_mk, shape_rules, shape_eta, List.length_map, List.length_zipIdx, modAt_length,
          modOp_shape, draw_shape, evWrite_shape, fixedOp_shape, releaseOp_shape, dueErrorRecord_shape,
          pruneStamps_shape, writeSample_shape]) | split)

theorem completionAck_shape (id : Nat) (s : State) :
    (completionAck id s).shape = s.shape := by
  unfold completionAck
  repeat' (first | with_reducible rfl | (intro _) | (rw [foldl_shape]) | (rw [foldl_pair_shape]) |
    (simp only [shape_mk, shape_rules, shape_eta, List.length_map, List.length_zipIdx, modAt_length,
          modOp_shape, takeArrived_shape, countCompletion_shape, completed_shape]) | split)

theorem pageWrite_shape (page off : Nat) (strb : BitVec 8) (k : State → State) (s : State) (hk : ∀  s, (k  s).shape = s.shape) :
    (pageWrite page off strb k s).shape = s.shape := by
  unfold pageWrite
  repeat' (first | with_reducible rfl | (intro _) | (rw [foldl_shape]) | (rw [foldl_pair_shape]) |
    (simp only [shape_mk, shape_rules, shape_eta, List.length_map, List.length_zipIdx, modAt_length,
          answerWrite_shape, finish_shape, stir_shape, hk]) | split)

theorem pushChain_shape (n : Nat) (s : State) :
    (pushChain n s).shape = s.shape := by
  unfold pushChain
  repeat' (first | with_reducible rfl | (intro _) | (rw [foldl_shape]) | (rw [foldl_pair_shape]) |
    (simp only [shape_mk, shape_rules, shape_eta, List.length_map, List.length_zipIdx, modAt_length,
          extendChain_shape]) | split)

theorem moveTail_shape (n : Nat) (t : Idx) (st : Nat) (s : State) :
    (moveTail n t st s).shape = s.shape := by
  unfold moveTail
  repeat' (first | with_reducible rfl | (intro _) | (rw [foldl_shape]) | (rw [foldl_pair_shape]) |
    (simp only [shape_mk, shape_rules, shape_eta, List.length_map, List.length_zipIdx, modAt_length,
          modRing_shape, fixedCount_shape, pushChain_shape]) | split)

theorem stopConsumed_shape (n : Nat) (st : Status) (s : State) :
    (stopConsumed n st s).shape = s.shape := by
  unfold stopConsumed
  repeat' (first | with_reducible rfl | (intro _) | (rw [foldl_shape]) | (rw [foldl_pair_shape]) |
    (simp only [shape_mk, shape_rules, shape_eta, List.length_map, List.length_zipIdx, modAt_length,
          stopAt_shape, pushChain_shape]) | split)

theorem doorStop_shape (n : Nat) (st : Status) (s : State) :
    (doorStop n st s).shape = s.shape := by
  unfold doorStop
  repeat' (first | with_reducible rfl | (intro _) | (rw [foldl_shape]) | (rw [foldl_pair_shape]) |
    (simp only [shape_mk, shape_rules, shape_eta, List.length_map, List.length_zipIdx, modAt_length,
          dbFlag_shape, stopConsumed_shape]) | split)

theorem handleDoorbell_shape (page ring : Nat) (t : Idx) (st : Nat) (s : State) :
    (handleDoorbell page ring t st s).shape = s.shape := by
  unfold handleDoorbell
  repeat' (first | with_reducible rfl | (intro _) | (rw [foldl_shape]) | (rw [foldl_pair_shape]) |
    (simp only [shape_mk, shape_rules, shape_eta, List.length_map, List.length_zipIdx, modAt_length,
          modRing_shape, addCounter_shape, readReq_shape, dbFlag_shape, moveTail_shape]) | split)

theorem releaseHeld_shape (ring : Nat) (s : State) :
    (releaseHeld ring s).shape = s.shape := by
  unfold releaseHeld
  repeat' (first | with_reducible rfl | (intro _) | (rw [foldl_shape]) | (rw [foldl_pair_shape]) |
    (simp only [shape_mk, shape_rules, shape_eta, List.length_map, List.length_zipIdx, modAt_length,
          modRing_shape, handleDoorbell_shape]) | split)

theorem harvestFailed_shape (ring : Nat) (st : Status) (s : State) :
    (harvestFailed ring st s).shape = s.shape := by
  unfold harvestFailed
  repeat' (first | with_reducible rfl | (intro _) | (rw [foldl_shape]) | (rw [foldl_pair_shape]) |
    (simp only [shape_mk, shape_rules, shape_eta, List.length_map, List.length_zipIdx, modAt_length,
          modRing_shape, doorStop_shape, releaseHeld_shape]) | split)

theorem harvestReturn_shape (ring : Nat) (h : Idx) (s : State) :
    (harvestReturn ring h s).shape = s.shape := by
  unfold harvestReturn
  repeat' (first | with_reducible rfl | (intro _) | (rw [foldl_shape]) | (rw [foldl_pair_shape]) |
    (simp only [shape_mk, shape_rules, shape_eta, List.length_map, List.length_zipIdx, modAt_length,
          modRing_shape, moveTail_shape, doorStop_shape, releaseHeld_shape]) | split)

theorem wakeForDoorbell_shape (s : State) :
    (wakeForDoorbell s).shape = s.shape := by
  unfold wakeForDoorbell
  repeat' (first | with_reducible rfl | (intro _) | (rw [foldl_shape]) | (rw [foldl_pair_shape]) |
    (simp only [shape_mk, shape_rules, shape_eta, List.length_map, List.length_zipIdx, modAt_length,
          wake_shape]) | split)

theorem doorbellWrite_shape (page : Nat) (strb : BitVec 8) (data : Word) (s : State) :
    (doorbellWrite page strb data s).shape = s.shape := by
  unfold doorbellWrite
  repeat' (first | with_reducible rfl | (intro _) | (rw [foldl_shape]) | (rw [foldl_pair_shape]) |
    (rw [pageWrite_shape]) |
    (simp only [shape_mk, shape_rules, shape_eta, List.length_map, List.length_zipIdx, modAt_length,
          modInst_shape, draw_shape, answerWrite_shape, finish_shape, stir_shape, pageWrite_shape,
          handleDoorbell_shape, wakeForDoorbell_shape]) | split)

theorem eqBaseWrite_shape (i : Nat) (data : Word) (s : State) :
    (eqBaseWrite i data s).shape = s.shape := by
  unfold eqBaseWrite
  repeat' (first | with_reducible rfl | (intro _) | (rw [foldl_shape]) | (rw [foldl_pair_shape]) |
    (simp only [shape_mk, shape_rules, shape_eta, List.length_map, List.length_zipIdx, modAt_length,
          modEq_shape, disownWrites_shape]) | split)

theorem eqHeadWrite_shape (i : Nat) (v : Idx) (s : State) :
    (eqHeadWrite i v s).shape = s.shape := by
  unfold eqHeadWrite
  repeat' (first | with_reducible rfl | (intro _) | (rw [foldl_shape]) | (rw [foldl_pair_shape]) |
    (simp only [shape_mk, shape_rules, shape_eta, List.length_map, List.length_zipIdx, modAt_length,
          modEq_shape, irqCheck_shape]) | split)

theorem eqIrqWrite_shape (i : Nat) (data : Word) (s : State) :
    (eqIrqWrite i data s).shape = s.shape := by
  unfold eqIrqWrite
  repeat' (first | with_reducible rfl | (intro _) | (rw [foldl_shape]) | (rw [foldl_pair_shape]) |
    (simp only [shape_mk, shape_rules, shape_eta, List.length_map, List.length_zipIdx, modAt_length,
          modEq_shape, count_shape, irqCheck_shape]) | split)

theorem prefetchCfg_shape (data : Word) (s : State) :
    (prefetchCfg data s).shape = s.shape := by
  unfold prefetchCfg
  repeat' (first | with_reducible rfl | (intro _) | (rw [foldl_shape]) | (rw [foldl_pair_shape]) |
    (simp only [shape_mk, shape_rules, shape_eta, List.length_map, List.length_zipIdx, modAt_length]) | split)

theorem unitWrite_shape (off : Nat) (strb : BitVec 8) (k : State → State) (s : State) (hk : ∀  s, (k  s).shape = s.shape) :
    (unitWrite off strb k s).shape = s.shape := by
  unfold unitWrite
  repeat' (first | with_reducible rfl | (intro _) | (rw [foldl_shape]) | (rw [foldl_pair_shape]) |
    (simp only [shape_mk, shape_rules, shape_eta, List.length_map, List.length_zipIdx, modAt_length,
          answerWrite_shape, finish_shape, stir_shape, hk]) | split)

theorem returnPk_shape (o : Op) (s : State) :
    (returnPk o s).shape = s.shape := by
  unfold returnPk
  repeat' (first | with_reducible rfl | (intro _) | (rw [foldl_shape]) | (rw [foldl_pair_shape]) |
    (simp only [shape_mk, shape_rules, shape_eta, List.length_map, List.length_zipIdx, modAt_length,
          modOp_shape, mapEngines_shape, dropReads_shape]) | split)

theorem returnOp_shape (o : Op) (s : State) :
    (returnOp o s).shape = s.shape := by
  unfold returnOp
  repeat' (first | with_reducible rfl | (intro _) | (rw [foldl_shape]) | (rw [foldl_pair_shape]) |
    (simp only [shape_mk, shape_rules, shape_eta, List.length_map, List.length_zipIdx, modAt_length,
          modOp_shape, dropReads_shape, dropOutput_shape, returnPk_shape]) | split)

theorem attachHalted_shape (n : Nat) (s : State) :
    (attachHalted n s).shape = s.shape := by
  unfold attachHalted
  repeat' (first | with_reducible rfl | (intro _) | (rw [foldl_shape]) | (rw [foldl_pair_shape]) |
    (simp only [shape_mk, shape_rules, shape_eta, List.length_map, List.length_zipIdx, modAt_length,
          attachEnd_shape]) | split)

theorem haltPort_shape (n cause : Nat) (st : Status) (ring : Nat) (s : State) :
    (haltPort n cause st ring s).shape = s.shape := by
  unfold haltPort
  repeat' (first | with_reducible rfl | (intro _) | (rw [foldl_shape]) | (rw [foldl_pair_shape]) |
    (simp only [shape_mk, shape_rules, shape_eta, List.length_map, List.length_zipIdx, modAt_length,
          modPort_shape, addCounter_shape, firmwareHalted_shape, returnOp_shape, attachHalted_shape]) | split)

theorem tellDrained_shape (n : Nat) (s : State) :
    (tellDrained n s).shape = s.shape := by
  unfold tellDrained
  repeat' (first | with_reducible rfl | (intro _) | (rw [foldl_shape]) | (rw [foldl_pair_shape]) |
    (simp only [shape_mk, shape_rules, shape_eta, List.length_map, List.length_zipIdx, modAt_length,
          modPort_shape, evWrite_shape]) | split)

theorem queueFailed_shape (q : Nat) (s : State) :
    (queueFailed q s).shape = s.shape := by
  unfold queueFailed
  repeat' (first | with_reducible rfl | (intro _) | (rw [foldl_shape]) | (rw [foldl_pair_shape]) |
    (simp only [shape_mk, shape_rules, shape_eta, List.length_map, List.length_zipIdx, modAt_length,
          modCq_shape, dropReads_shape, disownWrites_shape, replyWord2_shape]) | split)

theorem stopEngine_shape (id : Nat) (st : Status) (s : State) :
    (stopEngine id st s).shape = s.shape := by
  unfold stopEngine
  repeat' (first | with_reducible rfl | (intro _) | (rw [foldl_shape]) | (rw [foldl_pair_shape]) |
    (simp only [shape_mk, shape_rules, shape_eta, List.length_map, List.length_zipIdx, modAt_length,
          mapEngines_shape, dropReads_shape]) | split)

theorem readFailed_shape (n : Nat) (r : Rd) (st : Status) (s : State) :
    (readFailed n r st s).shape = s.shape := by
  unfold readFailed
  repeat' (first | with_reducible rfl | (intro _) | (rw [foldl_shape]) | (rw [foldl_pair_shape]) |
    (simp only [shape_mk, shape_rules, shape_eta, List.length_map, List.length_zipIdx, modAt_length,
          modPort_shape, dropReads_shape, failRead_shape, firmwareFailed_shape, failEntry_shape,
          slotReadFailed_shape, harvestFailed_shape, haltPort_shape, queueFailed_shape, stopEngine_shape]) | split)

theorem lateWriteFailed_shape (ring : Nat) (e : Idx) (st : Status) (s : State) :
    (lateWriteFailed ring e st s).shape = s.shape := by
  unfold lateWriteFailed
  repeat' (first | with_reducible rfl | (intro _) | (rw [foldl_shape]) | (rw [foldl_pair_shape]) |
    (simp only [shape_mk, shape_rules, shape_eta, List.length_map, List.length_zipIdx, modAt_length,
          stopRing_shape]) | split)

theorem complFailed_shape (id : Nat) (st : Status) (s : State) :
    (complFailed id st s).shape = s.shape := by
  unfold complFailed
  repeat' (first | with_reducible rfl | (intro _) | (rw [foldl_shape]) | (rw [foldl_pair_shape]) |
    (simp only [shape_mk, shape_rules, shape_eta, List.length_map, List.length_zipIdx, modAt_length,
          modRing_shape, modOp_shape, releaseOp_shape, dueErrorRecord_shape, stopRing_shape]) | split)

theorem writeFailed_shape (n : Nat) (w : Wr) (st : Status) (s : State) :
    (writeFailed n w st s).shape = s.shape := by
  unfold writeFailed
  repeat' (first | with_reducible rfl | (intro _) | (rw [foldl_shape]) | (rw [foldl_pair_shape]) |
    (simp only [shape_mk, shape_rules, shape_eta, List.length_map, List.length_zipIdx, modAt_length,
          modInst_shape, modPort_shape, modEq_shape, addCounter_shape, dropWrites_shape, irqCheck_shape,
          evFail_shape, freeRecords_shape, failWrite_shape, replyWord2_shape, flushSlot_shape,
          flushFabricError_shape, flushWritten_shape, firmwareFailed_shape, stopConsumed_shape,
          haltPort_shape, queueFailed_shape, stopEngine_shape, lateWriteFailed_shape, complFailed_shape]) | split)

theorem firstData_shape (id : Nat) (s : State) :
    (firstData id s).shape = s.shape := by
  unfold firstData
  repeat' (first | with_reducible rfl | (intro _) | (rw [foldl_shape]) | (rw [foldl_pair_shape]) |
    (simp only [shape_mk, shape_rules, shape_eta, List.length_map, List.length_zipIdx, modAt_length,
          modOp_shape, draw_shape]) | split)

theorem deliverPiece_shape (w : Owner) (off : Nat) (data : List Byte) (s : State) :
    (deliverPiece w off data s).shape = s.shape := by
  unfold deliverPiece
  repeat' (first | with_reducible rfl | (intro _) | (rw [foldl_shape]) | (rw [foldl_pair_shape]) |
    (simp only [shape_mk, shape_rules, shape_eta, List.length_map, List.length_zipIdx, modAt_length,
          modOp_shape, countOp_shape, advancePart_shape, joinPartQ_shape, firstData_shape]) | split)

theorem commitTaken_shape (q : Nat) (p : List Byte) (s : State) :
    (commitTaken q p s).shape = s.shape := by
  unfold commitTaken
  repeat' (first | with_reducible rfl | (intro _) | (rw [foldl_shape]) | (rw [foldl_pair_shape]) |
    (simp only [shape_mk, shape_rules, shape_eta, List.length_map, List.length_zipIdx, modAt_length]) | split)

theorem countRead_shape (i ring : Nat) (data : List Byte) (s : State) :
    (countRead i ring data s).shape = s.shape := by
  unfold countRead
  repeat' (first | with_reducible rfl | (intro _) | (rw [foldl_shape]) | (rw [foldl_pair_shape]) |
    (simp only [shape_mk, shape_rules, shape_eta, List.length_map, List.length_zipIdx, modAt_length,
          countIf_shape]) | split)

theorem deliverWhole_shape (w : Owner) (data : List Byte) (s : State) :
    (deliverWhole w data s).shape = s.shape := by
  unfold deliverWhole
  repeat' (first | with_reducible rfl | (intro _) | (rw [foldl_shape]) | (rw [foldl_pair_shape]) |
    (simp only [shape_mk, shape_rules, shape_eta, List.length_map, List.length_zipIdx, modAt_length,
          modOp_shape, modCq_shape, addCounter_shape, arrive_shape, noteTaken_shape, lineCame_shape,
          imageCame_shape, acceptOp_shape, firstData_shape, commitTaken_shape, countRead_shape]) | split)

theorem takeData_shape (n : Nat) (r : Rd) (data : List Byte) (s : State) :
    (takeData n r data s).shape = s.shape := by
  unfold takeData
  repeat' (first | with_reducible rfl | (intro _) | (rw [foldl_shape]) | (rw [foldl_pair_shape]) |
    (simp only [shape_mk, shape_rules, shape_eta, List.length_map, List.length_zipIdx, modAt_length,
          deliverPiece_shape, deliverWhole_shape]) | split)

theorem absorbRead_shape (n : Nat) (r : Rd) (st : Status) (s : State) :
    (absorbRead n r st s).shape = s.shape := by
  unfold absorbRead
  repeat' (first | with_reducible rfl | (intro _) | (rw [foldl_shape]) | (rw [foldl_pair_shape]) |
    (simp only [shape_mk, shape_rules, shape_eta, List.length_map, List.length_zipIdx, modAt_length,
          addCounter_shape, haltPort_shape]) | split)

theorem readBeats_shape (n : Nat) (r : Rd) (s : State) :
    (readBeats n r s).shape = s.shape := by
  unfold readBeats
  repeat' (first | with_reducible rfl | (intro _) | (rw [foldl_shape]) | (rw [foldl_pair_shape]) |
    (simp only [shape_mk, shape_rules, shape_eta, List.length_map, List.length_zipIdx, modAt_length,
          modPort_shape, countIn_shape]) | split)

theorem readResponse_shape (n id : Nat) (parityOk : Bool) (status : BitVec 2) (data : List Byte) (s : State) :
    (readResponse n id parityOk status data s).shape = s.shape := by
  unfold readResponse
  repeat' (first | with_reducible rfl | (intro _) | (rw [foldl_shape]) | (rw [foldl_pair_shape]) |
    (simp only [shape_mk, shape_rules, shape_eta, List.length_map, List.length_zipIdx, modAt_length,
          modPort_shape, countIn_shape, fireAt_shape, haltPort_shape, readFailed_shape, takeData_shape,
          absorbRead_shape, readBeats_shape]) | split)

theorem freePlaces_shape (id : Nat) (s : State) :
    (freePlaces id s).shape = s.shape := by
  unfold freePlaces
  repeat' (first | with_reducible rfl | (intro _) | (rw [foldl_shape]) | (rw [foldl_pair_shape]) |
    (simp only [shape_mk, shape_rules, shape_eta, List.length_map, List.length_zipIdx, modAt_length,
          modOp_shape]) | split)

theorem scrubbed_shape (id : Nat) (s : State) :
    (scrubbed id s).shape = s.shape := by
  unfold scrubbed
  repeat' (first | with_reducible rfl | (intro _) | (rw [foldl_shape]) | (rw [foldl_pair_shape]) |
    (simp only [shape_mk, shape_rules, shape_eta, List.length_map, List.length_zipIdx, modAt_length,
          modOp_shape, tryPost_shape]) | split)

theorem nodeWritten_shape (level n : Nat) (s : State) :
    (nodeWritten level n s).shape = s.shape := by
  unfold nodeWritten
  repeat' (first | with_reducible rfl | (intro _) | (rw [foldl_shape]) | (rw [foldl_pair_shape]) |
    (simp only [shape_mk, shape_rules, shape_eta, List.length_map, List.length_zipIdx, modAt_length,
          modNode_shape, dropNode_shape]) | split)

theorem reauthDone_shape (s : State) :
    (reauthDone s).shape = s.shape := by
  unfold reauthDone
  repeat' (first | with_reducible rfl | (intro _) | (rw [foldl_shape]) | (rw [foldl_pair_shape]) |
    (simp only [shape_mk, shape_rules, shape_eta, List.length_map, List.length_zipIdx, modAt_length]) | split)

theorem writeAcked_shape (n : Nat) (w : Wr) (s : State) :
    (writeAcked n w s).shape = s.shape := by
  unfold writeAcked
  repeat' (first | with_reducible rfl | (intro _) | (rw [foldl_shape]) | (rw [foldl_pair_shape]) |
    (simp only [shape_mk, shape_rules, shape_eta, List.length_map, List.length_zipIdx, modAt_length,
          arrive_shape, freeRecords_shape, tryPost_shape, replyWord2_shape, flushSlot_shape,
          flushWritten_shape, atticWritten_shape, lineWritten_shape, freePlaces_shape, scrubbed_shape,
          nodeWritten_shape, reauthDone_shape]) | split)

theorem writeAck_shape (n id : Nat) (parityOk : Bool) (status : BitVec 2) (s : State) :
    (writeAck n id parityOk status s).shape = s.shape := by
  unfold writeAck
  repeat' (first | with_reducible rfl | (intro _) | (rw [foldl_shape]) | (rw [foldl_pair_shape]) |
    (simp only [shape_mk, shape_rules, shape_eta, List.length_map, List.length_zipIdx, modAt_length,
          modPort_shape, fireAt_shape, haltPort_shape, writeFailed_shape, writeAcked_shape]) | split)

theorem afterPort_shape (n : Nat) (s : State) :
    (afterPort n s).shape = s.shape := by
  unfold afterPort
  repeat' (first | with_reducible rfl | (intro _) | (rw [foldl_shape]) | (rw [foldl_pair_shape]) |
    (simp only [shape_mk, shape_rules, shape_eta, List.length_map, List.length_zipIdx, modAt_length, pump_shape,
          finish_shape, redispatch_shape, tellDrained_shape]) | split)

theorem readLate_shape (n id : Nat) (s : State) :
    (readLate n id s).shape = s.shape := by
  unfold readLate
  repeat' (first | with_reducible rfl | (intro _) | (rw [foldl_shape]) | (rw [foldl_pair_shape]) |
    (simp only [shape_mk, shape_rules, shape_eta, List.length_map, List.length_zipIdx, modAt_length,
          modPort_shape, countIn_shape, readFailed_shape, absorbRead_shape, afterPort_shape]) | split)

theorem writeLate_shape (n id : Nat) (s : State) :
    (writeLate n id s).shape = s.shape := by
  unfold writeLate
  repeat' (first | with_reducible rfl | (intro _) | (rw [foldl_shape]) | (rw [foldl_pair_shape]) |
    (simp only [shape_mk, shape_rules, shape_eta, List.length_map, List.length_zipIdx, modAt_length,
          modPort_shape, writeFailed_shape, afterPort_shape]) | split)

theorem writesResume_shape (n : Nat) (s : State) :
    (writesResume n s).shape = s.shape := by
  unfold writesResume
  repeat' (first | with_reducible rfl | (intro _) | (rw [foldl_shape]) | (rw [foldl_pair_shape]) |
    (simp only [shape_mk, shape_rules, shape_eta, List.length_map, List.length_zipIdx, modAt_length,
          irqCheck_shape, tryPost_shape]) | split)

theorem resumePort_shape (n : Nat) (s : State) :
    (resumePort n s).shape = s.shape := by
  unfold resumePort
  repeat' (first | with_reducible rfl | (intro _) | (rw [foldl_shape]) | (rw [foldl_pair_shape]) |
    (simp only [shape_mk, shape_rules, shape_eta, List.length_map, List.length_zipIdx, modAt_length,
          modOp_shape, modPort_shape, issueWrites_shape, pump_shape, dispatchOp_shape, writesResume_shape]) | split)

theorem portCtrlWrite_shape (port : Nat) (data : Word) (s : State) :
    (portCtrlWrite port data s).shape = s.shape := by
  unfold portCtrlWrite
  repeat' (first | with_reducible rfl | (intro _) | (rw [foldl_shape]) | (rw [foldl_pair_shape]) |
    (simp only [shape_mk, shape_rules, shape_eta, List.length_map, List.length_zipIdx, modAt_length,
          modPort_shape, pump_shape, writesResume_shape]) | split)

theorem bwCfgWrite_shape (data : Word) (s : State) :
    (bwCfgWrite data s).shape = s.shape := by
  unfold bwCfgWrite
  repeat' (first | with_reducible rfl | (intro _) | (rw [foldl_shape]) | (rw [foldl_pair_shape]) |
    (simp only [shape_mk, shape_rules, shape_eta, List.length_map, List.length_zipIdx, modAt_length]) | split)

end Sys2Proof.Machine
end

