-- ==== Sys2Proof/Laws/ShapeD.lean ====
section
/-!
SUPPORT. What no command changes: Commands, Authority, Firmware.
-/

set_option linter.unusedSimpArgs false
set_option linter.unusedTactic false
set_option linter.unreachableTactic false

namespace Sys2Proof.Machine

theorem command_shape (q : Nat) (mine : List Byte → Bool) (k : List Byte → State → State) (s : State) (hk : ∀ a s, (k a s).shape = s.shape) :
    (command q mine k s).shape = s.shape := by
  unfold command
  repeat' (first | with_reducible rfl | (intro _) | (rw [foldl_shape]) | (rw [foldl_pair_shape]) |
    (rw [serve_shape]) |
    (simp only [shape_mk, shape_rules, shape_eta, List.length_map, List.length_zipIdx, modAt_length,
          serve_shape, finish_shape, stir_shape, hk]) | split)

theorem negotiate_shape (q : Nat) (p : List Byte) (s : State) :
    (negotiate q p s).shape = s.shape := by
  unfold negotiate
  repeat' (first | with_reducible rfl | (intro _) | (rw [foldl_shape]) | (rw [foldl_pair_shape]) |
    (simp only [shape_mk, shape_rules, shape_eta, List.length_map, List.length_zipIdx, modAt_length,
          reply_shape]) | split)

theorem startDestroy_shape (q i : Nat) (s : State) :
    (startDestroy q i s).shape = s.shape := by
  unfold startDestroy
  repeat' (first | with_reducible rfl | (intro _) | (rw [foldl_shape]) | (rw [foldl_pair_shape]) |
    (simp only [shape_mk, shape_rules, shape_eta, List.length_map, List.length_zipIdx, modAt_length,
          modInst_shape, dropPacketRead_shape, waitFor_shape, generationStep_shape, abandonQuiesce_shape]) | split)

theorem quiesce_shape (q i : Nat) (s : State) :
    (quiesce q i s).shape = s.shape := by
  unfold quiesce
  repeat' (first | with_reducible rfl | (intro _) | (rw [foldl_shape]) | (rw [foldl_pair_shape]) |
    (simp only [shape_mk, shape_rules, shape_eta, List.length_map, List.length_zipIdx, modAt_length,
          modInst_shape, reply_shape, waitFor_shape]) | split)

theorem resetInst_shape (q i : Nat) (s : State) :
    (resetInst q i s).shape = s.shape := by
  unfold resetInst
  repeat' (first | with_reducible rfl | (intro _) | (rw [foldl_shape]) | (rw [foldl_pair_shape]) |
    (simp only [shape_mk, shape_rules, shape_eta, List.length_map, List.length_zipIdx, modAt_length,
          modInst_shape, dropPacketRead_shape, reply_shape, waitFor_shape, generationStep_shape,
          endReset_shape, abandonQuiesce_shape]) | split)

theorem resumeRing_shape (q n : Nat) (s : State) :
    (resumeRing q n s).shape = s.shape := by
  unfold resumeRing
  repeat' (first | with_reducible rfl | (intro _) | (rw [foldl_shape]) | (rw [foldl_pair_shape]) |
    (simp only [shape_mk, shape_rules, shape_eta, List.length_map, List.length_zipIdx, modAt_length,
          modRing_shape, reply_shape]) | split)

theorem resetRing_shape (q n : Nat) (s : State) :
    (resetRing q n s).shape = s.shape := by
  unfold resetRing
  repeat' (first | with_reducible rfl | (intro _) | (rw [foldl_shape]) | (rw [foldl_pair_shape]) |
    (simp only [shape_mk, shape_rules, shape_eta, List.length_map, List.length_zipIdx, modAt_length,
          reply_shape, waitFor_shape, drainRing_shape]) | split)

theorem beginTxn_shape (q : Nat) (p : List Byte) (s : State) :
    (beginTxn q p s).shape = s.shape := by
  unfold beginTxn
  repeat' (first | with_reducible rfl | (intro _) | (rw [foldl_shape]) | (rw [foldl_pair_shape]) |
    (simp only [shape_mk, shape_rules, shape_eta, List.length_map, List.length_zipIdx, modAt_length,
          reply_shape]) | split)

theorem commitTxn_shape (q : Nat) (s : State) :
    (commitTxn q s).shape = s.shape := by
  unfold commitTxn
  repeat' (first | with_reducible rfl | (intro _) | (rw [foldl_shape]) | (rw [foldl_pair_shape]) |
    (simp only [shape_mk, shape_rules, shape_eta, List.length_map, List.length_zipIdx, modAt_length,
          reply_shape, waitFor_shape, endTxn_shape]) | split)

theorem resumeMover_shape (q : Nat) (p : List Byte) (s : State) :
    (resumeMover q p s).shape = s.shape := by
  unfold resumeMover
  repeat' (first | with_reducible rfl | (intro _) | (rw [foldl_shape]) | (rw [foldl_pair_shape]) |
    (simp only [shape_mk, shape_rules, shape_eta, List.length_map, List.length_zipIdx, modAt_length,
          reply_shape, waitFor_shape]) | split)

theorem abortOp_shape (o : Op) (s : State) :
    (abortOp o s).shape = s.shape := by
  unfold abortOp
  repeat' (first | with_reducible rfl | (intro _) | (rw [foldl_shape]) | (rw [foldl_pair_shape]) |
    (simp only [shape_mk, shape_rules, shape_eta, List.length_map, List.length_zipIdx, modAt_length,
          dropWrites_shape, failWrite_shape, stopEngine_shape]) | split)

theorem abortRing_shape (q : Nat) (p : List Byte) (s : State) :
    (abortRing q p s).shape = s.shape := by
  unfold abortRing
  repeat' (first | with_reducible rfl | (intro _) | (rw [foldl_shape]) | (rw [foldl_pair_shape]) |
    (simp only [shape_mk, shape_rules, shape_eta, List.length_map, List.length_zipIdx, modAt_length,
          reply_shape, waitFor_shape, abortOp_shape]) | split)

theorem rngFails_shape (s : State) :
    (rngFails s).shape = s.shape := by
  unfold rngFails
  repeat' (first | with_reducible rfl | (intro _) | (rw [foldl_shape]) | (rw [foldl_pair_shape]) |
    (simp only [shape_mk, shape_rules, shape_eta, List.length_map, List.length_zipIdx, modAt_length]) | split)

theorem injectNow_shape (point : Nat) (s : State) :
    (injectNow point s).shape = s.shape := by
  unfold injectNow
  repeat' (first | with_reducible rfl | (intro _) | (rw [foldl_shape]) | (rw [foldl_pair_shape]) |
    (simp only [shape_mk, shape_rules, shape_eta, List.length_map, List.length_zipIdx, modAt_length,
          fireAt_shape, eccRead_shape, assertSource_shape, rngFails_shape]) | split)

theorem inject_shape (q : Nat) (p : List Byte) (s : State) :
    (inject q p s).shape = s.shape := by
  unfold inject
  repeat' (first | with_reducible rfl | (intro _) | (rw [foldl_shape]) | (rw [foldl_pair_shape]) |
    (simp only [shape_mk, shape_rules, shape_eta, List.length_map, List.length_zipIdx, modAt_length,
          reply_shape, injectNow_shape]) | split)

theorem serveUnknown_shape (q : Nat) (s : State) :
    (serveUnknown q s).shape = s.shape := by
  unfold serveUnknown
  repeat' (first | with_reducible rfl | (intro _) | (rw [foldl_shape]) | (rw [foldl_pair_shape]) |
    (simp only [shape_mk, shape_rules, shape_eta, List.length_map, List.length_zipIdx, modAt_length,
          keyinDone_shape, commitRefused_shape, reply_shape, takeArrivedPacket_shape]) | split)

theorem replyDone_shape (q : Nat) (s : State) :
    (replyDone q s).shape = s.shape := by
  unfold replyDone
  repeat' (first | with_reducible rfl | (intro _) | (rw [foldl_shape]) | (rw [foldl_pair_shape]) |
    (simp only [shape_mk, shape_rules, shape_eta, List.length_map, List.length_zipIdx, modAt_length,
          modCq_shape, evWrite_shape, reply_shape]) | split)

theorem cqBaseWrite_shape (q : Nat) (data : Word) (s : State) :
    (cqBaseWrite q data s).shape = s.shape := by
  unfold cqBaseWrite
  repeat' (first | with_reducible rfl | (intro _) | (rw [foldl_shape]) | (rw [foldl_pair_shape]) |
    (simp only [shape_mk, shape_rules, shape_eta, List.length_map, List.length_zipIdx, modAt_length,
          modCq_shape, dropPacketRead_shape, endTxn_shape]) | split)

theorem cqTailWrite_shape (q : Nat) (v : Idx) (s : State) :
    (cqTailWrite q v s).shape = s.shape := by
  unfold cqTailWrite
  repeat' (first | with_reducible rfl | (intro _) | (rw [foldl_shape]) | (rw [foldl_pair_shape]) |
    (simp only [shape_mk, shape_rules, shape_eta, List.length_map, List.length_zipIdx, modAt_length,
          modCq_shape]) | split)

theorem keyinWrite_shape (off : Nat) (strb : BitVec 8) (k : Keys → Keys) (s : State) :
    (keyinWrite off strb k s).shape = s.shape := by
  unfold keyinWrite
  repeat' (first | with_reducible rfl | (intro _) | (rw [foldl_shape]) | (rw [foldl_pair_shape]) |
    (simp only [shape_mk, shape_rules, shape_eta, List.length_map, List.length_zipIdx, modAt_length,
          answerWrite_shape, finish_shape, stir_shape]) | split)

theorem replyEnvelope_shape (q : Nat) (st : Status) (d : Nat) (body : List Byte) (s : State) :
    (replyEnvelope q st d body s).shape = s.shape := by
  unfold replyEnvelope
  repeat' (first | with_reducible rfl | (intro _) | (rw [foldl_shape]) | (rw [foldl_pair_shape]) |
    (simp only [shape_mk, shape_rules, shape_eta, List.length_map, List.length_zipIdx, modAt_length,
          reply_shape]) | split)

theorem commitEnvelope_shape (q : Nat) (e secret : List Byte) (s : State) :
    (commitEnvelope q e secret s).shape = s.shape := by
  unfold commitEnvelope
  repeat' (first | with_reducible rfl | (intro _) | (rw [foldl_shape]) | (rw [foldl_pair_shape]) |
    (simp only [shape_mk, shape_rules, shape_eta, List.length_map, List.length_zipIdx, modAt_length,
          waitFor_shape, applyKek_shape, replyEnvelope_shape]) | split)

theorem envelopeEngine_shape (n : Nat) (s : State) :
    (envelopeEngine n s).shape = s.shape := by
  unfold envelopeEngine
  repeat' (first | with_reducible rfl | (intro _) | (rw [foldl_shape]) | (rw [foldl_pair_shape]) |
    (simp only [shape_mk, shape_rules, shape_eta, List.length_map, List.length_zipIdx, modAt_length]) | split)

theorem finishEnvelope_shape (q : Nat) (s : State) :
    (finishEnvelope q s).shape = s.shape := by
  unfold finishEnvelope
  repeat' (first | with_reducible rfl | (intro _) | (rw [foldl_shape]) | (rw [foldl_pair_shape]) |
    (simp only [shape_mk, shape_rules, shape_eta, List.length_map, List.length_zipIdx, modAt_length,
          readKeyStore_shape, replyEnvelope_shape, commitEnvelope_shape]) | split)

theorem envWork_shape (q : Nat) (s : State) :
    (envWork q s).shape = s.shape := by
  unfold envWork
  repeat' (first | with_reducible rfl | (intro _) | (rw [foldl_shape]) | (rw [foldl_pair_shape]) |
    (simp only [shape_mk, shape_rules, shape_eta, List.length_map, List.length_zipIdx, modAt_length,
          waitFor_shape, envelopeEngine_shape, finishEnvelope_shape]) | split)

theorem envTick_shape (s : State) :
    (envTick s).shape = s.shape := by
  unfold envTick
  repeat' (first | with_reducible rfl | (intro _) | (rw [foldl_shape]) | (rw [foldl_pair_shape]) |
    (simp only [shape_mk, shape_rules, shape_eta, List.length_map, List.length_zipIdx, modAt_length,
          finishEnvelope_shape]) | split)

theorem applyEnvelope_shape (q : Nat) (p : List Byte) (s : State) :
    (applyEnvelope q p s).shape = s.shape := by
  unfold applyEnvelope
  repeat' (first | with_reducible rfl | (intro _) | (rw [foldl_shape]) | (rw [foldl_pair_shape]) |
    (simp only [shape_mk, shape_rules, shape_eta, List.length_map, List.length_zipIdx, modAt_length,
          waitFor_shape, replyEnvelope_shape, envWork_shape]) | split)

theorem unlockBlock_shape (q : Nat) (s : State) :
    (unlockBlock q s).shape = s.shape := by
  unfold unlockBlock
  repeat' (first | with_reducible rfl | (intro _) | (rw [foldl_shape]) | (rw [foldl_pair_shape]) |
    (simp only [shape_mk, shape_rules, shape_eta, List.length_map, List.length_zipIdx, modAt_length,
          reply_shape, waitFor_shape]) | split)

theorem attachStore_shape (q : Nat) (p : List Byte) (s : State) :
    (attachStore q p s).shape = s.shape := by
  unfold attachStore
  repeat' (first | with_reducible rfl | (intro _) | (rw [foldl_shape]) | (rw [foldl_pair_shape]) |
    (simp only [shape_mk, shape_rules, shape_eta, List.length_map, List.length_zipIdx, modAt_length,
          reply_shape, waitFor_shape, attachStep_shape]) | split)

theorem newStore_shape (s : State) :
    (newStore s).shape = s.shape := by
  unfold newStore
  repeat' (first | with_reducible rfl | (intro _) | (rw [foldl_shape]) | (rw [foldl_pair_shape]) |
    (simp only [shape_mk, shape_rules, shape_eta, List.length_map, List.length_zipIdx, modAt_length,
          dropReads_shape, disownWrites_shape]) | split)

theorem resetStore_shape (q : Nat) (s : State) :
    (resetStore q s).shape = s.shape := by
  unfold resetStore
  repeat' (first | with_reducible rfl | (intro _) | (rw [foldl_shape]) | (rw [foldl_pair_shape]) |
    (simp only [shape_mk, shape_rules, shape_eta, List.length_map, List.length_zipIdx, modAt_length,
          reply_shape, newStore_shape]) | split)

theorem stageBundle_shape (q : Nat) (p : List Byte) (s : State) :
    (stageBundle q p s).shape = s.shape := by
  unfold stageBundle
  repeat' (first | with_reducible rfl | (intro _) | (rw [foldl_shape]) | (rw [foldl_pair_shape]) |
    (simp only [shape_mk, shape_rules, shape_eta, List.length_map, List.length_zipIdx, modAt_length,
          reply_shape, waitFor_shape, copyNext_shape]) | split)

theorem handOver_shape (q : Nat) (x : LandingRun) (p : List Byte) (s : State) :
    (handOver q x p s).shape = s.shape := by
  unfold handOver
  repeat' (first | with_reducible rfl | (intro _) | (rw [foldl_shape]) | (rw [foldl_pair_shape]) |
    (simp only [shape_mk, shape_rules, shape_eta, List.length_map, List.length_zipIdx, modAt_length,
          reply_shape, waitFor_shape, activate_shape, wakeForCommand_shape]) | split)

theorem handOverOn_shape (q : Nat) (x : LandingRun) (s : State) :
    (handOverOn q x s).shape = s.shape := by
  unfold handOverOn
  repeat' (first | with_reducible rfl | (intro _) | (rw [foldl_shape]) | (rw [foldl_pair_shape]) |
    (simp only [shape_mk, shape_rules, shape_eta, List.length_map, List.length_zipIdx, modAt_length,
          finish_shape, stir_shape, handOver_shape]) | split)

theorem armRebuild_shape (q : Nat) (chain : Bool) (p : List Byte) (s : State) :
    (armRebuild q chain p s).shape = s.shape := by
  unfold armRebuild
  repeat' (first | with_reducible rfl | (intro _) | (rw [foldl_shape]) | (rw [foldl_pair_shape]) |
    (simp only [shape_mk, shape_rules, shape_eta, List.length_map, List.length_zipIdx, modAt_length,
          reply_shape, modLink_shape]) | split)

theorem disarm_shape (s : State) :
    (disarm s).shape = s.shape := by
  unfold disarm
  repeat' (first | with_reducible rfl | (intro _) | (rw [foldl_shape]) | (rw [foldl_pair_shape]) |
    (simp only [shape_mk, shape_rules, shape_eta, List.length_map, List.length_zipIdx, modAt_length,
          modLink_shape]) | split)

theorem confirmImage_shape (s : State) :
    (confirmImage s).shape = s.shape := by
  unfold confirmImage
  repeat' (first | with_reducible rfl | (intro _) | (rw [foldl_shape]) | (rw [foldl_pair_shape]) |
    (simp only [shape_mk, shape_rules, shape_eta, List.length_map, List.length_zipIdx, modAt_length]) | split)

theorem confirmHere_shape (s : State) :
    (confirmHere s).shape = s.shape := by
  unfold confirmHere
  repeat' (first | with_reducible rfl | (intro _) | (rw [foldl_shape]) | (rw [foldl_pair_shape]) |
    (simp only [shape_mk, shape_rules, shape_eta, List.length_map, List.length_zipIdx, modAt_length,
          modLink_shape, confirmImage_shape]) | split)

theorem chainMessage_shape (k : State → State) (s : State) (hk : ∀  s, (k  s).shape = s.shape) :
    (chainMessage k s).shape = s.shape := by
  unfold chainMessage
  repeat' (first | with_reducible rfl | (intro _) | (rw [foldl_shape]) | (rw [foldl_pair_shape]) |
    (simp only [shape_mk, shape_rules, shape_eta, List.length_map, List.length_zipIdx, modAt_length,
          finish_shape, stir_shape, hk]) | split)

theorem takeFwdBlock_shape (b : FwdBlock) (s : State) :
    (takeFwdBlock b s).shape = s.shape := by
  unfold takeFwdBlock
  repeat' (first | with_reducible rfl | (intro _) | (rw [foldl_shape]) | (rw [foldl_pair_shape]) |
    (simp only [shape_mk, shape_rules, shape_eta, List.length_map, List.length_zipIdx, modAt_length,
          modLink_shape, putBlock_shape, fwdFails_shape]) | split)

theorem forwardedBlock_shape (b : FwdBlock) (s : State) :
    (forwardedBlock b s).shape = s.shape := by
  unfold forwardedBlock
  repeat' (first | with_reducible rfl | (intro _) | (rw [foldl_shape]) | (rw [foldl_pair_shape]) |
    (simp only [shape_mk, shape_rules, shape_eta, List.length_map, List.length_zipIdx, modAt_length,
          reportUp_shape, fwdFails_shape, takeFwdBlock_shape]) | split)

theorem stageAbort_shape (s : State) :
    (stageAbort s).shape = s.shape := by
  unfold stageAbort
  repeat' (first | with_reducible rfl | (intro _) | (rw [foldl_shape]) | (rw [foldl_pair_shape]) |
    (simp only [shape_mk, shape_rules, shape_eta, List.length_map, List.length_zipIdx, modAt_length,
          modLink_shape, endForward_shape]) | split)

theorem chainReport_shape (r : ReportKind) (pos : Nat) (s : State) :
    (chainReport r pos s).shape = s.shape := by
  unfold chainReport
  repeat' (first | with_reducible rfl | (intro _) | (rw [foldl_shape]) | (rw [foldl_pair_shape]) |
    (simp only [shape_mk, shape_rules, shape_eta, List.length_map, List.length_zipIdx, modAt_length,
          modLink_shape]) | split)

theorem armMessage_shape (m : ArmMsg) (s : State) :
    (armMessage m s).shape = s.shape := by
  unfold armMessage
  repeat' (first | with_reducible rfl | (intro _) | (rw [foldl_shape]) | (rw [foldl_pair_shape]) |
    (simp only [shape_mk, shape_rules, shape_eta, List.length_map, List.length_zipIdx, modAt_length,
          modLink_shape, reportUp_shape]) | split)

theorem modEngine_shape (n : Nat) (f : Engine → Engine) (s : State) :
    (modEngine n f s).shape = s.shape := by
  unfold modEngine
  repeat' (first | with_reducible rfl | (intro _) | (rw [foldl_shape]) | (rw [foldl_pair_shape]) |
    (simp only [shape_mk, shape_rules, shape_eta, List.length_map, List.length_zipIdx, modAt_length]) | split)

theorem atticWrite_shape (data : Word) (s : State) :
    (atticWrite data s).shape = s.shape := by
  unfold atticWrite
  repeat' (first | with_reducible rfl | (intro _) | (rw [foldl_shape]) | (rw [foldl_pair_shape]) |
    (simp only [shape_mk, shape_rules, shape_eta, List.length_map, List.length_zipIdx, modAt_length]) | split)

theorem fwCfgWrite_shape (data : Word) (s : State) :
    (fwCfgWrite data s).shape = s.shape := by
  unfold fwCfgWrite
  repeat' (first | with_reducible rfl | (intro _) | (rw [foldl_shape]) | (rw [foldl_pair_shape]) |
    (simp only [shape_mk, shape_rules, shape_eta, List.length_map, List.length_zipIdx, modAt_length]) | split)

end Sys2Proof.Machine
end

