-- ==== Sys2Proof/Laws/ShapeE.lean ====
section
/-!
SUPPORT. What no command changes: Rooms, Rounds, PantryDoor, Scullery, Sampling, Hearth, Watch.
-/

set_option linter.unusedSimpArgs false
set_option linter.unusedTactic false
set_option linter.unreachableTactic false

namespace Sys2Proof.Machine

theorem markWindow_shape (x : Slot) (p : Nat) (s : State) :
    (markWindow x p s).shape = s.shape := by
  unfold markWindow
  repeat' (first | with_reducible rfl | (intro _) | (rw [foldl_shape]) | (rw [foldl_pair_shape]) |
    (simp only [shape_mk, shape_rules, shape_eta, List.length_map, List.length_zipIdx, modAt_length,
          mapSlots_shape, markDirty_shape, modCtx_shape]) | split)

theorem emitTag_shape (o : Op) (tag : List Byte) (s : State) :
    (emitTag o tag s).shape = s.shape := by
  unfold emitTag
  repeat' (first | with_reducible rfl | (intro _) | (rw [foldl_shape]) | (rw [foldl_pair_shape]) |
    (simp only [shape_mk, shape_rules, shape_eta, List.length_map, List.length_zipIdx, modAt_length,
          countOp_shape, emit_shape, emitAt_shape]) | split)

theorem releasePlain_shape (o : Op) (s : State) :
    (releasePlain o s).shape = s.shape := by
  unfold releasePlain
  repeat' (first | with_reducible rfl | (intro _) | (rw [foldl_shape]) | (rw [foldl_pair_shape]) |
    (simp only [shape_mk, shape_rules, shape_eta, List.length_map, List.length_zipIdx, modAt_length,
          eccRead_shape, emit_shape, endOp_shape, slotLost_shape, markWindow_shape]) | split)

theorem closeOp_shape (id : Nat) (s : State) :
    (closeOp id s).shape = s.shape := by
  unfold closeOp
  repeat' (first | with_reducible rfl | (intro _) | (rw [foldl_shape]) | (rw [foldl_pair_shape]) |
    (simp only [shape_mk, shape_rules, shape_eta, List.length_map, List.length_zipIdx, modAt_length,
          endOp_shape, emitTag_shape, releasePlain_shape]) | split)

theorem startPart_shape (id u : Nat) (s : State) :
    (startPart id u s).shape = s.shape := by
  unfold startPart
  repeat' (first | with_reducible rfl | (intro _) | (rw [foldl_shape]) | (rw [foldl_pair_shape]) |
    (simp only [shape_mk, shape_rules, shape_eta, List.length_map, List.length_zipIdx, modAt_length,
          modOp_shape, rotateLanes_shape, eccRead_shape, endOp_shape, advancePart_shape]) | split)

theorem reports_shape (n : Nat) (s : State) :
    (reports n s).shape = s.shape := by
  unfold reports
  repeat' (first | with_reducible rfl | (intro _) | (rw [foldl_shape]) | (rw [foldl_pair_shape]) |
    (simp only [shape_mk, shape_rules, shape_eta, List.length_map, List.length_zipIdx, modAt_length,
          faultReport_shape]) | split)

theorem setService_shape (chacha : Bool) (u v : Nat) (s : State) :
    (setService chacha u v s).shape = s.shape := by
  unfold setService
  repeat' (first | with_reducible rfl | (intro _) | (rw [foldl_shape]) | (rw [foldl_pair_shape]) |
    (simp only [shape_mk, shape_rules, shape_eta, List.length_map, List.length_zipIdx, modAt_length]) | split)

theorem movePart_shape (chacha : Bool) (u id : Nat) (s : State) :
    (movePart chacha u id s).shape = s.shape := by
  unfold movePart
  repeat' (first | with_reducible rfl | (intro _) | (rw [foldl_shape]) | (rw [foldl_pair_shape]) |
    (simp only [shape_mk, shape_rules, shape_eta, List.length_map, List.length_zipIdx, modAt_length,
          modOp_shape, releaseOp_shape]) | split)

theorem unitMismatch_shape (chacha : Bool) (u : Nat) (dummy : Bool) (bad : List Nat) (s : State) :
    (unitMismatch chacha u dummy bad s).shape = s.shape := by
  unfold unitMismatch
  repeat' (first | with_reducible rfl | (intro _) | (rw [foldl_shape]) | (rw [foldl_pair_shape]) |
    (simp only [shape_mk, shape_rules, shape_eta, List.length_map, List.length_zipIdx, modAt_length,
          endOp_shape, reports_shape, setService_shape, movePart_shape]) | split)

theorem savePart_shape (o : Op) (s : State) :
    (savePart o s).shape = s.shape := by
  unfold savePart
  repeat' (first | with_reducible rfl | (intro _) | (rw [foldl_shape]) | (rw [foldl_pair_shape]) |
    (simp only [shape_mk, shape_rules, shape_eta, List.length_map, List.length_zipIdx, modAt_length,
          modOp_shape, issueSrc_shape, closeOp_shape]) | split)

theorem endPart_shape (id : Nat) (s : State) :
    (endPart id s).shape = s.shape := by
  unfold endPart
  repeat' (first | with_reducible rfl | (intro _) | (rw [foldl_shape]) | (rw [foldl_pair_shape]) |
    (simp only [shape_mk, shape_rules, shape_eta, List.length_map, List.length_zipIdx, modAt_length,
          fireAt_shape, releaseOp_shape, advancePart_shape, unitMismatch_shape, savePart_shape]) | split)

theorem mismatch_shape (m : MismatchAt) (s : State) :
    (mismatch m s).shape = s.shape := by
  unfold mismatch
  repeat' (first | with_reducible rfl | (intro _) | (rw [foldl_shape]) | (rw [foldl_pair_shape]) |
    (simp only [shape_mk, shape_rules, shape_eta, List.length_map, List.length_zipIdx, modAt_length,
          unitMismatch_shape]) | split)

theorem replaceDummyKey_shape (n left : Nat) (s : State) :
    (replaceDummyKey n left s).shape = s.shape := by
  unfold replaceDummyKey
  repeat' (first | with_reducible rfl | (intro _) | (rw [foldl_shape]) | (rw [foldl_pair_shape]) |
    (simp only [shape_mk, shape_rules, shape_eta, List.length_map, List.length_zipIdx, modAt_length,
          newDummyKey_shape]) | split)

theorem countParked_shape (s : State) :
    (countParked s).shape = s.shape := by
  unfold countParked
  repeat' (first | with_reducible rfl | (intro _) | (rw [foldl_shape]) | (rw [foldl_pair_shape]) |
    (simp only [shape_mk, shape_rules, shape_eta, List.length_map, List.length_zipIdx, modAt_length,
          addCounter_shape]) | split)

theorem issueDummy_shape (n a : Nat) (s : State) :
    (issueDummy n a s).shape = s.shape := by
  unfold issueDummy
  repeat' (first | with_reducible rfl | (intro _) | (rw [foldl_shape]) | (rw [foldl_pair_shape]) |
    (simp only [shape_mk, shape_rules, shape_eta, List.length_map, List.length_zipIdx, modAt_length,
          generate_shape, rotateLanes_shape]) | split)

theorem issueDummies_shape (s : State) :
    (issueDummies s).shape = s.shape := by
  unfold issueDummies
  repeat' (first | with_reducible rfl | (intro _) | (rw [foldl_shape]) | (rw [foldl_pair_shape]) |
    (simp only [shape_mk, shape_rules, shape_eta, List.length_map, List.length_zipIdx, modAt_length,
          countIn_shape, issueDummy_shape]) | split)

theorem injectDummies_shape (s : State) :
    (injectDummies s).shape = s.shape := by
  unfold injectDummies
  repeat' (first | with_reducible rfl | (intro _) | (rw [foldl_shape]) | (rw [foldl_pair_shape]) |
    (simp only [shape_mk, shape_rules, shape_eta, List.length_map, List.length_zipIdx, modAt_length,
          fireAt_shape, unitMismatch_shape]) | split)

theorem countRound_shape (s : State) :
    (countRound s).shape = s.shape := by
  unfold countRound
  repeat' (first | with_reducible rfl | (intro _) | (rw [foldl_shape]) | (rw [foldl_pair_shape]) |
    (simp only [shape_mk, shape_rules, shape_eta, List.length_map, List.length_zipIdx, modAt_length,
          addCounter_shape, countOp_shape, countParked_shape, issueDummies_shape, injectDummies_shape]) | split)

theorem setHeaQuanta_shape (s : State) :
    (setHeaQuanta s).shape = s.shape := by
  unfold setHeaQuanta
  repeat' (first | with_reducible rfl | (intro _) | (rw [foldl_shape]) | (rw [foldl_pair_shape]) |
    (simp only [shape_mk, shape_rules, shape_eta, List.length_map, List.length_zipIdx, modAt_length]) | split)

theorem clampHea_shape (i : Nat) (s : State) :
    (clampHea i s).shape = s.shape := by
  unfold clampHea
  repeat' (first | with_reducible rfl | (intro _) | (rw [foldl_shape]) | (rw [foldl_pair_shape]) |
    (simp only [shape_mk, shape_rules, shape_eta, List.length_map, List.length_zipIdx, modAt_length,
          modInst_shape]) | split)

theorem applyCommit_shape (q : Nat) (s : State) :
    (applyCommit q s).shape = s.shape := by
  unfold applyCommit
  repeat' (first | with_reducible rfl | (intro _) | (rw [foldl_shape]) | (rw [foldl_pair_shape]) |
    (simp only [shape_mk, shape_rules, shape_eta, List.length_map, List.length_zipIdx, modAt_length,
          reply_shape, endTxn_shape, applyInOrder_shape]) | split)

theorem applyWait_shape (q : Nat) (s : State) :
    (applyWait q s).shape = s.shape := by
  unfold applyWait
  repeat' (first | with_reducible rfl | (intro _) | (rw [foldl_shape]) | (rw [foldl_pair_shape]) |
    (simp only [shape_mk, shape_rules, shape_eta, List.length_map, List.length_zipIdx, modAt_length,
          reply_shape, applyCounter_shape, applyShare_shape, resumePort_shape, applyCommit_shape]) | split)

theorem instanceSteps_shape (s : State) :
    (instanceSteps s).shape = s.shape := by
  unfold instanceSteps
  repeat' (first | with_reducible rfl | (intro _) | (rw [foldl_shape]) | (rw [foldl_pair_shape]) |
    (simp only [shape_mk, shape_rules, shape_eta, List.length_map, List.length_zipIdx, modAt_length,
          modInst_shape, generationStep_shape]) | split)

theorem setGrants_shape (s : State) :
    (setGrants s).shape = s.shape := by
  unfold setGrants
  repeat' (first | with_reducible rfl | (intro _) | (rw [foldl_shape]) | (rw [foldl_pair_shape]) |
    (simp only [shape_mk, shape_rules, shape_eta, List.length_map, List.length_zipIdx, modAt_length]) | split)

theorem markRound_shape (s : State) :
    (markRound s).shape = s.shape := by
  unfold markRound
  repeat' (first | with_reducible rfl | (intro _) | (rw [foldl_shape]) | (rw [foldl_pair_shape]) |
    (simp only [shape_mk, shape_rules, shape_eta, List.length_map, List.length_zipIdx, modAt_length]) | split)

theorem boundary_shape (s : State) :
    (boundary s).shape = s.shape := by
  unfold boundary
  repeat' (first | with_reducible rfl | (intro _) | (rw [foldl_shape]) | (rw [foldl_pair_shape]) |
    (simp only [shape_mk, shape_rules, shape_eta, List.length_map, List.length_zipIdx, modAt_length,
          setQuanta_shape, clampShares_shape, applyKek_shape, answerKek_shape, countRound_shape,
          setHeaQuanta_shape, applyWait_shape, instanceSteps_shape, setGrants_shape, markRound_shape]) | split)

theorem placeInc_shape (f : Fetch) (x : Slot) (s : State) :
    (placeInc f x s).shape = s.shape := by
  unfold placeInc
  repeat' (first | with_reducible rfl | (intro _) | (rw [foldl_shape]) | (rw [foldl_pair_shape]) |
    (simp only [shape_mk, shape_rules, shape_eta, List.length_map, List.length_zipIdx, modAt_length,
          modOp_shape, addCounter_shape, wakeIndex_shape, placeFetch_shape, installDone_shape]) | split)

theorem placeLive_shape (f : Fetch) (x : Slot) (s : State) :
    (placeLive f x s).shape = s.shape := by
  unfold placeLive
  repeat' (first | with_reducible rfl | (intro _) | (rw [foldl_shape]) | (rw [foldl_pair_shape]) |
    (simp only [shape_mk, shape_rules, shape_eta, List.length_map, List.length_zipIdx, modAt_length,
          modFetch_shape, failFetch_shape, placeInc_shape]) | split)

theorem takeLive_shape (f : Fetch) (x : Slot) (s : State) :
    (takeLive f x s).shape = s.shape := by
  unfold takeLive
  repeat' (first | with_reducible rfl | (intro _) | (rw [foldl_shape]) | (rw [foldl_pair_shape]) |
    (simp only [shape_mk, shape_rules, shape_eta, List.length_map, List.length_zipIdx, modAt_length,
          wakeIndex_shape, dropFetch_shape, failCheck_shape, placeLive_shape]) | split)

theorem takeEmpty_shape (f : Fetch) (s : State) :
    (takeEmpty f s).shape = s.shape := by
  unfold takeEmpty
  repeat' (first | with_reducible rfl | (intro _) | (rw [foldl_shape]) | (rw [foldl_pair_shape]) |
    (simp only [shape_mk, shape_rules, shape_eta, List.length_map, List.length_zipIdx, modAt_length,
          failFetch_shape, installRest_shape]) | split)

theorem takeBlob_shape (f : Fetch) (b : List Byte) (s : State) :
    (takeBlob f b s).shape = s.shape := by
  unfold takeBlob
  repeat' (first | with_reducible rfl | (intro _) | (rw [foldl_shape]) | (rw [foldl_pair_shape]) |
    (simp only [shape_mk, shape_rules, shape_eta, List.length_map, List.length_zipIdx, modAt_length,
          failFetch_shape, installRest_shape, takeLive_shape, takeEmpty_shape]) | split)

theorem stepFetch_shape (index : Nat) (s : State) :
    (stepFetch index s).shape = s.shape := by
  unfold stepFetch
  repeat' (first | with_reducible rfl | (intro _) | (rw [foldl_shape]) | (rw [foldl_pair_shape]) |
    (exact (congrArg (fun p => State.shape (Prod.snd p)) ‹advanceFetch _ _ = _›.symm).trans (advanceFetch_shape _ _)) |
    (simp only [shape_mk, shape_rules, shape_eta, List.length_map, List.length_zipIdx, modAt_length,
          wakeIndex_shape, dropFetch_shape, failFetch_shape, advanceFetch_shape, placeInc_shape,
          takeEmpty_shape, takeBlob_shape]) | split)

theorem doorStep_shape (s : State) :
    (doorStep s).shape = s.shape := by
  unfold doorStep
  repeat' (first | with_reducible rfl | (intro _) | (rw [foldl_shape]) | (rw [foldl_pair_shape]) |
    (simp only [shape_mk, shape_rules, shape_eta, List.length_map, List.length_zipIdx, modAt_length,
          progressTomb_shape, stepFetch_shape]) | split)

theorem startFetch_shape (index : Nat) (s : State) :
    (startFetch index s).shape = s.shape := by
  unfold startFetch
  repeat' (first | with_reducible rfl | (intro _) | (rw [foldl_shape]) | (rw [foldl_pair_shape]) |
    (simp only [shape_mk, shape_rules, shape_eta, List.length_map, List.length_zipIdx, modAt_length,
          stepFetch_shape]) | split)

theorem nodeTaken_shape (level n : Nat) (ok : Bool) (s : State) :
    (nodeTaken level n ok s).shape = s.shape := by
  unfold nodeTaken
  repeat' (first | with_reducible rfl | (intro _) | (rw [foldl_shape]) | (rw [foldl_pair_shape]) |
    (simp only [shape_mk, shape_rules, shape_eta, List.length_map, List.length_zipIdx, modAt_length,
          attachEnd_shape, attachStep_shape, nodeFailed_shape, doorStep_shape]) | split)

theorem nodeReturn_shape (level n : Nat) (s : State) :
    (nodeReturn level n s).shape = s.shape := by
  unfold nodeReturn
  repeat' (first | with_reducible rfl | (intro _) | (rw [foldl_shape]) | (rw [foldl_pair_shape]) |
    (simp only [shape_mk, shape_rules, shape_eta, List.length_map, List.length_zipIdx, modAt_length,
          addCounter_shape, takeArrived_shape, cacheNode_shape, nodeTaken_shape]) | split)

theorem blobReturn_shape (index : Nat) (s : State) :
    (blobReturn index s).shape = s.shape := by
  unfold blobReturn
  repeat' (first | with_reducible rfl | (intro _) | (rw [foldl_shape]) | (rw [foldl_pair_shape]) |
    (simp only [shape_mk, shape_rules, shape_eta, List.length_map, List.length_zipIdx, modAt_length,
          takeArrived_shape, modFetch_shape, stepFetch_shape]) | split)

theorem victimAck_shape (index : Nat) (s : State) :
    (victimAck index s).shape = s.shape := by
  unfold victimAck
  repeat' (first | with_reducible rfl | (intro _) | (rw [foldl_shape]) | (rw [foldl_pair_shape]) |
    (simp only [shape_mk, shape_rules, shape_eta, List.length_map, List.length_zipIdx, modAt_length,
          keepSlots_shape, addCounter_shape, takeArrived_shape, wakeIndex_shape, modCtx_shape,
          modFetch_shape, slotWritten_shape, stepFetch_shape]) | split)

theorem nodeOut_shape (level n : Nat) (s : State) :
    (nodeOut level n s).shape = s.shape := by
  unfold nodeOut
  repeat' (first | with_reducible rfl | (intro _) | (rw [foldl_shape]) | (rw [foldl_pair_shape]) |
    (simp only [shape_mk, shape_rules, shape_eta, List.length_map, List.length_zipIdx, modAt_length,
          modNode_shape, writeNode_shape, askParents_shape]) | split)

theorem reauthChild_shape (level n : Nat) (old new : Ctrs) (c : Nat) (b : List Byte) (s : State) :
    (reauthChild level n old new c b s).shape = s.shape := by
  unfold reauthChild
  repeat' (first | with_reducible rfl | (intro _) | (rw [foldl_shape]) | (rw [foldl_pair_shape]) |
    (simp only [shape_mk, shape_rules, shape_eta, List.length_map, List.length_zipIdx, modAt_length,
          writeReq_shape, countIntegrity_shape]) | split)

theorem askChild_shape (level n c : Nat) (s : State) :
    (askChild level n c s).shape = s.shape := by
  unfold askChild
  repeat' (first | with_reducible rfl | (intro _) | (rw [foldl_shape]) | (rw [foldl_pair_shape]) |
    (simp only [shape_mk, shape_rules, shape_eta, List.length_map, List.length_zipIdx, modAt_length,
          readReq_shape]) | split)

theorem reauthenticate_shape (level n : Nat) (s : State) :
    (reauthenticate level n s).shape = s.shape := by
  unfold reauthenticate
  repeat' (first | with_reducible rfl | (intro _) | (rw [foldl_shape]) | (rw [foldl_pair_shape]) |
    (simp only [shape_mk, shape_rules, shape_eta, List.length_map, List.length_zipIdx, modAt_length,
          takeArrived_shape, modNode_shape, reauthDone_shape, reauthChild_shape, askChild_shape]) | split)

theorem microsecond_shape (s : State) :
    (microsecond s).shape = s.shape := by
  unfold microsecond
  repeat' (first | with_reducible rfl | (intro _) | (rw [foldl_shape]) | (rw [foldl_pair_shape]) |
    (simp only [shape_mk, shape_rules, shape_eta, List.length_map, List.length_zipIdx, modAt_length,
          count_shape]) | split)

theorem doorTick_shape (s : State) :
    (doorTick s).shape = s.shape := by
  unfold doorTick
  repeat' (first | with_reducible rfl | (intro _) | (rw [foldl_shape]) | (rw [foldl_pair_shape]) |
    (simp only [shape_mk, shape_rules, shape_eta, List.length_map, List.length_zipIdx, modAt_length,
          doorStep_shape]) | split)

theorem modScu_shape (n : Nat) (f : ScuCtx → ScuCtx) (s : State) :
    (modScu n f s).shape = s.shape := by
  unfold modScu
  repeat' (first | with_reducible rfl | (intro _) | (rw [foldl_shape]) | (rw [foldl_pair_shape]) |
    (simp only [shape_mk, shape_rules, shape_eta, List.length_map, List.length_zipIdx, modAt_length]) | split)

theorem giveCore_shape (n : Nat) (s : State) :
    (giveCore n s).shape = s.shape := by
  unfold giveCore
  repeat' (first | with_reducible rfl | (intro _) | (rw [foldl_shape]) | (rw [foldl_pair_shape]) |
    (simp only [shape_mk, shape_rules, shape_eta, List.length_map, List.length_zipIdx, modAt_length,
          modScu_shape]) | split)

theorem settleCores_shape (s : State) :
    (settleCores s).shape = s.shape := by
  unfold settleCores
  repeat' (first | with_reducible rfl | (intro _) | (rw [foldl_shape]) | (rw [foldl_pair_shape]) |
    (simp only [shape_mk, shape_rules, shape_eta, List.length_map, List.length_zipIdx, modAt_length,
          giveCore_shape]) | split)

theorem startDigest_shape (id core : Nat) (parityOk : Bool) (s : State) :
    (startDigest id core parityOk s).shape = s.shape := by
  unfold startDigest
  repeat' (first | with_reducible rfl | (intro _) | (rw [foldl_shape]) | (rw [foldl_pair_shape]) |
    (simp only [shape_mk, shape_rules, shape_eta, List.length_map, List.length_zipIdx, modAt_length,
          modOp_shape, endOp_shape]) | split)

theorem endDigest_shape (id : Nat) (s : State) :
    (endDigest id s).shape = s.shape := by
  unfold endDigest
  repeat' (first | with_reducible rfl | (intro _) | (rw [foldl_shape]) | (rw [foldl_pair_shape]) |
    (simp only [shape_mk, shape_rules, shape_eta, List.length_map, List.length_zipIdx, modAt_length,
          modOp_shape, issueSrc_shape, emitAt_shape, releaseOp_shape, endOp_shape]) | split)

theorem scuWrite_shape (off : Nat) (strb : BitVec 8) (f : ScuCtx → ScuCtx) (s : State) :
    (scuWrite off strb f s).shape = s.shape := by
  unfold scuWrite
  repeat' (first | with_reducible rfl | (intro _) | (rw [foldl_shape]) | (rw [foldl_pair_shape]) |
    (simp only [shape_mk, shape_rules, shape_eta, List.length_map, List.length_zipIdx, modAt_length,
          answerWrite_shape, stir_shape, modScu_shape, settleCores_shape]) | split)

theorem sampBaseWrite_shape (i : Nat) (data : Word) (s : State) :
    (sampBaseWrite i data s).shape = s.shape := by
  unfold sampBaseWrite
  repeat' (first | with_reducible rfl | (intro _) | (rw [foldl_shape]) | (rw [foldl_pair_shape]) |
    (simp only [shape_mk, shape_rules, shape_eta, List.length_map, List.length_zipIdx, modAt_length,
          modInst_shape]) | split)

theorem sampCfgWrite_shape (i : Nat) (data : Word) (s : State) :
    (sampCfgWrite i data s).shape = s.shape := by
  unfold sampCfgWrite
  repeat' (first | with_reducible rfl | (intro _) | (rw [foldl_shape]) | (rw [foldl_pair_shape]) |
    (simp only [shape_mk, shape_rules, shape_eta, List.length_map, List.length_zipIdx, modAt_length,
          modInst_shape]) | split)

theorem sampHeadWrite_shape (i : Nat) (v : Idx) (s : State) :
    (sampHeadWrite i v s).shape = s.shape := by
  unfold sampHeadWrite
  repeat' (first | with_reducible rfl | (intro _) | (rw [foldl_shape]) | (rw [foldl_pair_shape]) |
    (simp only [shape_mk, shape_rules, shape_eta, List.length_map, List.length_zipIdx, modAt_length,
          modInst_shape]) | split)

theorem sampStatusWrite_shape (i : Nat) (data : Word) (s : State) :
    (sampStatusWrite i data s).shape = s.shape := by
  unfold sampStatusWrite
  repeat' (first | with_reducible rfl | (intro _) | (rw [foldl_shape]) | (rw [foldl_pair_shape]) |
    (simp only [shape_mk, shape_rules, shape_eta, List.length_map, List.length_zipIdx, modAt_length,
          modInst_shape]) | split)

theorem chargeHearth_shape (o : Op) (ns : Nat) (s : State) :
    (chargeHearth o ns s).shape = s.shape := by
  unfold chargeHearth
  repeat' (first | with_reducible rfl | (intro _) | (rw [foldl_shape]) | (rw [foldl_pair_shape]) |
    (simp only [shape_mk, shape_rules, shape_eta, List.length_map, List.length_zipIdx, modAt_length,
          modInst_shape, countOp_shape]) | split)

theorem refundHearth_shape (o : Op) (ns : Nat) (s : State) :
    (refundHearth o ns s).shape = s.shape := by
  unfold refundHearth
  repeat' (first | with_reducible rfl | (intro _) | (rw [foldl_shape]) | (rw [foldl_pair_shape]) |
    (simp only [shape_mk, shape_rules, shape_eta, List.length_map, List.length_zipIdx, modAt_length,
          modInst_shape, uncountIn_shape]) | split)

theorem fetchOperands_shape (n : Nat) (o : Op) (s : State) :
    (fetchOperands n o s).shape = s.shape := by
  unfold fetchOperands
  repeat' (first | with_reducible rfl | (intro _) | (rw [foldl_shape]) | (rw [foldl_pair_shape]) |
    (simp only [shape_mk, shape_rules, shape_eta, List.length_map, List.length_zipIdx, modAt_length,
          readReq_shape, modEngine_shape]) | split)

theorem chargeRest_shape (o : Op) (t : Nat) (s : State) :
    (chargeRest o t s).shape = s.shape := by
  unfold chargeRest
  repeat' (first | with_reducible rfl | (intro _) | (rw [foldl_shape]) | (rw [foldl_pair_shape]) |
    (simp only [shape_mk, shape_rules, shape_eta, List.length_map, List.length_zipIdx, modAt_length,
          modOp_shape, refundHearth_shape]) | split)

theorem giveEngine_shape (n : Nat) (o : Op) (s : State) :
    (giveEngine n o s).shape = s.shape := by
  unfold giveEngine
  repeat' (first | with_reducible rfl | (intro _) | (rw [foldl_shape]) | (rw [foldl_pair_shape]) |
    (simp only [shape_mk, shape_rules, shape_eta, List.length_map, List.length_zipIdx, modAt_length,
          modOp_shape, modEngine_shape, chargeHearth_shape, fetchOperands_shape]) | split)

theorem closeVisit_shape (s : State) :
    (closeVisit s).shape = s.shape := by
  unfold closeVisit
  repeat' (first | with_reducible rfl | (intro _) | (rw [foldl_shape]) | (rw [foldl_pair_shape]) |
    (simp only [shape_mk, shape_rules, shape_eta, List.length_map, List.length_zipIdx, modAt_length,
          clampHea_shape]) | split)

theorem openVisit_shape (i : Nat) (s : State) :
    (openVisit i s).shape = s.shape := by
  unfold openVisit
  repeat' (first | with_reducible rfl | (intro _) | (rw [foldl_shape]) | (rw [foldl_pair_shape]) |
    (simp only [shape_mk, shape_rules, shape_eta, List.length_map, List.length_zipIdx, modAt_length,
          modInst_shape]) | split)

theorem visitLoop_shape (n : Nat) (s : State) : (visitLoop n s).shape = s.shape := by
  induction n generalizing s with
  | zero => rfl
  | succ n ih =>
    unfold visitLoop
    repeat' (first | with_reducible rfl | (simp only [ih, shape_rules, giveEngine_shape, closeVisit_shape,
      openVisit_shape]) | split)

theorem freeEngine_shape (n : Nat) (o : Op) (s : State) :
    (freeEngine n o s).shape = s.shape := by
  unfold freeEngine
  repeat' (first | with_reducible rfl | (intro _) | (rw [foldl_shape]) | (rw [foldl_pair_shape]) |
    (simp only [shape_mk, shape_rules, shape_eta, List.length_map, List.length_zipIdx, modAt_length,
          modEngine_shape]) | split)

theorem endPk_shape (n : Nat) (o : Op) (st : Status) (len : Nat) (s : State) :
    (endPk n o st len s).shape = s.shape := by
  unfold endPk
  repeat' (first | with_reducible rfl | (intro _) | (rw [foldl_shape]) | (rw [foldl_pair_shape]) |
    (simp only [shape_mk, shape_rules, shape_eta, List.length_map, List.length_zipIdx, modAt_length,
          endOp_shape, freeEngine_shape]) | split)

theorem faultPk_shape (n : Nat) (o : Op) (s : State) :
    (faultPk n o s).shape = s.shape := by
  unfold faultPk
  repeat' (first | with_reducible rfl | (intro _) | (rw [foldl_shape]) | (rw [foldl_pair_shape]) |
    (simp only [shape_mk, shape_rules, shape_eta, List.length_map, List.length_zipIdx, modAt_length,
          endOp_shape, faultReport_shape, modEngine_shape]) | split)

theorem onEngine_shape (n : Nat) (st : EngState) (f : Engine → Op → State → State) (s : State) (hf : ∀ a b s, (f a b s).shape = s.shape) :
    (onEngine n st f s).shape = s.shape := by
  unfold onEngine
  repeat' (first | with_reducible rfl | (intro _) | (rw [foldl_shape]) | (rw [foldl_pair_shape]) |
    (simp only [shape_mk, shape_rules, shape_eta, List.length_map, List.length_zipIdx, modAt_length,
          finish_shape, hf]) | split)

theorem chargeHeader_shape (o : Op) (hdr : List Byte) (s : State) :
    (chargeHeader o hdr s).shape = s.shape := by
  unfold chargeHeader
  repeat' (first | with_reducible rfl | (intro _) | (rw [foldl_shape]) | (rw [foldl_pair_shape]) |
    (simp only [shape_mk, shape_rules, shape_eta, List.length_map, List.length_zipIdx, modAt_length,
          chargeRest_shape]) | split)

theorem takeHeader_shape (n : Nat) (o : Op) (hdr : List Byte) (s : State) :
    (takeHeader n o hdr s).shape = s.shape := by
  unfold takeHeader
  repeat' (first | with_reducible rfl | (intro _) | (rw [foldl_shape]) | (rw [foldl_pair_shape]) |
    (simp only [shape_mk, shape_rules, shape_eta, List.length_map, List.length_zipIdx, modAt_length,
          readReq_shape, takeArrived_shape, modEngine_shape, endPk_shape, chargeHeader_shape]) | split)

theorem engineRegs_shape (n : Nat) (s : State) :
    (engineRegs n s).shape = s.shape := by
  unfold engineRegs
  repeat' (first | with_reducible rfl | (intro _) | (rw [foldl_shape]) | (rw [foldl_pair_shape]) |
    (simp only [shape_mk, shape_rules, shape_eta, List.length_map, List.length_zipIdx, modAt_length, draw_shape,
          modEngine_shape]) | split)

theorem takeOperands_shape (n : Nat) (e : Engine) (o : Op) (x : List Byte) (s : State) :
    (takeOperands n e o x s).shape = s.shape := by
  unfold takeOperands
  repeat' (first | with_reducible rfl | (intro _) | (rw [foldl_shape]) | (rw [foldl_pair_shape]) |
    (simp only [shape_mk, shape_rules, shape_eta, List.length_map, List.length_zipIdx, modAt_length,
          takeArrived_shape, modEngine_shape, chargeRest_shape, endPk_shape, engineRegs_shape]) | split)

theorem takeBlock_shape (n : Nat) (e : Engine) (o : Op) (s : State) :
    (takeBlock n e o s).shape = s.shape := by
  unfold takeBlock
  repeat' (first | with_reducible rfl | (intro _) | (rw [foldl_shape]) | (rw [foldl_pair_shape]) |
    (simp only [shape_mk, shape_rules, shape_eta, List.length_map, List.length_zipIdx, modAt_length,
          takeHeader_shape, takeOperands_shape]) | split)

theorem validate_shape (n : Nat) (e : Engine) (o : Op) (s : State) :
    (validate n e o s).shape = s.shape := by
  unfold validate
  repeat' (first | with_reducible rfl | (intro _) | (rw [foldl_shape]) | (rw [foldl_pair_shape]) |
    (simp only [shape_mk, shape_rules, shape_eta, List.length_map, List.length_zipIdx, modAt_length,
          eccRead_shape, modEngine_shape, endPk_shape, faultPk_shape]) | split)

theorem pkRandom_shape (n sub : Nat) (x : List Byte) (s : State) :
    (pkRandom n sub x s).2.shape = s.shape := by
  unfold pkRandom
  repeat' (first | with_reducible rfl | (intro _) | (rw [foldl_shape]) | (rw [foldl_pair_shape]) |
    (simp only [shape_mk, shape_rules, shape_eta, List.length_map, List.length_zipIdx, modAt_length,
          generate_shape]) | split)

theorem deliver_shape (n : Nat) (e : Engine) (o : Op) (s : State) :
    (deliver n e o s).shape = s.shape := by
  unfold deliver
  repeat' (first | with_reducible rfl | (intro _) | (rw [foldl_shape]) | (rw [foldl_pair_shape]) |
    (simp only [shape_mk, shape_rules, shape_eta, List.length_map, List.length_zipIdx, modAt_length,
          fireAt_shape, emitAt_shape, endPk_shape, faultPk_shape, pkRandom_shape]) | split)

theorem nominalEnd_shape (n : Nat) (parityOk : Bool) (e : Engine) (o : Op) (s : State) :
    (nominalEnd n parityOk e o s).shape = s.shape := by
  unfold nominalEnd
  repeat' (first | with_reducible rfl | (intro _) | (rw [foldl_shape]) | (rw [foldl_pair_shape]) |
    (simp only [shape_mk, shape_rules, shape_eta, List.length_map, List.length_zipIdx, modAt_length,
          endPk_shape, faultPk_shape, deliver_shape]) | split)

theorem endStopped_shape (o : Op) (st : Status) (s : State) :
    (endStopped o st s).shape = s.shape := by
  unfold endStopped
  repeat' (first | with_reducible rfl | (intro _) | (rw [foldl_shape]) | (rw [foldl_pair_shape]) |
    (simp only [shape_mk, shape_rules, shape_eta, List.length_map, List.length_zipIdx, modAt_length,
          releaseOp_shape, endOp_shape, failWrite_shape]) | split)

theorem wipeDone_shape (n : Nat) (e : Engine) (s : State) :
    (wipeDone n e s).shape = s.shape := by
  unfold wipeDone
  repeat' (first | with_reducible rfl | (intro _) | (rw [foldl_shape]) | (rw [foldl_pair_shape]) |
    (simp only [shape_mk, shape_rules, shape_eta, List.length_map, List.length_zipIdx, modAt_length,
          modEngine_shape, fetchOperands_shape, endStopped_shape]) | split)

theorem rolloutNext_shape (n : Nat) (s : State) :
    (rolloutNext n s).shape = s.shape := by
  unfold rolloutNext
  repeat' (first | with_reducible rfl | (intro _) | (rw [foldl_shape]) | (rw [foldl_pair_shape]) |
    (simp only [shape_mk, shape_rules, shape_eta, List.length_map, List.length_zipIdx, modAt_length,
          modEngine_shape]) | split)

theorem failQueue_shape (s : State) :
    (failQueue s).shape = s.shape := by
  unfold failQueue
  repeat' (first | with_reducible rfl | (intro _) | (rw [foldl_shape]) | (rw [foldl_pair_shape]) |
    (simp only [shape_mk, shape_rules, shape_eta, List.length_map, List.length_zipIdx, modAt_length,
          endOp_shape]) | split)

theorem testDone_shape (n : Nat) (pass : Bool) (e : Engine) (s : State) :
    (testDone n pass e s).shape = s.shape := by
  unfold testDone
  repeat' (first | with_reducible rfl | (intro _) | (rw [foldl_shape]) | (rw [foldl_pair_shape]) |
    (simp only [shape_mk, shape_rules, shape_eta, List.length_map, List.length_zipIdx, modAt_length,
          faultReport_shape, modEngine_shape, rolloutNext_shape, failQueue_shape]) | split)

theorem sourceOn_shape (src : Nat) (s : State) :
    (sourceOn src s).shape = s.shape := by
  unfold sourceOn
  repeat' (first | with_reducible rfl | (intro _) | (rw [foldl_shape]) | (rw [foldl_pair_shape]) |
    (simp only [shape_mk, shape_rules, shape_eta, List.length_map, List.length_zipIdx, modAt_length,
          assertSource_shape]) | split)

theorem sourceOff_shape (src : Nat) (s : State) :
    (sourceOff src s).shape = s.shape := by
  unfold sourceOff
  repeat' (first | with_reducible rfl | (intro _) | (rw [foldl_shape]) | (rw [foldl_pair_shape]) |
    (simp only [shape_mk, shape_rules, shape_eta, List.length_map, List.length_zipIdx, modAt_length,
          quietSource_shape]) | split)

theorem slideWindow_shape (s : State) :
    (slideWindow s).shape = s.shape := by
  unfold slideWindow
  repeat' (first | with_reducible rfl | (intro _) | (rw [foldl_shape]) | (rw [foldl_pair_shape]) |
    (simp only [shape_mk, shape_rules, shape_eta, List.length_map, List.length_zipIdx, modAt_length]) | split)

theorem mainTick_shape (s : State) :
    (mainTick s).shape = s.shape := by
  unfold mainTick
  repeat' (first | with_reducible rfl | (intro _) | (rw [foldl_shape]) | (rw [foldl_pair_shape]) |
    (simp only [shape_mk, shape_rules, shape_eta, List.length_map, List.length_zipIdx, modAt_length,
          modLink_shape, sendHellos_shape, envTick_shape]) | split)

theorem strike_shape (upsets : List Upset) (s : State) :
    (strike upsets s).shape = s.shape := by
  unfold strike
  repeat' (first | with_reducible rfl | (intro _) | (rw [foldl_shape]) | (rw [foldl_pair_shape]) |
    (simp only [shape_mk, shape_rules, shape_eta, List.length_map, List.length_zipIdx, modAt_length,
          eccCorr_shape]) | split)

theorem neighbourAlarm_shape (down : Bool) (pos : Nat) (zer : Bool) (s : State) :
    (neighbourAlarm down pos zer s).shape = s.shape := by
  unfold neighbourAlarm
  repeat' (first | with_reducible rfl | (intro _) | (rw [foldl_shape]) | (rw [foldl_pair_shape]) |
    (simp only [shape_mk, shape_rules, shape_eta, List.length_map, List.length_zipIdx, modAt_length,
          modLink_shape, raiseAlarm_shape, stir_shape]) | split)

end Sys2Proof.Machine
end

