-- ==== Sys2Proof/Laws/ShapeF.lean ====
section
/-!
SUPPORT. What no command changes: Power, StairLinks, Porch.
-/

set_option linter.unusedSimpArgs false
set_option linter.unusedTactic false
set_option linter.unreachableTactic false

namespace Sys2Proof.Machine

theorem bootCtrlWrite_shape (data : Word) (b : BringUp) (s : State) :
    (bootCtrlWrite data b s).shape = s.shape := by
  unfold bootCtrlWrite
  repeat' (first | with_reducible rfl | (intro _) | (rw [foldl_shape]) | (rw [foldl_pair_shape]) |
    (simp only [shape_mk, shape_rules, shape_eta, List.length_map, List.length_zipIdx, modAt_length,
          bootFromHost_shape]) | split)

theorem studyFails_shape (x : LandingRun) (s : State) :
    (studyFails x s).shape = s.shape := by
  unfold studyFails
  repeat' (first | with_reducible rfl | (intro _) | (rw [foldl_shape]) | (rw [foldl_pair_shape]) |
    (simp only [shape_mk, shape_rules, shape_eta, List.length_map, List.length_zipIdx, modAt_length,
          startSoftReset_shape, restartStudy_shape]) | split)

theorem mismatchCause_shape (s : State) :
    (mismatchCause s).shape = s.shape := by
  unfold mismatchCause
  repeat' (first | with_reducible rfl | (intro _) | (rw [foldl_shape]) | (rw [foldl_pair_shape]) |
    (simp only [shape_mk, shape_rules, shape_eta, List.length_map, List.length_zipIdx, modAt_length,
          fireAt_shape, eccRead_shape]) | split)

theorem enterPower_shape (code : Nat) (t : PwrState) (s : State) :
    (enterPower code t s).shape = s.shape := by
  unfold enterPower
  repeat' (first | with_reducible rfl | (intro _) | (rw [foldl_shape]) | (rw [foldl_pair_shape]) |
    (simp only [shape_mk, shape_rules, shape_eta, List.length_map, List.length_zipIdx, modAt_length]) | split)

theorem leaveDoze_shape (s : State) :
    (leaveDoze s).shape = s.shape := by
  unfold leaveDoze
  repeat' (first | with_reducible rfl | (intro _) | (rw [foldl_shape]) | (rw [foldl_pair_shape]) |
    (simp only [shape_mk, shape_rules, shape_eta, List.length_map, List.length_zipIdx, modAt_length,
          wake_shape]) | split)

theorem pwrCtrlWrite_shape (data : Word) (s : State) :
    (pwrCtrlWrite data s).shape = s.shape := by
  unfold pwrCtrlWrite
  repeat' (first | with_reducible rfl | (intro _) | (rw [foldl_shape]) | (rw [foldl_pair_shape]) |
    (simp only [shape_mk, shape_rules, shape_eta, List.length_map, List.length_zipIdx, modAt_length,
          enterPower_shape, leaveDoze_shape]) | split)

theorem targetRow_shape (t : Nat) (strb : BitVec 8) (data : Word) (s : State) :
    (targetRow t strb data s).shape = s.shape := by
  unfold targetRow
  repeat' (first | with_reducible rfl | (intro _) | (rw [foldl_shape]) | (rw [foldl_pair_shape]) |
    (rw [unitWrite_shape]) |
    (simp only [shape_mk, shape_rules, shape_eta, List.length_map, List.length_zipIdx, modAt_length,
          unitWrite_shape, pwrCtrlWrite_shape]) | split)

theorem cellarCounts_shape (s : State) :
    (cellarCounts s).shape = s.shape := by
  unfold cellarCounts
  repeat' (first | with_reducible rfl | (intro _) | (rw [foldl_shape]) | (rw [foldl_pair_shape]) |
    (simp only [shape_mk, shape_rules, shape_eta, List.length_map, List.length_zipIdx, modAt_length,
          draw_shape]) | split)

theorem tickLost_shape (s : State) :
    (tickLost s).shape = s.shape := by
  unfold tickLost
  repeat' (first | with_reducible rfl | (intro _) | (rw [foldl_shape]) | (rw [foldl_pair_shape]) |
    (simp only [shape_mk, shape_rules, shape_eta, List.length_map, List.length_zipIdx, modAt_length]) | split)

theorem mainReset_shape (s : State) :
    (mainReset s).shape = s.shape := by
  unfold mainReset
  repeat' (first | with_reducible rfl | (intro _) | (rw [foldl_shape]) | (rw [foldl_pair_shape]) |
    (simp only [shape_mk, shape_rules, shape_eta, List.length_map, List.length_zipIdx, modAt_length,
          clearMain_shape, tickLost_shape]) | split)

theorem mainBack_shape (s : State) :
    (mainBack s).shape = s.shape := by
  unfold mainBack
  repeat' (first | with_reducible rfl | (intro _) | (rw [foldl_shape]) | (rw [foldl_pair_shape]) |
    (simp only [shape_mk, shape_rules, shape_eta, List.length_map, List.length_zipIdx, modAt_length,
          alarmWake_shape]) | split)

theorem retainState_shape (s : State) :
    (retainState s).shape = s.shape := by
  unfold retainState
  repeat' (first | with_reducible rfl | (intro _) | (rw [foldl_shape]) | (rw [foldl_pair_shape]) |
    (simp only [shape_mk, shape_rules, shape_eta, List.length_map, List.length_zipIdx, modAt_length]) | split)

theorem retainZeroised_shape (s : State) :
    (retainZeroised s).shape = s.shape := by
  unfold retainZeroised
  repeat' (first | with_reducible rfl | (intro _) | (rw [foldl_shape]) | (rw [foldl_pair_shape]) |
    (simp only [shape_mk, shape_rules, shape_eta, List.length_map, List.length_zipIdx, modAt_length,
          makeStale_shape, clearKeys_shape, alarmWake_shape]) | split)

theorem retainStair_shape (s : State) :
    (retainStair s).shape = s.shape := by
  unfold retainStair
  repeat' (first | with_reducible rfl | (intro _) | (rw [foldl_shape]) | (rw [foldl_pair_shape]) |
    (simp only [shape_mk, shape_rules, shape_eta, List.length_map, List.length_zipIdx, modAt_length]) | split)

theorem retainFails_shape (rom : Bool) (b : BringUp) (s : State) :
    (retainFails rom b s).shape = s.shape := by
  unfold retainFails
  repeat' (first | with_reducible rfl | (intro _) | (rw [foldl_shape]) | (rw [foldl_pair_shape]) |
    (simp only [shape_mk, shape_rules, shape_eta, List.length_map, List.length_zipIdx, modAt_length,
          softEnd_shape]) | split)

theorem leaveRetain_shape (x : LandingRun) (b : BringUp) (s : State) :
    (leaveRetain x b s).shape = s.shape := by
  unfold leaveRetain
  repeat' (first | with_reducible rfl | (intro _) | (rw [foldl_shape]) | (rw [foldl_pair_shape]) |
    (simp only [shape_mk, shape_rules, shape_eta, List.length_map, List.length_zipIdx, modAt_length,
          raiseCmdRdy_shape, alarmWake_shape, clearMain_shape, bootFail_shape, startUnits_shape,
          startKeys_shape, cellarCounts_shape, mainBack_shape, retainState_shape, retainZeroised_shape,
          retainStair_shape, retainFails_shape]) | split)

theorem stairChange_shape (f : State → State) (s : State) (hf : ∀  s, (f  s).shape = s.shape) :
    (stairChange f s).shape = s.shape := by
  unfold stairChange
  repeat' (first | with_reducible rfl | (intro _) | (rw [foldl_shape]) | (rw [foldl_pair_shape]) |
    (simp only [shape_mk, shape_rules, shape_eta, List.length_map, List.length_zipIdx, modAt_length,
          modLink_shape, sendHellos_shape, hf]) | split)

theorem laneRow_shape (down : Bool) (n : Nat) (when' : Link → Lane → Bool) (f : Link → Link) (s : State) :
    (laneRow down n when' f s).shape = s.shape := by
  unfold laneRow
  repeat' (first | with_reducible rfl | (intro _) | (rw [foldl_shape]) | (rw [foldl_pair_shape]) |
    (rw [stairChange_shape]) |
    (simp only [shape_mk, shape_rules, shape_eta, List.length_map, List.length_zipIdx, modAt_length,
          modLink_shape, finish_shape, stairChange_shape]) | split)

theorem takeHello_shape (down : Bool) (m : HelloMsg) (s : State) :
    (takeHello down m s).shape = s.shape := by
  unfold takeHello
  repeat' (first | with_reducible rfl | (intro _) | (rw [foldl_shape]) | (rw [foldl_pair_shape]) |
    (simp only [shape_mk, shape_rules, shape_eta, List.length_map, List.length_zipIdx, modAt_length,
          modLink_shape]) | split)

theorem dbStatusWrite_shape (i : Nat) (data : Word) (s : State) :
    (dbStatusWrite i data s).shape = s.shape := by
  unfold dbStatusWrite
  repeat' (first | with_reducible rfl | (intro _) | (rw [foldl_shape]) | (rw [foldl_pair_shape]) |
    (simp only [shape_mk, shape_rules, shape_eta, List.length_map, List.length_zipIdx, modAt_length,
          modInst_shape]) | split)

theorem cqStatusWrite_shape (i : Nat) (data : Word) (s : State) :
    (cqStatusWrite i data s).shape = s.shape := by
  unfold cqStatusWrite
  repeat' (first | with_reducible rfl | (intro _) | (rw [foldl_shape]) | (rw [foldl_pair_shape]) |
    (simp only [shape_mk, shape_rules, shape_eta, List.length_map, List.length_zipIdx, modAt_length,
          modCq_shape]) | split)

theorem eqStatusWrite_shape (i : Nat) (data : Word) (s : State) :
    (eqStatusWrite i data s).shape = s.shape := by
  unfold eqStatusWrite
  repeat' (first | with_reducible rfl | (intro _) | (rw [foldl_shape]) | (rw [foldl_pair_shape]) |
    (simp only [shape_mk, shape_rules, shape_eta, List.length_map, List.length_zipIdx, modAt_length,
          modEq_shape]) | split)

theorem counterWrite_shape (i n : Nat) (data : Word) (s : State) :
    (counterWrite i n data s).shape = s.shape := by
  unfold counterWrite
  repeat' (first | with_reducible rfl | (intro _) | (rw [foldl_shape]) | (rw [foldl_pair_shape]) |
    (simp only [shape_mk, shape_rules, shape_eta, List.length_map, List.length_zipIdx, modAt_length,
          modInst_shape]) | split)

theorem pendWrite_shape (i w : Nat) (data : Word) (s : State) :
    (pendWrite i w data s).shape = s.shape := by
  unfold pendWrite
  repeat' (first | with_reducible rfl | (intro _) | (rw [foldl_shape]) | (rw [foldl_pair_shape]) |
    (simp only [shape_mk, shape_rules, shape_eta, List.length_map, List.length_zipIdx, modAt_length]) | split)

theorem pageAction_shape (i off : Nat) (data : Word) (s : State) :
    (pageAction i off data s).shape = s.shape := by
  unfold pageAction
  repeat' (first | with_reducible rfl | (intro _) | (rw [foldl_shape]) | (rw [foldl_pair_shape]) |
    (simp only [shape_mk, shape_rules, shape_eta, List.length_map, List.length_zipIdx, modAt_length,
          modInst_shape, modEq_shape, eqBaseWrite_shape, eqHeadWrite_shape, eqIrqWrite_shape,
          cqBaseWrite_shape, cqTailWrite_shape, sampBaseWrite_shape, sampCfgWrite_shape,
          sampHeadWrite_shape, sampStatusWrite_shape, dbStatusWrite_shape, cqStatusWrite_shape,
          eqStatusWrite_shape, counterWrite_shape, pendWrite_shape]) | split)

theorem bootAction_shape (off : Nat) (data : Word) (s : State) :
    (bootAction off data s).shape = s.shape := by
  unfold bootAction
  repeat' (first | with_reducible rfl | (intro _) | (rw [foldl_shape]) | (rw [foldl_pair_shape]) |
    (simp only [shape_mk, shape_rules, shape_eta, List.length_map, List.length_zipIdx, modAt_length]) | split)

theorem resetCtrlWrite_shape (data : Word) (s : State) :
    (resetCtrlWrite data s).shape = s.shape := by
  unfold resetCtrlWrite
  repeat' (first | with_reducible rfl | (intro _) | (rw [foldl_shape]) | (rw [foldl_pair_shape]) |
    (simp only [shape_mk, shape_rules, shape_eta, List.length_map, List.length_zipIdx, modAt_length,
          startSoftReset_shape]) | split)

theorem thresholdAction_shape (off : Nat) (data : Word) (s : State) :
    (thresholdAction off data s).shape = s.shape := by
  unfold thresholdAction
  repeat' (first | with_reducible rfl | (intro _) | (rw [foldl_shape]) | (rw [foldl_pair_shape]) |
    (simp only [shape_mk, shape_rules, shape_eta, List.length_map, List.length_zipIdx, modAt_length,
          prefetchCfg_shape]) | split)

theorem pantryAction_shape (off : Nat) (data : Word) (s : State) :
    (pantryAction off data s).shape = s.shape := by
  unfold pantryAction
  repeat' (first | with_reducible rfl | (intro _) | (rw [foldl_shape]) | (rw [foldl_pair_shape]) |
    (simp only [shape_mk, shape_rules, shape_eta, List.length_map, List.length_zipIdx, modAt_length]) | split)

theorem tamperAction_shape (off : Nat) (data : Word) (s : State) :
    (tamperAction off data s).shape = s.shape := by
  unfold tamperAction
  repeat' (first | with_reducible rfl | (intro _) | (rw [foldl_shape]) | (rw [foldl_pair_shape]) |
    (simp only [shape_mk, shape_rules, shape_eta, List.length_map, List.length_zipIdx, modAt_length,
          checkFaultRate_shape]) | split)

theorem keysAction_shape (off : Nat) (data : Word) (s : State) :
    (keysAction off data s).shape = s.shape := by
  unfold keysAction
  repeat' (first | with_reducible rfl | (intro _) | (rw [foldl_shape]) | (rw [foldl_pair_shape]) |
    (simp only [shape_mk, shape_rules, shape_eta, List.length_map, List.length_zipIdx, modAt_length]) | split)

theorem scuStatusWrite_shape (data : Word) (s : State) :
    (scuStatusWrite data s).shape = s.shape := by
  unfold scuStatusWrite
  repeat' (first | with_reducible rfl | (intro _) | (rw [foldl_shape]) | (rw [foldl_pair_shape]) |
    (simp only [shape_mk, shape_rules, shape_eta, List.length_map, List.length_zipIdx, modAt_length,
          modScu_shape]) | split)

theorem hwyCfgWrite_shape (data : Word) (s : State) :
    (hwyCfgWrite data s).shape = s.shape := by
  unfold hwyCfgWrite
  repeat' (first | with_reducible rfl | (intro _) | (rw [foldl_shape]) | (rw [foldl_pair_shape]) |
    (simp only [shape_mk, shape_rules, shape_eta, List.length_map, List.length_zipIdx, modAt_length]) | split)

theorem laneCfgWrite_shape (data : Word) (s : State) :
    (laneCfgWrite data s).shape = s.shape := by
  unfold laneCfgWrite
  repeat' (first | with_reducible rfl | (intro _) | (rw [foldl_shape]) | (rw [foldl_pair_shape]) |
    (simp only [shape_mk, shape_rules, shape_eta, List.length_map, List.length_zipIdx, modAt_length]) | split)

theorem unitAction_shape (off : Nat) (data : Word) (s : State) :
    (unitAction off data s).shape = s.shape := by
  unfold unitAction
  repeat' (first | with_reducible rfl | (intro _) | (rw [foldl_shape]) | (rw [foldl_pair_shape]) |
    (simp only [shape_mk, shape_rules, shape_eta, List.length_map, List.length_zipIdx, modAt_length,
          portCtrlWrite_shape, bwCfgWrite_shape, atticWrite_shape, fwCfgWrite_shape, pwrCtrlWrite_shape,
          bootAction_shape, resetCtrlWrite_shape, thresholdAction_shape, pantryAction_shape,
          tamperAction_shape, keysAction_shape, scuStatusWrite_shape, hwyCfgWrite_shape,
          laneCfgWrite_shape]) | split)

theorem registerWrite_shape (addr : Nat) (strb : BitVec 8) (data : Word) (s : State) :
    (registerWrite addr strb data s).shape = s.shape := by
  unfold registerWrite
  repeat' (first | with_reducible rfl | (intro _) | (rw [foldl_shape]) | (rw [foldl_pair_shape]) |
    (rw [pageWrite_shape]) |
    (rw [unitWrite_shape]) |
    (simp only [shape_mk, shape_rules, shape_eta, List.length_map, List.length_zipIdx, modAt_length,
          answerWrite_shape, pageWrite_shape, doorbellWrite_shape, unitWrite_shape, keyinWrite_shape,
          scuWrite_shape, pageAction_shape, unitAction_shape]) | split)

end Sys2Proof.Machine
end

