-- ==== Sys2Proof/Tests/Slice0.lean ====
section
/-!
SUPPORT. Tests: terms that the well-formedness checks refuse, single steps against the spec's words, and for each
statement a state and operands that meet its hypotheses.
-/

namespace Sys2Proof.Tests

open Sys2Proof.Machine

set_option Elab.async false

/-! ### Small states -/

/-- A block that serves: out of bring-up, unlocked, with an image of protocol 1.0 only and of Stair versions 1.0 to 1.2. -/
def up : State :=
  { State.reset with
    study := { State.reset.study with cmdRdy := true },
    cel := { State.reset.cel with locked := false },
    boot := { State.reset.boot with step := 0x0A },
    fw := { State.reset.fw with
      sram := [List.replicate 28 0 ++ [0, 1, 0, 1, 0, 1, 2, 1]], imageRuns := true, enable := true, freeValid := true },
    keys := { State.reset.keys with rngOk := true, identReady := true } }

/-- A packet of a command, POSTED, of protocol 1.0. -/
def pkt (op len txn : Nat) (params : List Byte) : List Byte :=
  padTo 256 (leBytes 2 op ++ leBytes 2 0x0100 ++ leBytes 4 7 ++ leBytes 4 len ++ leBytes 4 txn ++ leBytes 2 0 ++
    [1, 0] ++ leBytes 12 0 ++ params)

/-- The packet has arrived from a queue. -/
def got (q : Nat) (p : List Byte) (s : State) : State :=
  modCq q (fun c => { c with enable := true, tail := 1, arrived := some p }) s

/-- A guest with shares and a window. -/
def guest : Inst :=
  { Inst.absent with state := .active, weight := 4, quota := 16, hshare := 4, quantum := 8, hquantum := 1000, ctxLimit := 64 }

/-- The block with guest 1. -/
def withGuest (f : Inst → Inst) (s : State) : State := { s with insts := tset 1 (f guest) s.insts }

/-- A RUNNING ring of 16 entries of instance 1. -/
def ring1 : Ring := { newRing [] with owner := 1, log2 := 4, fmt := 2, anyOrder := true, burst := 1, weight := 1, tail := 4 }

/-- The block with guest 1 and ring 8, changed. -/
def withRing (f : Ring → Ring) (s : State) : State := { withGuest id s with rings := [(8, f ring1)] }

/-- An instance command's packet: INSTANCE 1. -/
def inst1 (op : Nat) : List Byte := pkt op 8 0 (leBytes 8 1)

/-- A ring command's packet: RING 8. -/
def ringCmd (op : Nat) : List Byte := pkt op 8 0 (leBytes 8 8)

/-! ### Well-formedness -/

/-- Each check of WellFormed refuses a term just outside its range and takes the last one inside. -/
theorem test_wellFormed_queue : (Instr.devQuery 4097).wellFormed = false ∧ (Instr.devQuery 4096).wellFormed = true := by
  decide

theorem test_wellFormed_port :
    (Instr.readTimeout 8 0).wellFormed = false ∧ (Instr.readTimeout 7 512).wellFormed = false ∧
      (Instr.readTimeout 7 511).wellFormed = true := by
  decide

theorem test_wellFormed_ring : (Instr.harvestReadReturn 65536).wellFormed = false := by decide

theorem test_wellFormed_alcove :
    (Instr.partStart 0 32).wellFormed = false ∧ (Instr.selfTestEnd true 16 true).wellFormed = false ∧
      (Instr.selfTestEnd false 31 true).wellFormed = true := by
  decide

theorem test_wellFormed_core : (Instr.digestPartStart 0 16 true).wellFormed = false := by decide

theorem test_wellFormed_engine : (Instr.engineWipeDone 8).wellFormed = false := by decide

theorem test_wellFormed_lane : (Instr.adaptDone true 2).wellFormed = false := by decide

theorem test_wellFormed_source : (Instr.alarmSourceAssert 9).wellFormed = false := by decide

theorem test_wellFormed_index : (Instr.retireRefsZero (2 ^ 26)).wellFormed = false := by decide

theorem test_wellFormed_addr : (Instr.absent (2 ^ 29) false 0).wellFormed = false := by decide

theorem test_wellFormed_point : (Instr.diagExpiry 32).wellFormed = false := by decide

theorem test_wellFormed_level : (Instr.nodeWriteback 5 0).wellFormed = false := by decide

theorem test_wellFormed_scu : (Instr.scuBlockAbsorbed 64).wellFormed = false := by decide

theorem test_wellFormed_counter : (Instr.counterWrap 0 72).wellFormed = false := by decide

theorem test_wellFormed_upset :
    (Instr.faultWindowStep [⟨0, true, false⟩]).wellFormed = false ∧ (Instr.faultWindowStep [⟨9, true, false⟩]).wellFormed = false ∧
      (Instr.faultWindowStep [⟨8, true, true⟩]).wellFormed = true := by
  decide

theorem test_wellFormed_drbg : (Instr.drbgReseed 25).wellFormed = false := by decide

theorem test_wellFormed_pos : (Instr.neighbourAlarm true 8 false).wellFormed = false := by decide

theorem test_wellFormed_data :
    (Instr.hallwayReadResponse 0 0 true 0 (List.replicate 513 0)).wellFormed = false := by
  decide +kernel

/-! ### Standards -/

/-- The S-box against its definition in FIPS 197: undoing the affine map gives the inverse in GF(2^8). -/
theorem test_sub8_inverts :
    (List.range 256).all (fun n =>
      let b := sub8 (BitVec.ofNat 8 n)
      let i := b.rotateLeft 1 ^^^ b.rotateLeft 3 ^^^ b.rotateLeft 6 ^^^ 0x05
      ((List.range 8).foldl (fun (p : Byte × Byte) k => (if i.getLsbD k then p.1 ^^^ p.2 else p.1, xtime p.2))
        (0, BitVec.ofNat 8 n)).1 == (if n == 0 then 0 else 1)) = true := by
  decide +kernel

/-- The example of FIPS 197, appendix C.1. -/
theorem test_aes128 :
    aes (beBytes 16 0x000102030405060708090a0b0c0d0e0f) (beBytes 16 0x00112233445566778899aabbccddeeff) =
      beBytes 16 0x69c4e0d86a7b0430d8cdb78070b4c55a := by
  decide +kernel

/-! ### Witnesses: packets of the command queues -/

theorem witness_DeviceCommandsAnswer :
    Taken 1 0x01 (pkt 1 0 0 []) (got 1 (pkt 1 0 0 []) (withGuest id up)) ∧
      Taken 0 0x02 (pkt 2 8 0 [0, 1, 0, 1]) (got 0 (pkt 2 8 0 [0, 1, 0, 1]) up) ∧
      Taken 0 0x02 (pkt 2 8 0 [1, 1, 2, 1]) (got 0 (pkt 2 8 0 [1, 1, 2, 1]) up) := by
  unfold Taken; decide +kernel

theorem witness_PacketsChecked :
    packetFault (got 0 (inst1 0x12) up) 0 (pkt 0x12 4 0 []) = some (.cmdLength, 8) ∧
      cmdInfo (pkOpcode (pkt 0x99 0 0 [])) = none ∧ pkVer (pkt 0x99 0 0 []) = up.study.proto.toNat ∧
      pkVer (pkt 0x99 0 0 []) ≠ ({ up with study := { up.study with proto := 0x0101 } } : State).study.proto.toNat ∧
      pkState (List.replicate 256 0) ≠ 1 := by
  decide +kernel

/-- INST_CREATE of instance 1 with a window of 64 contexts. -/
def create1 (txn : Nat) : List Byte :=
  pkt 0x10 24 txn (leBytes 2 1 ++ leBytes 2 4 ++ leBytes 2 4 ++ leBytes 2 8 ++ leBytes 4 16 ++ leBytes 4 0 ++ leBytes 4 64)

theorem witness_InstanceCreated :
    Taken 0 0x10 (create1 0) (got 0 (create1 0) up) ∧ Immediate 0 (create1 0) (got 0 (create1 0) up) := by
  unfold Taken Immediate; decide +kernel

theorem witness_InstancesDrain_quiesce : Taken 0 0x12 (inst1 0x12) (got 0 (inst1 0x12) (withGuest id up)) := by
  unfold Taken; decide +kernel

theorem witness_InstancesDrain_destroy :
    Taken 0 0x11 (inst1 0x11) (got 0 (inst1 0x11) (withGuest id up)) ∧
      Immediate 0 (inst1 0x11) (got 0 (inst1 0x11) (withGuest id up)) ∧ up.keys.kekPending = none := by
  unfold Taken Immediate; decide +kernel

theorem witness_InstancesDrain_reset :
    let s := got 0 (inst1 0x13) (withGuest id up)
    Taken 0 0x13 (inst1 0x13) s ∧ s.build.guard = true ∧ (s.inst (par 0 2 (inst1 0x13))).served = true ∧
      genClash s (par 0 2 (inst1 0x13)) = false := by
  unfold Taken; decide +kernel

theorem witness_InstancesDrain_unguarded :
    let s := got 0 (inst1 0x13) (withGuest id { up with build := .w1600 })
    Taken 0 0x13 (inst1 0x13) s ∧ s.build.guard = false ∧ (s.inst (par 0 2 (inst1 0x13))).state = .active := by
  unfold Taken; decide +kernel

/-- The block with transaction 5 open. -/
def inTxn (s : State) : State := s.withTxn { s.txn with opened := true, num := 5, next := 6 }

theorem witness_StagedNotApplied :
    Taken 0 0x10 (create1 5) (got 0 (create1 5) (inTxn up)) ∧ Staging 0 (create1 5) (got 0 (create1 5) (inTxn up)) := by
  unfold Taken Staging; decide +kernel

/-- RING_CREATE for an instance, in a transaction or outside: 16 entries of format 2. -/
def ringNew (txn owner : Nat) : List Byte :=
  pkt 0x20 32 txn (leBytes 2 owner ++ [4, 2, 1, 0] ++ leBytes 2 1 ++ leBytes 2 1 ++ leBytes 6 0 ++ leBytes 8 0x10000 ++
    leBytes 8 0x20000)

/-- Wilto 1600 with rings, and with ring 4095 reserved by a RING_CREATE of transaction 5 that no longer passes, for its
instance has gone. -/
def ringsUsed (rings : List (Nat × Ring)) : State :=
  let u := inTxn { up with build := .w1600 }
  { u.withTxn { u.txn with staged := [⟨ringNew 5 3, 4095⟩] } with rings := rings }

theorem lowestFree_range {n m : Nat} (h : n < m) : lowestFree m (List.range n) = some n := by
  have : (List.range (n + 1)).find? (fun k => !(List.range n).contains k) = some n :=
    List.find?_range_eq_some.2 (by simp)
  rw [lowestFree, List.length_range, this]
  simp [h]

theorem tget_mem {α : Type} {k : Nat} {v : α} : ∀ {l : List (Nat × α)}, (k, v) ∈ l → tget k l ≠ none
  | (j, w) :: t, h => by
    unfold tget
    split
    · simp
    · rename_i hj
      rcases List.mem_cons.1 h with h | h
      · cases h; simp at hj
      · exact tget_mem h

/-- The view of the staged commands is the live state, and only the ring numbers decide the check of a RING_CREATE. -/
theorem ringsUsed_view (rings : List (Nat × Ring)) :
    let s := inService 0 (ringNew 5 0) (got 0 (ringNew 5 0) (ringsUsed rings))
    stagedView (got 0 (ringNew 5 0) (ringsUsed rings)).stagedAll s = s ∧ s.rings = rings ∧
      stageFault s [] [] (ringNew 5 0) =
        if (lowestFree 4096 (rings.map (·.1) ++ [])).isNone then some (.ringNoneFree, 0) else none :=
  ⟨by rfl, by rfl, by rfl⟩

/-- Every ring number but 4095 is in use. -/
theorem witness_StagedNotApplied_none :
    let s := got 0 (ringNew 5 0) (ringsUsed ((List.range 4095).map (fun n => (n, ring1))))
    Taken 0 0x20 (ringNew 5 0) s ∧ pkTxn (ringNew 5 0) ≠ 0 ∧
      stageFault (stagedView s.stagedAll (inService 0 (ringNew 5 0) s)) [] [] (ringNew 5 0) = none ∧
      ∀ n, n < s.build.rings →
        tget n (stagedView s.stagedAll (inService 0 (ringNew 5 0) s)).rings ≠ none ∨ n ∈ s.reservedRings := by
  intro s
  obtain ⟨hv, hr, hf⟩ := ringsUsed_view ((List.range 4095).map (fun n => (n, ring1)))
  rw [show stagedView s.stagedAll (inService 0 (ringNew 5 0) s) = inService 0 (ringNew 5 0) s from hv]
  refine ⟨by unfold Taken; decide +kernel, by decide +kernel, ?_, fun n hn => ?_⟩
  · rw [show stageFault (inService 0 (ringNew 5 0) s) [] [] (ringNew 5 0) = _ from hf]
    simp [Function.comp_def, lowestFree_range (show 4095 < 4096 by decide)]
  · have hn : n < 4096 := hn
    rw [show (inService 0 (ringNew 5 0) s).rings = _ from hr]
    by_cases h : n < 4095
    · exact Or.inl (tget_mem (v := ring1) (List.mem_map.2 ⟨n, List.mem_range.2 h, rfl⟩))
    · obtain rfl : n = 4095 := by omega
      exact Or.inr (List.mem_singleton.2 rfl)

/-- SHARE_SET and COUNTER_CONFIG of instance 1, MOVER_RESUME of hw2. -/
def share1 : List Byte := pkt 0x14 16 0 (leBytes 2 1 ++ leBytes 2 3 ++ leBytes 2 5 ++ leBytes 2 0 ++ leBytes 4 32)
def counter1 : List Byte := pkt 0x90 16 0 (leBytes 2 1 ++ [2, 5] ++ leBytes 2 1)
def resume2 : List Byte := pkt 0x60 8 0 [2]

/-- The block with port 2 changed. -/
def port2 (f : Port → Port) : State := modPort 2 f up

theorem witness_BoundaryCommandsWait_share :
    Taken 0 0x14 share1 (got 0 share1 (withGuest id up)) ∧ Immediate 0 share1 (got 0 share1 (withGuest id up)) := by
  unfold Taken Immediate; decide +kernel

theorem witness_BoundaryCommandsWait_counter :
    Taken 0 0x90 counter1 (got 0 counter1 (withGuest id up)) ∧
      Immediate 0 counter1 (got 0 counter1 (withGuest id up)) := by
  unfold Taken Immediate; decide +kernel

theorem witness_BoundaryCommandsWait_resume :
    let s := got 0 resume2 (port2 (fun p => { p with halted := true }))
    Taken 0 0x60 resume2 s ∧ par 0 1 resume2 ≤ 7 ∧ (s.port (par 0 1 resume2)).halted = true ∧
      (s.port (par 0 1 resume2)).drained = true := by
  unfold Taken; decide +kernel

theorem witness_BoundaryCommandsWait_refused :
    let s := got 0 resume2 up
    let u := got 0 resume2 (port2 (fun p => { p with halted := true, wrs := [⟨0, 0, [1], 0, .nobody, false⟩] }))
    Taken 0 0x60 resume2 s ∧ (s.port (par 0 1 resume2)).halted = false ∧ Taken 0 0x60 resume2 u ∧
      (u.port (par 0 1 resume2)).halted = true ∧ (u.port (par 0 1 resume2)).drained = false := by
  unfold Taken; decide +kernel

theorem witness_RingCommands_create :
    let s := got 0 (ringNew 0 1) (withGuest id { up with build := .w1600 })
    Taken 0 0x20 (ringNew 0 1) s ∧ Immediate 0 (ringNew 0 1) s := by
  unfold Taken Immediate; decide +kernel

theorem witness_RingCommands_drain :
    Taken 1 0x21 (ringCmd 0x21) (got 1 (ringCmd 0x21) (withRing id up)) ∧
      Immediate 1 (ringCmd 0x21) (got 1 (ringCmd 0x21) (withRing id up)) ∧
      Taken 0 0x23 (ringCmd 0x23) (got 0 (ringCmd 0x23) (withRing id up)) ∧
      tget (par 0 2 (ringCmd 0x23)) (withRing id up).rings = some ring1 ∧ ring1.state ≠ .resetting ∧
      ring1.state ≠ .destroying := by
  unfold Taken Immediate; decide +kernel

theorem witness_RingCommands_resume :
    let s := got 1 (ringCmd 0x22) (withRing (fun r => { r with state := .error }) up)
    Taken 1 0x22 (ringCmd 0x22) s ∧ (tget (par 0 2 (ringCmd 0x22)) s.rings).map (·.state) = some .error ∧
      Taken 1 0x22 (ringCmd 0x22) (got 1 (ringCmd 0x22) (withRing id up)) ∧
      Taken 0 0x22 (ringCmd 0x22) (got 0 (ringCmd 0x22) up) ∧ tget (par 0 2 (ringCmd 0x22)) up.rings = none := by
  unfold Taken; decide +kernel

theorem witness_TransactionsRun_begin :
    Taken 0 0x30 (pkt 0x30 8 0 []) (got 0 (pkt 0x30 8 0 []) up) ∧ up.txn.opened = false ∧
      Taken 0 0x30 (pkt 0x30 8 0 []) (got 0 (pkt 0x30 8 0 []) (inTxn up)) ∧ (inTxn up).txn.opened = true ∧
      (inTxn up).txn.taken = false := by
  unfold Taken; decide +kernel

theorem witness_TransactionsRun_rollback :
    Taken 0 0x32 (pkt 0x32 0 5 []) (got 0 (pkt 0x32 0 5 []) (inTxn up)) ∧
      Taken 0 0x31 (pkt 0x31 0 5 []) (got 0 (pkt 0x31 0 5 []) (inTxn up)) ∧ (inTxn up).txn.staged = [] := by
  unfold Taken; decide +kernel

/-- Transaction 5 with a staged INST_CREATE. -/
def inTxn1 (s : State) : State := s.withTxn { (inTxn s).txn with staged := [⟨create1 5, 0⟩] }

theorem witness_TransactionsRun_commit :
    let s := got 0 (pkt 0x31 0 5 []) (inTxn1 up)
    let u := got 0 (pkt 0x31 0 5 []) (inTxn1 (withGuest id up))
    Taken 0 0x31 (pkt 0x31 0 5 []) s ∧ s.txn.staged ≠ [] ∧
      recheck 0 s.txn.staged ((inService 0 (pkt 0x31 0 5 []) s).withTxn { s.txn with taken := true }) = none ∧
      recheck 0 u.txn.staged ((inService 0 (pkt 0x31 0 5 []) u).withTxn { u.txn with taken := true }) = some 0 := by
  unfold Taken; decide +kernel

/-- DIAG_INJECT of a point, once. -/
def inject (point : Nat) : List Byte := pkt 0x80 16 0 (leBytes 2 point ++ leBytes 2 1)

theorem witness_InjectionArms :
    let s := got 0 (inject 9) (up.withKeys { up.keys with diag := some ⟨0xFFFFFFFF, 4, 2 ^ 40⟩ })
    Taken 0 0x80 (inject 9) s ∧ injectFault (wakeForCommand (inService 0 (inject 9) s)) (inject 9) = none ∧
      s.keys.diag = some ⟨0xFFFFFFFF, 4, 2 ^ 40⟩ ∧ par 0 2 (inject 9) ∈ [9, 11, 12, 14] ∧
      injectFault (wakeForCommand (inService 0 (inject 9) (got 0 (inject 9) up))) (inject 9) ≠ none := by
  unfold Taken; decide +kernel

/-- A packet of queue q in service. -/
def serving (q : Nat) (p : List Byte) (w : Wait) (s : State) : State :=
  modCq q (fun c => { c with enable := true, tail := 1, serving := some ⟨p, 0, w, none⟩ }) s

theorem witness_RepliesEnd :
    let s := arrive (.replyWord2 0) [] (serving 0 (inst1 0x12) .none up)
    let u := serving 0 (inst1 0x12) (.quiesce 1) up
    let a := pkt 0x70 8 0 (leBytes 8 8)
    (s.arrived? (.replyWord2 0)).isSome = true ∧ (s.inst 0).cq.serving = some ⟨inst1 0x12, 0, .none, none⟩ ∧
      (u.inst 0).cq.serving = some ⟨inst1 0x12, 0, .quiesce 1, none⟩ ∧ (Wait.quiesce 1).drains = true ∧
      Taken 1 0x70 a (got 1 a (withRing id up)) ∧ tget (par 0 2 a) (withRing id up).rings = some ring1 ∧
      (withRing id up).ops = [] := by
  unfold Taken; decide +kernel

theorem witness_CommandQueueRegisters :
    let s := modCq 1 (fun c => { c with enable := true, tail := 16, head := 4 }) (withGuest id up)
    PageOk 1 0x1100 0xFF s ∧ (s.inst 1).cq.enable = true ∧ PageOk 0 0x1100 0xFF up ∧
      ((up.inst 0).cq.enable = false) ∧ PageOk 1 0x1108 0xFF s ∧
      ((20 : Idx) - (s.inst 1).cq.head).toNat = queueSize 1 ∧ ((21 : Idx) - (s.inst 1).cq.head).toNat > queueSize 1 := by
  unfold PageOk; decide +kernel

/-! ### Witnesses: keys, the lock and the store -/

/-- A KEYMSG_APPLY of an envelope of a length. -/
def keymsg (len : Nat) : List Byte := pkt 0x40 8 0 (leBytes 4 len)

/-- An envelope that fails step 1 of Table 10-10 is served; one that fails step 2 too. -/
theorem witness_EnvelopesApply_refused :
    let s := got 0 (keymsg 8) up
    let u := got 0 (keymsg 8) (up.withKeys { up.keys with keyin := [0x4641] })
    Taken 0 0x40 (keymsg 8) s ∧ envWaits 0 s = false ∧ envEarly s (keymsg 8) s.keys.envelope = some (.keymsgFormat, 32) ∧
      Taken 0 0x40 (keymsg 8) u ∧ envEarly u (keymsg 8) u.keys.envelope = some (.keymsgFormat, 0) := by
  unfold Taken; decide +kernel

/-- Words of a byte list. -/
def words (bs : List Byte) : List Word := (List.range (bs.length / 8)).map (fun k => BitVec.ofNat 64 (field (8 * k) 8 bs))

/-- An envelope of a kind and a length for a body of `body` bytes, COUNTER 1, all other fields 0. -/
def envelope (kind len body : Nat) : List Byte :=
  [0x41, 0x42, 0x46, 0x31] ++ leBytes 2 1 ++ leBytes 2 kind ++ leBytes 4 len ++ leBytes 4 body ++ leBytes 8 1 ++
    List.replicate (len - 24) 0

/-- The block owned, with an envelope in KEYIN. -/
def owned (e : List Byte) (s : State) : State :=
  { s with
    cel := { s.cel with owned := true, root := List.replicate 32 1, rootPresent := true }
    keys := { s.keys with keyin := words e } }

/-- That an envelope's signatures verify and that it names this block is a premise: the kernel is not asked here to make
ML-DSA keys and signatures. The last block has every engine at work. -/
theorem witness_EnvelopesApply_commit (secret : List Byte) :
    let s := got 0 (keymsg 3488) (owned (envelope 0x10 3488 16) up)
    let u := got 0 (keymsg 5240) (owned (envelope 2 5240 1768) up)
    let l := { u with cel := { u.cel with locked := true, lockDone := true } }
    let w := { s with hearth := { s.hearth with engines := List.replicate 8 { Engine.cold with state := .run } } }
    envEarly s (keymsg 3488) s.keys.envelope = none → envLate s s.keys.envelope = .ok [] →
    envEarly u (keymsg 5240) u.keys.envelope = none → envLate u u.keys.envelope = .ok secret →
    envEarly l (keymsg 5240) l.keys.envelope = none → envLate l l.keys.envelope = .ok secret →
    Taken 0 0x40 (keymsg 3488) s ∧ envWaits 0 s = false ∧ s.locking = false ∧ Sound s ∧
      field 6 2 s.keys.envelope = 0x10 ∧ Taken 0 0x40 (keymsg 5240) u ∧ envWaits 0 u = false ∧ u.locking = false ∧
      Sound u ∧ Sound l ∧ l.locking = false ∧ l.cel.locked = true ∧ Taken 0 0x40 (keymsg 5240) l ∧ envWaits 0 l = false ∧
      field 6 2 u.keys.envelope = 2 ∧ u.cel.locked = false ∧ s.idleEngine.isSome = true ∧
      u.idleEngine.isSome = true ∧ Taken 0 0x40 (keymsg 3488) w ∧ envWaits 0 w = false ∧ w.locking = false ∧
      w.idleEngine = none ∧ w.engines.any Engine.inService = true := by
  intro s u l w _ _ _ _ _ _; unfold Taken Sound; decide +kernel

/-- An envelope whose signatures fail, and one whose COUNTER is not above the class counter: step 5 is a premise, as above. -/
theorem witness_EnvelopesApply_late (d : Nat) :
    let s := got 0 (keymsg 3488) (owned (envelope 0x10 3488 16) up)
    let u := { s with cel := { s.cel with ctr2 := 1 } }
    envEarly s (keymsg 3488) s.keys.envelope = none → envLate s s.keys.envelope = .error (.keymsgSig, d) →
    envEarly u (keymsg 3488) u.keys.envelope = none → envLate u u.keys.envelope = .error (.keymsgCounter, 0) →
    Taken 0 0x40 (keymsg 3488) s ∧ envWaits 0 s = false ∧ s.locking = false ∧ Sound s ∧ s.idleEngine.isSome = true ∧
      Taken 0 0x40 (keymsg 3488) u ∧ envWaits 0 u = false ∧ u.locking = false ∧ Sound u ∧ u.idleEngine.isSome = true ∧
      field 16 8 u.keys.envelope ≤ u.cel.ctr (field 6 2 u.keys.envelope) ∧
      s.cel.ctr (field 6 2 s.keys.envelope) < field 16 8 s.keys.envelope := by
  intro s u _ _ _ _; unfold Taken Sound; decide +kernel

/-- UNLOCK's packet. -/
def unlockPkt : List Byte := pkt 0x41 0 0 []

/-- The block locked, its sequence done, both Roof detectors seen clean, with a permit for this lock event. -/
def locked (s : State) : State :=
  { s with
    cel := { s.cel with locked := true, lockDone := true, passPattern := true, passImpedance := true }
    keys := { s.keys with permit := some 0 } }

theorem witness_UnlockPasses :
    Taken 0 0x41 unlockPkt (got 0 unlockPkt (locked up)) ∧ unlockFault (got 0 unlockPkt (locked up)) = none ∧
      Taken 0 0x41 unlockPkt (got 0 unlockPkt up) ∧ unlockFault (got 0 unlockPkt up) = some .unlockNotLocked := by
  unfold Taken; decide +kernel

/-- LARDER_ATTACH of blobs at `b`, the tree at 0, 64 blobs. -/
def attach (b : Nat) : List Byte := pkt 0xA0 24 0 (leBytes 8 b ++ leBytes 8 0 ++ leBytes 4 64)

/-- A valid store of 64 blobs whose root is all zero. -/
def stored (s : State) : State := { s with cel := { s.cel with valid := true, blobCount := 64 } }

/-- The numbers of the written top nodes. -/
def topNodes (s : State) : List Nat := (List.range 4).filter (fun n => (s.cel.treeRoot.at n).isSome)

/-- A valid store whose four top nodes have been written. -/
def grown (s : State) : State := { stored s with cel := { (stored s).cel with treeRoot := ⟨0, List.replicate 64 1⟩ } }

theorem witness_StoreCommands_attach :
    let b := attach 0x8000000
    up.Inv ∧ Taken 0 0xA0 (attach 8) (got 0 (attach 8) up) ∧ attachFault (attach 8) = some 32 ∧
      Taken 0 0xA0 b (got 0 b up) ∧ attachFault b = none ∧ up.lar.attached = false ∧ up.cel.valid = false ∧
      Taken 0 0xA0 b (got 0 b (stored up)) ∧ (stored up).cel.valid = true ∧ (stored up).cel.dirty = false ∧
      (stored up).cel.blobCount = par 16 4 b ∧ topNodes (stored up) = [] ∧
      Taken 0 0xA0 b (got 0 b (grown up)) ∧ topNodes (grown up) = [0, 1, 2, 3] ∧
      (∀ n ∈ topNodes (grown up), ((grown up).port n).halted = false) ∧
      Taken 0 0xA0 b (got 0 b (grown (port2 (fun p => { p with halted := true })))) ∧
      ((grown (port2 (fun p => { p with halted := true }))).port 2).halted = true := by
  unfold State.Inv Taken; decide +kernel

theorem witness_StoreCommands_reset :
    let p := pkt 0xA1 0 0 []
    let s := got 0 p (up.withLar { up.lar with attached := true, blobCount := 64 })
    Taken 0 0xA1 p (got 0 p up) ∧ up.lar.attached = false ∧ Taken 0 0xA1 p s ∧ s.lar.attached = true ∧ s.ops = [] ∧
      s.insts.any (fun p => p.1 != 0 && p.2.state != .absent && p.2.state != .quiesced) = false ∧
      s.cel.storeGen < 0xFFFFFFFF ∧ Taken 0 0xA1 p (withGuest id s) ∧
      (withGuest id s).insts.any (fun p => p.1 != 0 && p.2.state != .absent && p.2.state != .quiesced) = true ∧
      0xFFFFFFFF ≤ ({ s.cel with storeGen := 0xFFFFFFFF } : Cellar).storeGen ∧
      Taken 0 0xA1 p { s with cel := { s.cel with storeGen := 0xFFFFFFFF } } := by
  unfold Taken; decide +kernel

theorem witness_KeyinPort :
    up.pins.mainUp = true ∧ up.keyinServed = false ∧ (got 0 (keymsg 8) up).keyinServed = true ∧
      (0x7F : BitVec 8) ≠ 0xFF := by
  decide +kernel

/-! ### Witnesses: firmware -/

/-- A block of zeros with its CRC. -/
def zeroBlock : List Byte := List.replicate 4092 0 ++ leBytes 4 2805094510

/-- FW_STAGE of two blocks for a target. -/
def stagePkt (target : Nat) : List Byte := pkt 0x50 24 0 (leBytes 8 target ++ leBytes 8 0 ++ leBytes 4 8192)

/-- The free slot invalid. -/
def unstaged : State := up.withFw { up.fw with freeValid := false }

theorem zeroBlock_ok : blockOk zeroBlock = true := by decide +kernel

/-- A FW_STAGE of two blocks for a target, with these copied, that hw0 serves for the manager. -/
def copying (target : Nat) (blocks : List (List Byte)) : State :=
  serving 0 (stagePkt target) .stage (up.withFw { up.fw with
    state := .staging, freeValid := false, copy := some ⟨target, 0, 2, blocks⟩ })

/-- That a bundle passes Table 17-3 rests on a constant without a body: it is a premise of the statement that no concrete
bundle can be shown to meet. -/
theorem witness_BundleStaged :
    let s := copying 0 [zeroBlock]
    let t := copying 2 [zeroBlock, zeroBlock]
    s.Inv ∧ s.boot.run = none ∧ s.fw.landing = none ∧ (s.port 0).halted = false ∧ blockOk [] = false ∧
      writesLeft s 0 Owner.firmware = 0 ∧ writesLeft t 0 Owner.firmware = 0 ∧
      s.fw.fwding = false ∧ t.fw.fwding = false ∧ (s.inst 0).cq.serving.isSome = true ∧ (bundleFault t.build none [zeroBlock, zeroBlock]).isSome = true ∧
      (zeroBlock.take 608) ≠ (t.fw.sram.headD []).take 608 := by
  unfold State.Inv; decide +kernel

theorem witness_BundleStaged_taken :
    Taken 0 0x50 (stagePkt 0) (got 0 (stagePkt 0) unstaged) ∧ Taken 0 0x50 (stagePkt 1) (got 0 (stagePkt 1) unstaged) ∧
      Taken 0 0x50 (stagePkt 2) (got 0 (stagePkt 2) unstaged) ∧ stageFaultFw unstaged (stagePkt 0) = none ∧
      stageFaultFw unstaged (stagePkt 1) = none ∧ stageFaultFw unstaged (stagePkt 2) = none ∧
      par 0 1 (stagePkt 2) = 2 ∧ Taken 0 0x50 (stagePkt 3) (got 0 (stagePkt 3) unstaged) ∧
      stageFaultFw unstaged (stagePkt 3) = some (.cmdParam, 32) ∧ unstaged.Inv ∧ (unstaged.port 0).halted = false ∧
      ((modPort 0 (fun p => { p with halted := true }) unstaged).port 0).halted = true ∧
      stageFaultFw (modPort 0 (fun p => { p with halted := true }) unstaged) (stagePkt 0) = none := by
  unfold Taken State.Inv; decide +kernel

/-- The SHA-384 digest of the empty message (FIPS 180-4). -/
def sha384None : List Byte :=
  beBytes 48 0x38b060a751ac96384cd9327eb1b1e36a21fdb71114be07434c0cc7bf63f6e1da274edebfe76f65fbd51ad2f14898b95b

/-- The example of FIPS 180-4 for the empty message. -/
theorem test_sha384_none : sha384 [] = sha384None := by decide +kernel

/-- A block 0 of one block in all, with the digest of nothing and one matrix entry that allows every mode. -/
def header1 : List Byte :=
  List.replicate 8 0 ++ leBytes 4 1 ++ List.replicate 14 0 ++ [1] ++ List.replicate 37 0 ++ sha384None ++ List.replicate 34 0 ++
    [3] ++ List.replicate 5 0

/-- Both slots valid, with that block 0 staged. -/
def stagedFw : State := up.withFw { up.fw with freeHdr := header1, runValid := true }

/-- FW_ACTIVATE of a mode at a tick; FW_CONFIRM. -/
def activatePkt (mode tick : Nat) : List Byte := pkt 0x51 16 0 (leBytes 8 mode ++ leBytes 8 tick)
def confirmPkt : List Byte := pkt 0x52 0 0 []

/-- A state of firmware. -/
def fwIn (st : FwState) (s : State) : State := s.withFw { s.fw with state := st, tick := 5 }

theorem witness_ActivationArms :
    let a := got 0 (activatePkt 1 100000) stagedFw
    let b := got 0 (activatePkt 2 100000) stagedFw
    let c := got 0 (activatePkt 3 0) (fwIn .armed stagedFw)
    Taken 0 0x51 (activatePkt 1 100000) a ∧ activateCheck (inService 0 (activatePkt 1 100000) a) (activatePkt 1 100000) = none ∧
      Taken 0 0x51 (activatePkt 2 100000) b ∧
      activateCheck (inService 0 (activatePkt 2 100000) b) (activatePkt 2 100000) = none ∧
      Taken 0 0x51 (activatePkt 3 0) c ∧ activateCheck (inService 0 (activatePkt 3 0) c) (activatePkt 3 0) = none ∧
      Taken 0 0x52 confirmPkt (got 0 confirmPkt (fwIn .trial up)) ∧ Taken 0 0x52 confirmPkt (got 0 confirmPkt up) ∧
      up.fw.state ≠ .trial := by
  unfold Taken; decide +kernel

/-- An image that starts and passes its check. -/
def runOk : LandingRun := ⟨0, true, true, ⟨true, true⟩⟩

theorem witness_FirmwareActivates_handover :
    let p := activatePkt 0 0
    let s := got 0 p stagedFw
    s.Inv ∧ (s.port 0).halted = false ∧ Taken 0 0x51 p s ∧ servingWaits 0 .handover s = false ∧
      quietStudy (some 0) s = true ∧ quietStudy (some 0) (serving 1 p .none s) = false ∧
      activateCheck (inService 0 p s) p = none := by
  unfold Taken State.Inv; decide +kernel

theorem witness_FirmwareActivates_tick :
    let s := { fwIn .armed stagedFw with cel := { up.cel with tick := 5 } }
    let t := fwIn .trial up
    s.pins.mainUp = true ∧ s.fw.landing = none ∧ s.pwr.softReset = none ∧ t.pwr.softReset = none ∧ s.fw.state = .armed ∧ s.fw.tick ≤ s.tickNow ∧ s.Inv ∧
      (s.port 0).halted = false ∧ t.pins.mainUp = true ∧ t.fw.landing = none ∧ t.fw.state = .trial ∧
      t.fw.fwding = false ∧ t.cel.locked = false ∧ t.Inv ∧ (t.port 0).halted = false := by
  unfold State.Inv; decide +kernel

/-- A block 0 that says one block in all, with the digest of nothing, and its CRC. -/
def block1 : List Byte :=
  List.replicate 8 0 ++ leBytes 4 1 ++ List.replicate 52 0 ++ sha384None ++ List.replicate 3980 0 ++ leBytes 4 2301131237

theorem block1_ok : blockOk block1 = true := by decide +kernel

/-- Landing of a kind that has read so much, with some microseconds to go. -/
def landing (us kind : Nat) (reading : Bool) (got : List (List Byte)) : Landing := ⟨us, kind, runOk, reading, got⟩

/-- Landing that waits for its last block, for each clause; that a fallback passes Table 17-3 is a premise, as above. -/
theorem witness_FirmwareActivates_read :
    let s := up.withFw { up.fw with landing := some (landing 0 1 true []) }
    s.boot.run = none ∧ s.fw.landing = some (landing 0 1 true []) ∧ s.txn.opened = false ∧
      (landing 0 1 true ([] ++ [block1])).total = 1 ∧ blockOk block1 = true ∧
      digestOk (([] : List (List Byte)).headD block1) (([] ++ [block1]).drop 1) = true := by
  refine ⟨rfl, rfl, rfl, by decide +kernel, block1_ok, ?_⟩
  simp only [digestOk, List.nil_append, List.drop_succ_cons, List.drop_nil, List.map_nil, List.flatten_nil, test_sha384_none]
  decide +kernel

/-- Landing in its last microsecond. -/
theorem witness_FirmwareActivates_landing :
    let s := stagedFw.withFw { stagedFw.fw with landing := some (landing 1 1 false []) }
    s.pins.mainUp = true ∧ s.fw.landing = some (landing 1 1 false []) ∧ (landing 1 1 false []).us = 1 ∧
      (landing 1 1 false []).reading = false ∧ (landing 1 1 false []).kind < 2 ∧ s.txn.opened = false ∧
      s.boot.step = 0x0A ∧ s.diag.asserted = [] := by
  decide +kernel

/-- The upstream link of version 1.2 carries messages. -/
def linked (s : State) : State :=
  { s with upEn := true, stair := { s.stair with up := { s.stair.up with state := .up, ver := 0x0102 } } }

theorem witness_ChainMessages_block :
    (linked up).pins.mainUp = true ∧ (linked up).fw.imageRuns = true ∧ (linked up).hop false 0x0101 = true ∧
      (linked up).hop false 0x0102 = true ∧ (linked up).hop true 0x0101 = false ∧ (linked up).fw.enable = true ∧
      (linked up).cel.locked = false ∧ (linked up).fw.state = .idle ∧ blockOk zeroBlock = true ∧ (linked up).Inv ∧
      ((linked up).port 0).halted = false := by
  refine ⟨?_, ?_, ?_, ?_, ?_, ?_, ?_, ?_, zeroBlock_ok, by unfold State.Inv; decide +kernel⟩ <;> decide +kernel

theorem witness_ChainMessages :
    let armed := stagedFw.withFw { stagedFw.fw with state := .armed, byChain := true }
    let trial := up.withFw { up.fw with state := .trial, byChain := true }
    let last := up.withFw { up.fw with fwding := true, fwdLast := true, fwd := [zeroBlock] }
    last.fw.copy = none ∧ writesLeft last 0 Owner.firmware = 0 ∧ last.fw.fwdLast = true ∧
      (bundleFault last.build (some last.fw.floor) [zeroBlock]).isSome = true ∧
      (up.withFw { up.fw with fwding := true }).fw.fwding = true ∧ startedHere up .staged = false ∧
      startedHere (up.withFw { up.fw with fwdHere := true }) .staged = true ∧ up.hop false 0x0101 = false ∧
      up.hop true 0x0101 = false ∧
      (let s := { up with dnEn := true, stair := { up.stair with dn := { up.stair.dn with state := .up, ver := 0x0102 } } }
       s.hop true 0x0102 = true) ∧
      startedHere (up.withFw { up.fw with armedHere := true }) .armed = true ∧
      armed.fw.state = .armed ∧ armed.fw.byChain = true ∧ armed.fw.armedHere = false ∧ stagedFw.cel.locked = false ∧
      slice 64 48 stagedFw.fw.freeHdr = sha384None ∧ activateFault stagedFw true = none ∧ trial.fw.state = .trial ∧
      trial.fw.byChain = true ∧ trial.fw.armedHere = false := by
  decide +kernel

theorem witness_MicrocodeAndAttic :
    let s := { up with hearth := { up.hearth with
      engines := { Engine.cold with state := .loading } :: up.hearth.engines.drop 1 } }
    s.engines[0]? = some { Engine.cold with state := .loading } ∧ s.fw.imageRuns = true ∧ s.unitsRun = true ∧ UnitOk 0x10200 0xFF up ∧
      up.fw.state = .idle ∧ UnitOk 0x10200 0xFF (fwIn .trial up) ∧ (fwIn .trial up).fw.state ≠ .idle := by
  unfold UnitOk; decide +kernel

/-! ### Witnesses: rings, event queues, the Hallway -/

/-- A doorbell of ring 8: DOORBELL's data. -/
def bell (tail : Nat) : Word := BitVec.ofNat 64 (8 * 2 ^ 32 + tail)

/-- Tails at the ends of each clause's range: 5 and 16 within the ring, 17 beyond it, 4 and 3 not ahead. -/
theorem witness_DoorbellsRung :
    let s := withRing id up
    let n := bits (bell 5) 47 32
    PageOk 1 0 0xFF s ∧ tget n s.rings = some ring1 ∧ ring1.owner = 1 ∧ ring1.state ≠ .resetting ∧
      ring1.state ≠ .destroying ∧ ring1.harvOut = none ∧ s.ops = [] ∧
      0 < ((5 : Idx) - ring1.tail).toNat ∧ ((16 : Idx) - ring1.tail).toNat < 0x80000000 ∧
      ((16 : Idx) - ring1.harvest).toNat ≤ ring1.size ∧
      (0 < ((17 : Idx) - ring1.tail).toNat ∧ ((17 : Idx) - ring1.tail).toNat < 0x80000000 ∧
        ring1.size < ((17 : Idx) - ring1.harvest).toNat) ∧
      (4 : Idx) = ring1.tail ∧ 0x80000000 ≤ ((3 : Idx) - ring1.tail).toNat ∧
      0x80000000 ≤ ((0x80000004 : Idx) - ring1.tail).toNat ∧ ((0x80000003 : Idx) - ring1.tail).toNat < 0x80000000 := by
  unfold PageOk; decide +kernel

theorem witness_DoorbellsRung_refused :
    let s := withRing (fun r => { r with state := .resetting }) up
    PageOk 1 0 0xFF s ∧ tget 8 s.rings = some { ring1 with state := .resetting } ∧ PageOk 0 0 0xFF s ∧
      ring1.owner ≠ 0 ∧ PageOk 1 0 0xFF (withGuest id up) ∧ (withGuest id up).rings = [] ∧ (0x0F : BitVec 8) ≠ 0xFF := by
  unfold PageOk; decide +kernel

/-- Ring 8 with a harvest read out for a tail, and the harvest that it returns. -/
def harvested (r : Ring) : State :=
  arrive (.harvest 8) (leBytes 4 2) { withGuest id up with rings := [(8, r)] }

theorem witness_DoorbellsRung_harvest :
    let r := { ring1 with consumed := 3, harvOut := some (18, 0) }
    let b := leBytes 4 2
    (harvested r).arrived? (.harvest 8) = some b ∧ tget 8 (harvested r).rings = some r ∧ r.held = none ∧
      (harvested r).ops = [] ∧ (r.consumed - BitVec.ofNat 32 (field 0 4 b)).toNat ≤ r.size ∧
      (BitVec.ofNat 32 (field 0 4 b) - r.harvest).toNat ≤ r.size ∧
      ((18 : Idx) - BitVec.ofNat 32 (field 0 4 b)).toNat = r.size ∧ r.state = .running ∧
      r.size < ((19 : Idx) - BitVec.ofNat 32 (field 0 4 b)).toNat ∧ r.size < (r.consumed - (4 : Idx)).toNat := by
  decide +kernel

/-- Instance 1 with a running event queue. -/
def eq1 (f : EventQ → EventQ) (s : State) : State :=
  withGuest (fun x => { x with eq := f { EventQ.cold with enable := true, mask := false, time := 10, count := 4 } }) s

theorem witness_EventQueueRegisters :
    PageOk 1 0x1200 0xFF (withGuest id up) ∧ (guest.eq.enable = false) ∧ PageOk 1 0x1210 0xFF (withGuest id up) ∧
      ((4096 : Idx) - 0).toNat ≤ 4096 ∧ 4096 < ((4097 : Idx) - 0).toNat ∧
      (let s := eq1 (fun e => { e with armed := false, unsig := 1, due := true, tail := 1 }) up
       PageOk 1 0x1210 0xFF s ∧ (s.inst 1).eq.due = true ∧ 0 < (s.inst 1).eq.unsig ∧ (s.inst 1).eq.mask = false ∧
         (s.port 0).halted = false) := by
  unfold PageOk; decide +kernel

theorem witness_RecordsSignal :
    let s := arrive (.eventRec 1 0) [] (eq1 (fun e => { e with issued := 1, inFlight := [(0, 1, 8)] }) up)
    let u := eq1 (fun e => { e with unsig := 1 }) up
    arrivedRecord 1 s = some 0 ∧ (s.inst 1).eq.fabErr = false ∧
      (s.inst 1).eq.inFlight.any (fun r => r.1 == 0) = true ∧ (u.inst 1).eq.armed = true ∧ (u.inst 1).eq.mask = false ∧
      0 < (u.inst 1).eq.unsig ∧ (u.port 0).halted = false ∧ (up.inst 1).eq.mask = true ∧
      (s.inst 1).eq.acked.contains 0 = false ∧ u.pins.mainUp = true := by
  decide +kernel

/-- A queue that may send its message, with an acknowledged record and with an elapsed TIME; and one that may not. -/
theorem witness_RecordsSignal_message :
    let s := eq1 (fun e => { e with msgAddr := 0x5004 }) up
    let e := (s.inst 1).eq
    s.Inv ∧ e.armed = true ∧ e.mask = false ∧ (s.port 0).holdsWrites = false ∧ e.msgAddr % 4 = 0 ∧
      MessageDue { e with unsig := 4 } ∧ MessageDue { e with unsig := 1, due := true } ∧ MessageDue { e with flagSet := true } ∧
      ¬MessageDue { e with unsig := 3 } ∧ (port2 (fun p => { p with hush := true })).build = up.build := by
  unfold State.Inv MessageDue; decide +kernel

/-- A read and a write outstanding on hw0 as identifier 0. -/
def readOut (r : Rd) : State := modPort 0 (fun p => { p with rds := [r] }) up
def writeOut (w : Wr) : State := modPort 0 (fun p => { p with wrs := [w] }) up
def packetRead (quar : Bool) : Rd := ⟨0, 0, 256, 0, .cmdPacket 0, 0, quar, false, false⟩
def word2Write (quar : Bool) : Wr := ⟨0, 16, List.replicate 8 0, 0, .replyWord2 0, quar⟩

theorem witness_HallwayResponds_read :
    let s := readOut (packetRead false)
    let u := readOut (packetRead true)
    s.Inv ∧ s.pins.mainUp = true ∧ s.diag.armed = [] ∧ (s.port 0).rds.find? (fun x => x.id == 0) = some (packetRead false) ∧
      (s.port 0).rds.find? (fun x => x.id == 511) = none ∧
      (s.port 0).rds.filter (fun x => x.owner == .cmdPacket 0) = [packetRead false] ∧ (s.port 0).rdQ = [] ∧
      s.hwy.pieces = [] ∧ u.Inv ∧ (u.port 0).rds.find? (fun x => x.id == 0) = some (packetRead true) := by
  unfold State.Inv; decide +kernel

theorem witness_HallwayResponds_write :
    let s := writeOut (word2Write false)
    let u := writeOut (word2Write true)
    s.Inv ∧ s.pins.mainUp = true ∧ s.diag.armed = [] ∧ (s.port 0).wrs.find? (fun x => x.id == 0) = some (word2Write false) ∧
      (s.port 7).wrs.find? (fun x => x.id == 0) = none ∧ u.Inv ∧
      (u.port 0).wrs.find? (fun x => x.id == 0) = some (word2Write true) := by
  unfold State.Inv; decide +kernel

theorem witness_TimeoutsQuarantine :
    let s := readOut (packetRead false)
    let u := writeOut (word2Write false)
    s.Inv ∧ (s.port 0).rds.find? (fun x => x.id == 0 && !x.quar) = some (packetRead false) ∧
      (packetRead false).drop = false ∧ u.Inv ∧
      (u.port 0).wrs.find? (fun x => x.id == 0 && !x.quar) = some (word2Write false) := by
  unfold State.Inv; decide +kernel

theorem witness_PortHalts :
    up.Inv ∧ (up.port 7).halted = false ∧ up.lar.flush = none ∧ up.attaching = false ∧ up.ops = [] ∧
      ((modPort 7 (fun p => { p with halted := true }) up).port 7).halted = true ∧
      (modPort 7 (fun p => { p with halted := true }) up).Inv ∧ (up.port 7).rds ++ (up.port 7).rdQ = [] ∧
      (up.port 7).wrQ = [] := by
  unfold State.Inv; decide +kernel

theorem witness_PortHalts_stage :
    let r : Rd := ⟨0, 0, 512, 0, .image 0, 0, false, false, false⟩
    let s := modPort 0 (fun p => { p with rds := [r] }) (up.withFw { up.fw with copy := some ⟨0, 0, 2, []⟩ })
    s.Inv ∧ (s.port 0).halted = false ∧ s.lar.flush = none ∧ s.attaching = false ∧ s.ops = [] ∧ s.boot.run = none ∧
      s.fw.landing = none ∧ s.fw.copy = some ⟨0, 0, 2, []⟩ ∧ (s.port 0).rds = [r] := by
  unfold State.Inv; decide +kernel

theorem witness_UnitRegisters :
    up.Inv ∧ UnitOk (0x70100 + 8 * 7) 0xFF up ∧ UnitOk 0x70008 0xFF up ∧ UnitOk 0x20100 0xFF up := by
  unfold State.Inv UnitOk; decide +kernel

/-! ### Witnesses: scheduling, fetching, dispatch -/

/-- Instance 1 under visit with a deficit, its ring not empty. -/
def visited : State :=
  let s := withGuest (fun x => { x with deficit := 8 }) { up with sched := { up.sched with visit := some 1 } }
  { s with rings := [(8, ring1)] }

theorem witness_GrantTakesEntry :
    visited.pins.mainUp = true ∧ visited.pwr.grants = true ∧ visited.cel.locked = false ∧ visited.sched.visit = some 1 ∧
      0 < (visited.inst 1).deficit ∧ laterWaits visited 1 = false ∧ hasGrant visited 1 = true ∧ visited.ops = [] ∧
      (locked up).cel.locked = true ∧ ({ up.pwr with grants := false } : Power).grants = false ∧
      (let p := { newOp 0 1 8 0 1 0 with phase := Phase.run, part := 1, charged := false }
       let s := { visited with ops := [p] }
       s.pins.mainUp = true ∧ s.sched.visit = some 1 ∧ 0 < (s.inst 1).deficit ∧ laterWaits s 1 = true) := by
  decide +kernel

/-- A descriptor of format 2, FIRST and LAST: opcode, SUBOP, context, payload bytes, AUX. -/
def desc (opcode subop ctx payload aux : Nat) : Desc :=
  ⟨BitVec.ofNat 64 (opcode + 2 ^ 10 + 2 ^ 11 + 2 * 2 ^ 20 + subop * 2 ^ 24), BitVec.ofNat 64 (ctx + payload * 2 ^ 32),
    0, 0x4000, 0, 0, 9, BitVec.ofNat 64 aux⟩

/-- The bytes of a descriptor. -/
def Desc8 (d : Desc) : List Byte := ([d.w0, d.w1, d.w2, d.w3, d.w4, d.w5, d.w6, d.w7].map (fun w => leBytes 8 w.toNat)).flatten

/-- An operation of ring 8 and instance 1 with number 0. -/
def op0 (d : Desc) (f : Op → Op) : Op := f { newOp 0 1 8 0 1 0 with entries := [⟨0, d, SegList.none, SegList.none⟩] }

/-- Context 3 of instance 1 in slot 0, with a policy. -/
def slot3 (policy : Nat) : Slot where
  index := 3
  owner := 1
  seedId := 1
  serial := 5
  policy := BitVec.ofNat 19 policy
  state := .live
  dirty := false
  stamp := 0
  key0 := List.replicate 32 1
  key1 := []
  sub0 := []
  sub1 := []
  salt0 := [1, 2, 3, 4]
  salt1 := []
  f104 := 7
  f112 := 0
  f120 := 0
  map := 0
  evicting := false
  noVictim := false
  retireOp := none
  tombDue := false
  noTomb := false
  final := 0
  zeroed := false

/-- A sending and a receiving policy of AES-128 with key slot 0: all of OPS that the direction allows. -/
def sends : Nat := 0x15 * 4 + 2 ^ 14
def receives : Nat := 0x2A * 4 + 2 ^ 12 + 2 ^ 14

/-- A current store of 64 blobs is attached; instance 1 has KEK version 2 and a seed. -/
def atStore (s : State) : State :=
  let s := { s with
    lar := { s.lar with attached := true, blobCount := 64 }
    cel := { s.cel with valid := true, blobCount := 64 } }
  modInst 1 (fun x => { x with kek := ⟨2, List.replicate 32 3, 0, [], 1, List.replicate 32 4⟩ }) s

/-- The block with ring 8, the store, slot 0 and one operation. -/
def busy (slots : List (Nat × Slot)) (o : Op) : State :=
  let s := atStore (withRing id up)
  { s with pan := { s.pan with slots := slots }, ops := [o], nextOp := 1 }

theorem witness_InstancesDrain_work : (busy [] (newOp 0 1 8 0 1 0)).instOps 1 ≠ [] := by decide +kernel

theorem witness_DescriptorRead :
    let o := { newOp 0 1 8 0 1 0 with phase := Phase.fetch 15 }
    let nop := leBytes 8 0x200C00 ++ List.replicate 56 0
    let s := arrive (.desc 0) nop (busy [] o)
    let u := arrive (.desc 0) (List.replicate 63 0 ++ [0x80]) (busy [] o)
    s.op? 0 = some o ∧ tget o.ring s.rings = some ring1 ∧ earlierFetch o s = false ∧ o.status = .ok ∧ o.lockMark = false ∧
      s.diag.armed = [] ∧ o.openHead = false ∧ s.arrived? (.desc 0) = some nop ∧
      entryCounts ring1 o.nextIdx (Desc.ofBytes nop) = true ∧ entryFault ring1 none 0 (Desc.ofBytes nop) = none ∧
      (Desc.ofBytes nop).opcode = 0 ∧ (Desc.ofBytes nop).last = true ∧
      u.arrived? (.desc 0) = some (List.replicate 63 0 ++ [0x80]) ∧
      entryCounts ring1 o.nextIdx (Desc.ofBytes (List.replicate 7 0 ++ [0x80] ++ List.replicate 56 0)) = false ∧
      ({ o with phase := Phase.reread 15 } : Op).phase = .reread 15 := by
  decide +kernel

/-- A ring that stops, with and without a dispatched entry beyond, and a running event queue for its RING_ERROR record; the
sixteenth read of a slot whose entry does not count. -/
theorem witness_DescriptorRead_stop :
    let o := { newOp 0 1 8 0 1 0 with phase := Phase.fetch 16 }
    let notMine := List.replicate 7 0 ++ [0x80] ++ List.replicate 56 0
    let u := arrive (.desc 0) notMine (busy [] o)
    let e := { eq1 id (busy [] o) with rings := [(8, ring1)] }
    ring1.hiDisp = none ∧ ({ ring1 with hiDisp := some 3 } : Ring).hiDisp = some 3 ∧ u.Inv ∧ ring1.state = .running ∧
      u.op? 0 = some o ∧ u.arrived? (.desc 0) = some notMine ∧ earlierFetch o u = false ∧
      o.status = .ok ∧ o.lockMark = false ∧ u.diag.armed = [] ∧ o.openHead = false ∧
      entryCounts ring1 o.nextIdx (Desc.ofBytes notMine) = false ∧
      e.Inv ∧ (e.inst ring1.owner).eq.running = true ∧ (e.port (ring1.owner % 8)).takesWrite = true ∧
      ((e.inst ring1.owner).eq.issued - (e.inst ring1.owner).eq.head).toNat < 4096 ∧
      (e.inst ring1.owner).eq.base % 65536 = 0 := by
  unfold State.Inv; decide +kernel

/-- A block of one short list: one segment of 32 bytes, END. -/
def listOf (len : Nat) : List Byte := leBytes 8 0x5000 ++ leBytes 4 len ++ leBytes 4 1

theorem witness_ListBlocksAndCompletions_list :
    let d := { desc 1 0 3 32 0x6000 with w0 := (desc 1 0 3 32 0x6000).w0 ||| 0x8000, w5 := 0x10000 }
    let e : Entry := ⟨0, d, SegList.start, SegList.none⟩
    let o := { op0 d id with entries := [e], phase := Phase.run, ran := true }
    let s := arrive (.list 0 0 false) (listOf 32) (busy [] o)
    s.op? 0 = some o ∧ o.old = false ∧ o.ran = true ∧ s.arrived? (.list 0 0 false) = some (listOf 32) ∧ o.entries[0]? = some e ∧
      o.phase = .run ∧ (tget o.ring s.rings).isSome = true ∧ (∀ p ∈ s.ops, p.id = 0 → p = o) ∧
      (listBlock e.d.srcSegs (srcTotal o.head.d e.d.last e.d) e.src (listOf 32)).isOk = true ∧
      (listBlock e.d.srcSegs (srcTotal o.head.d e.d.last e.d) e.src (listOf 31)).isOk = false := by
  decide +kernel

theorem witness_ListBlocksAndCompletions_completion :
    let o := op0 (desc 0 0 0 0 0) (fun o => { o with phase := .compl, complLeft := 1 })
    let s := arrive (.compl 0) [] (busy [] o)
    s.op? 0 = some o ∧ s.arrived? (.compl 0) = some [] ∧ o.complLeft ≤ 1 ∧ 1 < ({ o with complLeft := 2 } : Op).complLeft := by
  decide +kernel

theorem witness_PlainDispatch :
    ∀ c ∈ [0x00, 0x3F, 0x30, 0x10],
      let o := op0 (desc c 1 0 0 0) (fun o => { o with phase := .ready })
      (busy [] o).op? 0 = some o ∧ dispatchable (busy [] o) o = true ∧ (tget o.ring (busy [] o).rings).isSome = true ∧
        o.head.d.opcode = c ∧ hearthGone (busy [] o) = false := by
  decide +kernel

/-- An AEAD operation of 32 bytes on context 3 that may be dispatched. -/
def aeadOp (opcode : Nat) : Op := op0 (desc opcode 0 3 32 0x6000) (fun o => { o with phase := .ready })

/-- Each owner of Table 13-3 with operation 0 of ring 8 in its place. -/
theorem witness_TimeoutsQuarantine_read :
    let o := newOp 0 1 8 0 1 0
    let s := busy [] o
    let w := aeadOp 1
    let u := busy [] w
    let x := { aeadOp 1 with ran := true, phase := Phase.run, room := some 0, wrote := [(0x6000, 32)] }
    let v := busy [] x
    s.op? o.id = some o ∧ earlierFetch o s = false ∧ o.openHead = false ∧ tget o.ring s.rings = some ring1 ∧
      ring1.state = .running ∧ ring1.held = none ∧ Current w u ∧ w.onUnit = false ∧ w.written = [] ∧
      idxBefore w.head.idx (ring1.haltFor w.head.idx) = true ∧ Current x v ∧ x.onUnit = true ∧ x.ran = true ∧ v.Inv ∧
      (Owner.node 0 3).haltCause.isSome = true ∧ (v.port 7).halted = false := by
  unfold Current State.Inv; decide +kernel

theorem witness_TimeoutsQuarantine_write :
    let o := { aeadOp 1 with ran := true, phase := Phase.run, room := some 0 }
    let s := busy [] o
    let e := eq1 (fun e => { e with issued := 1, inFlight := [(0, 1, 8)], unsig := 4, msgAddr := 0x5000 }) up
    (e.inst 1).eq.inFlight ≠ [] ∧ MessageDue (e.inst 1).eq ∧ (e.inst 1).eq.mask = false ∧
      (e.port 0).holdsWrites = false ∧ e.Inv ∧ (e.inst 1).eq.msgAddr % 4 = 0 ∧ tget 8 s.rings = some ring1 ∧
      ring1.state = .running ∧ (s.inst ring1.owner).served = true ∧ Current o s ∧ o.ring = 8 ∧ o.ran = true ∧
      s.hearth.engines.any (fun g => g.op == some o.id) = false ∧ o.posted = false ∧
      ({ o with posted := true } : Op).posted = true ∧ s.op? 1 = none ∧ (s.inst ring1.owner).state ≠ .resetting ∧
      (s.inst ring1.owner).state ≠ .destroying := by
  unfold Current State.Inv MessageDue; decide +kernel

theorem witness_AeadDispatch :
    ∀ c ∈ ([(1, sends), (2, receives), (3, sends), (4, receives), (5, sends)] : List (Nat × Nat)),
      let x := slot3 c.2
      let o := aeadOp c.1
      let s := busy [(0, x)] o
      s.Inv ∧ s.op? 0 = some o ∧ o.head.d.opcode = c.1 ∧ dispatchable s o = true ∧ Sound s ∧ o.ref = none ∧
        o.room = none ∧ o.place = none ∧ CtxLive s o 0 x ∧ AeadAllowed s o x := by
  unfold State.Inv Sound CtxLive AeadAllowed; decide +kernel

/-- Room 0 of an idle block can take it. -/
theorem witness_AeadDispatch_room (opcode policy : Nat) (h : polAlg (slot3 policy).policy = 0) :
    RoomFree (busy [(0, slot3 policy)] (aeadOp opcode)) (aeadOp opcode) (polAlg (slot3 policy).policy) 0 := by
  rw [h]
  exact ⟨(by decide +kernel : 0 < up.build.rooms), (by decide : 0 < 512), by simp, fun _ => ⟨_, Or.inl rfl, rfl⟩, fun _ => ⟨0, by simp, by rfl⟩⟩

theorem witness_AeadDispatch_alg : polAlg (slot3 sends).policy = 0 ∧ polAlg (slot3 receives).policy = 0 := by decide +kernel

/-- A slot whose switch is due, and one whose number reaches its SOFT_LIMIT. -/
theorem witness_AeadDispatch_advance :
    let x := { slot3 (sends + 2 ^ 15 + 2 ^ 17) with f120 := 7 }
    let y := { slot3 sends with f112 := 7 }
    x.switches x.f104 = true ∧ y.switches y.f104 = false ∧ y.f112 ≠ 0 ∧ y.f112 ≤ y.f104 := by
  decide +kernel

/-- A blob of a kind for context 3 of instance 1 under KEK version 2 with serial number 6, and its ciphertext and tag. -/
def blob (kind ct : Nat) : List Byte :=
  leBytes 1 1 ++ leBytes 1 kind ++ leBytes 2 1 ++ leBytes 2 2 ++ leBytes 2 0 ++ leBytes 4 3 ++ leBytes 4 0 ++
    leBytes 8 6 ++ List.replicate 12 7 ++ leBytes 4 0 ++ beBytes 120 ct

/-- The plaintext of an install of a sending context, and of a rekey of the other key slot. -/
def installPt : List Byte :=
  List.replicate 16 1 ++ List.replicate 48 0 ++ leBytes 8 0 ++ leBytes 2 sends ++ leBytes 30 0
def rekeyPt : List Byte := List.replicate 16 1 ++ List.replicate 20 0 ++ [2] ++ List.replicate 67 0

/-- An install of context 3 with its blob read, and a rekey of it. -/
def installCt : Nat :=
  0x152CC5A215699BA43B9F7AE22617A5F44EFE6385FBC9EB1F4AD8D310A35D86AC137CDB321A63352C77742E903560FD24BD60C12E81387AFD704AAC28609703A50A3511A6A2D46BC57B10AA597AEF423D5BA8AC1EDEBF982B990320237858A8747FC944D038865EDF852384EC84FF98E203C3CDC785AEC119
def rekeyCt : Nat :=
  0x152CC5A215699BA43B9F7AE22617A5F44EFE6385FBC9EB1F4AD8D310A35D86AC137CDB321863352C77742E903560FD24BD60C12E81387AFD704AAC28609703A50A3511A6A2D46BC52F50AA597AEF423D5BA8AC1EDEBF982B990320237858A8747FC944D038865EDF187A27D614F69CF2536EEFEAE4A01DD2
def installOp : Op := op0 (desc 0x20 0 3 160 0) (fun o => { o with phase := .ready, blob := blob 1 installCt })
def rekeyOp : Op := op0 (desc 0x21 1 3 160 0) (fun o => { o with phase := .ready, blob := blob 2 rekeyCt })

theorem openBlob_install : openBlob (busy [] installOp) installOp 1 installRsvd = .ok installPt := by decide +kernel
theorem openBlob_rekey : openBlob (busy [(0, slot3 sends)] rekeyOp) rekeyOp 2 rekeyRsvd = .ok rekeyPt := by
  decide +kernel

theorem witness_ContextDispatch_install :
    let s := busy [] installOp
    s.op? 0 = some installOp ∧ dispatchable s installOp = true ∧ (tget installOp.ring s.rings).isSome = true ∧
      installOp.head.d.opcode = 0x20 ∧
      installPolicyOk installOp.head.d.subop installPt = true ∧ (s.inst installOp.inst).kek.seed ≠ [] ∧
      s.slotOf (s.ctxOf installOp) = none ∧ Sound s := by
  unfold Sound; decide +kernel

theorem witness_ContextDispatch_rekey :
    let s := busy [(0, slot3 sends)] rekeyOp
    s.op? 0 = some rekeyOp ∧ dispatchable s rekeyOp = true ∧ rekeyOp.head.d.opcode = 0x21 ∧
      CtxLive s rekeyOp 0 (slot3 sends) ∧
      rekeyFault (slot3 sends) rekeyOp.head.d.subop (field 16 8 rekeyOp.blob) rekeyPt = none ∧
      (∀ p ∈ s.ops, p.id = 0 → p = rekeyOp) ∧ rekeyOp.dropRef = false ∧ Sound s := by
  unfold Sound CtxLive; decide +kernel

theorem witness_ContextDispatch_retire :
    let o := op0 (desc 0x22 0 3 0 0) (fun o => { o with phase := .ready })
    let s := busy [(0, slot3 sends)] o
    s.op? 0 = some o ∧ dispatchable s o = true ∧ o.head.d.opcode = 0x22 ∧ Sound s ∧
      (tget o.ring s.rings).isSome = true ∧ CtxLive s o 0 (slot3 sends) := by
  unfold Sound CtxLive; decide +kernel

theorem witness_RoundBoundary :
    up.pins.mainUp = true ∧ up.ops = [] ∧ up.keys.kekPending = none ∧ up.diag.armed = [] ∧
      (∀ p ∈ (withGuest id up).insts, p.2.cq.serving = none ∧ p.2.genStep = false) ∧
      (∃ p ∈ (withRing id up).insts, p.2.eligible = true) ∧
      ((serving 0 share1 (.share 1 3 32 5) up).inst 0).cq.serving = some ⟨share1, 0, .share 1 3 32 5, none⟩ ∧
      ((serving 0 unlockPkt .unlock up).inst 0).cq.serving = some ⟨unlockPkt, 0, .unlock, none⟩ ∧
      (let s := serving 0 share1 .commit (inTxn (withGuest id up))
       let t := s.withTxn { s.txn with staged := [⟨share1, 0⟩] }
       (t.inst 0).cq.serving = some ⟨share1, 0, .commit, none⟩ ∧ t.txn.opened = true ∧
         t.txn.staged = [⟨share1, 0⟩] ∧ pkOpcode share1 = 0x14) ∧
      ∀ p ∈ (serving 0 share1 (.share 1 3 32 5) (withGuest id up)).insts, p.2.genStep = false ∧
        (p.1 ≠ 0 → p.2.cq.serving = none) := by
  decide +kernel

/-- A halted port 2 whose MOVER_RESUME waits, with an operation in flight. -/
def resuming (o : List Op) : State :=
  let s := serving 0 resume2 (.resume 2) (modPort 2 (fun p => { p with halted := true, cause := 2 }) (withRing id up))
  { s with ops := o }

/-- Instance 1 resetting with its generation step due and an operation in flight. -/
def stepDue : State :=
  let s := busy [] (aeadOp 1)
  { s with insts := tset 1 { s.inst 1 with state := .resetting, genStep := true, work := true } s.insts }

theorem witness_RoundBoundary_resume :
    let r := resuming []
    let o := { aeadOp 1 with phase := Phase.ready, ring := 10, returned := true }
    let u := resuming [o]
    (r.inst 0).cq.serving = some ⟨resume2, 0, .resume 2, none⟩ ∧ r.Inv ∧ Sound r ∧ r.pins.mainUp = true ∧
      r.fw.imageRuns = true ∧ r.ops = [] ∧ r.keys.kekPending = none ∧
      (∀ p ∈ r.insts, p.2.genStep = false ∧ (p.1 ≠ 0 → p.2.cq.serving = none)) ∧ u.Inv ∧ Sound u ∧ u.ops = [o] ∧
      portOf o.ring = 2 ∧ (u.inst 0).cq.serving = some ⟨resume2, 0, .resume 2, none⟩ := by
  unfold Sound State.Inv; decide +kernel

/-- A KEK_SET and a COUNTER_CONFIG that wait. -/
theorem witness_RoundBoundary_waits :
    let c := serving 1 counter1 (.counter 1 0 3 5 0) (withGuest id up)
    let k := serving 0 (keymsg 200) .kekSet (withGuest id (up.withKeys { up.keys with
      kekPending := some (1, 3, List.replicate 32 5, 2, List.replicate 32 6) }))
    Sound up ∧ up.fw.imageRuns = true ∧ (c.inst 1).cq.serving = some ⟨counter1, 0, .counter 1 0 3 5 0, none⟩ ∧
      ((c.inst 1).counters[0]?).isSome = true ∧ 0 < progCounters 1 ∧ ((c.inst 1).counters[progCounters 1]?).isSome = true ∧
      k.keys.kekPending = some (1, 3, List.replicate 32 5, 2, List.replicate 32 6) ∧ k.pins.mainUp = true ∧ k.ops = [] ∧
      Sound k ∧ (k.inst 0).cq.serving = some ⟨keymsg 200, 0, .kekSet, none⟩ ∧
      (∀ p ∈ k.insts, p.2.genStep = false ∧ (p.1 ≠ 0 → p.2.cq.serving = none)) := by
  unfold Sound; decide +kernel

theorem witness_RoundBoundary_generation :
    stepDue.pins.mainUp = true ∧ Sound stepDue ∧ (stepDue.inst 1).genStep = true ∧
      (∀ p ∈ stepDue.insts, p.2.cq.serving = none) ∧ stepDue.build.guard = true ∧ (stepDue.inst 1).state = .resetting ∧
      stepDue.ops = [aeadOp 1] ∧ (aeadOp 1).inst = 1 := by
  unfold Sound; decide +kernel

/-! ### Witnesses: Rooms, the Scullery, sampling -/

/-- A key copy of AES-128. -/
def key0 : KeyCopy := ⟨0, List.replicate 16 1, List.replicate 16 0, [1, 2, 3, 4]⟩

/-- A dispatched operation in Room 0 with its first bytes arrived. -/
def roomOp (opcode payload : Nat) (f : Op → Op) : Op :=
  op0 (desc opcode 1 3 payload 0) (fun o => f { o with
    phase := .run, room := some 0, charged := true, key := some key0, pn := some 7, seq := 1,
    buf := [(0, List.replicate (min payload 16384 + 16) 0)] })

theorem witness_PartsRun_start :
    let o := roomOp 1 32 id
    let s := busy [] o
    s.op? 0 = some o ∧ Sound s ∧ o.room = some 0 ∧ o.key = some key0 ∧
      readyPart s o = true ∧ (roomUnits o.chacha 0).contains 1 = true ∧ unitHasPlace s o.chacha o.long 1 = true ∧
      mayUse s o 1 = true ∧ partTurn s o = true ∧ o.done < o.passable := by
  unfold Sound; decide +kernel

/-- An operation of two parts whose first part's bytes have arrived and, as an AEAD operation, have passed. -/
def firstPart (opcode unit : Nat) (data : List Byte) : Op :=
  op0 (desc opcode 1 3 16385 0) (fun o => { o with
    phase := .run, room := some 0, charged := true, key := some key0, pn := some 7, seq := 1, unit := some unit,
    done := 16384, buf := [(0, data)] })

theorem firstPart_partLen (opcode unit : Nat) (data : List Byte) (hc : opcode ∈ [1, 2, 0x10]) :
    (firstPart opcode unit data).partLen = 16384 ∧ (firstPart opcode unit data).lastPart = false := by
  have h : (firstPart opcode unit data).payload = 16385 ∧ (firstPart opcode unit data).part = 0 := by
    fin_cases hc <;> exact ⟨rfl, rfl⟩
  exact ⟨by simp [Op.partLen, h], by simp [Op.lastPart, Op.parts, h]⟩

theorem firstPart_partData (opcode unit : Nat) (data : List Byte) (hc : opcode ∈ [1, 2, 0x10])
    (h : data.length = 16384) : (firstPart opcode unit data).partData.length = 16384 := by
  rw [Op.partData, (firstPart_partLen opcode unit data hc).1]
  simp [firstPart, op0, arrivedBytes, gather, newOp, h]

/-- A SEAL and an OPEN of two parts at the end of the first. -/
theorem witness_PartsRun_part :
    ∀ c ∈ [1, 2],
      let o := firstPart c 0 (List.replicate 16384 0)
      (busy [] o).op? 0 = some o ∧ Sound (busy [] o) ∧ o.unit = some 0 ∧ o.key = some key0 ∧
        o.head.d.aead = true ∧ o.old = false ∧ o.phase = .run ∧ partComplete o = true ∧ o.lastPart = false := by
  intro c hc
  have hc' : c ∈ [1, 2, 0x10] := by simp at hc ⊢; omega
  refine ⟨rfl, ⟨rfl, rfl⟩, rfl, rfl, ?_, rfl, rfl, ?_, (firstPart_partLen _ _ _ hc').2⟩
  · fin_cases hc <;> decide +kernel
  · rw [partComplete, (firstPart_partLen _ _ _ hc').1, (firstPart_partLen _ _ _ hc').2]
    fin_cases hc <;> decide +kernel

theorem witness_PartsRun_seal :
    let o := roomOp 1 16 (fun o => { o with unit := some 0, done := 16 })
    let s := busy [] o
    s.op? 0 = some o ∧ Sound s ∧ o.unit = some 0 ∧ o.key = some key0 ∧ o.head.d.opcode = 1 ∧ o.old = false ∧
      o.phase = .run ∧ partComplete o = true ∧ o.lastPart = true := by
  unfold Sound; decide +kernel

theorem witness_PartsRun_tag :
    let o := roomOp 2 16 (fun o => { o with
      unit := some 0, place := some 0, done := 16, acc := List.replicate 16 0, stage := List.replicate 16 0 })
    let s := busy [] o
    s.op? 0 = some o ∧ Sound s ∧ o.unit = some 0 ∧ o.key = some key0 ∧ o.head.d.opcode = 2 ∧ o.old = false ∧ o.prior = [] ∧
      o.phase = .run ∧ partComplete o = true ∧ o.lastPart = true ∧ o.place.isSome = true ∧ o.payload ≤ 2048 ∧ o.wrote = [] ∧
      (tget o.ring s.rings).isSome = true ∧ o.givenTag ≠ o.tagBytes key0 := by
  unfold Sound; decide +kernel

theorem witness_UnitFaults :
    let o := roomOp 1 32 (fun o => { o with unit := some 0 })
    let s := busy [] o
    s.op? 0 = some o ∧ o.old = false ∧ (tget o.ring s.rings).isSome = true ∧ unitServes s false 0 = true ∧
      o ∈ partsOn s false 0 ∧ s.cel.faultCount + 1 < s.cel.faultLimit ∧ up.unitsRun = true ∧
      serviceOf { up with rooms := { up.rooms with chachas := [1] } } true 0 = 1 ∧
      ({ up with rooms := { up.rooms with alcoves := [⟨0, 4096, [], [], 0, 0⟩] } } : State).rooms.alcoves[0]? = some ⟨0, 4096, [], [], 0, 0⟩ := by
  decide +kernel

/-- A DIGEST in Scullery. -/
def digestOp (payload : Nat) (f : Op → Op) : Op := roomOp 0x10 payload (fun o => f { o with room := none, key := none })

theorem witness_DigestParts :
    let o := digestOp 32 id
    let s := { busy [] o with scu := { up.scu with partQ := [0] } }
    let p := digestOp 32 (fun o => { o with unit := some 15 })
    s.op? 0 = some o ∧ s.scu.partQ.head? = some 0 ∧ coreBusy s 15 = false ∧ coreWaits s = [] ∧
      o.betweenHeld s = false ∧ o.phase = .run ∧ (busy [] p).op? 0 = some p ∧ p.head.d.opcode = 0x10 ∧ p.unit = some 15 ∧ p.partData.length = p.partLen ∧
      (tget p.ring (busy [] p).rings).isSome = true ∧ p.lastPart = true ∧ p.listsDone = true := by
  decide +kernel

theorem witness_DigestParts_parity :
    let o := digestOp 32 (fun o => { o with part := 1 })
    let s := { busy [] o with scu := { up.scu with partQ := [0] } }
    s.op? 0 = some o ∧ s.scu.partQ.head? = some 0 ∧ coreBusy s 15 = false ∧ coreWaits s = [] ∧
      o.betweenHeld s = false ∧ o.phase = .run ∧ 0 < o.part ∧ o.id = 0 ∧
      o.head.d.opcode = 0x10 ∧ Current o s ∧ o.wrote = [] := by
  unfold Current; decide +kernel

theorem witness_DigestParts_part :
    let q := firstPart 0x10 15 (List.replicate 16384 0)
    (busy [] q).op? 0 = some q ∧ q.partData.length = q.partLen ∧ q.lastPart = false :=
  ⟨rfl, by rw [firstPart_partData _ _ _ (by simp) List.length_replicate, (firstPart_partLen _ _ _ (by simp)).1],
    (firstPart_partLen _ _ _ (by simp)).2⟩

/-- Register-path context 47 in a state. -/
def scu47 (c : ScuCtx) : State :=
  { up with scu := { up.scu with sel := 47, ctxs := List.replicate 47 ScuCtx.free ++ c :: List.replicate 16 ScuCtx.free } }

theorem witness_SculleryRegisters :
    let c := { ScuCtx.free with state := ScuState.opened, alg := 1 }
    let b := { ScuCtx.free with state := ScuState.busy, alg := 1, fin := true, core := some 3 }
    (scu47 c).pins.mainUp = true ∧ (scu47 c).cel.locked = false ∧ (scu47 c).scu.sel < 48 ∧
      (scu47 c).scu.ctxs[(scu47 c).scu.sel]? = some c ∧ bits (0x101 : Word) 1 0 = 1 ∧ scuAlg (bits (0x101 : Word) 15 8) = true ∧
      bits (0x72 : Word) 1 0 = 2 ∧ bits (3 : Word) 1 0 = 3 ∧ (locked up).cel.locked = true ∧
      48 ≤ ({ up with scu := { up.scu with sel := 48 } } : State).scu.sel ∧ (scu47 b).scu.ctxs[47]? = some b ∧
      (scu47 b).unitsRun = true ∧ b.lostNow = false ∧ b.core.isSome = true ∧ c.core = none ∧ coreWaits (scu47 c) = [] ∧ coreBusy (scu47 c) 15 = false ∧
      (0x0F : BitVec 8) ≠ 0xFF := by
  decide +kernel

theorem witness_SamplingAndWrap :
    let s := withGuest id up
    let u := withGuest (fun x => { x with samp := { x.samp with enable := true, tail := 4096, head := 0 } }) up
    PageOk 1 0x1400 0xFF s ∧ (s.inst 1).samp.enable = false ∧ PageOk 1 0x1400 0xFF u ∧ (u.inst 1).samp.enable = true ∧
      PageOk 1 0x1418 0xFF u ∧ ((4096 : Idx) - (u.inst 1).samp.head).toNat = 2 ^ (u.inst 1).samp.log2 ∧
      ({ s with wraps := [(1, 0)] } : State).wraps.contains (1, 0) = true ∧ s.pins.mainUp = true ∧
      (s.inst 1).counters[0]? = some Counter.prog ∧ Counter.prog.ovfRec = false := by
  unfold PageOk; decide +kernel

/-! ### Witnesses: the Pantry door -/

/-- Node 0 of a level, whose child 3 has counter 1. -/
def node0 (level : Nat) : Node := ⟨level, 0, ⟨0, 0 :: 0 :: 0 :: 1 :: List.replicate 60 0⟩, false, 0, none, false, false⟩

/-- The store with the path of index 3 in the node cache, and more of the Larder set. -/
def cached (f : Larder → Larder) : State :=
  let s := atStore (withRing id up)
  s.withLar (f { s.lar with nodes := [node0 0, node0 1, node0 2, node0 3] })

theorem cached_path (f : Larder → Larder) (hn : ∀ l, (f l).nodes = l.nodes) (hf : ∀ l, (f l).flush = l.flush) :
    PathCached 3 (cached f) := by
  refine ⟨?_, ?_, ?_, rfl, rfl⟩
  · intro k hk
    have : (cached f).lar.nodes = [node0 0, node0 1, node0 2, node0 3] := hn _
    simp only [State.node?, this]
    have : k = 0 ∨ k = 1 ∨ k = 2 ∨ k = 3 := by omega
    rcases this with rfl | rfl | rfl | rfl <;> decide +kernel
  · have : (cached f).lar.nodes = [node0 0, node0 1, node0 2, node0 3] := hn _
    simp only [pathBusy, this]
    decide +kernel
  · exact hf _

theorem witness_LarderReads_start :
    let f := fun l : Larder => { l with misses := [(3, 1, none), (5, 1, none)] }
    let g := fun l : Larder => { l with misses := [(3, 1, none), (5, 0, none)], credits := [(1, 0)] }
    let s := cached f
    PathCached 3 s ∧ s.lar.misses.find? (fun m => m.1 == 3) = some (3, 1, none) ∧ missStarts s (3, 1, none) = true ∧
      0 < turnsLeft s 1 ∧ (s.inst 1).kek.seed ≠ [] ∧ leafCtr s 3 ≠ none ∧ s.Inv ∧ s.arrived? (.larBlob 3) = none ∧
      missStarts (cached g) (3, 1, none) = true ∧ turnsLeft (cached g) 1 = 0 ∧
      missStarts (cached g) (5, 0, none) = true ∧ 0 < turnsLeft (cached g) 0 ∧ s.unitsRun = true := by
  refine ⟨cached_path _ (fun _ => rfl) (fun _ => rfl), ?_⟩
  unfold State.Inv; decide +kernel

/-- Node 3 of level 0 under counter 1, and its MAC. -/
def nodeBytes (mac : Nat) : List Byte := (node0 0).c.bytes ++ beBytes 8 mac

theorem nodeMac3 : nodeMac (cached id) 0 3 1 (node0 0).c.bytes = beBytes 8 405671234777527272 := by decide +kernel

theorem nodeBytes_parts (mac : Nat) :
    (nodeBytes mac).take 56 = (node0 0).c.bytes ∧ slice 56 8 (nodeBytes mac) = beBytes 8 mac := by
  have h : (node0 0).c.bytes.length = 56 := by decide +kernel
  constructor
  · simp [nodeBytes, h]
  · simp [nodeBytes, slice, h, beBytes, leBytes]

theorem witness_LarderReads_node (mac : Nat) :
    let s := arrive (.node 0 3) (nodeBytes mac) (cached id)
    s.arrived? (.node 0 3) = some (nodeBytes mac) ∧
      (s.parentCtrs 0 3).bind (fun c => c.at (childOf 0 3)) = some 1 ∧ DoorQuiet s ∧ s.attaching = false ∧
      s.node? 0 3 = none ∧ s.lar.nodes.length < 16384 ∧ s.unitsRun = true :=
  ⟨rfl, by rfl, ⟨rfl, (by decide +kernel : ∀ p ∈ (cached id).pan.slots, p.2.tombDue = false), rfl⟩, by rfl, by rfl,
    (by decide : 4 < 16384), rfl⟩

/-- Top node 0 has been read for an attach. -/
theorem witness_StoreCommands_node :
    let s := arrive (.node 3 0) (nodeBytes 0) (serving 0 (attach 0x8000000) .attach (grown up))
    s.Inv ∧ (s.inst 0).cq.serving = some ⟨attach 0x8000000, 0, .attach, none⟩ ∧
      s.arrived? (.node 3 0) = some (nodeBytes 0) ∧ (∀ n ∈ List.range 8, (s.port n).halted = false) ∧
      (s.parentCtrs 3 0).bind (fun c => c.at (childOf 3 0)) = some 1 ∧ s.node? 3 0 = none ∧ s.lar.nodes.length < 16384 ∧
      s.unitsRun = true := by
  unfold State.Inv; decide +kernel

/-- A node whose MAC holds, and one whose MAC does not. -/
theorem witness_LarderReads_mac :
    let s := arrive (.node 0 3) (nodeBytes 405671234777527272) (cached id)
    slice 56 8 (nodeBytes 405671234777527272) =
        nodeMac s 0 3 1 ((nodeBytes 405671234777527272).take 56) ∧
      slice 56 8 (nodeBytes 0) ≠ nodeMac s 0 3 1 ((nodeBytes 0).take 56) := by
  simp only [(nodeBytes_parts _).1, (nodeBytes_parts _).2]
  refine ⟨(nodeMac3).symm, ?_⟩
  rw [show nodeMac (arrive (.node 0 3) (nodeBytes 405671234777527272) (cached id)) 0 3 1 (node0 0).c.bytes = _ from
    nodeMac3]
  decide +kernel

/-- The blob of context 3 under counter 1: header, HDR_MAC, ciphertext and tag. -/
def blob3 : List Byte :=
  [1, 1, 1, 0, 1, 0, 0, 0, 1, 0, 0, 0, 0, 0, 0, 0, 5, 0, 0, 0, 0, 0, 0, 0] ++ beBytes 136
    0x8A72EF013DAA335E0E5B1675EB08FB831A71804A1F2BCAAAE1DF3569C29259A102A9555592F1A162C4AE82D4B541A6CBC36E1076B584761CC90F055428173CB766F6711A75B3A6F91B04974AE7FFDD0A371023BB1A0E840A350E0071539F48E898079BCD09E666224A84D88A591DC0498E3060AB41CA541B48C7A21B40574CD4CD737353DA5B4E6B

/-- The block while it reads a blob of index 3. -/
def reading (b : List Byte) : State :=
  arrive (.larBlob 3) b (cached (fun l => { l with fetches := [⟨3, 1, none, none, none, false, none, false⟩] }))

theorem hdrKey3 : (cached id).hdrKey = beBytes 32 63573629026281592787565860912760290629105326514879738944828921739037175162929 := by
  decide +kernel

theorem blobKey3 : (cached id).blobKey 1 (List.replicate 32 4) =
    beBytes 32 76291190543821461004721927287045109184743435239430504813660031322554899144202 := by
  decide +kernel

/-- A blob of a live, unpinned context of one slot; and one that fails its check. -/
theorem witness_LarderReads_blob :
    (match readBlob (reading blob3) 3 1 blob3 with
      | .live x => pinsOf x == 0 && !x.wide && x.index == 3 && x.serial == 5
      | _ => false) = true ∧ readBlob (reading []) 3 1 [] = .bad := by
  constructor
  · simp only [readBlob, show (reading blob3).hdrKey = _ from hdrKey3,
      show ((reading blob3).inst 1).kek.seed = List.replicate 32 4 from rfl,
      show (reading blob3).blobKey 1 (List.replicate 32 4) = _ from blobKey3]
    decide +kernel
  · decide +kernel

theorem witness_LarderReads_fetch (b : List Byte) :
    let s := reading b
    let f : Fetch := ⟨3, 1, none, none, none, false, none, false⟩
    s.arrived? (.larBlob 3) = some b ∧ s.lar.fetches.find? (fun f => f.index == 3) = some f ∧ f.probe = none ∧
      f.inc = none ∧ (s.inst f.inst).kek.seed ≠ [] ∧ PathCached 3 s ∧ leafCtr s 3 ≠ none ∧
      s.pan.slots.length + 2 ≤ s.build.slots ∧ s.unitsRun = true := by
  refine ⟨rfl, rfl, rfl, rfl, (by decide : List.replicate 32 (4 : Byte) ≠ []), ?_, (by decide +kernel : leafCtr (cached id) 3 ≠ none), (by decide : 0 + 2 ≤ 262144), rfl⟩
  obtain ⟨h1, h2, h3, h4⟩ := cached_path (fun l => { l with fetches := [⟨3, 1, none, none, none, false, none, false⟩] })
    (fun _ => rfl) (fun _ => rfl)
  exact ⟨h1, h2, h3, h4⟩

/-- The slots of a full Pantry: context 3 in slot 0, and slots that may not be victims. -/
def fullSlots (dirty : Bool) : List (Nat × Slot) :=
  (0, { slot3 sends with dirty := dirty }) :: List.replicate 262143 (1, { slot3 sends with index := 7, noVictim := true })

/-- The fetch of context 5, whose context is verified. -/
def fetch5 : Fetch := ⟨5, 1, none, none, some { slot3 sends with index := 5 }, false, none, false⟩

/-- The full Pantry while context 5 waits for a place. -/
def fullPantry (dirty : Bool) (tokens : Nat) : State :=
  let s := cached (fun l => { l with tokens := tokens, fetches := [fetch5] })
  { s with pan := { s.pan with slots := fullSlots dirty } }

theorem fullPantry_victim (dirty : Bool) (tokens : Nat) : chooseVictim (fullPantry dirty tokens) = some 0 := by
  have h : (fullPantry dirty tokens).pan.slots.filter (fun p => victimOk (fullPantry dirty tokens) p.2 &&
      !(fullPantry dirty tokens).lar.fetches.any (fun f => f.victim == some p.1)) =
      [(0, { slot3 sends with dirty := dirty })] := by
    rw [show (fullPantry dirty tokens).pan.slots = fullSlots dirty from rfl, fullSlots, List.filter_cons,
      List.filter_replicate_of_neg (by simp [victimOk]), if_pos]
    have h : (fullPantry dirty tokens).refs 3 = 0 := rfl
    have p : polPinned (slot3 sends).policy = false := by decide
    simp only [victimOk, show (slot3 sends).index = 3 from rfl, h, p]
    rfl
  rw [chooseVictim, h]
  rfl

theorem witness_LarderReads_place (dirty : Bool) (tokens : Nat) :
    let s := fullPantry dirty tokens
    s.lar.fetches.find? (fun f => f.index == 5) = some fetch5 ∧ fetch5.inc = some { slot3 sends with index := 5 } ∧
      fetch5.victim = none ∧ fetch5.token = false ∧ ({ slot3 sends with index := 5 } : Slot).wide = false ∧
      s.pan.slots.length = s.build.slots ∧ s.lar.tokens = tokens ∧ chooseVictim s = some 0 ∧
      tget 0 s.pan.slots = some { slot3 sends with dirty := dirty } ∧
      (∀ p ∈ s.pan.slots, p.1 = 0 → p.2 = { slot3 sends with dirty := dirty }) ∧ s.Inv ∧ PathCached 3 s := by
  refine ⟨rfl, rfl, rfl, rfl, rfl, ?_, rfl, fullPantry_victim dirty tokens, rfl, ?_, ⟨rfl, rfl, rfl, rfl⟩, ?_⟩
  · rw [show (fullPantry dirty tokens).pan.slots = fullSlots dirty from rfl, fullSlots, List.length_cons,
      List.length_replicate]
    rfl
  · intro p h h0
    rw [show (fullPantry dirty tokens).pan.slots = fullSlots dirty from rfl, fullSlots] at h
    rcases List.mem_cons.mp h with rfl | h
    · rfl
    · rw [(List.mem_replicate.mp h).2] at h0
      cases h0
  · obtain ⟨h1, h2, h3, h4⟩ := cached_path (fun l => { l with tokens := tokens, fetches := [fetch5] })
      (fun _ => rfl) (fun _ => rfl)
    exact ⟨h1, h2, h3, h4⟩

/-- The same blob with a PINNED policy, and with that of a PINNED WIDE receiving context. -/
def blobPinned : List Byte :=
  [1, 1, 1, 0, 1, 0, 0, 0, 1, 0, 0, 0, 0, 0, 0, 0, 5, 0, 0, 0, 0, 0, 0, 0] ++ beBytes 136
    0x8A72EF013DAA335E0E5B1675EB08FB831A71804A1F2BCAAAE0DE3468C39358A003A8545493F0A063C4AE82D4B541A6CBC36E1076B584761CC90F055428173CB766F6711A75B3A6F91A06944EE7FFDD0A371023BB1A0E840A350E0071539F48E898079BCD09E666224A84DC8A591DC0498E3060AB41CA541BCEF161EECF19493E7869C6E1B65C0AE1
def blobWide : List Byte :=
  [1, 1, 1, 0, 1, 0, 0, 0, 1, 0, 0, 0, 0, 0, 0, 0, 5, 0, 0, 0, 0, 0, 0, 0] ++ beBytes 136
    0x8A72EF013DAA335E0E5B1675EB08FB831A71804A1F2BCAAAE0DE3468C39358A003A8545493F0A063C4AE82D4B541A6CBC36E1076B584761CC90F055428173CB766F6711A75B3A6F91A06944EE7FFDD0A371023BB1A0E840A350E0071539F48E898079BCD09E66622B698DC8A591DC0498E3060AB41CA541B4AFCD394D880031C5D86699AD98EDFD4

/-- The block that reads such a blob while PIN_MAX is 0. -/
def unpinnable (b : List Byte) : State := { reading b with pan := { (reading b).pan with pinMax := 0 } }

theorem witness_LarderReads_pins :
    ∀ c ∈ ([(blobPinned, 1), (blobWide, 2)] : List (List Byte × Nat)),
      (match readBlob (unpinnable c.1) 3 1 c.1 with
        | .live x => pinsOf x == c.2 && !pinOk (unpinnable c.1) x.owner (pinsOf x) && x.wide == (c.2 == 2)
        | _ => false) = true := by
  intro c hc
  simp only [List.mem_cons, List.not_mem_nil, or_false] at hc
  rcases hc with rfl | rfl <;>
  · simp only [readBlob, show (unpinnable _).hdrKey = _ from hdrKey3,
      show ((unpinnable _).inst 1).kek.seed = List.replicate 32 4 from rfl,
      show (unpinnable _).blobKey 1 (List.replicate 32 4) = _ from blobKey3]
    decide +kernel

/-- An operation parked on the index. -/
theorem witness_LarderReads_parked :
    let o := { aeadOp 1 with phase := Phase.parked 3 }
    let s := busy [] o
    s.ops.filter (fun o => o.phase == .parked 3) = [o] ∧ Current o s := by
  unfold Current; decide +kernel

/-- Slot 0 with context 3, changed. -/
def withSlot (f : Slot → Slot) : State := busy [(0, f (slot3 sends))] (newOp 0 1 8 0 1 0)

theorem witness_LarderWrites_victim :
    let s := arrive (.victim 3) [] (withSlot (fun x => { x with evicting := true, dirty := true }))
    s.arrived? (.victim 3) = some [] ∧ (s.slotOf 3).map (·.1) = some 0 ∧ s.lar.fetches = [] ∧ s.unitsRun = true ∧
      (s.slotOf 3).map (·.2.noTomb) = some false := by
  decide +kernel

/-- A full cache: node 0 of level 0, dirty, the nodes above it, and nodes that may not leave. -/
def fullNodes : List Node := [{ node0 0 with dirty := true }, node0 1, node0 2] ++ List.replicate 16384 (node0 3)
def fullCache : State := cached (fun l => { l with nodes := fullNodes })

theorem witness_LarderWrites_node :
    let x := { node0 0 with dirty := true }
    fullCache.Inv ∧ lruNode fullCache = some x ∧ fullCache.node? x.level x.n = some x ∧ x.dirty = true ∧
      fullCache.lar.flush = none ∧ fullCache.lar.stale = false ∧ 16384 ≤ fullCache.lar.nodes.length ∧
      fullCache.node? (x.level + 1) (x.n / 64) = some (node0 1) ∧ fullCache.unitsRun = true ∧
      fullCache.lar.nodes.any fullCache.orphan = false := by
  have h0 : evictable fullCache { node0 0 with dirty := true } = true := rfl
  have hn : ∀ k ∈ [node0 1, node0 2, node0 3], evictable fullCache k = false := by
    intro k hk
    simp only [List.mem_cons, List.not_mem_nil, or_false] at hk
    rcases hk with rfl | rfl | rfl <;> rfl
  have ho : ∀ k ∈ [{ node0 0 with dirty := true }, node0 1, node0 2, node0 3], fullCache.orphan k = false := by
    intro k hk
    simp only [List.mem_cons, List.not_mem_nil, or_false] at hk
    rcases hk with rfl | rfl | rfl | rfl <;> rfl
  refine ⟨⟨rfl, rfl, rfl, rfl⟩, ?_, rfl, rfl, rfl, rfl, ?_, rfl, rfl, ?_⟩
  · rw [lruNode, show fullCache.lar.nodes = fullNodes from rfl, fullNodes, List.filter_append,
      List.filter_replicate_of_neg (by simp [hn])]
    simp [h0, hn]
  · rw [show fullCache.lar.nodes = fullNodes from rfl, fullNodes, List.length_append, List.length_replicate]
    exact Nat.le_add_left _ _
  · rw [List.any_eq_false, show fullCache.lar.nodes = fullNodes from rfl, fullNodes]
    intro k hk
    rcases List.mem_append.mp hk with hk | hk
    · simp [ho k (by simp at hk ⊢; tauto)]
    · simp [List.mem_replicate.mp hk, ho]

/-- Node 0 of level 1, whose child 3 must be authenticated again under counter 65. -/
def raised (old : Ctrs) : Node := { node0 1 with c := ⟨1, 0 :: 0 :: 0 :: 1 :: List.replicate 60 0⟩, old := some old }

theorem witness_LarderWrites_reauth :
    let x := raised (node0 1).c
    let y := raised Ctrs.zero
    let s := cached (fun l => { l with nodes := [x] })
    let u := cached (fun l => { l with nodes := [y] })
    s.Inv ∧ s.node? 1 0 = some x ∧ x.rewrap = false ∧ childrenDue (node0 1).c = [3] ∧
      childOut s (childAddr s 1 0 3) = false ∧ childComing s 1 0 3 = false ∧
      (arrive (.child 1 0 3) [] s).arrived? (.child 1 0 3) = some [] ∧
      u.Inv ∧ u.node? 1 0 = some y ∧ childrenDue Ctrs.zero = [] ∧
      (∀ p ∈ u.hwy.ports, ∀ w ∈ p.wrs ++ p.wrQ, w.owner ≠ .reauth) ∧
      ((node0 1).c.at 3).getD 0 = 1 ∧ s.unitsRun = true := by
  unfold State.Inv; decide +kernel

theorem witness_LarderWrites_mac (nctr : Nat) :
    (remacNode (cached (fun l => { l with nodes := [raised (node0 1).c] })) 0 3 1 nctr (nodeBytes 405671234777527272)).isSome := by
  simp only [remacNode, (nodeBytes_parts _).1, (nodeBytes_parts _).2]
  rw [if_pos]
  · rfl
  · rw [show nodeMac (cached (fun l => { l with nodes := [raised (node0 1).c] })) 0 3 1 (node0 0).c.bytes = _ from nodeMac3]
    simp

theorem witness_ContextsRetire :
    let x := { slot3 sends with state := SlotState.retiring }
    let y := { x with noTomb := true }
    let z := { x with zeroed := true, tombDue := true, retireOp := some 0 }
    let s := withSlot (fun _ => x)
    let u := arrive (.tomb 3) [] (withSlot (fun _ => z))
    s.slotOf 3 = some (0, x) ∧ retireDue s x = true ∧ s.unitsRun = true ∧ Sound s ∧ x.noTomb = false ∧
      s.lar.attached = true ∧ s.lar.stale = false ∧
      up.lar.attached = false ∧ up.fw.landing = none ∧ retireDue (withSlot (fun _ => y)) y = true ∧
      u.arrived? (.tomb 3) = some [] ∧ u.slotOf 3 = some (0, z) ∧ z.state = .retiring ∧ z.zeroed = true ∧ u.unitsRun = true ∧
      (u.op? 0).map (·.old) = some false := by
  unfold Sound; decide +kernel

theorem witness_ContextsRetire_micro :
    up.pins.mainUp = true ∧ DoorQuiet up ∧ up.fw.landing = none ∧ up.boot.step = 0x0A ∧ up.diag.asserted = [] ∧
      ({ up with stair := { up.stair with fromCellar := false } } : State).stair.holdUntil = 0 := by
  unfold DoorQuiet; decide +kernel

/-! ### Witnesses: the Hearth -/

/-- A PK operation in the Hearth queue or on an engine. -/
def pkOp (subop : Nat) : Op := op0 (desc 0x30 subop 0 0 0x7000) (fun o => { o with phase := .hearth })

/-- The block with that operation in its queue, and engine 0. -/
def hearthed (subop : Nat) (e : Engine) (queue : List (Nat × Nat)) : State :=
  let s := modInst 1 (fun x => { x with hdeficit := 1 }) (busy [] (pkOp subop))
  { s with hearth := { s.hearth with queue := queue, visit := 1, inVisit := true, engines := e :: List.replicate 7 Engine.cold } }

theorem witness_HearthTakesWork_handoff :
    ∀ w ∈ ([none, some 1, some 2] : List (Option Nat)),
      let e := { Engine.cold with owner := w }
      let s := { hearthed 0x20 e [(1, 0)] with hearth := { (hearthed 0x20 e [(1, 0)]).hearth with
        engines := e :: List.replicate 7 { Engine.cold with state := .run } } }
      s.pins.mainUp = true ∧ s.hearth.inVisit = true ∧ servingWaits 0 .engine s = false ∧
        hearthWork s s.hearth.visit = true ∧
        0 < (s.inst s.hearth.visit).hdeficit ∧ hearthHead s s.hearth.visit = some (pkOp 0x20) ∧
        (pkOp 0x20).inst = s.hearth.visit ∧ chooseEngine s s.hearth.visit = some 0 ∧ s.engines[0]? = some e := by
  decide +kernel

/-- An operand block header for RSA of 128 bytes with E 3, and operands: a modulus and a value below it. -/
def rsaHdr (out : Nat) : List Byte := leBytes 8 0x9000 ++ leBytes 4 256 ++ leBytes 4 out ++ leBytes 2 128 ++ leBytes 2 0 ++
  leBytes 4 3 ++ leBytes 8 0
def rsaData (m : Nat) : List Byte := beBytes 128 m ++ beBytes 128 2

/-- An engine with operation 0 in a state. -/
def engine0 (st : EngState) (v : Option Status) : Engine :=
  { Engine.cold with owner := some 1, op := some 0, state := st, hdr := rsaHdr 128, data := rsaData (2 ^ 1023 + 1), valDone := v }

theorem witness_HearthTakesWork_operands :
    let e := { Engine.cold with owner := some 1, op := some 0, state := EngState.fetch }
    let s := hearthed 0x20 e []
    let a := arrive (.pkIn 0) (rsaHdr 128) s
    let b := arrive (.pkIn 0) (rsaHdr 1) s
    let c := arrive (.pkBody 0) (rsaData 1) s
    s.engines[0]? = some e ∧ s.op? 0 = some (pkOp 0x20) ∧ a.arrived? (.pkIn 0) = some (rsaHdr 128) ∧
      b.arrived? (.pkIn 0) = some (rsaHdr 1) ∧ (pkOp 0x20).old = false ∧ (tget 8 s.rings).isSome = true ∧
      c.arrived? (.pkIn 0) = none ∧ c.arrived? (.pkBody 0) = some (rsaData 1) ∧ (pkInfo 0x20).isSome = true := by
  decide +kernel

theorem witness_HearthTakesWork_header :
    pkHeaderOk 0x20 (rsaHdr 128) = true ∧ pkHeaderOk 0x20 (rsaHdr 1) = false ∧
      pkCtxOk ⟨0, false, false, 0, false, 1000, 0, 1⟩ (rsaData 1) = true := by
  decide +kernel

theorem witness_PkCompletes :
    ∀ v ∈ ([none, some .evenModulus, some .ok] : List (Option Status)),
      let s := hearthed 0x20 (engine0 .run v) []
      s.engines[0]? = some (engine0 .run v) ∧ s.op? 0 = some (pkOp 0x20) ∧ s.diag.armed = [] ∧
        (pkOp 0x20).old = false ∧ (tget 8 s.rings).isSome = true ∧ pkFresh 0x20 = false ∧
        s.cel.faultCount + 1 < s.cel.faultLimit := by
  decide +kernel

/-- Validation of an odd and of an even modulus; an RSA result that is delivered, and a signature that fails. -/
theorem witness_PkCompletes_values :
    pkValidate 0x20 128 3 (rsaData (2 ^ 1023 + 1)) = .ok ∧ pkValidate 0x20 128 3 (rsaData (2 ^ 1023)) = .evenModulus ∧
      pkResult 0x20 128 3 (rsaData (2 ^ 1023 + 1)) [] = beBytes 128 8 ∧
      pkOutcome 0x20 (rsaData (2 ^ 1023 + 1)) (beBytes 128 8) = .ok ∧
      pkCheck 0x20 128 3 (rsaData (2 ^ 1023 + 1)) (beBytes 128 8) [] = true ∧
      pkOutcome 0x02 (List.replicate 160 0) [] = .sigInvalid := by
  decide +kernel

theorem witness_EnginesStop :
    let run := { engine0 .run none with abort := true }
    let free := { Engine.cold with state := EngState.wipe, after := some .faultDetected }
    let wipe := { engine0 .wipe none with owner := some 2 }
    let stop := { wipe with abort := true, after := some .fabricReadError }
    let test := { Engine.cold with state := EngState.test }
    (hearthed 0x20 run []).engines[0]? = some run ∧ (hearthed 0x20 free []).engines[0]? = some free ∧
      (hearthed 0x20 wipe []).engines[0]? = some wipe ∧ (hearthed 0x20 wipe []).op? 0 = some (pkOp 0x20) ∧
      wipe.abort = false ∧ (hearthed 0x20 stop []).engines[0]? = some stop ∧ (pkOp 0x20).phase = .hearth ∧
      (pkOp 0x20).old = false ∧ (tget 8 (hearthed 0x20 stop []).rings).isSome = true ∧
      (hearthed 0x20 test []).unitsRun = true ∧ Current (pkOp 0x20) (hearthed 0x20 stop []) ∧
      (hearthed 0x20 test []).engines[0]? = some test ∧ (hearthed 0x20 test []).fw.rollout.contains 0 = false := by
  unfold Current; decide +kernel

/-- HEARTH_ABORT of every operation of ring 8: one that an engine runs, and one that waits in the Hearth queue. -/
theorem witness_RepliesEnd_abort :
    let a := pkt 0x70 8 0 (leBytes 4 8 ++ leBytes 4 0xFFFFFFFF)
    let o := { pkOp 0x20 with ran := true }
    let s := got 1 a (hearthed 0x20 (engine0 .run none) [])
    let u := got 1 a { hearthed 0x20 Engine.cold [(1, 0)] with ops := [o] }
    Taken 1 0x70 a s ∧ tget (par 0 2 a) s.rings = some ring1 ∧
      s.ops.filter (fun o => o.ring == par 0 2 a && abortable s o &&
        (par 4 4 a == 0xFFFFFFFF || o.head.idx.toNat == par 4 4 a)) = [pkOp 0x20] ∧
      s.hearth.engines[0]? = some (engine0 .run none) ∧ (engine0 .run none).op = some (pkOp 0x20).id ∧
      Taken 1 0x70 a u ∧ u.ops.filter (fun o => o.ring == par 0 2 a && abortable u o &&
        (par 4 4 a == 0xFFFFFFFF || o.head.idx.toNat == par 4 4 a)) = [o] ∧ Current o u ∧ o.phase = .hearth ∧
      ∀ e ∈ u.hearth.engines, e.op ≠ some o.id := by
  unfold Taken Current; decide +kernel

/-! ### Witnesses: alarms and the Cellar -/

/-- The block with another TH_ALARM_CFG. -/
def alarmed (cfg : BitVec 16) : State := { up with cel := { up.cel with alarmCfg := cfg } }

/-- Source 0 answered with Notify, Lock and Zeroise; source 8, CELLAR_INTEGRITY, always with Zeroise. -/
theorem witness_AlarmsLock :
    ∀ c ∈ ([(0, 0, 0), (1, 0, 1), (2, 0, 2), (0, 8, 2)] : List (Nat × Nat × Nat)),
      let s := alarmed (BitVec.ofNat 16 c.1)
      s.pins.mainUp = true ∧ s.cel.onVbat = false ∧ detected c.2.1 = true ∧ watched c.2.1 s = true ∧
        1000 ≤ s.cel.quietFor c.2.1 ∧ s.cel.asserting.getLsbD c.2.1 = false ∧ s.response c.2.1 = c.2.2 ∧
        s.cel.locked = false := by
  decide +kernel

theorem witness_AlarmsLock_neighbour :
    let s := linked (alarmed 0x4000)
    let u := { s with cel := { s.cel with quietUs := List.replicate 9 999 } }
    s.pins.mainUp = true ∧ s.cel.onVbat = false ∧ (s.link false).carries = true ∧ 1000 ≤ s.cel.quietFor 7 ∧
      s.cel.asserting.getLsbD 7 = false ∧ 0 < s.response 7 ∧ s.cel.locked = false ∧ u.cel.quietFor 7 < 1000 := by
  decide +kernel

theorem witness_CellarKeeps :
    let c := { up.cel with step := LockStep.clear, locked := true, zeroRuns := true }
    let d := { up with cel := c, lar := { up.lar with staleDue := true, attached := true } }
    detected 5 = true ∧ detected 8 = true ∧ detected 7 = false ∧ up.diag.holds 5 = false ∧ up.diag.asserted = [] ∧
      up.pins.mainUp = true ∧
      ((0 :: up.cel.faultLog).take up.cel.faultWindow).foldl (· + ·) 0 < up.cel.faultLimit ∧ up.cel.step ≠ .clear ∧
      ({ up with cel := c } : State).cel.step = .clear ∧ c.zeroRuns = true ∧ c.rootPresent = false ∧
      up.keys.rngOk = true ∧ up.boot.step = 0x0A ∧ State.reset.keys.rngOk = false ∧ up.cel.zeroRuns = false ∧
      servingWaits 0 .engine up = false ∧ up.drbgUnits.contains drbgStudy = true ∧ drbgStudy < up.keys.drbgs.length ∧
      d.cel.step = .clear ∧ d.lar.staleDue = true ∧ d.lar.attached = true ∧
      ({ up.keys with rngFail := true, rngOk := false } : Keys).rngFail = true := by
  decide +kernel

/-- Source 0 quiet for 999 µs and asserting; the Roof on vdd_aon and on vbat; an injection of source 5 whose 1 ms is over. -/
theorem witness_CellarKeeps_micro :
    let c := { up.cel with quietUs := List.replicate 9 999, roofUs := 1 }
    let o := { up with pins := { up.pins with mainUp := false }, diag := { up.diag with asserted := [(5, 1)] } }
    0 < c.quietUs.length ∧ c.asserting.getLsbD 0 = false ∧ (setBit 0 true c.asserting).getLsbD 0 = true ∧
      c.onVbat = false ∧ 1 ≤ c.roofUs ∧ up.cel.roofUs = 0 ∧ o.pins.mainUp = false ∧ (5, 1) ∈ o.diag.asserted ∧
      roofPassUs true up.cel.onVbat ≤ up.cel.alarmUs ∧ roofPassUs false up.cel.onVbat ≤ up.cel.alarmUs ∧
      ({ up.cel with alarmUs := 1 } : Cellar).alarmUs < roofPassUs false false := by
  decide +kernel

/-! ### Witnesses: bring-up, resets, power -/

/-- The block that waits for GO, with an image of a length. -/
def waitsGo (len : Nat) : State := { State.reset with boot := { State.reset.boot with step := 4, len := len } }

/-- A fabric record of version 1 with SNAPSHOT64. -/
def record : List Byte := [0x48, 0x57, 0x59, 0x46, 1, 0, 1, 0] ++ List.replicate 56 0

/-- A bring-up in which everything passes. -/
def bringOk : BringUp := ⟨List.range 32, List.range 16, List.range 8, List.range 16, 0, 0, true, ⟨true, true⟩⟩

/-- GO writes 1. -/
theorem witness_BringUpRuns :
    UnitOk 0x10118 0xFF (waitsGo 4096) ∧ (1 : Word).getLsbD 0 = true ∧ (waitsGo 4096).boot.step = 4 ∧
      (waitsGo 4096).boot.len / 4096 = 1 ∧ UnitOk 0x10118 0xFF up ∧ up.boot.step ≠ 4 ∧ UnitOk 0x10118 0xFF (waitsGo 0) ∧
      (waitsGo 0).boot.len < 4096 ∧ (waitsGo 16777216).boot.len ≤ 16777216 ∧ (waitsGo 4096).Inv ∧
      ((waitsGo 4096).port 0).halted = false := by
  unfold UnitOk State.Inv; decide +kernel

/-- The block at a step of bring-up that meets a result. -/
def brings (b : BringUp) (lines : List (Nat × Option (List Byte))) : State :=
  { waitsGo 8192 with boot := { (waitsGo 8192).boot with run := some b, lines := lines } }

/-- That a bundle passes Table 17-3 is a premise, as above. -/
theorem witness_BringUpRuns_blocks :
    let s := brings bringOk []
    s.Inv ∧ s.boot.run = some bringOk ∧ (∀ n ∈ List.range 8, (s.port n).halted = false) ∧ s.fw.sram = [] ∧
      blockOk [] = false ∧ 0 + 1 < s.boot.len / 4096 ∧ bringOk.startupFails < 3 ∧
      3 ≤ ({ bringOk with startupFails := 3 } : BringUp).startupFails := by
  unfold State.Inv; decide +kernel

/-- A microsecond of steps 1, 2, 3, 6, 7 and 9, with each outcome. -/
theorem witness_BringUpRuns_steps :
    ∀ k ∈ [1, 2, 3, 6, 7, 9],
      let s := { brings bringOk [] with boot := { (brings bringOk []).boot with step := k } }
      MicroQuiet s ∧ s.boot.step = k ∧ s.Inv ∧ (∀ n ∈ List.range 8, (s.port n).halted = false) ∧
        s.pwr.romAfter = false ∧ s.pwr.keepImage = false ∧ s.boot.rom = ⟨true, true⟩ ∧
        ({ s.cel with rootPresent := true } : Cellar).rootPresent = true ∧ s.cel.asserting.getLsbD 8 = false := by
  unfold MicroQuiet DoorQuiet State.Inv; decide +kernel

theorem witness_BringUpRuns_outcomes :
    (⟨false, true⟩ : RomTest).cellarOk = false ∧ (⟨true, false⟩ : RomTest).romOk = false ∧ bringOk.startupFails < 3 ∧
      3 ≤ ({ bringOk with startupFails := 3 } : BringUp).startupFails ∧ bringOk.pantryOk = true ∧ bringOk.againFails < 3 ∧
      3 ≤ ({ bringOk with againFails := 3 } : BringUp).againFails := by
  decide

/-- Seven ports have read the record; the eighth reads the same, or something else. -/
theorem witness_BringUpRuns_lines :
    let l := (List.range 7).map (fun p => (p, some record))
    let s := brings bringOk l
    let u := { s with cel := { s.cel with rootPresent := true } }
    s.Inv ∧ s.boot.lines.length = 7 ∧ (s.port 0).halted = false ∧
      exchangeFault { s.boot with lines := s.boot.lines ++ [(7, some record)] } = none ∧
      exchangeFault { s.boot with lines := s.boot.lines ++ [(7, some [])] } = some 7 ∧
      writesLeft u 0 (fun v => v == .lineW) = 0 ∧ u.boot.run = some bringOk ∧ u.cel.rootPresent = true ∧ bringOk.pantryOk = true ∧
      ({ bringOk with pantryOk := false } : BringUp).pantryOk = false ∧ s.cel.rootPresent = false := by
  unfold State.Inv; decide +kernel

/-- A bundle of one block of zeros fails step 2 of Table 17-3. -/
theorem witness_BringUpRuns_fault : (bundleFault .w6400 (some 0) [List.replicate 4096 0]).isSome = true := by
  decide +kernel

theorem witness_RestartsAndSoftReset :
    let s := { State.reset with boot := { State.reset.boot with step := 7 } }
    up.boot.run = none ∧ UnitOk 0x10300 0xFF up ∧ resetTaken 0xA55A0002 up = true ∧ (0xA55A0002 : Word).getLsbD 1 = true ∧
      resetTaken 2 up = false ∧ resetTaken 0xA55A0003 up = false ∧ resetTaken 0xA55A0001 up = true ∧
      (0xA55A0001 : Word).getLsbD 0 = true ∧ up.fw.imageRuns = true ∧ up.fw.state ≠ .trial ∧ runOk.sramOk = true ∧
      up.pwr.softReset = none ∧ up.study.cmdRdy = true ∧ up.boot.step ≠ 0xFF ∧ Sound up ∧ s.pwr.softReset = none ∧
      s.pins.mainUp = true ∧ s.fw.imageRuns = false ∧ s.boot.step ≠ 0xFF ∧ up.fw.landing = none ∧
      s.fw.landing = none ∧ ∀ p ∈ up.insts, p.2.cq.serving = none := by
  unfold UnitOk Sound; decide +kernel

theorem witness_PowerStates :
    let d := { up with pwr := { up.pwr with state := .doze } }
    let e := { withRing id up with ops := [newOp 0 1 8 0 1 0] }
    UnitOk 0x10308 0xFF up ∧ bits (2 : Word) 2 0 = 2 ∧ up.fw.imageRuns = true ∧ up.boot.run = none ∧ up.pwr.entry = none ∧
      up.pwr.softReset = none ∧ up.pwr.state ≠ .doze ∧ targetRefused up = none ∧ targetRefused (inTxn up) = some 1 ∧
      UnitOk 0x10308 0xFF d ∧ d.dozing = true ∧ idleDue up = true ∧ e.ops ≠ [] ∧
      ({ e.pwr with entry := some PwrState.off, step := 1 } : Power).entry.isSome = true := by
  unfold UnitOk; decide +kernel

theorem witness_ResetsClear :
    let off := { up with pwr := { up.pwr with state := .off } }
    let held := { up with pins := { up.pins with blkRstN := false } }
    let kept := { up with
      pwr := { up.pwr with state := .retain }
      pins := { up.pins with mainGood := false } }
    up.pins.porN = true ∧ up.pins.blkRstN = true ∧ up.pins.mainReq = true ∧ up.pwr.state ≠ .retain ∧
      up.pwr.state ≠ .off ∧ off.pwr.state = .off ∧ held.pins.porN = true ∧ held.pins.blkRstN = false ∧
      retainEnds kept = true ∧ kept.pwr.alarmWake = false ∧ runOk.sramOk = true ∧
      runOk.selfCheck = true ∧ bringOk.startupFails < 3 ∧ 0 < up.cel.faultLimit ∧
      (∀ n ∈ List.range (2 * up.build.rooms), n ∈ bringOk.alcovesOk) ∧
      (∀ n ∈ List.range up.build.rooms, n ∈ bringOk.chachasOk) ∧
      (∀ n ∈ List.range up.build.engines, n ∈ bringOk.enginesOk) := by
  decide +kernel

/-! ### Witnesses: Stair links, the Porch, the whole block -/

/-- The upstream link in a state with a lane 0. -/
def lane0 (long : Bool) (st : LinkState) (a : Lane) : State :=
  { up with
    upEn := true
    upLong := long
    stair := { up.stair with trained := true, up := { up.stair.up with state := st, lane0 := a } } }

theorem witness_StairLinksTrain :
    let t := { Lane.cold with trying := true, attempts := 5, fomMin := 96 }
    let a := lane0 false .training Lane.cold
    let b := lane0 true .training t
    let c := lane0 false .up { Lane.cold with inService := true }
    a.pins.mainUp = true ∧ a.pins.iso = false ∧ a.stair.trained = true ∧ linkEnabled false a = true ∧
      laneUsed (linkLong false a) 0 = true ∧ laneUsed (linkLong false a) 1 = true ∧
      ((a.link false).lane 0).attempts < 5 ∧ ((b.link false).lane 0).trying = true ∧
      t.fomMin ≤ (96 : BitVec 8).toNat ∧ linkLong false b = true ∧ (b.link false).state = .training ∧
      ((c.link false).lane 0).inService = true ∧ ((c.link false).lane 1).inService = false ∧
      (((lane0 false .training { Lane.cold with failed := true }).link false).lane 0).failed = true := by
  decide +kernel

/-- A HELLO of versions 1.0 to 1.2 at a position. -/
def helloAt (pos : Nat) : HelloMsg := ⟨0x0100, 0x0102, pos, 0, 0, 0, [], true⟩

theorem witness_StairLinksTrain_hello :
    let s := lane0 false .negotiating { Lane.cold with inService := true }
    s.pins.mainUp = true ∧ (s.link false).state = .negotiating ∧ helloRefused false (helloAt 6) s = none ∧
      helloRefused false (helloAt 7) s = some 2 ∧ s.stair.tick ≤ (helloAt 6).tick := by
  decide +kernel

theorem witness_PorchAccess :
    (4096 ≤ up.build.insts) ∧ up.pins.mainUp = true ∧ up.pins.porN = true ∧ porchTarget 0x11000000 up = .nothing ∧
      (0xFE : BitVec 8) ≠ 0xFF ∧ ({ up with pins := { up.pins with mainUp := false } } : State).pins.mainUp = false := by
  decide +kernel

theorem witness_StepRunsFront :
    ({ up with pending := [.idle] } : State).pending = [.idle] ∧ up.pending = [] := by
  decide +kernel

theorem witness_EveryStepKeepsTheShape : up.Inv ∧ ∃ t, step up = .next t :=
  ⟨by unfold State.Inv; decide +kernel, _, rfl⟩

theorem witness_OnlyUnlockUnlocks :
    (locked up).cel.locked = true ∧ (∀ q, Instr.idle ≠ .unlock q) ∧ ∃ t, exec .idle (locked up) = .next t :=
  ⟨rfl, fun _ => Instr.noConfusion, _, rfl⟩

theorem witness_MessageCountersNeverFall :
    Instr.keymsgApply 0 ≠ .cellarPor ∧ (∀ q, Instr.idle ≠ .keymsgApply q) ∧ Instr.idle ≠ .hearthHandoff ∧
      (∀ u, Instr.idle ≠ .faultWindowStep u) ∧ ∃ t, exec (.keymsgApply 0) up = .next t :=
  ⟨Instr.noConfusion, fun _ => Instr.noConfusion, Instr.noConfusion, fun _ => Instr.noConfusion, _, rfl⟩

theorem witness_FollowUpsFrame : Calm up := by unfold Calm; decide +kernel

/-! ### Single steps and values against the spec's words -/

/-- The cold values of Table 21-3, and of Tables 21-5 and 21-6 for Wilto 6400. -/
theorem test_cold_unit_blocks :
    ∀ r ∈ ([(0x10120, 1), (0x10308, 0xA0100), (0x20008, 1), (0x20100, 0x400), (0x20108, 0x300040), (0x20208, 0x100020),
      (0x30000, 0x40000010000), (0x30100, 0), (0x40000, 0), (0x40200, 0x115A), (0x40208, 0x3E80010), (0x40210, 0),
      (0x40218, 0xFF000001), (0x50000, 8), (0x50010, 0xFFF8000000000000), (0x70000, 0x6400000064), (0x70008, 0x3E8),
      (0x80000, 0x6000), (0x80018, 0)] : List (Nat × Nat)),
      readRegister (0x10000000 + r.1) State.reset = (0, BitVec.ofNat 64 r.2) := by
  decide +kernel

/-- The cold values of Table 21-1 on a guest's page, and PCH_PAGE_ID of instance 12 and of the manager region. -/
theorem test_cold_page :
    (∀ r ∈ ([(0x1118, 0x10000), (0x1218, 0x8000000000000001), (0x1230, 0x20), (0x1408, 0xA0C00),
      (0x1880, 0x4000000000000000), (0x1008, 0x19000100000C)] : List (Nat × Nat)),
      readRegister (0xB0000 + r.1) { State.reset with insts := tset 12 { Inst.absent with state := .active } State.reset.insts } =
        (0, BitVec.ofNat 64 r.2)) ∧
      readRegister 0x10001008 State.reset = (0, 0x190001000000) := by
  decide +kernel

/-- The spec of CRC-32C: the check value of the nine ASCII digits. -/
theorem test_crc32c : crc32c (ascii "123456789") = 0xE3069283 := by decide +kernel

/-- DEV_QUERY's opcode, its status and SEQ in the reply, from Table 2-5. -/
theorem test_devQuery :
    (match exec (.devQuery 0) (got 0 (pkt 1 0 0 []) up) with
      | .next t => (t.inst 0).cq.serving.bind (fun v => v.reply.map (fun r => (r.status, pkSeq v.pkt)))
      | _ => none) = some (.ok, 7) := by
  decide +kernel

/-- A second TXN_BEGIN finds the first open (R56); the first takes number 1 (R55). -/
theorem test_txnBegin :
    (match exec (.txnBegin 0) (got 0 (pkt 0x30 8 0 []) up) with
      | .next t => (t.txn.opened, t.txn.num, t.txn.timeoutMs)
      | _ => (false, 0, 0)) = (true, 1, 2000) := by
  decide +kernel

/-- A doorbell moves TAIL; one for a ring of another instance sets FOREIGN (R135). -/
theorem test_doorbell :
    (match exec (.doorbell 1 0xFF (bell 9)) (withRing id up) with
      | .next t => (tget 8 t.rings).map (fun r => r.tail)
      | _ => none) = some 9 ∧
    (match exec (.doorbell 0 0xFF (bell 9)) (withRing id up) with
      | .next t => ((t.inst 0).db.foreign, (t.inst 0).db.lastRing)
      | _ => (false, 0)) = (true, 8) := by
  decide +kernel

/-- The lane's fifth failed attempt fails the lane (R540). -/
theorem test_laneAttemptFail :
    (match exec (.laneAttemptFail false 0 20) (lane0 true .training { Lane.cold with trying := true, attempts := 5 }) with
      | .next t => (t.stair.up.lane0.failed, t.stair.up.state)
      | _ => (false, .disabled)) = (true, .failed) := by
  decide +kernel

/-- A roof breach with the cold responses locks and zeroises (Table 16-6: PATTERN and IMPEDANCE respond with 2). -/
theorem test_alarmSourceAssert :
    (match exec (.alarmSourceAssert 0) up with
      | .next t => (t.cel.locked, t.cel.zeroised, t.cel.lockCause, t.cel.lockEvent, t.cel.flags)
      | _ => (false, false, 0, 0, 0)) = (true, true, 0, 1, 1) := by
  decide +kernel

/-- A write to HWY_CFG, and one that is not whole (R498). -/
theorem test_registerWrite :
    (match exec (.registerWrite 0x10070000 0xFF 0x6400000032) up with
      | .next t => (t.hwy.readTimeout, t.hwy.writeTimeout, t.porch)
      | _ => (0, 0, none)) = (50, 100, some (0, 0)) ∧
    (match exec (.registerWrite 0x10070000 0x0F 0x6400000032) up with
      | .next t => t.hwy.readTimeout
      | _ => 0) = 100 := by
  decide +kernel

/-- No row of the table gives bits: no word spells a command. -/
theorem test_decodeTableWord : decodeTableWord 32 0 = none := by decide

end Sys2Proof.Tests
end

section
/-!
PROOFS. Every command completes and keeps the shape of the block (R2, O55): the state of each row is put together from
operations that keep it (Laws/Shape*.lean).
-/

namespace Sys2Proof.Machine

/-- The outcome is a next state, of the shape that `s` has. -/
def Completes (s : State) (o : Host.Outcome State Fault Refusal) : Prop := ∃ t, o = .next t ∧ t.shape = s.shape

theorem completes_next {s t : State} (h : t.shape = s.shape) : Completes s (.next t) := ⟨t, rfl, h⟩

theorem ite_keeps {c : Prop} [Decidable c] {s a b : State} (ha : a.shape = s.shape) (hb : b.shape = s.shape) :
    (if c then a else b).shape = s.shape := by
  split
  · exact ha
  · exact hb

/-- A row that acts under a condition and leaves the state otherwise. -/
theorem when_keeps {c : Prop} [Decidable c] {s a : State} (h : a.shape = s.shape) :
    (if c then a else s).shape = s.shape :=
  ite_keeps h rfl

/-- A row that leaves the state under a condition and acts otherwise. -/
theorem unless_keeps {c : Prop} [Decidable c] {s a : State} (h : a.shape = s.shape) :
    (if c then s else a).shape = s.shape :=
  ite_keeps rfl h

theorem finish_keeps {s t : State} (h : t.shape = s.shape) : (finish t).shape = s.shape := (finish_shape t).trans h

theorem finish_redispatch_keeps {s t : State} (h : t.shape = s.shape) : (finish (redispatch t)).shape = s.shape :=
  finish_keeps ((redispatch_shape t).trans h)

/-- A row of the Pantry door keeps the shape if what it does while the door's clock runs does. -/
theorem completes_doorRow {f : State → State} {s : State} (h : (f s).shape = s.shape) : Completes s (doorRow f s) :=
  completes_next (when_keeps h)

/-! ### Packets -/

theorem execDevQuery_completes (q : Nat) (s : State) : Completes s (execDevQuery q s) :=
  completes_next (command_shape _ _ _ _ fun _ _ => reply_shape ..)

theorem execInstCreate_completes (q : Nat) (s : State) : Completes s (execInstCreate q s) :=
  completes_next (command_shape _ _ _ _ fun _ _ => stageOrRun_shape _ _ _ _ fun _ _ =>
    (reply_shape ..).trans (applyStaged_shape ..))

theorem execInstDestroy_completes (q : Nat) (s : State) : Completes s (execInstDestroy q s) :=
  completes_next (command_shape _ _ _ _ fun _ _ => stageOrRun_shape _ _ _ _ fun _ _ =>
    (startDestroy_shape ..).trans (wakeForCommand_shape _))

theorem execShareSet_completes (q : Nat) (s : State) : Completes s (execShareSet q s) :=
  completes_next (command_shape _ _ _ _ fun _ _ => stageOrRun_shape _ _ _ _ fun _ _ => waitFor_shape ..)

theorem execRingCreate_completes (q : Nat) (s : State) : Completes s (execRingCreate q s) :=
  completes_next (command_shape _ _ _ _ fun _ _ => stageOrRun_shape _ _ _ _ fun _ _ =>
    (reply_shape ..).trans (applyStaged_shape ..))

theorem execRingDestroy_completes (q : Nat) (s : State) : Completes s (execRingDestroy q s) :=
  completes_next (command_shape _ _ _ _ fun _ _ => stageOrRun_shape _ _ _ _ fun _ _ =>
    (waitFor_shape ..).trans (drainRing_shape ..))

theorem execTxnRollback_completes (q : Nat) (s : State) : Completes s (execTxnRollback q s) :=
  completes_next (command_shape _ _ _ _ fun _ _ => (reply_shape ..).trans (endTxn_shape ..))

theorem execKeymsgApply_completes (q : Nat) (s : State) : Completes s (execKeymsgApply q s) :=
  completes_next (ite_keeps (finish_keeps (envWork_shape q s))
    (command_shape _ _ _ _ fun _ _ => (applyEnvelope_shape ..).trans (wakeForCommand_shape _)))

theorem execHandover_completes (q : Nat) (x : LandingRun) (s : State) : Completes s (execHandover q x s) :=
  completes_next (ite_keeps (handOverOn_shape q x s) (command_shape _ _ _ _ fun _ _ => handOver_shape ..))

theorem execCancel_completes (q : Nat) (s : State) : Completes s (execCancel q s) := by
  refine completes_next (command_shape _ _ _ _ fun p s => ?_)
  split
  · exact reply_shape ..
  · exact (reply_shape ..).trans (disarm_shape s)

theorem execFwConfirm_completes (q : Nat) (s : State) : Completes s (execFwConfirm q s) :=
  completes_next (command_shape _ _ _ _ fun _ s =>
    ite_keeps ((reply_shape ..).trans (confirmHere_shape s)) (reply_shape ..))

theorem execCounterConfig_completes (q : Nat) (s : State) : Completes s (execCounterConfig q s) :=
  completes_next (command_shape _ _ _ _ fun _ _ => stageOrRun_shape _ _ _ _ fun _ _ => waitFor_shape ..)

/-! ### Queues and records -/

theorem execHarvestReadReturn_completes (ring : Nat) (s : State) : Completes s (execHarvestReadReturn ring s) := by
  refine completes_next ?_
  split
  · rfl
  · exact finish_keeps ((harvestReturn_shape ..).trans (takeArrived_shape ..))

theorem execEventRecordAck_completes (inst : Nat) (s : State) : Completes s (execEventRecordAck inst s) := by
  refine completes_next ?_
  split
  · rfl
  · exact finish_keeps ((evAck_shape ..).trans (takeArrived_shape ..))

theorem execBwWindowEnd_completes (s : State) : Completes s (execBwWindowEnd s) :=
  completes_next (by simp only [State.shape, List.length_map])

/-! ### Units -/

theorem execSelfTestEnd_completes (chacha : Bool) (unit : Nat) (pass : Bool) (s : State) :
    Completes s (execSelfTestEnd chacha unit pass s) :=
  completes_next (when_keeps (finish_keeps (ite_keeps (setService_shape ..)
    ((faultReport_shape _).trans (setService_shape ..)))))

theorem execDummyKeyReplace_completes (alcove : Nat) (s : State) : Completes s (execDummyKeyReplace alcove s) := by
  refine completes_next ?_
  split
  · exact when_keeps (replaceDummyKey_shape ..)
  · rfl

theorem execPkAbortBoundary_completes (engine : Nat) (s : State) : Completes s (execPkAbortBoundary engine s) := by
  refine completes_next ?_
  split
  · rfl
  · exact when_keeps (modEngine_shape ..)

theorem execEngineWipeDone_completes (engine : Nat) (s : State) : Completes s (execEngineWipeDone engine s) := by
  refine completes_next ?_
  split
  · rfl
  · exact when_keeps (finish_redispatch_keeps (wipeDone_shape ..))

theorem execHearthSelfTestEnd_completes (engine : Nat) (pass : Bool) (s : State) :
    Completes s (execHearthSelfTestEnd engine pass s) := by
  refine completes_next ?_
  split
  · rfl
  · exact when_keeps (finish_keeps (testDone_shape ..))

theorem execMicrocodeLoad_completes (engine : Nat) (s : State) : Completes s (execMicrocodeLoad engine s) := by
  refine completes_next ?_
  split
  · rfl
  · exact when_keeps (modEngine_shape ..)

theorem execHearthHandoff_completes (s : State) : Completes s (execHearthHandoff s) :=
  completes_next (when_keeps (finish_keeps (ite_keeps (envWork_shape 0 s) (visitLoop_shape _ s))))

theorem execScuBlockAbsorbed_completes (ctx : Nat) (s : State) : Completes s (execScuBlockAbsorbed ctx s) :=
  completes_next (when_keeps ((settleCores_shape _).trans ((modScu_shape ..).trans (settleCores_shape s))))

/-! ### The Pantry door -/

theorem execLarderFetchStart_completes (index : Nat) (s : State) : Completes s (execLarderFetchStart index s) :=
  completes_doorRow (finish_redispatch_keeps (startFetch_shape index s))

theorem execNodeReadReturn_completes (level node : Nat) (s : State) : Completes s (execNodeReadReturn level node s) :=
  completes_doorRow (finish_redispatch_keeps (nodeReturn_shape level node s))

theorem execBlobReadReturn_completes (index : Nat) (s : State) : Completes s (execBlobReadReturn index s) :=
  completes_doorRow (finish_redispatch_keeps (blobReturn_shape index s))

theorem execVictimWritebackAck_completes (index : Nat) (s : State) : Completes s (execVictimWritebackAck index s) :=
  completes_doorRow (finish_redispatch_keeps (victimAck_shape index s))

theorem execNodeWriteback_completes (level node : Nat) (s : State) : Completes s (execNodeWriteback level node s) :=
  completes_doorRow (finish_keeps (nodeOut_shape level node s))

theorem execReauthentication_completes (level node : Nat) (s : State) :
    Completes s (execReauthentication level node s) :=
  completes_doorRow (finish_redispatch_keeps (reauthenticate_shape level node s))

theorem execRetireRefsZero_completes (index : Nat) (s : State) : Completes s (execRetireRefsZero index s) := by
  refine completes_doorRow ?_
  split
  · exact when_keeps (finish_redispatch_keeps (zeroiseRetired_shape ..))
  · rfl

theorem execTombstoneWriteAck_completes (index : Nat) (s : State) : Completes s (execTombstoneWriteAck index s) := by
  refine completes_doorRow (unless_keeps ?_)
  have hack : (takeArrived (.tomb index) s).shape = s.shape := takeArrived_shape ..
  dsimp only
  split
  · exact ite_keeps
      (finish_redispatch_keeps ((wakeIndex_shape ..).trans
        ((endRetire_shape ..).trans ((freeIndex_shape ..).trans hack))))
      (finish_redispatch_keeps ((wakeIndex_shape ..).trans hack))
  · exact finish_redispatch_keeps ((wakeIndex_shape ..).trans hack)

theorem microsecondSteps_shape (s : State) :
    (doorTick (bootTick (landingTick (cellarMicro (microsecond s))))).shape = s.shape := by
  rw [doorTick_shape, bootTick_shape, landingTick_shape, cellarMicro_shape, microsecond_shape]

/-! ### Power, keys and firmware -/

theorem execRngStartupPass_completes (s : State) : Completes s (execRngStartupPass s) := by
  have hseed : (seedDrbgs { s with keys := { s.keys with rngOk := true } }).shape = s.shape := seedDrbgs_shape _
  exact completes_next (when_keeps (finish_keeps ((sendHellos_shape _).trans
    (ite_keeps ((newRoot_shape _).trans hseed) hseed))))

theorem execSoftReset_completes (strb : BitVec 8) (data : Word) (b : BringUp) (s : State) :
    Completes s (execSoftReset strb data b s) :=
  completes_next (unitWrite_shape _ _ _ _ fun _ => when_keeps (startSoftReset_shape ..))

theorem execStudyRestart_completes (strb : BitVec 8) (data : Word) (x : LandingRun) (s : State) :
    Completes s (execStudyRestart strb data x s) :=
  completes_next (unitWrite_shape _ _ _ _ fun _ => when_keeps (restartStudy_shape ..))

theorem execLockstepMismatch_completes (x : LandingRun) (s : State) : Completes s (execLockstepMismatch x s) :=
  completes_next (unless_keeps (ite_keeps
    (finish_keeps ((studyFails_shape ..).trans (mismatchCause_shape s)))
    ((dropImages_shape _).trans (bootStop_shape ..))))

theorem execPwrMainGoodFall_completes (s : State) : Completes s (execPwrMainGoodFall s) :=
  completes_next (ite_keeps (mainReset_shape _) rfl)

theorem execBlkRstNRelease_completes (r : RomTest) (s : State) : Completes s (execBlkRstNRelease r s) :=
  completes_next (when_keeps ((romStarts_shape _).trans (cellarCounts_shape _)))

/-- What por_n and a cold power-on clear in MAIN leaves the shape. -/
theorem clearMain_tickLost_shape (soft cold : Bool) (s : State) : (clearMain soft cold (tickLost s)).shape = s.shape :=
  (clearMain_shape ..).trans (tickLost_shape s)

theorem execPorNLow_completes (s : State) : Completes s (execPorNLow s) :=
  completes_next (clearMain_tickLost_shape false true s)

theorem execColdPowerOn_completes (r : RomTest) (s : State) : Completes s (execColdPowerOn r s) :=
  completes_next ((romStarts_shape _).trans ((checkFaultRate_shape _).trans ((draw_shape _).trans
    ((cellarCounts_shape _).trans (clearMain_tickLost_shape false true s)))))

theorem execCellarPor_completes (s : State) : Completes s (execCellarPor s) :=
  completes_next (draw_shape _)

theorem execFaultWindowStep_completes (upsets : List Upset) (s : State) : Completes s (execFaultWindowStep upsets s) :=
  completes_next (finish_keeps ((mainTick_shape _).trans ((wipesEnd_shape _).trans ((checkFaultRate_shape _).trans
    ((slideWindow_shape _).trans (strike_shape upsets s))))))

theorem execIdDataRead_completes (s : State) : Completes s (execIdDataRead s) :=
  completes_next (ite_keeps rfl rfl)

theorem execConfirm_completes (s : State) : Completes s (execConfirm s) :=
  completes_next (chainMessage_shape _ _ fun _ => unless_keeps
    (ite_keeps ((confirmImage_shape _).trans (modLink_shape ..)) (modLink_shape ..)))

theorem execArmedTick_completes (x : LandingRun) (s : State) : Completes s (execArmedTick x s) :=
  completes_next (when_keeps (finish_keeps ((activate_shape ..).trans (stir_shape s))))

theorem execTrialTimeout_completes (x : LandingRun) (s : State) : Completes s (execTrialTimeout x s) :=
  completes_next (when_keeps (finish_keeps ((fallBack_shape ..).trans (stir_shape s))))

theorem execHello_completes (down : Bool) (m : HelloMsg) (s : State) : Completes s (execHello down m s) :=
  completes_next (when_keeps (finish_keeps
    ((stairChange_shape _ _ fun _ => takeHello_shape ..).trans (stir_shape s))))

theorem execRoofCleanPass_completes (impedance : Bool) (s : State) : Completes s (execRoofCleanPass impedance s) :=
  completes_next (unless_keeps rfl)

/-! ### Every command -/

/-- Every command completes, row by row of the opcode table. -/
theorem exec_completes (c : Instr) (s : State) : Completes s (exec c s) := by
  match c with
  | .devQuery q => exact execDevQuery_completes q s
  | .devCapsNegotiate q => exact completes_next (command_shape _ _ _ _ (negotiate_shape q))
  | .instCreate q => exact execInstCreate_completes q s
  | .instDestroy q => exact execInstDestroy_completes q s
  | .instQuiesce q => exact completes_next (command_shape _ _ _ _ fun _ _ => quiesce_shape ..)
  | .instReset q => exact completes_next (command_shape _ _ _ _ fun _ _ => resetInst_shape ..)
  | .shareSet q => exact execShareSet_completes q s
  | .ringCreate q => exact execRingCreate_completes q s
  | .ringDestroy q => exact execRingDestroy_completes q s
  | .ringResume q => exact completes_next (command_shape _ _ _ _ fun _ _ => resumeRing_shape ..)
  | .ringReset q => exact completes_next (command_shape _ _ _ _ fun _ _ => resetRing_shape ..)
  | .txnBegin q => exact completes_next (command_shape _ _ _ _ (beginTxn_shape q))
  | .txnCommit q => exact completes_next (command_shape _ _ _ _ fun _ _ => commitTxn_shape ..)
  | .txnRollback q => exact execTxnRollback_completes q s
  | .keymsgApply q => exact execKeymsgApply_completes q s
  | .unlock q => exact completes_next (command_shape _ _ _ _ fun _ _ => unlockBlock_shape ..)
  | .stage q => exact completes_next (command_shape _ _ _ _ (stageBundle_shape q))
  | .stageForward q => exact completes_next (command_shape _ _ _ _ (stageBundle_shape q))
  | .keep q => exact completes_next (command_shape _ _ _ _ (stageBundle_shape q))
  | .handover q x => exact execHandover_completes q x s
  | .rebuildAt q => exact completes_next (command_shape _ _ _ _ (armRebuild_shape q false))
  | .rebuildChain q => exact completes_next (command_shape _ _ _ _ (armRebuild_shape q true))
  | .cancel q => exact execCancel_completes q s
  | .fwConfirm q => exact execFwConfirm_completes q s
  | .moverResume q => exact completes_next (command_shape _ _ _ _ (resumeMover_shape q))
  | .hearthAbort q => exact completes_next (command_shape _ _ _ _ (abortRing_shape q))
  | .diagInject q =>
    exact completes_next (command_shape _ _ _ _ fun _ _ => (inject_shape ..).trans (wakeForCommand_shape _))
  | .counterConfig q => exact execCounterConfig_completes q s
  | .larderAttach q =>
    exact completes_next (command_shape _ _ _ _ fun _ _ => (attachStore_shape ..).trans (wakeForCommand_shape _))
  | .larderReset q =>
    exact completes_next (command_shape _ _ _ _ fun _ _ => (resetStore_shape ..).trans (wakeForCommand_shape _))
  | .cmdUnknown q => exact completes_next (when_keeps (finish_keeps ((serveUnknown_shape ..).trans (stir_shape s))))
  | .cmdReplyAck q =>
    exact completes_next (when_keeps (finish_keeps ((replyDone_shape ..).trans (takeArrived_shape ..))))
  | .drainPending q => exact completes_next (finish_keeps (drainLate_shape q s))
  | .cmdQueueEnable page strb data =>
    exact completes_next (pageWrite_shape _ _ _ _ _ fun _ => when_keeps (cqBaseWrite_shape ..))
  | .cmdQueueDisable page strb data =>
    exact completes_next (pageWrite_shape _ _ _ _ _ fun _ => unless_keeps (cqBaseWrite_shape ..))
  | .cmdQueueTailWrite page strb data => exact completes_next (pageWrite_shape _ _ _ _ _ (cqTailWrite_shape page _))
  | .txnTimeout => exact completes_next (when_keeps (finish_keeps (endTxn_shape ..)))
  | .doorbell page strb data => exact completes_next (doorbellWrite_shape page strb data s)
  | .harvestReadReturn ring => exact execHarvestReadReturn_completes ring s
  | .eventQueueEnable page strb data =>
    exact completes_next (pageWrite_shape _ _ _ _ _ fun _ => when_keeps (eqBaseWrite_shape ..))
  | .eventQueueHeadWrite page strb data => exact completes_next (pageWrite_shape _ _ _ _ _ (eqHeadWrite_shape page _))
  | .prefetchCfgWrite strb data => exact completes_next (unitWrite_shape _ _ _ _ (prefetchCfg_shape data))
  | .keyinDataWrite strb data => exact completes_next (keyinWrite_shape ..)
  | .keyinClear strb data => exact completes_next (keyinWrite_shape ..)
  | .idDataRead => exact execIdDataRead_completes s
  | .start strb data => exact completes_next (scuWrite_shape ..)
  | .finish strb data => exact completes_next (scuWrite_shape ..)
  | .clear strb data => exact completes_next (scuWrite_shape ..)
  | .scuDataWrite strb data => exact completes_next (scuWrite_shape ..)
  | .scuBlockAbsorbed ctx => exact execScuBlockAbsorbed_completes ctx s
  | .go strb data b => exact completes_next (unitWrite_shape _ _ _ _ (bootCtrlWrite_shape data b))
  | .softReset strb data b => exact execSoftReset_completes strb data b s
  | .studyRestart strb data x => exact execStudyRestart_completes strb data x s
  | .studyWatchdog x => exact completes_next (when_keeps (finish_keeps (studyFails_shape x s)))
  | .lockstepMismatch x => exact execLockstepMismatch_completes x s
  | .doze strb data => exact completes_next (targetRow_shape 2 strb data s)
  | .retain strb data => exact completes_next (targetRow_shape 3 strb data s)
  | .off strb data => exact completes_next (targetRow_shape 4 strb data s)
  | .active strb data => exact completes_next (targetRow_shape 0 strb data s)
  | .powerRefuseTimeout => exact completes_next (when_keeps (finish_keeps (refusePower_shape 5 s)))
  | .idle => exact completes_next (when_keeps rfl)
  | .pause port strb data => exact completes_next (when_keeps (unitWrite_shape _ _ _ _ (portCtrlWrite_shape port data)))
  | .samplingEnable page strb data =>
    exact completes_next (pageWrite_shape _ _ _ _ _ fun _ => when_keeps (sampBaseWrite_shape ..))
  | .samplingDisable page strb data =>
    exact completes_next (pageWrite_shape _ _ _ _ _ fun _ => unless_keeps (sampBaseWrite_shape ..))
  | .samplingHeadWrite page strb data => exact completes_next (pageWrite_shape _ _ _ _ _ (sampHeadWrite_shape page _))
  | .bwWindowWrite strb data => exact completes_next (unitWrite_shape _ _ _ _ (bwCfgWrite_shape data))
  | .atticWrite strb data => exact completes_next (unitWrite_shape _ _ _ _ (atticWrite_shape data))
  | .registerWrite addr strb data => exact completes_next (registerWrite_shape addr strb data s)
  | .absent addr write data => exact completes_next (when_keeps rfl)
  | .roundBoundary => exact completes_next (when_keeps (finish_redispatch_keeps (boundary_shape s)))
  | .schedulerGrant => exact completes_next (finish_keeps (schedulerStep_shape s))
  | .descriptorReadReturn op => exact completes_next (finish_keeps (descriptorReturn_shape op s))
  | .descReread op => exact completes_next (finish_keeps (descReread_shape op s))
  | .listBlockReturn op ent dst => exact completes_next (finish_keeps (listReturn_shape op ent dst s))
  | .seal op => exact completes_next (dispatchRow_shape ..)
  | .openOp op => exact completes_next (dispatchRow_shape ..)
  | .gmacSign op => exact completes_next (dispatchRow_shape ..)
  | .gmacCheck op => exact completes_next (dispatchRow_shape ..)
  | .ctr op => exact completes_next (dispatchRow_shape ..)
  | .digest op => exact completes_next (dispatchRow_shape ..)
  | .ctxInstall op => exact completes_next (dispatchRow_shape ..)
  | .ctxRekey op => exact completes_next (dispatchRow_shape ..)
  | .ctxRetire op => exact completes_next (dispatchRow_shape ..)
  | .pk op => exact completes_next (dispatchRow_shape ..)
  | .nop op => exact completes_next (dispatchRow_shape ..)
  | .fence op => exact completes_next (dispatchRow_shape ..)
  | .retireRefsZero index => exact execRetireRefsZero_completes index s
  | .tombstoneWriteAck index => exact execTombstoneWriteAck_completes index s
  | .larderFetchStart index => exact execLarderFetchStart_completes index s
  | .evictionTokenRefill =>
    exact completes_next (ite_keeps (finish_redispatch_keeps (microsecondSteps_shape s)) (cellarMicro_shape s))
  | .nodeReadReturn level node => exact execNodeReadReturn_completes level node s
  | .blobReadReturn index => exact execBlobReadReturn_completes index s
  | .victimWritebackAck index => exact execVictimWritebackAck_completes index s
  | .nodeWriteback level node => exact execNodeWriteback_completes level node s
  | .reauthentication level node => exact execReauthentication_completes level node s
  | .partStart op alcove => exact completes_next (finish_keeps (startPart_shape op alcove s))
  | .partEnd op => exact completes_next (finish_redispatch_keeps (endPart_shape op s))
  | .mismatch m => exact completes_next (finish_redispatch_keeps (mismatch_shape m s))
  | .selfTestEnd chacha unit pass => exact execSelfTestEnd_completes chacha unit pass s
  | .dummyKeyReplace alcove => exact execDummyKeyReplace_completes alcove s
  | .digestPartStart op core parityOk =>
    exact completes_next (finish_keeps ((startDigest_shape ..).trans (settleCores_shape s)))
  | .digestPartEnd op => exact completes_next (finish_keeps ((settleCores_shape _).trans (endDigest_shape op s)))
  | .hallwayReadResponse port id parityOk status data =>
    exact completes_next (when_keeps ((afterPort_shape ..).trans (readResponse_shape ..)))
  | .hallwayWriteAck port id parityOk status =>
    exact completes_next (when_keeps ((afterPort_shape ..).trans (writeAck_shape ..)))
  | .readTimeout port id => exact completes_next (readLate_shape port id s)
  | .writeTimeout port id => exact completes_next (writeLate_shape port id s)
  | .completionAck op => exact completes_next (finish_redispatch_keeps (completionAck_shape op s))
  | .eventRecordAck inst => exact execEventRecordAck_completes inst s
  | .coalescingTimeout inst =>
    exact completes_next (when_keeps (finish_keeps ((irqCheck_shape ..).trans (modEq_shape ..))))
  | .counterWrap inst counter => exact completes_next (when_keeps (finish_keeps (takeWrap_shape inst counter s)))
  | .bwWindowEnd => exact execBwWindowEnd_completes s
  | .hearthHandoff => exact execHearthHandoff_completes s
  | .pkOperandsArrived engine => exact completes_next (onEngine_shape _ _ _ _ (takeBlock_shape engine))
  | .validationPhaseEnd engine => exact completes_next (onEngine_shape _ _ _ _ (validate_shape engine))
  | .pkNominalTimeEnd engine parityOk =>
    exact completes_next (onEngine_shape _ _ _ _ (nominalEnd_shape engine parityOk))
  | .pkAbortBoundary engine => exact execPkAbortBoundary_completes engine s
  | .engineWipeDone engine => exact execEngineWipeDone_completes engine s
  | .hearthSelfTestEnd engine pass => exact execHearthSelfTestEnd_completes engine pass s
  | .microcodeLoad engine => exact execMicrocodeLoad_completes engine s
  | .coldPowerOn r => exact execColdPowerOn_completes r s
  | .blockReset => exact completes_next (when_keeps (mainReset_shape s))
  | .pwrMainGoodFall => exact execPwrMainGoodFall_completes s
  | .retainExit x b => exact completes_next (when_keeps (finish_keeps (leaveRetain_shape x b s)))
  | .cellarPor => exact execCellarPor_completes s
  | .alarmSourceAssert source => exact completes_next (finish_keeps (sourceOn_shape source s))
  | .faultWindowStep upsets => exact execFaultWindowStep_completes upsets s
  | .neighbourAlarm down pos zeroise => exact completes_next (finish_keeps (neighbourAlarm_shape down pos zeroise s))
  | .rngHealthFail => exact completes_next (when_keeps (rngFails_shape s))
  | .rngStartupPass => exact execRngStartupPass_completes s
  | .drbgReseed unit => exact completes_next (when_keeps (reseedDrbg_shape unit [] s))
  | .tickCellarWrite => exact completes_next (when_keeps rfl)
  | .laneAttemptStart down lane => exact completes_next (laneRow_shape ..)
  | .adaptDone down lane => exact completes_next (laneRow_shape ..)
  | .laneAccept down lane fom => exact completes_next (laneRow_shape ..)
  | .laneAttemptFail down lane fom => exact completes_next (laneRow_shape ..)
  | .laneRetrySeries down lane => exact completes_next (laneRow_shape ..)
  | .laneOutOfService down lane => exact completes_next (laneRow_shape ..)
  | .hello down m => exact execHello_completes down m s
  | .helloTimeout down =>
    exact completes_next (when_keeps (finish_keeps (stairChange_shape _ _ fun _ => modLink_shape ..)))
  | .forwardedBlock b => exact completes_next (chainMessage_shape _ _ (forwardedBlock_shape b))
  | .stageAbort => exact completes_next (chainMessage_shape _ _ stageAbort_shape)
  | .chainReport r pos => exact completes_next (chainMessage_shape _ _ (chainReport_shape r pos))
  | .arm m => exact completes_next (chainMessage_shape _ _ (armMessage_shape m))
  | .confirm => exact execConfirm_completes s
  | .armedTick x => exact execArmedTick_completes x s
  | .trialTimeout x => exact execTrialTimeout_completes x s
  | .diagExpiry point => exact completes_next rfl
  | .porNLow => exact execPorNLow_completes s
  | .blkRstNRelease r => exact execBlkRstNRelease_completes r s
  | .alarmSourceQuiet source => exact completes_next (sourceOff_shape source s)
  | .roofCleanPass impedance => exact execRoofCleanPass_completes impedance s

/-- Settles O55: each row answers a next state put together from operations that keep the shape. -/
theorem everyCommandCompletes : Obligations.EveryCommandCompletes := fun c s => exec_completes c s

end Sys2Proof.Machine
end

section
/-!
PROOFS. Every step keeps the invariant and takes one waiting command (R2, R306, R454, O56).
-/

namespace Sys2Proof.Machine

/-- The invariant is about the shape alone. -/
theorem inv_iff_shape (s : State) :
    s.Inv ↔ s.shape.ports = 8 ∧ s.shape.alcoves = 2 * s.shape.build.rooms ∧
      s.shape.chachas = s.shape.build.rooms ∧ s.shape.engines = s.shape.build.engines := Iff.rfl

/-- A step changes nothing of the shape but the queue, from which it takes the front. -/
theorem step_shape {s t : State} (h : step s = .next t) : t.shape = { s.shape with pending := s.pending.drop 1 } := by
  unfold step at h
  split at h
  case h_1 hq =>
    cases h
    simp [State.shape, hq]
  case h_2 c rest hq =>
    obtain ⟨u, hu, hshape⟩ := exec_completes c (s.withPending rest)
    rw [hu] at h
    cases h
    rw [hshape, hq]
    rfl

/-- Settles O56: the invariant and the fixed fields are read off the shape, of which a step changes the queue alone. -/
theorem everyStepKeepsTheShape : Obligations.EveryStepKeepsTheShape := by
  intro s t hinv h
  have hshape := step_shape h
  refine ⟨?_, congrArg Shape.pending hshape, congrArg Shape.build hshape, congrArg Shape.romFloor hshape,
    congrArg Shape.upEn hshape, congrArg Shape.dnEn hshape, congrArg Shape.upLong hshape,
    congrArg Shape.dnLong hshape⟩
  rw [inv_iff_shape] at hinv ⊢
  rw [hshape]
  exact hinv

end Sys2Proof.Machine
end

section
/-!
PROOFS. The Porch (O53): what a read of CEL_ID_DATA answers while a register is kept (R685).
-/

namespace Sys2Proof.Machine

/-- A read of CEL_ID_DATA answers the word kept for it, and the word at CEL_ID_SEL only if none is kept. -/
theorem readRegister_idData {s : State} (h : s.pins.mainUp = true) :
    readRegister 0x10040010 s = (0, (s.study.held.lookup 0x40010).getD (idDataReg s)) := by
  have htarget : porchTarget 0x10040010 s = .unit 0x40010 := by simp [porchTarget]
  have hlive : liveReg 0x40010 s = some (idDataReg s) := rfl
  simp only [readRegister, h, htarget, unitReg, hlive]
  cases s.study.held.lookup 0x40010 <;> rfl

/-- With MAIN up, ID_DATA_READ gives that answer on the Porch. -/
theorem execIdDataRead_porch {s t : State} (hmain : s.pins.mainUp = true) (hpor : s.pins.porN = true)
    (h : exec .idDataRead s = .next t) : t.porch = some (0, (s.study.held.lookup 0x40010).getD (idDataReg s)) := by
  have hexec : exec .idDataRead s = .next { s with
      porch := some (readRegister 0x10040010 s),
      keys := { s.keys with idSel := if s.keys.idSel < 473 then s.keys.idSel + 1 else 0 } } := by
    simp [exec, execIdDataRead, hmain, hpor]
  rw [hexec] at h
  cases h
  rw [readRegister_idData hmain]

/-- The block after reset, with a word kept for CEL_ID_DATA among the registers that the Study updates. -/
def idDataKept : State := { State.reset with study := { State.reset.study with held := [(0x40010, 1)] } }

/-- Refutes O53: the statement is about every state. Where the list of kept registers (R685) names CEL_ID_DATA, the read
answers the kept word, here 1, although the identity is not ready and its word is 0. The model's `holdRegs` keeps the
registers of `studyRegs` alone, and CEL_ID_DATA is none of them. -/
theorem not_porchAccess : ¬ Obligations.PorchAccess := by
  intro h
  obtain ⟨-, hup, -⟩ := h
  obtain ⟨-, -, -, t, hexec, hporch, -⟩ := hup idDataKept 0 rfl rfl
  rw [execIdDataRead_porch rfl rfl hexec] at hporch
  have hword : idDataReg idDataKept = 0 := rfl
  rw [hword] at hporch
  exact absurd hporch (by decide)

end Sys2Proof.Machine
end

section
/-!
PROOFS. Transfers that have been asked for (R455, R456): a request that joins a port's queue is outstanding or waits there, for
the same owner and address, whatever the port does with it.
-/

namespace Sys2Proof.Machine

/-! ### Lists -/

/-- A map that a test does not notice commutes with the search for the test. -/
theorem find?_map_same {α : Type} {p : α → Bool} {g : α → α} (h : ∀ x, p (g x) = p x) (l : List α) :
    (l.map g).find? p = (l.find? p).map g := by
  have hp : p ∘ g = p := funext h
  rw [List.find?_map, hp]

/-- What every step of a fold keeps, the fold keeps. -/
theorem foldl_keeps {α β γ : Type} (v : β → γ) {f : β → α → β} (h : ∀ b a, v (f b a) = v b) (l : List α) (b : β) :
    v (l.foldl f b) = v b := by
  induction l generalizing b with
  | nil => rfl
  | cons a t ih => rw [List.foldl_cons, ih, h]

/-! ### The requests of a port -/

/-- One step of `pumpReads`. -/
def pumpRead (p : Port) (r : Rd) : Port :=
  match (if !p.paused && (!p.halted || r.owner.study) && p.rds.length < 512 then freeId (p.rds.map (·.id)) else none) with
  | some i => { p with rds := p.rds ++ [{ r with id := i }] }
  | none => { p with rdQ := p.rdQ ++ [r] }

theorem pumpReads_eq (p : Port) : pumpReads p = p.rdQ.foldl pumpRead { p with rdQ := [] } := rfl

/-- One step of `pumpWrites`. -/
def pumpWrite (p : Port) (w : Wr) : Port :=
  match (if (!p.holdsWrites || w.owner.study) && p.wrs.length < 512 then freeId (p.wrs.map (·.id)) else none) with
  | some i => { p with wrs := p.wrs ++ [{ w with id := i }], wBeats := p.wBeats + beats w.addr w.data.length }
  | none => { p with wrQ := p.wrQ ++ [w] }

theorem pumpWrites_eq (p : Port) : pumpWrites p = p.wrQ.foldl pumpWrite { p with wrQ := [] } := rfl

/-- A read is outstanding at a port or waits there, under some ID. -/
def Port.reads (p : Port) (r : Rd) : Prop := ∃ i, { r with id := i } ∈ p.rds ++ p.rdQ

/-- A write is outstanding at a port or waits there, under some ID. -/
def Port.writes (p : Port) (w : Wr) : Prop := ∃ i, { w with id := i } ∈ p.wrs ++ p.wrQ

theorem reads_of_queued {p : Port} {r : Rd} (h : r ∈ p.rdQ) : p.reads r := ⟨r.id, List.mem_append_right _ h⟩

theorem writes_of_queued {p : Port} {w : Wr} (h : w ∈ p.wrQ) : p.writes w := ⟨w.id, List.mem_append_right _ h⟩

theorem pumpRead_reads (p : Port) (r x : Rd) (h : p.reads x ∨ x = r) : (pumpRead p r).reads x := by
  unfold pumpRead Port.reads
  split
  · next i _ =>
    rcases h with ⟨j, h⟩ | rfl
    · exact ⟨j, by simp at h ⊢; tauto⟩
    · exact ⟨i, by simp⟩
  · rcases h with ⟨j, h⟩ | rfl
    · exact ⟨j, by simp at h ⊢; tauto⟩
    · exact ⟨x.id, by simp⟩

theorem pumpWrite_writes (p : Port) (w x : Wr) (h : p.writes x ∨ x = w) : (pumpWrite p w).writes x := by
  unfold pumpWrite Port.writes
  split
  · next i _ =>
    rcases h with ⟨j, h⟩ | rfl
    · exact ⟨j, by simp at h ⊢; tauto⟩
    · exact ⟨i, by simp⟩
  · rcases h with ⟨j, h⟩ | rfl
    · exact ⟨j, by simp at h ⊢; tauto⟩
    · exact ⟨x.id, by simp⟩

theorem foldl_pumpRead_reads (l : List Rd) (p : Port) (x : Rd) (h : p.reads x ∨ x ∈ l) : (l.foldl pumpRead p).reads x := by
  induction l generalizing p with
  | nil => simpa using h
  | cons r t ih =>
    rw [List.foldl_cons]
    apply ih
    rcases h with h | h
    · exact .inl (pumpRead_reads p r x (.inl h))
    · rcases List.mem_cons.1 h with h | h
      · exact .inl (pumpRead_reads p r x (.inr h))
      · exact .inr h

theorem foldl_pumpWrite_writes (l : List Wr) (p : Port) (x : Wr) (h : p.writes x ∨ x ∈ l) :
    (l.foldl pumpWrite p).writes x := by
  induction l generalizing p with
  | nil => simpa using h
  | cons w t ih =>
    rw [List.foldl_cons]
    apply ih
    rcases h with h | h
    · exact .inl (pumpWrite_writes p w x (.inl h))
    · rcases List.mem_cons.1 h with h | h
      · exact .inl (pumpWrite_writes p w x (.inr h))
      · exact .inr h

/-- Pumping loses no read. -/
theorem pumpReads_reads {p : Port} {x : Rd} (h : x ∈ p.rdQ) : (pumpReads p).reads x := by
  rw [pumpReads_eq]
  exact foldl_pumpRead_reads _ _ _ (.inr h)

/-- Pumping loses no write. -/
theorem pumpWrites_writes {p : Port} {x : Wr} (h : x ∈ p.wrQ) : (pumpWrites p).writes x := by
  rw [pumpWrites_eq]
  exact foldl_pumpWrite_writes _ _ _ (.inr h)

theorem pumpRead_writeSide (p : Port) (r : Rd) :
    (pumpRead p r).wrs = p.wrs ∧ (pumpRead p r).wrQ = p.wrQ ∧ (pumpRead p r).halted = p.halted := by
  unfold pumpRead; split <;> exact ⟨rfl, rfl, rfl⟩

theorem pumpWrite_readSide (p : Port) (w : Wr) :
    (pumpWrite p w).rds = p.rds ∧ (pumpWrite p w).rdQ = p.rdQ ∧ (pumpWrite p w).halted = p.halted := by
  unfold pumpWrite; split <;> exact ⟨rfl, rfl, rfl⟩

@[simp] theorem pumpReads_wrs (p : Port) : (pumpReads p).wrs = p.wrs :=
  foldl_keeps Port.wrs (fun p r => (pumpRead_writeSide p r).1) _ _
@[simp] theorem pumpReads_wrQ (p : Port) : (pumpReads p).wrQ = p.wrQ :=
  foldl_keeps Port.wrQ (fun p r => (pumpRead_writeSide p r).2.1) _ _
@[simp] theorem pumpReads_halted (p : Port) : (pumpReads p).halted = p.halted :=
  foldl_keeps Port.halted (fun p r => (pumpRead_writeSide p r).2.2) _ _
@[simp] theorem pumpWrites_rds (p : Port) : (pumpWrites p).rds = p.rds :=
  foldl_keeps Port.rds (fun p w => (pumpWrite_readSide p w).1) _ _
@[simp] theorem pumpWrites_rdQ (p : Port) : (pumpWrites p).rdQ = p.rdQ :=
  foldl_keeps Port.rdQ (fun p w => (pumpWrite_readSide p w).2.1) _ _
@[simp] theorem pumpWrites_halted (p : Port) : (pumpWrites p).halted = p.halted :=
  foldl_keeps Port.halted (fun p w => (pumpWrite_readSide p w).2.2) _ _

/-! ### Asking for a transfer -/

@[simp] theorem addCounter_hwy (i n amt : Nat) (s : State) : (addCounter i n amt s).hwy = s.hwy := by
  unfold addCounter
  dsimp only
  split
  · rfl
  · split
    · split <;> rfl
    · rfl

@[simp] theorem countWith_hwy (g : Word → Bool) (i ev amt : Nat) (t : EvTag) (s : State) :
    (countWith g i ev amt t s).hwy = s.hwy := by
  refine foldl_keeps State.hwy (fun s n => ?_) _ _
  split
  · rfl
  · split
    · exact addCounter_hwy ..
    · rfl

@[simp] theorem countIn_hwy (i ev amt : Nat) (t : EvTag) (s : State) : (countIn i ev amt t s).hwy = s.hwy :=
  countWith_hwy ..

/-- What a port becomes when it is pumped while MAIN is up. -/
theorem pump_port (n : Nat) (s : State) (hn : n < s.hwy.ports.length) :
    (pump n s).port n = if s.pins.mainUp then pumpWrites (pumpReads (s.port n)) else s.port n := by
  unfold pump
  split
  · have hlen : n < (modPort n pumpReads s).hwy.ports.length := by simpa [modPort, modAt_length] using hn
    have hw : (issueWrites n (modPort n pumpReads s)).port n = pumpWrites ((modPort n pumpReads s).port n) := by
      have hmod := port_modPort n n (fun _ => pumpWrites ((modPort n pumpReads s).port n)) _ hlen
      rw [if_pos rfl] at hmod
      unfold issueWrites
      dsimp only
      split
      · exact hmod
      · unfold State.port at hmod ⊢
        rw [countIn_hwy]
        exact hmod
    rw [hw, port_modPort n n _ s hn, if_pos rfl]
  · rfl

/-- A read that waits at a port is outstanding or waits there after the port is pumped. -/
theorem pump_reads {n : Nat} {s : State} {r : Rd} (hn : n < s.hwy.ports.length) (h : r ∈ (s.port n).rdQ) :
    ((pump n s).port n).reads r := by
  rw [pump_port n s hn]
  split
  · obtain ⟨i, hi⟩ := pumpReads_reads h
    exact ⟨i, by simpa using hi⟩
  · exact reads_of_queued h

/-- A write that waits at a port is outstanding or waits there after the port is pumped. -/
theorem pump_writes {n : Nat} {s : State} {w : Wr} (hn : n < s.hwy.ports.length) (h : w ∈ (s.port n).wrQ) :
    ((pump n s).port n).writes w := by
  rw [pump_port n s hn]
  split
  · exact pumpWrites_writes (by simpa using h)
  · exact writes_of_queued h

/-- The first piece of a transfer that has any byte begins at its address. -/
theorem mem_cutReq (addr f : Nat) {len : Nat} (h : 0 < len) :
    (0, min len (512 - addr % 512)) ∈ cutReq addr (f + 1) 0 len := by
  simp [cutReq, Nat.ne_of_gt h]

/-- A read that has been asked for is outstanding or waits. -/
theorem readReq_reads {n addr len tag off : Nat} {o : Owner} {s : State} (hn : n < s.hwy.ports.length) (hlen : 0 < len) :
    ∃ r : Rd, ((readReq n addr len tag o off s).port n).reads r ∧ r.owner = o ∧ r.addr = addr ∧ r.quar = false ∧
      r.drop = false := by
  refine ⟨⟨0, addr, min len (512 - addr % 512), tag, o, off, false, false, false⟩, ?_, rfl, rfl, rfl, rfl⟩
  refine pump_reads (by simpa [modPort, modAt_length] using hn) ?_
  rw [port_modPort _ _ _ _ hn, if_pos rfl]
  exact List.mem_append_right _ (List.mem_map.2 ⟨_, mem_cutReq addr _ hlen, rfl⟩)

/-- A write that has been asked for is outstanding or waits. -/
theorem writeReq_writes {n addr tag : Nat} {data : List Byte} {o : Owner} {s : State} (hn : n < s.hwy.ports.length)
    (hdata : data ≠ []) :
    ∃ w : Wr, ((writeReq n addr data tag o s).port n).writes w ∧ w.owner = o ∧ w.addr = addr ∧ w.quar = false := by
  have hlen : 0 < data.length := List.length_pos_of_ne_nil hdata
  refine ⟨⟨0, addr, slice 0 (min data.length (512 - addr % 512)) data, tag, o, false⟩, ?_, rfl, rfl, rfl⟩
  refine pump_writes (by simpa [modPort, modAt_length] using hn) ?_
  rw [port_modPort _ _ _ _ hn, if_pos rfl]
  exact List.mem_append_right _ (List.mem_map.2 ⟨_, mem_cutReq addr _ hlen, rfl⟩)

theorem readDue_readReq {n addr len tag off : Nat} {o : Owner} {s : State} (hn : n < s.hwy.ports.length)
    (hlen : 0 < len) : ReadDue n addr o (readReq n addr len tag o off s) := by
  obtain ⟨r, ⟨i, hr⟩, howner, haddr, hquar, hdrop⟩ := readReq_reads (tag := tag) (off := off) hn hlen
  exact ⟨_, hr, howner, haddr, hquar, hdrop⟩

theorem writeDue_writeReq {n addr tag : Nat} {data : List Byte} {o : Owner} {s : State} (hn : n < s.hwy.ports.length)
    (hdata : data ≠ []) : WriteDue n addr o (writeReq n addr data tag o s) := by
  obtain ⟨w, ⟨i, hw⟩, howner, haddr, -⟩ := writeReq_writes (addr := addr) (tag := tag) (o := o) hn hdata
  exact ⟨_, hw, howner, haddr⟩

/-- A read that is due is among the reads left of its owner. -/
theorem readsLeft_pos_of_readDue {n addr : Nat} {o : Owner} {t : State} (h : ReadDue n addr o t) :
    0 < readsLeft t n (fun w => w == o) := by
  obtain ⟨r, hr, howner, -, hquar, hdrop⟩ := h
  unfold readsLeft
  rcases List.mem_append.1 hr with hr | hr
  · exact Nat.add_pos_left (List.length_pos_of_mem (List.mem_filter.2 ⟨hr, by simp [howner, hquar, hdrop]⟩)) _
  · exact Nat.add_pos_right _ (List.length_pos_of_mem (List.mem_filter.2 ⟨hr, by simp [howner]⟩))

end Sys2Proof.Machine
end

section
/-!
PROOFS. What counting, asking for transfers, replies and event records leave alone: everything but instances, wraps of counters
and the Hallway (`State.aside`); and that none of them halts a port.
-/

namespace Sys2Proof.Machine

/-- All of a state but its instances, the wraps of counters and the Hallway. -/
def State.aside (s : State) : State := { s with insts := [], wraps := [], hwy := State.reset.hwy }

/-- Which ports are halted. -/
def State.halts (s : State) : List Bool := s.hwy.ports.map (·.halted)

theorem port_halted (n : Nat) (s : State) : (s.port n).halted = s.halts.getD n false := by
  unfold State.port State.halts
  rw [List.getD_eq_getElem?_getD, List.getD_eq_getElem?_getD, List.getElem?_map]
  cases s.hwy.ports[n]? <;> rfl

theorem halted_of_halts {s t : State} (n : Nat) (h : t.halts = s.halts) : (t.port n).halted = (s.port n).halted := by
  rw [port_halted, port_halted, h]

theorem halts_of_hwy {s t : State} (h : t.hwy = s.hwy) : t.halts = s.halts := by rw [State.halts, h, State.halts]

section
variable {s t : State} (h : t.aside = s.aside)
include h

theorem ops_of_aside : t.ops = s.ops := (congrArg State.ops h :)
theorem rings_of_aside : t.rings = s.rings := (congrArg State.rings h :)
theorem specs_of_aside : t.specs = s.specs := (congrArg State.specs h :)
theorem pan_of_aside : t.pan = s.pan := (congrArg State.pan h :)
theorem lar_of_aside : t.lar = s.lar := (congrArg State.lar h :)
theorem cel_of_aside : t.cel = s.cel := (congrArg State.cel h :)
theorem fw_of_aside : t.fw = s.fw := (congrArg State.fw h :)
theorem pwr_of_aside : t.pwr = s.pwr := (congrArg State.pwr h :)
theorem boot_of_aside : t.boot = s.boot := (congrArg State.boot h :)
theorem diag_of_aside : t.diag = s.diag := (congrArg State.diag h :)
theorem txn_of_aside : t.txn = s.txn := (congrArg State.txn h :)
theorem study_of_aside : t.study = s.study := (congrArg State.study h :)
theorem nextOp_of_aside : t.nextOp = s.nextOp := (congrArg State.nextOp h :)

theorem op?_of_aside (id : Nat) : t.op? id = s.op? id := by rw [State.op?, ops_of_aside h, State.op?]

end

/-! ### Instances and counters -/

@[simp] theorem modInst_aside (i : Nat) (f : Inst → Inst) (s : State) : (modInst i f s).aside = s.aside := rfl
@[simp] theorem modCq_aside (q : Nat) (f : CmdQ → CmdQ) (s : State) : (modCq q f s).aside = s.aside := rfl
@[simp] theorem modEq_aside (i : Nat) (f : EventQ → EventQ) (s : State) : (modEq i f s).aside = s.aside := rfl
@[simp] theorem modPort_aside (n : Nat) (f : Port → Port) (s : State) : (modPort n f s).aside = s.aside := rfl
@[simp] theorem skipSample_aside (i : Nat) (s : State) : (skipSample i s).aside = s.aside := rfl
@[simp] theorem subCounter_aside (i n amt : Nat) (s : State) : (subCounter i n amt s).aside = s.aside := rfl

@[simp] theorem addCounter_aside (i n amt : Nat) (s : State) : (addCounter i n amt s).aside = s.aside := by
  unfold addCounter
  dsimp only
  split
  · rfl
  · split
    · split <;> rfl
    · rfl

@[simp] theorem countWith_aside (g : Word → Bool) (i ev amt : Nat) (t : EvTag) (s : State) :
    (countWith g i ev amt t s).aside = s.aside := by
  refine foldl_keeps State.aside (fun s n => ?_) _ _
  split
  · rfl
  · split
    · exact addCounter_aside ..
    · rfl

@[simp] theorem countIn_aside (i ev amt : Nat) (t : EvTag) (s : State) : (countIn i ev amt t s).aside = s.aside :=
  countWith_aside ..

@[simp] theorem count_aside (ev amt : Nat) (t : EvTag) (s : State) : (count ev amt t s).aside = s.aside := by
  unfold count
  rw [countIn_aside]
  split
  · rfl
  · exact countIn_aside ..

@[simp] theorem fixedCount_aside (i n amt : Nat) (s : State) : (fixedCount i n amt s).aside = s.aside := by
  unfold fixedCount
  split
  · rfl
  · exact addCounter_aside ..

@[simp] theorem countOp_aside (ev amt : Nat) (o : Op) (s : State) : (countOp ev amt o s).aside = s.aside := by
  unfold countOp
  split
  · exact countIn_aside ..
  · exact count_aside ..

@[simp] theorem fixedOp_aside (n amt : Nat) (o : Op) (s : State) : (fixedOp n amt o s).aside = s.aside := by
  unfold fixedOp
  split
  · rfl
  · exact fixedCount_aside ..

@[simp] theorem countCompletion_aside (o : Op) (s : State) : (countCompletion o s).aside = s.aside := by
  unfold countCompletion
  dsimp only
  split <;> split <;> simp

@[simp] theorem chargeInst_aside (i units : Nat) (s : State) : (chargeInst i units s).aside = s.aside := by
  simp [chargeInst]

@[simp] theorem refundInst_aside (i units : Nat) (s : State) : (refundInst i units s).aside = s.aside := by
  unfold refundInst
  dsimp only
  split <;> rfl

/-! ### The Hallway -/

@[simp] theorem issueWrites_aside (n : Nat) (s : State) : (issueWrites n s).aside = s.aside := by
  unfold issueWrites
  dsimp only
  split
  · rfl
  · rw [countIn_aside, modPort_aside]

@[simp] theorem pump_aside (n : Nat) (s : State) : (pump n s).aside = s.aside := by
  unfold pump
  split
  · rw [issueWrites_aside, modPort_aside]
  · rfl

@[simp] theorem readReq_aside (n addr len tag : Nat) (o : Owner) (off : Nat) (s : State) :
    (readReq n addr len tag o off s).aside = s.aside := by
  unfold readReq
  rw [pump_aside, modPort_aside]

@[simp] theorem writeReq_aside (n addr : Nat) (data : List Byte) (tag : Nat) (o : Owner) (s : State) :
    (writeReq n addr data tag o s).aside = s.aside := by
  unfold writeReq
  rw [pump_aside, modPort_aside]

@[simp] theorem dropReads_aside (f : Owner → Bool) (s : State) : (dropReads f s).aside = s.aside := rfl
@[simp] theorem orphanReads_aside (f : Owner → Bool) (s : State) : (orphanReads f s).aside = s.aside := rfl
@[simp] theorem dropWrites_aside (f : Owner → Bool) (s : State) : (dropWrites f s).aside = s.aside := rfl
@[simp] theorem disownWrites_aside (f : Owner → Bool) (s : State) : (disownWrites f s).aside = s.aside := rfl
@[simp] theorem dropImages_aside (s : State) : (dropImages s).aside = s.aside := rfl
@[simp] theorem dropPacketRead_aside (q : Nat) (s : State) : (dropPacketRead q s).aside = s.aside := rfl
@[simp] theorem arrive_aside (o : Owner) (d : List Byte) (s : State) : (arrive o d s).aside = s.aside := rfl
@[simp] theorem takeArrived_aside (o : Owner) (s : State) : (takeArrived o s).aside = s.aside := rfl

/-! ### Packets and event records -/

@[simp] theorem takeArrivedPacket_aside (q : Nat) (p : List Byte) (s : State) : (takeArrivedPacket q p s).aside = s.aside :=
  rfl

@[simp] theorem waitFor_aside (q : Nat) (w : Wait) (s : State) : (waitFor q w s).aside = s.aside := rfl

@[simp] theorem reply_aside (q : Nat) (st : Status) (d : Nat) (b : List Byte) (s : State) :
    (reply q st d b s).aside = s.aside := by
  unfold reply
  split
  · rfl
  · dsimp only
    rw [writeReq_aside, writeReq_aside, modCq_aside]

@[simp] theorem irqCheck_aside (i : Nat) (s : State) : (irqCheck i s).aside = s.aside := by
  unfold irqCheck
  dsimp only
  split
  · rw [writeReq_aside, modEq_aside]
  · rfl

/-- A record that is not about a ring. -/
theorem evWrite_aside (i status ring index aux : Nat) {typ : Nat} (h : 3 < typ) (s : State) :
    (evWrite i typ status ring index aux s).aside = s.aside := by
  have hpend : ∀ u : State, (setPend i typ ring u).aside = u.aside := fun u => by
    rw [setPend, if_neg (by omega), modEq_aside]
  unfold evWrite
  dsimp only
  split
  · exact hpend s
  · split
    · rw [irqCheck_aside, hpend, modEq_aside]
    · rw [writeReq_aside, modEq_aside]

/-! ### Ports that are halted -/

theorem modPort_halts {n : Nat} {f : Port → Port} (hf : ∀ p, (f p).halted = p.halted) (s : State) :
    (modPort n f s).halts = s.halts := by
  unfold State.halts modPort
  refine List.ext_getElem? fun m => ?_
  rw [List.getElem?_map, List.getElem?_map, modAt_getElem?]
  split
  · cases s.hwy.ports[m]? with
    | none => rfl
    | some p => exact congrArg some (hf p)
  · rfl

@[simp] theorem modInst_halts (i : Nat) (f : Inst → Inst) (s : State) : (modInst i f s).halts = s.halts := rfl
@[simp] theorem modCq_halts (q : Nat) (f : CmdQ → CmdQ) (s : State) : (modCq q f s).halts = s.halts := rfl
@[simp] theorem modEq_halts (i : Nat) (f : EventQ → EventQ) (s : State) : (modEq i f s).halts = s.halts := rfl

@[simp] theorem countIn_halts (i ev amt : Nat) (t : EvTag) (s : State) : (countIn i ev amt t s).halts = s.halts :=
  halts_of_hwy (countIn_hwy ..)

@[simp] theorem issueWrites_halts (n : Nat) (s : State) : (issueWrites n s).halts = s.halts := by
  have hpump : (modPort n (fun _ => pumpWrites (s.port n)) s).halts = s.halts := by
    unfold State.halts modPort
    refine List.ext_getElem? fun m => ?_
    rw [List.getElem?_map, List.getElem?_map, modAt_getElem?]
    split
    · next e =>
      subst e
      cases h : s.hwy.ports[m]? with
      | none => rfl
      | some p => simp [State.port, List.getD_eq_getElem?_getD, h]
    · rfl
  unfold issueWrites
  dsimp only
  split
  · exact hpump
  · rw [countIn_halts]; exact hpump

@[simp] theorem pump_halts (n : Nat) (s : State) : (pump n s).halts = s.halts := by
  unfold pump
  split
  · rw [issueWrites_halts, modPort_halts pumpReads_halted]
  · rfl

@[simp] theorem readReq_halts (n addr len tag : Nat) (o : Owner) (off : Nat) (s : State) :
    (readReq n addr len tag o off s).halts = s.halts := by
  unfold readReq
  rw [pump_halts]
  exact modPort_halts (by exact fun _ => rfl) s

@[simp] theorem writeReq_halts (n addr : Nat) (data : List Byte) (tag : Nat) (o : Owner) (s : State) :
    (writeReq n addr data tag o s).halts = s.halts := by
  unfold writeReq
  rw [pump_halts]
  exact modPort_halts (by exact fun _ => rfl) s

@[simp] theorem dropReads_halts (f : Owner → Bool) (s : State) : (dropReads f s).halts = s.halts := by
  simp [State.halts, dropReads, Function.comp_def]

@[simp] theorem disownWrites_halts (f : Owner → Bool) (s : State) : (disownWrites f s).halts = s.halts := by
  simp [State.halts, disownWrites, Function.comp_def]

@[simp] theorem dropImages_halts (s : State) : (dropImages s).halts = s.halts := by simp [dropImages]

@[simp] theorem dropPacketRead_halts (q : Nat) (s : State) : (dropPacketRead q s).halts = s.halts := by
  simp [dropPacketRead]

@[simp] theorem irqCheck_halts (i : Nat) (s : State) : (irqCheck i s).halts = s.halts := by
  unfold irqCheck
  dsimp only
  split
  · rw [writeReq_halts, modEq_halts]
  · rfl

@[simp] theorem setPend_halts (i typ ring : Nat) (s : State) : (setPend i typ ring s).halts = s.halts := by
  unfold setPend
  split
  · exact halts_of_hwy (modRing_hwy ..)
  · rfl

@[simp] theorem evWrite_halts (i typ status ring index aux : Nat) (s : State) :
    (evWrite i typ status ring index aux s).halts = s.halts := by
  unfold evWrite
  dsimp only
  split
  · exact setPend_halts ..
  · split
    · rw [irqCheck_halts, setPend_halts, modEq_halts]
    · rw [writeReq_halts, modEq_halts]

end Sys2Proof.Machine
end

section
/-!
PROOFS. The scheduler's step (O28): what a visit does, the ring that the round robin picks, the entry that it grants, the later part
that it charges.
-/

namespace Sys2Proof.Machine

/-! ### Tables and operations -/

theorem tget_isSome_of_mem {α : Type} {k : Nat} {v : α} {l : List (Nat × α)} (h : (k, v) ∈ l) : (tget k l).isSome = true := by
  induction l with
  | nil => cases h
  | cons p t ih =>
    obtain ⟨j, w⟩ := p
    unfold tget
    split
    · rfl
    · next hj =>
      rcases List.mem_cons.1 h with h | h
      · cases h; simp at hj
      · exact ih h

/-- An operation looked up after a change of one operation that keeps numbers. -/
theorem op?_modOp {id : Nat} {f : Op → Op} (hf : ∀ o, (f o).id = o.id) (j : Nat) (s : State) :
    (modOp id f s).op? j = if j = id then (s.op? j).map f else s.op? j := by
  have hmap : (modOp id f s).op? j = (s.op? j).map (fun o => if o.id == id then f o else o) := by
    refine find?_map_same (fun o => ?_) s.ops
    split
    · rw [hf]
    · rfl
  rw [hmap]
  cases h : s.op? j with
  | none => simp
  | some o =>
    have ho : o.id = j := by simpa using List.find?_some h
    simp only [Option.map_some, ho, beq_iff_eq]
    split <;> rfl

/-- The numbers of the operations after a change of one that keeps numbers. -/
theorem modOp_ids {id : Nat} {f : Op → Op} (hf : ∀ o, (f o).id = o.id) (s : State) :
    (modOp id f s).ops.map (·.id) = s.ops.map (·.id) := by
  simp only [modOp, List.map_map]
  refine List.map_congr_left fun o _ => ?_
  dsimp only [Function.comp]
  split
  · exact hf o
  · rfl

/-- An operation with a new number that joins the table is found there. -/
theorem find?_append_new {l : List Op} {x : Op} (h : ∀ o ∈ l, o.id < x.id) :
    (l ++ [x]).find? (fun o => o.id == x.id) = some x := by
  rw [List.find?_append, List.find?_eq_none.2 fun o ho => by simpa using Nat.ne_of_lt (h o ho)]
  simp

/-- Joining the part queue changes the Scullery alone. -/
theorem joinPartQ_tables (id : Nat) (s : State) :
    (joinPartQ id s).rings = s.rings ∧ (joinPartQ id s).ops = s.ops ∧ (joinPartQ id s).nextOp = s.nextOp := by
  unfold joinPartQ
  split
  · exact ⟨rfl, rfl, rfl⟩
  · dsimp only
    split <;> exact ⟨rfl, rfl, rfl⟩

/-! ### A visit -/

/-- What a visit does in one step: a later part is charged, or an entry is granted. -/
def visitWork (i : Nat) (s : State) : State :=
  if (s.inst i).deficit ≤ 0 then s
  else if laterWaits s i then chargeLater i s
  else if hasGrant s i then grantEntry i s else s

/-- The end of the visit, when nothing more may be done in it. -/
def visitRest (i : Nat) (s : State) : State :=
  if (s.inst i).deficit ≤ 0 || !(hasGrant s i || laterWaits s i) then endVisit i s else s

theorem schedulerStep_visiting {s : State} {i : Nat} (hmain : s.pins.mainUp = true) (hvisit : s.sched.visit = some i) :
    schedulerStep s = visitRest i (visitWork i s) := by
  unfold schedulerStep
  rw [if_neg (by simp [hmain]), hvisit]
  dsimp only
  rw [hvisit]
  rfl

/-- The state in which a visit begins. -/
def beginVisit (i : Nat) (s : State) : State :=
  modInst i (fun x => { x with deficit := x.deficit + (x.quantum : Int) }) { s with sched := { s.sched with visit := some i } }

/-- A step of the scheduler: nothing, or a step of the visit that is under way or begins. -/
theorem schedulerStep_cases (s : State) :
    schedulerStep s = s ∨ ∃ i, schedulerStep s = visitRest i (visitWork i s) ∨
      schedulerStep s = visitRest i (visitWork i (beginVisit i s)) := by
  cases hmain : s.pins.mainUp with
  | false => exact .inl (by simp [schedulerStep, hmain])
  | true =>
    cases hvisit : s.sched.visit with
    | some i => exact .inr ⟨i, .inl (schedulerStep_visiting hmain hvisit)⟩
    | none =>
      cases hnext : nextVisit s with
      | none => exact .inl (by simp [schedulerStep, hmain, hvisit, hnext])
      | some i =>
        refine .inr ⟨i, .inr ?_⟩
        unfold schedulerStep
        rw [if_neg (by simp [hmain]), hvisit]
        dsimp only
        rw [hnext]
        rfl

/-- The end of a visit leaves rings and operations alone. -/
theorem visitRest_tables (i : Nat) (s : State) :
    (visitRest i s).rings = s.rings ∧ (visitRest i s).ops = s.ops ∧ (visitRest i s).nextOp = s.nextOp := by
  unfold visitRest
  split
  · unfold endVisit
    dsimp only
    have hcount : (if (heldBack s i && 0 < (s.inst i).deficit) = true then
        count 9 1 ⟨i, (pickRing s i).map (·.1), none, none, none⟩ s else s).aside = s.aside := by
      split
      · exact count_aside ..
      · rfl
    split
    · exact ⟨rings_of_aside hcount, ops_of_aside hcount, nextOp_of_aside hcount⟩
    · exact ⟨rings_of_aside hcount, ops_of_aside hcount, nextOp_of_aside hcount⟩
  · exact ⟨rfl, rfl, rfl⟩

/-! ### A grant -/

/-- With a grantable ring the round robin picks one. -/
theorem pickRing_of_grantable {s : State} {i : Nat} (h : grantRings s i ≠ []) :
    ∃ n r same fresh, pickRing s i = some (n, same, fresh) ∧ (n, r) ∈ grantRings s i := by
  unfold pickRing
  dsimp only
  set budget := fun p : Nat × Ring => decide ((tget p.1 (s.inst i).cycle).getD 0 < p.2.weight * p.2.burst)
  set c := if (!(grantRings s i).any budget) = true then grantRings s i else (grantRings s i).filter budget with hc
  have hsub : ∀ p ∈ c, p ∈ grantRings s i := by
    intro p hp
    rw [hc] at hp
    split at hp
    · exact hp
    · exact List.mem_of_mem_filter hp
  have hne : c ≠ [] := by
    rw [hc]
    split
    · exact h
    · next hany =>
      have hany : (grantRings s i).any budget = true := by simpa only [Bool.not_eq_true', Bool.not_eq_false] using hany
      obtain ⟨p, hp, hb⟩ := List.any_eq_true.1 hany
      exact List.ne_nil_of_mem (List.mem_filter.2 ⟨hp, hb⟩)
  split
  · next p hp => exact ⟨p.1, p.2, _, _, rfl, hsub p (List.mem_of_find?_eq_some hp)⟩
  · split
    · next p hp => exact ⟨p.1, p.2, _, _, rfl, hsub p (List.mem_of_find?_eq_some hp)⟩
    · obtain ⟨p, t, ht⟩ := List.exists_cons_of_ne_nil hne
      exact ⟨p.1, p.2, _, _, by rw [ht]; rfl, hsub p (by rw [ht]; exact List.mem_cons_self)⟩

/-- A fetch puts its operation into the first read of the entry; its ring is as before. -/
theorem fetchEntry_tables {id n : Nat} {i : Idx} {s : State} {r : Ring} {o : Op} (hr : tget n s.rings = some r)
    (ho : s.op? id = some o) : (fetchEntry id n i s).rings = s.rings ∧ (fetchEntry id n i s).nextOp = s.nextOp ∧
      (fetchEntry id n i s).ops = (modOp id (fun x => { x with phase := .fetch 1 }) s).ops := by
  set u := modOp id (fun x => { x with phase := .fetch 1 })
    { s with specs := s.specs.filter (fun x => !(x.ring == n && x.idx == i)) } with hu
  have h : (fetchEntry id n i s).aside = u.aside := by
    unfold fetchEntry
    rw [hr, ho]
    dsimp only
    split
    · split
      · exact arrive_aside ..
      · rw [count_aside, readReq_aside]
    · rw [count_aside, readReq_aside]
  exact ⟨(rings_of_aside h :), (nextOp_of_aside h :), (ops_of_aside h :)⟩

@[simp] theorem prefetch_aside (n : Nat) (s : State) : (prefetch n s).aside = s.aside := by
  unfold prefetch
  split
  · rfl
  · split
    · rfl
    · refine foldl_keeps State.aside (fun s k => ?_) _ _
      dsimp only
      split
      · rfl
      · rw [count_aside, readReq_aside]

/-- A grant of the picked ring: CONSUMED advances, and the new operation fetches the entry (R14, R228). -/
theorem grantEntry_takes {s : State} {i n : Nat} {same fresh : Bool} {r : Ring}
    (hpick : pickRing s i = some (n, same, fresh)) (hr : tget n s.rings = some r) (hnew : ∀ o ∈ s.ops, o.id < s.nextOp) :
    (grantEntry i s).nextOp = s.nextOp + 1 ∧
      (∀ k, tget k (grantEntry i s).rings =
        if k = n then some { r with consumed := r.consumed + 1, advanced := r.advanced + 1 } else tget k s.rings) ∧
      ∃ g, (grantEntry i s).op? s.nextOp = some (newOp s.nextOp i n g r.estimate r.consumed) := by
  unfold grantEntry
  rw [hpick]
  dsimp only
  rw [hr]
  dsimp only
  set u := chargeInst i r.estimate _ with hu
  have hside : u.aside = s.aside := by rw [hu, chargeInst_aside, modInst_aside]
  set x := newOp u.nextOp i n (u.inst i).gen r.estimate r.consumed with hx
  set v := modRing n (fun r => { r with consumed := r.consumed + 1, advanced := r.advanced + 1 })
    { u with nextOp := u.nextOp + 1, ops := u.ops ++ [x] } with hv
  have hvring : tget n v.rings = some { r with consumed := r.consumed + 1, advanced := r.advanced + 1 } := by
    rw [hv, modRing_rings, if_pos rfl]
    show (tget n u.rings).map _ = _
    rw [rings_of_aside hside, hr]
    rfl
  have hvop : v.op? u.nextOp = some x := by
    rw [State.op?, hv, modRing_ops]
    refine find?_append_new (x := x) ?_
    rw [ops_of_aside hside]
    intro o ho
    rw [hx]
    exact (nextOp_of_aside hside) ▸ hnew o ho
  obtain ⟨hrings, hnext, hops⟩ := fetchEntry_tables (i := r.consumed) hvring hvop
  have hpre := prefetch_aside n (fetchEntry u.nextOp n r.consumed v)
  have hop : (fetchEntry u.nextOp n r.consumed v).op? u.nextOp = some x := by
    rw [State.op?, hops, ← State.op?, op?_modOp (by exact fun _ => rfl), if_pos rfl, hvop]
    rfl
  refine ⟨?_, fun k => ?_, (u.inst i).gen, ?_⟩
  · rw [nextOp_of_aside hpre, hnext, hv, modRing_nextOp]
    exact congrArg (· + 1) (nextOp_of_aside hside)
  · rw [rings_of_aside hpre, hrings]
    split
    · next e => rw [e, hvring]
    · next e =>
      rw [hv, modRing_rings, if_neg e]
      exact congrArg (tget k) (rings_of_aside hside :)
  · rw [op?_of_aside hpre, ← nextOp_of_aside hside, hop]

/-! ### A later part -/

/-- The oldest of some operations, as `chargeLater` looks for it. -/
def oldest (l : List Op) : Option Op :=
  l.foldl (fun (m : Option Op) o => match m with
    | none => some o
    | some p => if o.seq < p.seq then some o else some p) none

theorem chargeLater_eq (i : Nat) (s : State) : chargeLater i s =
    match oldest (s.ops.filter (laterDue s i)) with
    | none => s
    | some o => joinPartQ o.id (modOp o.id (fun x => { x with charged := true }) (chargeInst i o.laterCost s)) := rfl

/-- The search for the oldest, from a candidate on. -/
theorem foldl_oldest (l : List Op) (p : Op) :
    ∃ o, l.foldl (fun (m : Option Op) o => match m with
      | none => some o
      | some p => if o.seq < p.seq then some o else some p) (some p) = some o ∧ (o = p ∨ o ∈ l) ∧ o.seq ≤ p.seq ∧
        ∀ x ∈ l, o.seq ≤ x.seq := by
  induction l generalizing p with
  | nil => exact ⟨p, rfl, .inl rfl, Nat.le_refl _, fun x hx => by cases hx⟩
  | cons a t ih =>
    rw [List.foldl_cons]
    dsimp only
    split
    · next hlt =>
      obtain ⟨o, ho, hmem, hle, hall⟩ := ih a
      refine ⟨o, ho, .inr ?_, by omega, fun x hx => ?_⟩
      · rcases hmem with rfl | hmem
        · exact List.mem_cons_self
        · exact List.mem_cons_of_mem _ hmem
      · rcases List.mem_cons.1 hx with rfl | hx
        · exact hle
        · exact hall x hx
    · next hge =>
      obtain ⟨o, ho, hmem, hle, hall⟩ := ih p
      refine ⟨o, ho, ?_, hle, fun x hx => ?_⟩
      · rcases hmem with rfl | hmem
        · exact .inl rfl
        · exact .inr (List.mem_cons_of_mem _ hmem)
      · rcases List.mem_cons.1 hx with rfl | hx
        · omega
        · exact hall x hx

/-- Among some operations there is an oldest. -/
theorem oldest_spec {l : List Op} (h : l ≠ []) : ∃ o, oldest l = some o ∧ o ∈ l ∧ ∀ x ∈ l, o.seq ≤ x.seq := by
  obtain ⟨a, t, rfl⟩ := List.exists_cons_of_ne_nil h
  obtain ⟨o, ho, hmem, hle, hall⟩ := foldl_oldest t a
  refine ⟨o, ho, ?_, fun x hx => ?_⟩
  · rcases hmem with rfl | hmem
    · exact List.mem_cons_self
    · exact List.mem_cons_of_mem _ hmem
  · rcases List.mem_cons.1 hx with rfl | hx
    · exact hle
    · exact hall x hx

/-- Charging a later part leaves rings and the numbers of operations alone. -/
theorem chargeLater_tables (i : Nat) (s : State) :
    (chargeLater i s).rings = s.rings ∧ (chargeLater i s).nextOp = s.nextOp ∧
      (chargeLater i s).ops.map (·.id) = s.ops.map (·.id) := by
  rw [chargeLater_eq]
  split
  · exact ⟨rfl, rfl, rfl⟩
  · next o _ =>
    have hside := chargeInst_aside i o.laterCost s
    obtain ⟨hrings, hops, hnext⟩ :=
      joinPartQ_tables o.id (modOp o.id (fun x => { x with charged := true }) (chargeInst i o.laterCost s))
    rw [hrings, hops, hnext, modOp_rings, modOp_nextOp, modOp_ids (by exact fun _ => rfl), rings_of_aside hside,
      nextOp_of_aside hside, ops_of_aside hside]
    exact ⟨rfl, rfl, rfl⟩

/-- The oldest later part that waits is the one that is charged (R229). -/
theorem chargeLater_charges {s : State} {i : Nat} (h : laterWaits s i = true) :
    ∃ o x, o ∈ s.ops ∧ laterDue s i o = true ∧ (∀ p ∈ s.ops, laterDue s i p = true → o.seq ≤ p.seq) ∧
      (chargeLater i s).op? o.id = some x ∧ x.charged = true := by
  obtain ⟨p, hp, hdue⟩ := List.any_eq_true.1 h
  obtain ⟨o, hold, hmem, hall⟩ := oldest_spec (List.ne_nil_of_mem (List.mem_filter.2 ⟨hp, hdue⟩))
  obtain ⟨ho, hodue⟩ := List.mem_filter.1 hmem
  obtain ⟨y, hy⟩ : ∃ y, s.op? o.id = some y := by
    refine Option.isSome_iff_exists.1 (List.find?_isSome.2 ⟨o, ho, by simp⟩)
  refine ⟨o, { y with charged := true }, ho, hodue, fun p hp hd => hall p (List.mem_filter.2 ⟨hp, hd⟩), ?_, rfl⟩
  rw [chargeLater_eq, hold]
  dsimp only
  rw [State.op?, (joinPartQ_tables ..).2.1, ← State.op?, op?_modOp (by exact fun _ => rfl), if_pos rfl,
    op?_of_aside (chargeInst_aside ..), hy]
  rfl

/-- While grants are stopped or the block is locked nothing is granted. -/
theorem hasGrant_stopped {s : State} (h : s.pwr.grants = false ∨ s.cel.locked = true) (i : Nat) : hasGrant s i = false := by
  rcases h with h | h <;> simp [hasGrant, mayGrant, h]

/-- Nor does a visit then change rings, or the numbers of operations. -/
theorem visitWork_stopped {s : State} (h : s.pwr.grants = false ∨ s.cel.locked = true) (i : Nat) :
    (visitWork i s).rings = s.rings ∧ (visitWork i s).nextOp = s.nextOp ∧
      (visitWork i s).ops.map (·.id) = s.ops.map (·.id) := by
  unfold visitWork
  rw [hasGrant_stopped h]
  split
  · exact ⟨rfl, rfl, rfl⟩
  · split
    · exact chargeLater_tables i s
    · exact ⟨rfl, rfl, rfl⟩

/-- Settles O28: the entry granted is that of the ring that the round robin picks; the later part charged is the oldest; without
grants a visit only charges later parts. -/
theorem grantTakesEntry : Obligations.GrantTakesEntry := by
  refine ⟨fun s i hmain _ _ hvisit hdef hlater hgrant hnew => ?_, fun s i hmain hvisit hdef hlater => ?_, fun s hstop => ?_⟩
  · have hrings : grantRings s i ≠ [] := by
      intro h
      simp [hasGrant, h] at hgrant
    obtain ⟨n, r, same, fresh, hpick, hmem⟩ := pickRing_of_grantable hrings
    obtain ⟨r', hr'⟩ := Option.isSome_iff_exists.1 (tget_isSome_of_mem (List.mem_of_mem_filter hmem))
    obtain ⟨hnext, hget, g, hop⟩ := grantEntry_takes hpick hr' hnew
    have hwork : visitWork i s = grantEntry i s := by
      simp [visitWork, hlater, hgrant, Int.not_le.2 hdef]
    obtain ⟨hR, hO, hN⟩ := visitRest_tables i (grantEntry i s)
    have hstep : schedulerStep s = visitRest i (grantEntry i s) := by
      rw [schedulerStep_visiting hmain hvisit, hwork]
    refine ⟨schedulerStep s, n, r, newOp s.nextOp i n g r'.estimate r'.consumed, rfl, hmem, by rw [hstep, hN, hnext], fun r'' h'' => ?_, fun k hk => ?_, ?_, rfl, rfl, rfl⟩
    · cases hr'.symm.trans h''
      exact ⟨by rw [hstep, hR, hget, if_pos rfl], rfl, rfl⟩
    · rw [hstep, hR, hget, if_neg hk]
    · rw [hstep, State.op?, hO]
      exact hop
  · have hwork : visitWork i s = chargeLater i s := by
      simp [visitWork, hlater, Int.not_le.2 hdef]
    obtain ⟨o, x, ho, hdue, hall, hop, hx⟩ := chargeLater_charges hlater
    obtain ⟨hrings, hnext, -⟩ := chargeLater_tables i s
    obtain ⟨hR, hO, hN⟩ := visitRest_tables i (chargeLater i s)
    have hstep : schedulerStep s = visitRest i (chargeLater i s) := by
      rw [schedulerStep_visiting hmain hvisit, hwork]
    refine ⟨schedulerStep s, o, x, rfl, ho, hdue, hall, ?_, hx, by rw [hstep, hR, hrings], by rw [hstep, hN, hnext]⟩
    rw [hstep, State.op?, hO]
    exact hop
  · refine ⟨schedulerStep s, rfl, ?_⟩
    have hvisit : ∀ (i : Nat) (u : State), (u.pwr.grants = false ∨ u.cel.locked = true) →
        (visitRest i (visitWork i u)).rings = u.rings ∧ (visitRest i (visitWork i u)).nextOp = u.nextOp ∧
          (visitRest i (visitWork i u)).ops.map (·.id) = u.ops.map (·.id) := by
      intro i u hu
      obtain ⟨hrings, hnext, hids⟩ := visitWork_stopped hu i
      obtain ⟨hR, hO, hN⟩ := visitRest_tables i (visitWork i u)
      exact ⟨hR.trans hrings, hN.trans hnext, (congrArg _ hO).trans hids⟩
    rcases schedulerStep_cases s with h | ⟨i, h | h⟩
    · rw [h]
      exact ⟨rfl, rfl, rfl⟩
    · rw [h]
      exact hvisit i s hstop
    · rw [h]
      exact hvisit i (beginVisit i s) hstop

end Sys2Proof.Machine
end

section
/-!
PROOFS. The end of an operation (`endOp`): what releases, stops and postings leave of the operations and of the store, and what the
operation that has ended holds.
-/

namespace Sys2Proof.Machine

/-- The Pantry and the Larder. -/
def State.store (s : State) : Pantry × Larder := (s.pan, s.lar)

theorem store_of_aside {s t : State} (h : t.aside = s.aside) : t.store = s.store := by
  rw [State.store, pan_of_aside h, lar_of_aside h, State.store]

theorem pan_of_store {s t : State} (h : t.store = s.store) : t.pan = s.pan := (congrArg Prod.fst h :)

theorem lar_of_store {s t : State} (h : t.store = s.store) : t.lar = s.lar := (congrArg Prod.snd h :)

@[simp] theorem modOp_store (id : Nat) (f : Op → Op) (s : State) : (modOp id f s).store = s.store := rfl

@[simp] theorem modRing_store (n : Nat) (f : Ring → Ring) (s : State) : (modRing n f s).store = s.store := by
  rw [State.store, modRing_pan, modRing_lar, State.store]

/-! ### Event records of any type -/

theorem setPend_tables (i typ ring : Nat) (s : State) :
    (setPend i typ ring s).store = s.store ∧ (setPend i typ ring s).ops = s.ops := by
  unfold setPend
  split
  · exact ⟨modRing_store .., modRing_ops ..⟩
  · exact ⟨rfl, rfl⟩

theorem evWrite_tables (i typ status ring index aux : Nat) (s : State) :
    (evWrite i typ status ring index aux s).store = s.store ∧ (evWrite i typ status ring index aux s).ops = s.ops := by
  unfold evWrite
  dsimp only
  split
  · exact setPend_tables ..
  · split
    · have hirq := irqCheck_aside i (setPend i typ ring (modEq i (fun e => { e with overflow := true, flagSet := true }) s))
      obtain ⟨hstore, hops⟩ := setPend_tables i typ ring (modEq i (fun e => { e with overflow := true, flagSet := true }) s)
      exact ⟨(store_of_aside hirq).trans hstore, (ops_of_aside hirq).trans hops⟩
    · exact ⟨(store_of_aside (writeReq_aside ..) :), (ops_of_aside (writeReq_aside ..) :)⟩

theorem ringErrorRecord_tables (n : Nat) (s : State) :
    (ringErrorRecord n s).store = s.store ∧ (ringErrorRecord n s).ops = s.ops := by
  unfold ringErrorRecord
  split
  · exact ⟨rfl, rfl⟩
  · obtain ⟨hstore, hops⟩ := evWrite_tables _ _ _ _ _ _ _
    exact ⟨hstore.trans (modRing_store ..), hops.trans (modRing_ops ..)⟩

/-! ### Releases -/

theorem keepRecord_tables (o : Op) (s : State) : (keepRecord o s).store = s.store ∧ (keepRecord o s).ops = s.ops := by
  unfold keepRecord
  split
  · split <;> exact ⟨rfl, rfl⟩
  · exact ⟨rfl, rfl⟩

theorem releaseOp_tables (id : Nat) (s : State) :
    (releaseOp id s).store = s.store ∧ (releaseOp id s).ops = s.ops.filter (fun o => o.id != id) := by
  unfold releaseOp
  dsimp only
  split
  · next o _ =>
    obtain ⟨hstore, hops⟩ := keepRecord_tables o (o.sample.foldl (fun s (p : Nat × Nat) => skipSample p.1 s) s)
    have hskip := foldl_keeps State.aside (fun s (p : Nat × Nat) => skipSample_aside p.1 s) o.sample s
    have hstore' := hstore.trans (store_of_aside hskip)
    have hops' := hops.trans (ops_of_aside hskip)
    split <;> exact ⟨hstore', congrArg (List.filter fun o => o.id != id) hops'⟩
  · exact ⟨rfl, rfl⟩

theorem releaseOp_op?_other {i j : Nat} (h : j ≠ i) (s : State) : (releaseOp i s).op? j = s.op? j := by
  rw [State.op?, (releaseOp_tables i s).2, List.find?_filter, State.op?]
  congr 1
  funext o
  by_cases ho : o.id = j <;> simp [ho, h]

theorem releaseOp_op?_same (id : Nat) (s : State) : (releaseOp id s).op? id = none := by
  rw [State.op?, (releaseOp_tables id s).2, List.find?_filter, List.find?_eq_none]
  simp

/-- Releasing some operations leaves any other. -/
theorem releaseAll_op? {f : Op → Bool} {id : Nat} {s : State} (h : ∀ o ∈ s.ops, f o = true → o.id ≠ id) :
    (releaseAll f s).op? id = s.op? id := by
  unfold releaseAll
  have hl : ∀ o ∈ s.ops.filter f, o.id ≠ id := fun o ho => h o (List.mem_of_mem_filter ho) (List.of_mem_filter ho)
  generalize s.ops.filter f = l at hl
  induction l generalizing s with
  | nil => rfl
  | cons a t ih =>
    rw [List.foldl_cons]
    have hfirst := releaseOp_op?_other (Ne.symm (hl a List.mem_cons_self)) s
    refine Eq.trans ?_ hfirst
    clear hfirst h
    have ht := fun o ho => hl o (List.mem_cons_of_mem _ ho)
    clear ih hl
    generalize releaseOp a.id s = u
    induction t generalizing u with
    | nil => rfl
    | cons b t ih =>
      rw [List.foldl_cons, ih (fun o ho => ht o (List.mem_cons_of_mem _ ho))]
      exact releaseOp_op?_other (Ne.symm (ht b List.mem_cons_self)) u

theorem releaseAll_store (f : Op → Bool) (s : State) : (releaseAll f s).store = s.store :=
  foldl_keeps State.store (fun s (o : Op) => (releaseOp_tables o.id s).1) _ _

/-! ### Stops -/

theorem writeIndex_aside (n : Nat) (s : State) : (writeIndex n s).aside = s.aside := by
  unfold writeIndex
  split
  · rfl
  · exact writeReq_aside ..

/-- A stop releases no operation that has been dispatched. -/
theorem stopRing_tables (n : Nat) (e : Idx) (st : Status) (now : Bool) (s : State) :
    (stopRing n e st now s).store = s.store ∧
      ∀ id, (∀ o ∈ s.ops, o.id = id → o.ran = true) → (stopRing n e st now s).op? id = s.op? id := by
  unfold stopRing
  split
  · exact ⟨rfl, fun _ _ => rfl⟩
  · next r _ =>
    unfold stopAt
    split
    · exact ⟨rfl, fun _ _ => rfl⟩
    · split
      · exact ⟨rfl, fun _ _ => rfl⟩
      · next r' _ _ =>
        dsimp only
        set u := releaseAll _ _ with hu
        have hstore : u.store = s.store := releaseAll_store _ _
        have hindex := writeIndex_aside n (dropSpecs n u)
        obtain ⟨hrecStore, hrecOps⟩ := ringErrorRecord_tables n (writeIndex n (dropSpecs n u))
        have hop : ∀ id, (∀ o ∈ s.ops, o.id = id → o.ran = true) → u.op? id = s.op? id := fun id hran =>
          releaseAll_op? fun o ho hf hid => by
            simp [Op.unrun, hran o ho hid] at hf
        split
        · exact ⟨hrecStore.trans ((store_of_aside hindex).trans hstore), fun id hran => by
            rw [State.op?, hrecOps, ops_of_aside hindex]; exact hop id hran⟩
        · exact ⟨(store_of_aside hindex).trans hstore, fun id hran => (op?_of_aside hindex id).trans (hop id hran)⟩

/-! ### Completions -/

/-- An operation but for what the posting of its completion changes. -/
def Op.unposted (o : Op) : Op := { o with phase := .post, posted := false, complLeft := 0, ref := none }

/-- The state in which an operation has been marked as posted. -/
theorem postOp_tables {o : Op} {s : State} (h : (tget o.ring s.rings).isSome = true) :
    (postOp o s).store = s.store ∧ ∀ id, ((postOp o s).op? id).map Op.unposted = (s.op? id).map Op.unposted := by
  obtain ⟨r, hr⟩ := Option.isSome_iff_exists.1 h
  unfold postOp
  rw [hr]
  dsimp only
  have hside := fun u => foldl_keeps State.aside (fun s (e : Entry) => writeReq_aside (portOf o.ring) (r.slot e.idx)
    (complBytes r.fmt e.d o.status (o.entryResult r.fmt e)) o.inst (.compl o.id) s) o.entries u
  refine ⟨(store_of_aside (hside _)).trans (modOp_store ..), fun id => ?_⟩
  rw [op?_of_aside (hside _), op?_modOp (by exact fun _ => rfl)]
  split
  · cases s.op? id <;> rfl
  · rfl

theorem tryPost_tables (n : Nat) (s : State) :
    (tryPost n s).store = s.store ∧ ∀ id, ((tryPost n s).op? id).map Op.unposted = (s.op? id).map Op.unposted := by
  have hstep : ∀ (s : State) (k : Nat),
      let t := (match tget n s.rings with
        | none => s
        | some r => (match (s.ringOps n).find? (postable s r) with
          | some o => postOp o s
          | none => s))
      t.store = s.store ∧ ∀ id, (t.op? id).map Op.unposted = (s.op? id).map Op.unposted := by
    intro s _
    dsimp only
    split
    · exact ⟨rfl, fun _ => rfl⟩
    · next r hr =>
      split
      · next o ho =>
        have hring : o.ring = n := by
          have hmem := List.mem_of_find?_eq_some ho
          have hp := List.of_mem_filter hmem
          simp only [Bool.and_eq_true, beq_iff_eq] at hp
          exact hp.1
        exact postOp_tables (by rw [hring, hr]; rfl)
      · exact ⟨rfl, fun _ => rfl⟩
  unfold tryPost
  exact ⟨foldl_keeps State.store (fun s k => (hstep s k).1) _ _,
    fun id => foldl_keeps (fun s : State => (s.op? id).map Op.unposted) (fun s k => (hstep s k).2 id) _ _⟩

theorem zeroWrites_aside (o : Op) (s : State) : (zeroWrites o s).aside = s.aside :=
  foldl_keeps State.aside (fun _ (_ : Nat × Nat) => writeReq_aside ..) _ _

/-! ### The end -/

/-- The steps of `endOp` between the change of the operation and the stop of its ring leave all but queues and the Hallway. -/
def endWrites (id : Nat) (st : Status) (scrub : Bool) (o : Op) (s : State) : State :=
  let s := { s with hearth := { s.hearth with queue := s.hearth.queue.filter (fun q => q.2 != id) } }
  let s := { s with scu := { s.scu with partQ := s.scu.partQ.filter (fun q => q != id) } }
  let s := if scrub then zeroWrites o s else s
  if st == .replay || st == .replayScrubbed then countOp 0xF 1 o s else s

theorem endWrites_tables (id : Nat) (st : Status) (scrub : Bool) (o : Op) (s : State) :
    (endWrites id st scrub o s).store = s.store ∧ (endWrites id st scrub o s).ops = s.ops := by
  have hzero : ∀ u : State, (if scrub then zeroWrites o u else u).aside = u.aside := fun u => by
    split
    · exact zeroWrites_aside o u
    · rfl
  unfold endWrites
  dsimp only
  generalize hw : ({ s with hearth := _, scu := _ } : State) = w
  have htables : w.store = s.store ∧ w.ops = s.ops := by subst hw; exact ⟨rfl, rfl⟩
  obtain ⟨hstore, hops⟩ := htables
  split
  · have hcount := (countOp_aside 0xF 1 o _).trans (hzero w)
    exact ⟨(store_of_aside hcount).trans hstore, (ops_of_aside hcount).trans hops⟩
  · exact ⟨(store_of_aside (hzero w)).trans hstore, (ops_of_aside (hzero w)).trans hops⟩

/-- What an operation becomes at its end. -/
def Op.ended (st : Status) (res : Nat) (ents : List Entry) (scrub : Bool) (placeKept : Bool) (x : Op) : Op :=
  { x with
    status := st, result := res, entries := ents, phase := if scrub then .scrub else .post,
    unit := none, returned := false, place := if placeKept then x.place else none,
    key := none, buf := [], aad := [], tag := [], acc := [], stage := [], blob := [] }

/-- `endOp` on an operation of the present generation, step by step. -/
theorem endOp_eq {id : Nat} {st : Status} {good : Nat} {s : State} {o : Op} (h : s.op? id = some o) (hold : o.old = false) :
    ∃ (stops : Bool) (ents : List Entry) (scrub : Bool), (stops = true → st.stops = true) ∧
      endOp id st good s =
        let u := endWrites id st scrub o (modOp id
          (fun x => x.ended st (o.resultFor st good) ents scrub (st.success && 0 < o.payload))
          (dropReads (fun w => w.op? == some id) s))
        tryPost o.ring (if stops then stopRing o.ring o.head.idx st false u else u) := by
  let stops := st.stops && (match tget o.ring s.rings with
    | some r => r.state == .running
    | none => false)
  refine ⟨stops, if stops && !o.ran then o.entries.take 1 else o.entries, !st.success && !o.written.isEmpty, fun hs => ?_, ?_⟩
  · exact (Bool.and_eq_true_iff.1 hs).1
  · unfold endOp
    rw [h]
    simp only [hold, Bool.false_eq_true, if_false]
    rfl

/-- The end of an operation changes neither Pantry nor Larder. -/
theorem endOp_store (id : Nat) (st : Status) (good : Nat) (s : State) : (endOp id st good s).store = s.store := by
  cases h : s.op? id with
  | none => rw [endOp, h]
  | some o =>
    cases hold : o.old with
    | true =>
      unfold endOp
      rw [h]
      simp only [hold, if_true]
      exact (releaseOp_tables id s).1
    | false =>
      obtain ⟨stops, ents, scrub, -, he⟩ := endOp_eq (st := st) (good := good) h hold
      rw [he, (tryPost_tables ..).1]
      split
      · rw [(stopRing_tables ..).1, (endWrites_tables ..).1]
        rfl
      · rw [(endWrites_tables ..).1]
        rfl

/-- An operation that ends, with a status that stops no ring or after its dispatch, holds the status and its RESULT. -/
theorem endOp_ended {id : Nat} {st : Status} (good : Nat) {s : State} {o : Op} (h : s.op? id = some o) (hold : o.old = false)
    (hkeep : st.stops = false ∨ ∀ p ∈ s.ops, p.id = id → p.ran = true) :
    Ended id st (o.resultFor st good) (endOp id st good s) := by
  obtain ⟨stops, ents, scrub, hstops, he⟩ := endOp_eq (st := st) (good := good) h hold
  set f := fun x : Op => x.ended st (o.resultFor st good) ents scrub (st.success && 0 < o.payload) with hf
  set v := modOp id f (dropReads (fun w => w.op? == some id) s) with hv
  set u := endWrites id st scrub o v with hu
  have huop : u.op? id = some (f o) := by
    rw [State.op?, hu, (endWrites_tables ..).2, ← State.op?, hv, op?_modOp (by exact fun _ => rfl), if_pos rfl]
    exact congrArg (Option.map f) h
  have hstop : (if stops then stopRing o.ring o.head.idx st false u else u).op? id = u.op? id := by
    split
    · next hs =>
      have hran : ∀ p ∈ s.ops, p.id = id → p.ran = true := by
        rcases hkeep with hk | hk
        · rw [hstops hs] at hk
          cases hk
        · exact hk
      refine (stopRing_tables ..).2 id fun p hp hid => ?_
      rw [hu, (endWrites_tables ..).2] at hp
      obtain ⟨q, hq, rfl⟩ := List.mem_map.1 hp
      have hqid : q.id = id := by
        by_cases hc : (q.id == id) = true
        · simpa using hc
        · rwa [if_neg hc] at hid
      rw [if_pos (by simpa using hqid)]
      exact hran q hq hqid
    · rfl
  have hpost := (tryPost_tables o.ring (if stops then stopRing o.ring o.head.idx st false u else u)).2 id
  rw [hstop, huop] at hpost
  rw [he]
  obtain ⟨x, hx, hxo⟩ := Option.map_eq_some_iff.1 hpost
  exact ⟨x, hx, (congrArg Op.status hxo :), (congrArg Op.result hxo :), (congrArg Op.key hxo :), (congrArg Op.buf hxo :),
    (congrArg Op.acc hxo :), (congrArg Op.unit hxo :)⟩

end Sys2Proof.Machine
end

section
/-!
PROOFS. A block of a list and an acknowledged completion (O30): what an operation plans (its phase and its entries) stays while its
reads, parts and output go on.
-/

namespace Sys2Proof.Machine

/-! ### The plan of an operation -/

/-- The phase of an operation and its entries. -/
def Op.plan (o : Op) : Phase × List Entry := (o.phase, o.entries)

/-- The plan of an operation that State holds. -/
def State.plan? (s : State) (id : Nat) : Option (Phase × List Entry) := (s.op? id).map Op.plan

theorem plan?_of_ops {s t : State} (h : t.ops = s.ops) (id : Nat) : t.plan? id = s.plan? id := by
  rw [State.plan?, State.op?, h, State.plan?, State.op?]

theorem plan?_of_aside {s t : State} (h : t.aside = s.aside) (id : Nat) : t.plan? id = s.plan? id :=
  plan?_of_ops (ops_of_aside h) id

theorem plan?_modOp {i : Nat} {f : Op → Op} (hid : ∀ o, (f o).id = o.id) (hplan : ∀ o, (f o).plan = o.plan) (id : Nat)
    (s : State) : (modOp i f s).plan? id = s.plan? id := by
  rw [State.plan?, op?_modOp hid, State.plan?]
  split
  · cases s.op? id with
    | none => rfl
    | some o => exact congrArg some (hplan o)
  · rfl

/-- A fold whose state comes second in its accumulator keeps what each step keeps. -/
theorem foldl_snd_keeps {α γ σ τ : Type} (v : σ → τ) {f : γ × σ → α → γ × σ} (h : ∀ p a, v (f p a).2 = v p.2)
    (l : List α) (p : γ × σ) : v (l.foldl f p).2 = v p.2 :=
  foldl_keeps (fun p : γ × σ => v p.2) h l p

theorem issueSrc_plan? (i id : Nat) (s : State) : (issueSrc i s).plan? id = s.plan? id := by
  unfold issueSrc
  split
  · rfl
  · dsimp only
    rw [foldl_snd_keeps (fun s : State => s.plan? id) (fun _ _ => plan?_of_aside (readReq_aside ..) id)]
    exact plan?_modOp (by exact fun _ => rfl) (by exact fun _ => rfl) id s

theorem emit_plan? (i off : Nat) (data : List Byte) (id : Nat) (s : State) : (emit i off data s).plan? id = s.plan? id := by
  unfold emit
  split
  · rfl
  · rw [plan?_of_aside (countOp_aside ..)]
    refine foldl_snd_keeps (fun s : State => s.plan? id) (fun p x => ?_) _ _
    rw [plan?_modOp (by exact fun _ => rfl) (by exact fun _ => rfl)]
    exact plan?_of_aside (writeReq_aside ..) id

theorem readList_aside (i ent : Nat) (dst : Bool) (s : State) : (readList i ent dst s).aside = s.aside := by
  unfold readList
  split
  · rfl
  · split
    · rfl
    · dsimp only
      split
      · rw [apply_ite State.aside, readReq_aside, ite_self]
      · rfl

theorem generate_ops (u n : Nat) (addin : List Byte) (pr : Bool) (s : State) : (generate u n addin pr s).2.ops = s.ops := by
  have hseed : ∀ b : Bool, (if b then reseedDrbg u addin s else s).ops = s.ops := fun b => by cases b <;> rfl
  unfold generate
  split
  · rfl
  · exact hseed _

theorem rotateLanes_ops (a n : Nat) (s : State) : (rotateLanes a n s).ops = s.ops := by
  unfold rotateLanes
  split
  · rfl
  · exact generate_ops ..

theorem advancePart_plan? (i id : Nat) (s : State) : (advancePart i s).plan? id = s.plan? id := by
  unfold advancePart
  split
  · rfl
  · split
    · rfl
    · split
      · rfl
      · next o _ k _ _ =>
        dsimp only
        have hrot : ∀ (b : Bool) (n m : Nat) (u : State), (if b then u else rotateLanes n m u).plan? id = u.plan? id :=
          fun b n m u => by
            split
            · rfl
            · exact plan?_of_ops (rotateLanes_ops n m u) id
        split
        · rw [emit_plan?, hrot, plan?_modOp (by exact fun _ => rfl) (by exact fun _ => rfl)]
        · rw [hrot, plan?_modOp (by exact fun _ => rfl) (by exact fun _ => rfl)]

/-! ### LIST_BLOCK_RETURN -/

/-- The entry with its source or its destination list replaced. -/
def Entry.withList (dst : Bool) (l : SegList) (e : Entry) : Entry := if dst then { e with dst := l } else { e with src := l }

/-- The check of an arrived block (R193 to R196). -/
def blockOf (o : Op) (e : Entry) (dst : Bool) (blk : List Byte) : Except Status SegList :=
  listBlock (if dst then e.d.dstSegs else e.d.srcSegs)
    (if dst then dstTotal o.head.d e.d.last e.d else srcTotal o.head.d e.d.last e.d) (if dst then e.dst else e.src) blk

/-- A block of a list for an operation on a unit, sound or not. -/
theorem listReturn_run {s : State} {id ent : Nat} {dst : Bool} {o : Op} {e : Entry} {blk : List Byte} (ho : s.op? id = some o)
    (harr : s.arrived? (.list id ent dst) = some blk) (he : o.entries[ent]? = some e) (hrun : o.phase = .run) :
    listReturn id ent dst s = match blockOf o e dst blk with
      | .error st => endOp id st 0 (takeArrived (.list id ent dst) s)
      | .ok l =>
        let u := modOp id (fun x => { x with entries := modAt (Entry.withList dst l) ent x.entries })
          (takeArrived (.list id ent dst) s)
        advancePart id (issueSrc id (if l.ended then u else readList id ent dst u)) := by
  unfold listReturn
  rw [ho, harr]
  dsimp only
  rw [he]
  dsimp only
  rw [hrun]
  rfl

/-- A sound block joins its list, and the operation runs on. -/
theorem plan?_of_listed {s : State} {id ent : Nat} {dst : Bool} {o : Op} (ho : s.op? id = some o) (l : SegList) :
    (advancePart id (issueSrc id (if l.ended
      then modOp id (fun x => { x with entries := modAt (Entry.withList dst l) ent x.entries }) s
      else readList id ent dst (modOp id (fun x => { x with entries := modAt (Entry.withList dst l) ent x.entries }) s)))).plan? id =
      some (o.phase, modAt (Entry.withList dst l) ent o.entries) := by
  rw [advancePart_plan?, issueSrc_plan?]
  have hread : ∀ u : State, (if l.ended then u else readList id ent dst u).plan? id = u.plan? id := fun u => by
    split
    · rfl
    · exact plan?_of_aside (readList_aside ..) id
  rw [hread, State.plan?, op?_modOp (by exact fun _ => rfl), if_pos rfl, ho]
  rfl

/-! ### COMPLETION_ACK -/

theorem writeSample_ops (o : Op) (r : Ring) (t b n : Nat) (s : State) : (writeSample o r t b n s).ops = s.ops := by
  unfold writeSample
  dsimp only
  split <;> rfl

theorem dueErrorRecord_ops (n : Nat) (e : Idx) (s : State) : (dueErrorRecord n e s).ops = s.ops := by
  unfold dueErrorRecord
  split
  · rfl
  · split
    · exact (ringErrorRecord_tables n s).2
    · rfl

/-- The counts and the records that follow the acknowledgement of an operation's last completion write. -/
def completionRecords (o : Op) (s : State) : State :=
  let d := o.head.d
  let s := if d.opcode == 0x30 then fixedOp 22 1 o s else s
  let t := stamp s
  let s := draw s
  (tget o.ring s.rings).elim s (fun r =>
    let s := o.sample.foldl (fun s p => writeSample o r t p.1 p.2 s) s
    let s := if d.irq || d.opcode == 0x30 then
      evWrite o.inst 1 o.status.code.toNat o.ring o.last.idx.toNat o.last.d.cookie s else s
    dueErrorRecord o.ring o.head.idx s)

theorem completionRecords_ops (o : Op) (s : State) : (completionRecords o s).ops = s.ops := by
  have hcount : (if o.head.d.opcode == 0x30 then fixedOp 22 1 o s else s).ops = s.ops := by
    split
    · exact ops_of_aside (fixedOp_aside ..)
    · rfl
  unfold completionRecords
  dsimp only
  generalize (if o.head.d.opcode == 0x30 then fixedOp 22 1 o s else s) = u at hcount ⊢
  cases tget o.ring (draw u).rings with
  | none => exact hcount
  | some r =>
    rw [Option.elim_some, dueErrorRecord_ops, apply_ite State.ops, (evWrite_tables ..).2, ite_self,
      foldl_keeps State.ops (fun _ _ => writeSample_ops ..)]
    exact hcount

theorem completed_eq (o : Op) (s : State) : completed o s =
    pruneStamps o.ring (releaseOp o.id (modOp o.id (fun x => { x with sample := [] }) (completionRecords o s))) := by
  unfold completed completionRecords
  dsimp only
  generalize (if o.head.d.opcode == 0x30 then fixedOp 22 1 o s else s) = u
  cases tget o.ring (draw u).rings with
  | none => rfl
  | some r => rfl

/-- The release after the last acknowledged completion write takes the operation and no other. -/
theorem completed_op? (o : Op) (s : State) :
    (completed o s).op? o.id = none ∧ ∀ j, j ≠ o.id → (completed o s).op? j = s.op? j := by
  have hprune : ∀ (n : Nat) (u : State), (pruneStamps n u).ops = u.ops := fun n u => modRing_ops ..
  have hops : ∀ j, (completed o s).op? j =
      (releaseOp o.id (modOp o.id (fun x => { x with sample := [] }) (completionRecords o s))).op? j := fun j => by
    rw [completed_eq, State.op?, hprune, State.op?]
  refine ⟨(hops _).trans (releaseOp_op?_same ..), fun j hj => ?_⟩
  rw [hops, releaseOp_op?_other hj, op?_modOp (by exact fun _ => rfl), if_neg hj, State.op?, completionRecords_ops, State.op?]

theorem op?_id {s : State} {id : Nat} {o : Op} (h : s.op? id = some o) : o.id = id := by
  simpa using List.find?_some h

theorem completionAck_eq {s : State} {id : Nat} {o : Op} {d : List Byte} (ho : s.op? id = some o)
    (harr : s.arrived? (.compl id) = some d) :
    completionAck id s = (if o.complLeft ≤ 1 then completed o (countCompletion o (takeArrived (.compl id) s))
      else modOp id (fun x => { x with complLeft := x.complLeft - 1 }) (countCompletion o (takeArrived (.compl id) s))) := by
  unfold completionAck
  rw [ho, harr]

/-- Settles O30: a block of a list joins the plan or ends the operation; the last completion acknowledged releases it. -/
theorem listBlocksAndCompletions : Obligations.ListBlocksAndCompletions := by
  refine ⟨fun s id ent dst o e blk ho honly hold hran harr he hrun _ => ?_, fun s id o d ho harr => ⟨fun hleft => ?_, fun hleft => ?_⟩⟩
  · have hexec : exec (.listBlockReturn id ent dst) s = .next (finish (listReturn id ent dst s)) := rfl
    have hret := listReturn_run ho harr he hrun
    dsimp only
    cases hb : blockOf o e dst blk with
    | error st =>
      rw [hb] at hret
      obtain ⟨x, hx, hst, -⟩ := endOp_ended (st := st) 0 (s := takeArrived (.list id ent dst) s) ho hold
        (.inr fun p hp hid => (honly p hp hid).symm ▸ hran)
      refine ⟨_, x, hexec, hret ▸ hx, fun l' hl => ?_, fun st' hst' => ?_⟩
      · cases hb.symm.trans hl
      · cases hb.symm.trans hst'
        exact hst
    | ok l =>
      rw [hb] at hret
      have hplan := plan?_of_listed (ent := ent) (dst := dst) (s := takeArrived (.list id ent dst) s) ho l
      obtain ⟨x, hx, hxplan⟩ := Option.map_eq_some_iff.1 hplan
      refine ⟨_, x, hexec, hret ▸ hx, fun l' hl => ?_, fun st' hst' => ?_⟩
      · cases hb.symm.trans hl
        refine ⟨(congrArg Prod.fst hxplan).trans hrun, ?_⟩
        have hents : x.entries = _ := congrArg Prod.snd hxplan
        rw [hents, modAt_getElem?, if_pos rfl, he]
        rfl
      · cases hb.symm.trans hst'
  · obtain ⟨hgone, hother⟩ := completed_op? o (countCompletion o (takeArrived (.compl id) s))
    have hid := op?_id ho
    rw [hid] at hgone hother
    refine ⟨_, congrArg (fun u => Host.Outcome.next (finish (redispatch u)))
      ((completionAck_eq ho harr).trans (if_pos hleft)), hgone, fun j hj => ?_⟩
    rw [hother j hj, op?_of_aside (countCompletion_aside ..), op?_of_aside (takeArrived_aside ..)]
  · exact congrArg (fun u => Host.Outcome.next (finish (redispatch u)))
      ((completionAck_eq ho harr).trans (if_neg (Nat.not_le.2 hleft)))

end Sys2Proof.Machine
end

section
/-!
PROOFS. The MAC of a node has eight bytes: the key that the root gives has 32, so its AES schedule has 15 round keys of 16 bytes.
-/

namespace Sys2Proof.Machine

/-! ### Byte strings -/

theorem leBytes_length (n v : Nat) : (leBytes n v).length = n := by
  induction n generalizing v with
  | zero => rfl
  | succ n ih => simp [leBytes, ih]

theorem beBytes_length (n v : Nat) : (beBytes n v).length = n := by rw [beBytes, List.length_reverse, leBytes_length]

theorem xorBytes_length (a b : List Byte) : (xorBytes a b).length = min a.length b.length := List.length_zipWith

theorem flatten_length_of_forall {n : Nat} {l : List (List Byte)} (h : ∀ w ∈ l, w.length = n) :
    l.flatten.length = l.length * n := by
  rw [List.length_flatten, List.map_congr_left h, List.map_const', List.sum_replicate, smul_eq_mul]

theorem cut_length (n k : Nat) (bs : List Byte) : (cut n k bs).length = k := by
  induction k generalizing bs with
  | zero => rfl
  | succ k ih => rw [cut, List.length_cons, ih]

/-- A string of k blocks of n bytes is cut into blocks of n bytes. -/
theorem cut_block_length {n k : Nat} {bs : List Byte} (h : bs.length = k * n) : ∀ w ∈ cut n k bs, w.length = n := by
  induction k generalizing bs with
  | zero => exact fun w hw => absurd hw List.not_mem_nil
  | succ k ih =>
    have hle : n ≤ bs.length := h ▸ Nat.le_mul_of_pos_left n (Nat.succ_pos k)
    intro w hw
    rcases List.mem_cons.1 hw with rfl | hw
    · rw [List.length_take, Nat.min_eq_left hle]
    · exact ih (by rw [List.length_drop, h, Nat.succ_mul, Nat.add_sub_cancel]) w hw

/-! ### SHA-3 and the keys of the root -/

theorem keccakRound_length (a : List Nat) (rc : Nat) : (keccakRound a rc).length = 25 := by
  unfold keccakRound
  rw [List.length_map, List.length_range]

theorem foldl_length {α : Type} {n : Nat} {f : List Nat → α → List Nat} (hf : ∀ b a, (f b a).length = n) (l : List α) (b : List Nat)
    (hb : b.length = n) : (l.foldl f b).length = n := by
  induction l generalizing b with
  | nil => exact hb
  | cons a t ih => exact ih _ (hf b a)

theorem keccakF_length (st : List Nat) (h : st.length = 25) : (keccakF st).length = 25 :=
  foldl_length keccakRound_length keccakRC st h

theorem sha3_512_length (msg : List Byte) : (sha3_512 msg).length = 64 := by
  unfold sha3_512 keccak
  dsimp only
  rw [List.length_take, flatten_length_of_forall (n := 8), List.length_map, foldl_length (n := 25)]
  · rfl
  · exact fun b a => keccakF_length _ (by rw [List.length_map, List.length_range])
  · exact List.length_replicate
  · intro w hw
    obtain ⟨v, -, rfl⟩ := List.mem_map.1 hw
    exact leBytes_length 8 v

theorem treeKey_length (s : State) : s.treeKey.length = 32 := by
  rw [State.treeKey, derive, List.length_take, sha3_512_length]
  rfl

/-! ### AES under a key of 32 bytes -/

theorem nextKeyWord_length {i : Nat} {rc : Byte} {ws : List (List Byte)} (hws : ∀ w ∈ ws, w.length = 4) (hn : 8 ≤ ws.length) :
    (nextKeyWord 8 i rc ws).length = 4 := by
  have hget : ∀ k, k < 8 → (ws.getD k []).length = 4 := fun k hk => by
    rw [List.getD_eq_getElem _ _ (Nat.lt_of_lt_of_le hk hn)]
    exact hws _ (List.getElem_mem _)
  have hprev : (ws.headD []).length = 4 := by
    have h0 := hget 0 (by decide)
    cases ws with
    | nil => exact h0
    | cons w t => exact h0
  unfold nextKeyWord
  dsimp only
  rw [xorBytes_length, hget 7 (by decide)]
  generalize ws.headD [] = prev at hprev
  split
  · simp [xorBytes_length, hprev]
  · split
    · simp [hprev]
    · simp [hprev]

theorem foldl_keyWord {l : List Nat} {f : List (List Byte) × Byte → Nat → List (List Byte) × Byte}
    (hf : ∀ p j, ∃ i rc, (f p j).1 = nextKeyWord 8 i rc p.1 :: p.1) {p : List (List Byte) × Byte}
    (hws : ∀ w ∈ p.1, w.length = 4) (hn : 8 ≤ p.1.length) :
    (∀ w ∈ (l.foldl f p).1, w.length = 4) ∧ (l.foldl f p).1.length = p.1.length + l.length := by
  induction l generalizing p with
  | nil => exact ⟨hws, rfl⟩
  | cons j t ih =>
    obtain ⟨i, rc, hstep⟩ := hf p j
    rw [List.foldl_cons]
    obtain ⟨hall, hlen⟩ := @ih (f p j)
      (by
        rw [hstep]
        intro w hw
        rcases List.mem_cons.1 hw with rfl | hw
        · exact nextKeyWord_length hws hn
        · exact hws w hw)
      (by rw [hstep, List.length_cons]; exact Nat.le_succ_of_le hn)
    refine ⟨hall, ?_⟩
    rw [hlen, hstep, List.length_cons, List.length_cons, Nat.add_right_comm, Nat.add_assoc]

theorem keyWords_lengths {key : List Byte} (h : key.length = 32) :
    (∀ w ∈ keyWords key, w.length = 4) ∧ (keyWords key).length = 60 := by
  have hblocks : blocksOf 4 key = cut 4 8 key := by rw [blocksOf, h]
  unfold keyWords
  rw [h, hblocks]
  obtain ⟨hall, hlen⟩ := foldl_keyWord (l := List.range (4 * (32 / 4 + 7) - 32 / 4))
    (f := fun (s : List (List Byte) × Byte) j =>
      (nextKeyWord (32 / 4) (32 / 4 + j) s.2 s.1 :: s.1, if (32 / 4 + j) % (32 / 4) == 0 then xtime s.2 else s.2))
    (fun p j => ⟨32 / 4 + j, p.2, rfl⟩) (p := ((cut 4 8 key).reverse, 1))
    (fun w hw => cut_block_length (k := 8) h w (List.mem_reverse.1 hw))
    (by rw [List.length_reverse, cut_length])
  refine ⟨fun w hw => hall w (List.mem_reverse.1 hw), ?_⟩
  rw [List.length_reverse, hlen, List.length_reverse, cut_length, List.length_range]

theorem roundKeys_lengths {key : List Byte} (h : key.length = 32) :
    (roundKeys key).length = 15 ∧ ∀ w ∈ roundKeys key, w.length = 16 := by
  obtain ⟨hall, hlen⟩ := keyWords_lengths h
  have hflat : (keyWords key).flatten.length = 15 * 16 := by rw [flatten_length_of_forall hall, hlen]
  have hcut : roundKeys key = cut 16 15 (keyWords key).flatten := by rw [roundKeys, blocksOf, hflat]
  rw [hcut]
  exact ⟨cut_length .., cut_block_length hflat⟩

theorem aes_length {key : List Byte} (h : key.length = 32) (blk : List Byte) : (aes key blk).length = 16 := by
  obtain ⟨hlen, hall⟩ := roundKeys_lengths h
  have hlast : ((roundKeys key).getD 14 []).length = 16 := by
    rw [List.getD_eq_getElem _ _ (by rw [hlen]; decide)]
    exact hall _ (List.getElem_mem _)
  unfold aes aesWith
  rw [hlen]
  dsimp only
  rw [xorBytes_length, hlast, shiftRows, List.length_map, List.length_range]
  rfl

theorem nodeMac_length (s : State) (level n ctr : Nat) (body : List Byte) : (nodeMac s level n ctr body).length = 8 := by
  unfold nodeMac gmac gcmTag ghash
  rw [List.length_take, xorBytes_length, aes_length (treeKey_length s), beBytes_length]
  rfl

end Sys2Proof.Machine
end

section
/-!
PROOFS. What the Larder writes (O41): a victim's slot, a node that leaves a full cache, a child that is written again under its new
counter.
-/

namespace Sys2Proof.Machine

theorem ports_length_of_halts {s t : State} (h : t.halts = s.halts) : t.hwy.ports.length = s.hwy.ports.length := by
  simpa [State.halts] using congrArg List.length h

/-! ### Slots and nodes -/

/-- The slot of an index after a change that leaves index and state of every slot. -/
theorem slotOf_mapSlots {f : Slot → Slot} (hindex : ∀ x, (f x).index = x.index) (hstate : ∀ x, (f x).state = x.state)
    (index : Nat) (s : State) : (mapSlots (fun _ => f) s).slotOf index = (s.slotOf index).map (fun p => (p.1, f p.2)) :=
  find?_map_same (g := fun p : Nat × Slot => (p.1, f p.2)) (fun p => by simp [hindex, hstate]) s.pan.slots

theorem slotOf_mem {s : State} {index n : Nat} {x : Slot} (h : s.slotOf index = some (n, x)) :
    (n, x) ∈ s.pan.slots ∧ x.index = index ∧ x.state ≠ .companion := by
  have hp := List.find?_some h
  simp only [Bool.and_eq_true, beq_iff_eq, bne_iff_ne] at hp
  exact ⟨List.mem_of_find?_eq_some h, hp⟩

theorem slotOf_modCtx_same {f : Slot → Slot} (hindex : ∀ x, (f x).index = x.index) (hstate : ∀ x, (f x).state = x.state)
    {index n : Nat} {x : Slot} {s : State} (h : s.slotOf index = some (n, x)) :
    (modCtx index f s).slotOf index = some (n, f x) := by
  obtain ⟨-, hi, hc⟩ := slotOf_mem h
  refine (slotOf_mapSlots (f := fun x => if x.index == index && x.state != .companion then f x else x) ?_ ?_ index s).trans ?_
  · intro x; split <;> simp [hindex]
  · intro x; split <;> simp [hstate]
  · rw [h]
    simp [hi, hc]

/-- Another context's slot stays through a change of one. -/
theorem mem_slots_modCtx {f : Slot → Slot} {index : Nat} {s : State} {p : Nat × Slot} (hp : p ∈ s.pan.slots)
    (hi : p.2.index ≠ index) : p ∈ (modCtx index f s).pan.slots :=
  List.mem_map.2 ⟨p, hp, by simp [hi]⟩

theorem node?_key {s : State} {level n : Nat} {x : Node} (h : s.node? level n = some x) : x.level = level ∧ x.n = n := by
  have hp := List.find?_some h
  simpa using hp

theorem node?_modNode {f : Node → Node} (hlevel : ∀ x, (f x).level = x.level) (hn : ∀ x, (f x).n = x.n) (level n : Nat)
    {k m : Nat} {s : State} : (modNode level n f s).node? k m =
      if k = level ∧ m = n then (s.node? k m).map f else s.node? k m := by
  have hfind : (modNode level n f s).node? k m =
      (s.node? k m).map (fun x => if x.level == level && x.n == n then f x else x) :=
    find?_map_same (g := fun x : Node => if x.level == level && x.n == n then f x else x)
      (fun x => by split <;> simp [hlevel, hn]) s.lar.nodes
  rw [hfind]
  cases h : s.node? k m with
  | none => simp
  | some x =>
    obtain ⟨rfl, rfl⟩ := node?_key h
    by_cases hkm : x.level = level ∧ x.n = n <;> simp [hkm]

theorem node?_of_lar {s t : State} (h : t.lar = s.lar) (level n : Nat) : t.node? level n = s.node? level n := by
  rw [State.node?, h, State.node?]

@[simp] theorem markDirty_node? (s : State) (level n : Nat) : (markDirty s).node? level n = s.node? level n := rfl

theorem nodeAddr_of_treeBase {s t : State} (h : t.lar.treeBase = s.lar.treeBase) (level n : Nat) :
    t.nodeAddr level n = s.nodeAddr level n := by rw [State.nodeAddr, h, State.nodeAddr]

/-! ### VICTIM_WRITEBACK_ACK -/

theorem victimAck_unwanted {s : State} {index n : Nat} {x : Slot} {d : List Byte} (harr : s.arrived? (.victim index) = some d)
    (hslot : s.slotOf index = some (n, x)) (hfree : ∀ f ∈ s.lar.fetches, f.victim ≠ some n) :
    victimAck index s = wakeIndex index (slotWritten index (modCtx index (fun x => { x with evicting := false, dirty := false })
      (addCounter 0 69 1 (takeArrived (.victim index) s)))) := by
  have haside : (addCounter 0 69 1 (takeArrived (.victim index) s)).aside = s.aside :=
    (addCounter_aside ..).trans (takeArrived_aside ..)
  have hslot' : (addCounter 0 69 1 (takeArrived (.victim index) s)).slotOf index = some (n, x) := by
    rw [State.slotOf, pan_of_aside haside, ← State.slotOf, hslot]
  have hfind : (addCounter 0 69 1 (takeArrived (.victim index) s)).lar.fetches.find? (fun f => f.victim == some n) = none := by
    rw [lar_of_aside haside, List.find?_eq_none]
    exact fun f hf => by simpa using hfree f hf
  unfold victimAck
  rw [harr, Option.isNone_some, if_neg Bool.false_ne_true]
  dsimp only
  rw [hslot']
  dsimp only
  rw [hfind]

/-- A written slot that waits for no retirement stays as it is. -/
theorem slotWritten_kept {s : State} {index n : Nat} {x : Slot} (hslot : s.slotOf index = some (n, x))
    (hkeep : x.noTomb = false ∨ retireDue s x = false) : slotWritten index s = s := by
  unfold slotWritten
  rw [hslot]
  dsimp only
  rcases hkeep with h | h <;> rw [h] <;> simp

/-! ### NODE_WRITEBACK -/

theorem lruNode_evictable {s : State} {x : Node} (h : lruNode s = some x) : evictable s x = true := by
  unfold lruNode at h
  have hmem : ∀ (l : List Node) (m : Option Node), (∀ y ∈ m, evictable s y = true) → (∀ y ∈ l, evictable s y = true) →
      ∀ y ∈ l.foldl (fun m x => match m with
        | none => some x
        | some y => if x.lru < y.lru then some x else some y) m, evictable s y = true := by
    intro l
    induction l with
    | nil => exact fun m hm _ => hm
    | cons a t ih =>
      intro m hm hl
      rw [List.foldl_cons]
      refine ih _ ?_ (fun y hy => hl y (List.mem_cons_of_mem _ hy))
      intro y hy
      cases m with
      | none => exact (Option.some.inj hy) ▸ hl a List.mem_cons_self
      | some b =>
        dsimp only at hy
        split at hy
        · exact (Option.some.inj hy) ▸ hl a List.mem_cons_self
        · exact (Option.some.inj hy) ▸ hm b rfl
  exact hmem _ none (fun y hy => by cases hy) (fun y hy => List.of_mem_filter hy) x h

theorem evictable_level {s : State} {x : Node} (h : evictable s x = true) : x.level ≤ 1 := by
  simp only [evictable, Bool.and_eq_true, decide_eq_true_eq] at h
  exact h.1.1.1

/-- Reads of the children of a node above level 0 are dropped; nothing else changes. -/
theorem dropChildReads_eq (level n : Nat) {s : State} (h : level ≠ 0) : (dropChildReads level n s).aside = s.aside := by
  unfold dropChildReads
  rw [if_neg (by simpa using h)]
  exact dropReads_aside ..

theorem dropChildReads_ports (level n : Nat) {s : State} (h : level ≠ 0) :
    (dropChildReads level n s).hwy.ports.length = s.hwy.ports.length := by
  unfold dropChildReads
  rw [if_neg (by simpa using h)]
  simp [dropReads]

/-- A node above level 0 with its counter of one child raised (R347, R348). -/
def Node.raised (c : Nat) (y : Node) : Node :=
  { y with c := (y.c.raise c).1, dirty := true, old := if (y.c.raise c).2 then some y.c else y.old }

theorem raiseAt_found {s : State} {level n c : Nat} {y : Node} (hy : s.node? level n = some y) (h0 : level ≠ 0) (h4 : level ≠ 4) :
    let t := (raiseAt level n c s).2
    t.node? level n = some (y.raised c) ∧ (∀ k m, k ≠ level → t.node? k m = s.node? k m) ∧ t.pan = s.pan ∧ t.ops = s.ops ∧
      t.cel.dirty = true ∧ t.lar.treeBase = s.lar.treeBase ∧ t.hwy.ports.length = s.hwy.ports.length := by
  unfold raiseAt
  rw [if_neg (by simpa using h4), hy]
  dsimp only
  generalize hu : (if (y.c.raise c).2 then dropChildReads level n s else s) = u
  have haside : u.aside = s.aside := by rw [← hu]; split <;> simp [dropChildReads_eq level n h0]
  have hports : u.hwy.ports.length = s.hwy.ports.length := by rw [← hu]; split <;> simp [dropChildReads_ports level n h0]
  have hnode : ∀ k m, u.node? k m = s.node? k m := node?_of_lar (lar_of_aside haside)
  refine ⟨?_, fun k m hk => ?_, (pan_of_aside haside :), (ops_of_aside haside :), rfl,
    (congrArg Larder.treeBase (lar_of_aside haside) :), hports⟩
  · rw [markDirty_node?, node?_modNode (by exact fun _ => rfl) (by exact fun _ => rfl), if_pos ⟨rfl, rfl⟩, hnode, hy]
    rfl
  · rw [markDirty_node?, node?_modNode (by exact fun _ => rfl) (by exact fun _ => rfl), if_neg (fun h => hk h.1), hnode]

/-- A node of level 0 or 1 whose parent is cached is written under the parent's raised counter. -/
theorem writeNode_low {s : State} {o : Owner} {x w y : Node} (hports : s.hwy.ports.length = 8) (hlevel : x.level ≤ 1)
    (hw : s.node? x.level x.n = some w) (hy : s.node? (x.level + 1) (x.n / 64) = some y) :
    let t := writeNode o x s
    t.node? x.level x.n = some { w with dirty := false } ∧ t.node? (x.level + 1) (x.n / 64) = some (y.raised (x.n % 64)) ∧
      t.cel.dirty = true ∧ WriteDue (x.n % 8) (s.nodeAddr x.level x.n) o t ∧ t.pan = s.pan ∧ t.ops = s.ops := by
  have hchild : childOf x.level x.n = x.n % 64 := by
    rw [childOf, if_neg (by simp; omega)]
  unfold writeNode
  dsimp only
  rw [hchild]
  obtain ⟨hup, hrest, hpan, hops, hdirty, hbase, hlen⟩ := raiseAt_found (c := x.n % 64) hy (Nat.succ_ne_zero _)
    (by omega)
  generalize raiseAt (x.level + 1) (x.n / 64) (x.n % 64) s = r at *
  have haddr : (modNode x.level x.n (fun z => { z with dirty := false }) r.2).nodeAddr x.level x.n = s.nodeAddr x.level x.n :=
    nodeAddr_of_treeBase hbase ..
  rw [haddr]
  have hbody : ∀ tail : List Byte, x.c.bytes ++ tail ≠ [] := fun tail => by simp [Ctrs.bytes]
  generalize nodeMac _ x.level x.n r.1 x.c.bytes = tag
  have hside := writeReq_aside (x.n % 8) (s.nodeAddr x.level x.n) (x.c.bytes ++ tag) 0 o
    (modNode x.level x.n (fun z => { z with dirty := false }) r.2)
  refine ⟨?_, ?_, (congrArg Cellar.dirty (cel_of_aside hside)).trans hdirty,
    writeDue_writeReq (by rw [show (modNode x.level x.n _ r.2).hwy = r.2.hwy from rfl, hlen, hports]; omega) (hbody tag),
    (pan_of_aside hside).trans hpan, (ops_of_aside hside).trans hops⟩
  · rw [node?_of_lar (lar_of_aside hside), node?_modNode (by exact fun _ => rfl) (by exact fun _ => rfl), if_pos ⟨rfl, rfl⟩,
      hrest _ _ (by omega), hw]
    rfl
  · rw [node?_of_lar (lar_of_aside hside), node?_modNode (by exact fun _ => rfl) (by exact fun _ => rfl), if_neg (by omega), hup]

theorem nodeOut_lru {s : State} {x : Node} (hcached : s.lar.nodes.any s.orphan = false) (hlru : lruNode s = some x)
    (hdirty : x.dirty = true) (hflush : s.lar.flush = none) (hstale : s.lar.stale = false) (hfull : 16384 ≤ s.lar.nodes.length) :
    nodeOut x.level x.n s =
      writeNode (.nodeWb x.level x.n) x (modNode x.level x.n (fun y => { y with wbOut := true }) s) := by
  unfold nodeOut
  rw [hcached, if_neg Bool.false_ne_true, hlru]
  dsimp only
  rw [if_pos (by simp [hdirty, hflush, hstale, hfull])]

/-! ### REAUTHENTICATION -/

/-- An authentication that waits for no child and has left no write ends. -/
theorem reauthDone_ends {s : State} (h : ∀ p ∈ s.hwy.ports, ∀ w ∈ p.wrs ++ p.wrQ, w.owner ≠ .reauth) {level n : Nat} (hl : level < 4)
    : (reauthDone s).node? level n = (s.node? level n).map endRewrap ∧ (reauthDone s).pan = s.pan ∧ (reauthDone s).ops = s.ops := by
  have hnone : s.hwy.ports.any (fun p => p.wrs.any (fun w => w.owner == .reauth && !w.quar) ||
      p.wrQ.any (fun w => w.owner == .reauth)) = false := by
    rw [List.any_eq_false]
    intro p hp
    simp only [Bool.or_eq_true, List.any_eq_true, not_or, not_exists, not_and, Bool.and_eq_true, beq_iff_eq]
    exact ⟨fun w hw ho => absurd ho (h p hp w (List.mem_append_left _ hw)),
      fun w hw => h p hp w (List.mem_append_right _ hw)⟩
  unfold reauthDone
  rw [hnone, if_neg Bool.false_ne_true]
  refine ⟨?_, rfl, rfl⟩
  have hmap := find?_map_same (p := fun x : Node => x.level == level && x.n == n) (g := endRewrap)
    (fun x => by unfold endRewrap; split <;> rfl) (s.lar.nodes.filter (fun x => !(x.level == 4 && x.rewrap)))
  refine hmap.trans (congrArg (Option.map endRewrap) ?_)
  rw [List.find?_filter, State.node?]
  congr 1
  funext x
  by_cases hx : x.level = level
  · have : (x.level == 4) = false := by simp; omega
    simp [this, Bool.beq_eq_decide_eq]
  · simp [hx]

/-- While a child's write is left the authentication goes on. -/
theorem reauthDone_waits {s : State} {n : Nat} {w : Wr} (hn : n < s.hwy.ports.length) (hw : (s.port n).writes w)
    (ho : w.owner = .reauth) (hq : w.quar = false) : reauthDone s = s := by
  obtain ⟨i, hi⟩ := hw
  unfold reauthDone
  rw [if_pos]
  rw [List.any_eq_true]
  refine ⟨s.port n, ?_, ?_⟩
  · rw [State.port, List.getD_eq_getElem _ _ hn]
    exact List.getElem_mem _
  · simp only [Bool.or_eq_true, List.any_eq_true, Bool.and_eq_true, beq_iff_eq, Bool.not_eq_true']
    rcases List.mem_append.1 hi with hi | hi
    · exact .inl ⟨_, hi, ho, hq⟩
    · exact .inr ⟨_, hi, ho⟩

/-- A child that is written again has some byte. -/
theorem rewrapBlob_ne_nil {s : State} {i octr nctr : Nat} {b b' : List Byte} (h : rewrapBlob s i octr nctr b = some b') : b' ≠ [] := by
  unfold rewrapBlob at h
  dsimp only at h
  split at h
  · cases h
  · split at h
    · cases h
      simp [blobHeader]
    · obtain ⟨pt, -, rfl⟩ := Option.map_eq_some_iff.1 h
      simp [wrapBlob, blobHeader]

theorem remacNode_ne_nil {s : State} {level n octr nctr : Nat} {b b' : List Byte} (h : remacNode s level n octr nctr b = some b') :
    b' ≠ [] := by
  unfold remacNode at h
  dsimp only at h
  split at h
  · cases h
    intro hnil
    have hlen := congrArg List.length hnil
    rw [List.length_append, nodeMac_length] at hlen
    exact absurd hlen (Nat.succ_ne_zero _)
  · cases h

/-- The three courses of a re-authentication of a cached node below the root. -/
theorem reauthenticate_eq {s : State} {level n : Nat} {x : Node} {old : Ctrs} (hx : s.node? level n = some x)
    (hold : x.old = some old) (hrewrap : x.rewrap = false) (hl : level < 4) :
    reauthenticate level n s =
      if (childrenDue old).any (fun c => childOut s (childAddr s level n c)) then s
      else if !((childrenDue old).filter (fun c => !childComing s level n c)).isEmpty then
        ((childrenDue old).filter (fun c => !childComing s level n c)).foldl (fun s c => askChild level n c s) s
      else if (childrenDue old).any (fun c => (s.arrived? (.child level n c)).isNone) then s
      else reauthDone (modNode level n (fun y => { y with rewrap := true }) ((childrenDue old).foldl (fun s c =>
        reauthChild level n old x.c c ((s.arrived? (.child level n c)).getD []) (takeArrived (.child level n c) s)) s)) := by
  unfold reauthenticate
  rw [hx]
  dsimp only
  rw [hold]
  dsimp only
  rw [hrewrap, Bool.false_or, if_neg (show ¬ (level == 4) = true by simp; omega)]

theorem childPort_lt (level n c : Nat) : childPort level n c < 8 := by
  unfold childPort
  split <;> exact Nat.mod_lt _ (by decide)

theorem askChild_aside (level n c : Nat) (s : State) : (askChild level n c s).aside = s.aside := readReq_aside ..

theorem askChild_due {level n c : Nat} {s : State} (hports : s.hwy.ports.length = 8) :
    0 < readsLeft (askChild level n c s) (childPort level n c) (fun w => w == .child level n c) :=
  readsLeft_pos_of_readDue (readDue_readReq (hports ▸ childPort_lt ..) (by split <;> decide))

/-- A child as it is written again, under the new counter (R348). -/
def redoneChild (s : State) (level n c : Nat) (old new : Ctrs) (b : List Byte) : Option (List Byte) :=
  if level = 0 then rewrapBlob s (n * 64 + c) ((old.at c).getD 0) ((new.at c).getD 0) b
  else remacNode s (level - 1) (n * 64 + c) ((old.at c).getD 0) ((new.at c).getD 0) b

theorem redoneChild_ne_nil {s : State} {level n c : Nat} {old new : Ctrs} {b b' : List Byte}
    (h : redoneChild s level n c old new b = some b') : b' ≠ [] := by
  unfold redoneChild at h
  split at h
  · exact rewrapBlob_ne_nil h
  · exact remacNode_ne_nil h

theorem reauthChild_sound {s : State} {level n c : Nat} {old new : Ctrs} {b b' : List Byte} (hl : level < 4)
    (h : redoneChild s level n c old new b = some b') :
    reauthChild level n old new c b s = writeReq (childPort level n c) (childAddr s level n c) b' 0 .reauth s := by
  unfold reauthChild
  dsimp only
  rw [if_neg (show ¬ (level == 4) = true by simp; omega)]
  unfold redoneChild at h
  simp only [beq_iff_eq]
  rw [h]

/-- The only child that is due is asked for. -/
theorem reauthenticate_asks {s : State} {level n c : Nat} {x : Node} {old : Ctrs} (hx : s.node? level n = some x)
    (hold : x.old = some old) (hrewrap : x.rewrap = false) (hl : level < 4) (hdue : childrenDue old = [c])
    (hout : childOut s (childAddr s level n c) = false) (hcoming : childComing s level n c = false) :
    reauthenticate level n s = askChild level n c s := by
  rw [reauthenticate_eq hx hold hrewrap hl, hdue]
  simp [hout, hcoming]

/-- The only child that is due has arrived and is sound: it is written again. -/
theorem reauthenticate_redoes {s : State} {level n c : Nat} {x : Node} {old : Ctrs} {b b' : List Byte}
    (hx : s.node? level n = some x) (hold : x.old = some old) (hrewrap : x.rewrap = false) (hl : level < 4)
    (hdue : childrenDue old = [c]) (hout : childOut s (childAddr s level n c) = false)
    (harr : s.arrived? (.child level n c) = some b) (hredo : redoneChild s level n c old x.c b = some b') :
    reauthenticate level n s = reauthDone (modNode level n (fun y => { y with rewrap := true })
      (writeReq (childPort level n c) (childAddr s level n c) b' 0 .reauth (takeArrived (.child level n c) s))) := by
  have hcoming : childComing s level n c = true := by simp [childComing, harr]
  have hredo' : redoneChild (takeArrived (.child level n c) s) level n c old x.c b = some b' := hredo
  rw [reauthenticate_eq hx hold hrewrap hl, hdue, List.foldl_cons, List.foldl_nil, harr, Option.getD_some,
    reauthChild_sound hl hredo', if_neg (by simp [hout]), if_neg (by simp [hcoming]), if_neg (by simp [harr])]
  rfl

/-- Settles O41: the acknowledged victim, the node that leaves a full cache, and the three courses of a re-authentication. -/
theorem larderWrites : Obligations.LarderWrites := by
  have hexec : ∀ {s : State}, s.unitsRun = true → ∀ level n,
      exec (.reauthentication level n) s = .next (finish (redispatch (reauthenticate level n s))) :=
    fun hrun _ _ => congrArg Host.Outcome.next (if_pos hrun)
  refine ⟨fun s index n x d hrun harr hslot hkeep hfree => ?_,
    fun s x y hinv hrun horphan hlru hx hdirty hflush hstale hfull hy => ?_,
    fun s level n x old hinv hrun hl hx hold hrewrap => ⟨fun hdue hnone => ?_, fun c hdue hout hcoming => ?_,
      fun c b b' hdue hout harr hredo => ?_⟩⟩
  · have hexec : exec (.victimWritebackAck index) s = .next (finish (redispatch (victimAck index s))) :=
      congrArg Host.Outcome.next (if_pos hrun)
    have haside : (addCounter 0 69 1 (takeArrived (.victim index) s)).aside = s.aside :=
      (addCounter_aside ..).trans (takeArrived_aside ..)
    refine ⟨_, hexec, ?_⟩
    rw [victimAck_unwanted harr hslot hfree]
    have hslot' : (addCounter 0 69 1 (takeArrived (.victim index) s)).slotOf index = some (n, x) := by
      rw [State.slotOf, pan_of_aside haside, ← State.slotOf, hslot]
    have hwritten := slotOf_modCtx_same (f := fun x => { x with evicting := false, dirty := false }) (by exact fun _ => rfl) (by exact fun _ => rfl) hslot'
    rw [slotWritten_kept hwritten (by
      refine hkeep.imp id fun h => ?_
      unfold retireDue State.refs at h ⊢
      rw [modCtx, mapSlots_ops, ops_of_aside haside]
      exact h)]
    refine ⟨hwritten, fun p hp hi => ?_, (rings_of_aside haside :), (cel_of_aside haside :)⟩
    rw [← pan_of_aside haside] at hp
    exact mem_slots_modCtx (f := fun x => { x with evicting := false, dirty := false }) hp hi
  · have hexec : exec (.nodeWriteback x.level x.n) s = .next (finish (nodeOut x.level x.n s)) :=
      congrArg Host.Outcome.next (if_pos hrun)
    obtain ⟨hports, -⟩ := hinv
    have hlevel := evictable_level (lruNode_evictable hlru)
    have hself : (modNode x.level x.n (fun y => { y with wbOut := true }) s).node? x.level x.n = some { x with wbOut := true } := by
      rw [node?_modNode (by exact fun _ => rfl) (by exact fun _ => rfl), if_pos ⟨rfl, rfl⟩, hx]
      rfl
    have hparent : (modNode x.level x.n (fun y => { y with wbOut := true }) s).node? (x.level + 1) (x.n / 64) = some y := by
      rw [node?_modNode (by exact fun _ => rfl) (by exact fun _ => rfl), if_neg (by omega), hy]
    obtain ⟨hnode, hup, hcel, hdue, hpan, hops⟩ := writeNode_low
      (s := modNode x.level x.n (fun y => { y with wbOut := true }) s) (o := .nodeWb x.level x.n) hports hlevel hself hparent
    rw [← nodeOut_lru horphan hlru hdirty hflush hstale hfull] at hnode hup hcel hdue hpan hops
    exact ⟨_, _, hexec, hnode, hup, rfl, rfl, hcel, hdue, hpan, hops⟩
  · have heq := reauthenticate_eq hx hold hrewrap hl
    rw [hdue] at heq
    obtain ⟨hnode, hpan, hops⟩ := reauthDone_ends (s := modNode level n (fun y => { y with rewrap := true }) s) hnone (n := n) hl
    refine ⟨_, (hexec hrun level n).trans (by rw [heq]; rfl), hnode.trans ?_, hpan, hops⟩
    rw [node?_modNode (by exact fun _ => rfl) (by exact fun _ => rfl), if_pos ⟨rfl, rfl⟩, hx]
    exact congrArg (fun r => some { x with old := none, rewrap := r }) hrewrap.symm
  · have haside := askChild_aside level n c s
    exact ⟨_, (hexec hrun level n).trans (by rw [reauthenticate_asks hx hold hrewrap hl hdue hout hcoming]),
      askChild_due hinv.1, lar_of_aside haside, pan_of_aside haside, ops_of_aside haside⟩
  · have hredo' : redoneChild s level n c old x.c b = some b' := hredo
    have hlt : childPort level n c < (takeArrived (.child level n c) s).hwy.ports.length :=
      Nat.lt_of_lt_of_eq (childPort_lt ..) hinv.1.symm
    set v := writeReq (childPort level n c) (childAddr s level n c) b' 0 .reauth (takeArrived (.child level n c) s) with hv
    have hlt' : childPort level n c < v.hwy.ports.length := (ports_length_of_halts (writeReq_halts ..)).symm ▸ hlt
    have hside : v.aside = s.aside := (writeReq_aside ..).trans (takeArrived_aside ..)
    obtain ⟨w, hw, howner, -, hquar⟩ := writeReq_writes (addr := childAddr s level n c) (tag := 0) (o := .reauth) hlt
      (redoneChild_ne_nil hredo')
    have hdone := reauthenticate_redoes hx hold hrewrap hl hdue hout harr hredo'
    rw [reauthDone_waits (s := modNode level n _ v) hlt' hw howner hquar] at hdone
    refine ⟨_, hexec hrun level n, ?_⟩
    rw [hdone]
    refine ⟨?_, writeDue_writeReq hlt (redoneChild_ne_nil hredo'), (pan_of_aside hside :), (ops_of_aside hside :)⟩
    rw [node?_modNode (by exact fun _ => rfl) (by exact fun _ => rfl), if_pos ⟨rfl, rfl⟩, node?_of_lar (lar_of_aside hside), hx]
    rfl

end Sys2Proof.Machine
end

section
/-!
PROOFS. The path of an index in the node cache (R350): what a walk leaves alone, whatever it meets, and what it does when every
node of the path is cached.
-/

namespace Sys2Proof.Machine

/-! ### Whatever a walk meets -/

/-- The firmware record, whether the Study takes packets, the transaction, and bring-up. -/
def State.image (s : State) : Fw × Bool × Txn × Boot := (s.fw, s.study.cmdRdy, s.txn, s.boot)

theorem image_of_aside {s t : State} (h : t.aside = s.aside) : t.image = s.image := by
  rw [State.image, fw_of_aside h, study_of_aside h, txn_of_aside h, boot_of_aside h, State.image]

/-- The operations, the eviction tokens, and the record of the image. -/
def State.held (s : State) : List Op × Nat × Fw × Bool × Txn × Boot := (s.ops, s.lar.tokens, s.image)

theorem held_of_aside {s t : State} (h : t.aside = s.aside) : t.held = s.held := by
  rw [State.held, ops_of_aside h, lar_of_aside h, image_of_aside h, State.held]

theorem ops_of_held {s t : State} (h : t.held = s.held) : t.ops = s.ops := (congrArg Prod.fst h :)

theorem tokens_of_held {s t : State} (h : t.held = s.held) : t.lar.tokens = s.lar.tokens := (congrArg (fun p => p.2.1) h :)

theorem image_of_held {s t : State} (h : t.held = s.held) : t.image = s.image := (congrArg (fun p => p.2.2) h :)

theorem nodeRoom_held {level n : Nat} {s t : State} (h : nodeRoom level n s = some t) : t.held = s.held := by
  unfold nodeRoom at h
  split at h
  · cases h; rfl
  · split at h
    · split at h
      · cases h
      · cases h; rfl
    · cases h

theorem cacheNode_held (level n : Nat) (c : Ctrs) (s : State) : (cacheNode level n c s).held = s.held := by
  unfold cacheNode
  split
  · rfl
  · split
    · next t ht => exact (nodeRoom_held ht :)
    · rfl

theorem askNode_aside (level n : Nat) (s : State) : (askNode level n s).aside = s.aside := by
  unfold askNode
  split
  · rfl
  · exact readReq_aside ..

theorem ensurePath_held (i k : Nat) (s : State) : (ensurePath i k s).2.held = s.held := by
  induction k generalizing s with
  | zero => rfl
  | succ k ih =>
    unfold ensurePath
    dsimp only
    split
    · exact ih _
    · split
      · split
        · exact cacheNode_held ..
        · exact (ih _).trans (cacheNode_held ..)
      · dsimp only
        split
        · exact held_of_aside (askNode_aside ..)
        · rfl

theorem eccRead_held (code : Nat) (s : State) : (eccRead code s).2.held = s.held := by
  unfold eccRead
  split
  · dsimp only
    split <;> rfl
  · split
    · split <;> rfl
    · rfl

theorem readPath_held (i k : Nat) (s : State) : (readPath i k s).2.held = s.held := by
  induction k generalizing s with
  | zero => rfl
  | succ k ih =>
    unfold readPath
    have hread := eccRead_held 3 s
    generalize eccRead 3 s = r at hread ⊢
    dsimp only
    split
    · exact (ih _).trans hread
    · split
      · split
        · exact hread
        · exact (ensurePath_held ..).trans hread
      · exact hread

theorem path_held (i : Nat) (s : State) : (path i s).2.held = s.held := by
  unfold path
  have hwalk := ensurePath_held i 4 s
  generalize ensurePath i 4 s = r at hwalk ⊢
  dsimp only
  split
  · exact (readPath_held ..).trans hwalk
  · exact hwalk

theorem dropChildReads_held (level n : Nat) (s : State) : (dropChildReads level n s).held = s.held := by
  unfold dropChildReads
  dsimp only
  split <;> rfl

theorem raiseAt_held (level n c : Nat) (s : State) : (raiseAt level n c s).2.held = s.held := by
  unfold raiseAt
  split
  · dsimp only
    split
    · exact dropChildReads_held 4 0 (holdRoot s.cel.treeRoot s)
    · rfl
  · split
    · rfl
    · dsimp only
      split
      · exact dropChildReads_held level n s
      · rfl

theorem writeVictim_held (x : Slot) (s : State) : (writeVictim x s).held = s.held := by
  unfold writeVictim
  exact (held_of_aside (writeReq_aside ..)).trans (raiseAt_held 0 (x.index / 64) (x.index % 64) s)

theorem readSlotWord_held (index : Nat) {k : State → State} (hk : ∀ s, (k s).held = s.held) (s : State) :
    (readSlotWord index k s).held = s.held := by
  unfold readSlotWord
  have hread := eccRead_held 1 s
  generalize eccRead 1 s = r at hread ⊢
  dsimp only
  split
  · exact hread
  · exact (hk _).trans hread

/-! ### A cached path -/

/-- A node but for its place in the order of use. -/
def Node.unaged (x : Node) : Node := { x with lru := 0 }

/-- The state with other nodes in the cache. -/
def State.withNodes (ns : List Node) (s : State) : State := { s with lar := { s.lar with nodes := ns } }

/-- A search for a node finds the same one, but for its place in the order of use. -/
theorem find?_unaged {ns l : List Node} (h : ns.map Node.unaged = l.map Node.unaged) (level n : Nat) :
    (ns.find? (fun x => x.level == level && x.n == n)).map Node.unaged =
      (l.find? (fun x => x.level == level && x.n == n)).map Node.unaged := by
  have hmap := fun l : List Node =>
    find?_map_same (p := fun x : Node => x.level == level && x.n == n) (g := Node.unaged) (fun _ => rfl) l
  rw [← hmap, h, hmap]

theorem node?_withNodes_unaged {ns : List Node} {s : State} (h : ns.map Node.unaged = s.lar.nodes.map Node.unaged)
    (level n : Nat) : ((s.withNodes ns).node? level n).map Node.unaged = (s.node? level n).map Node.unaged :=
  find?_unaged h level n

theorem leafCtr_withNodes {ns : List Node} {s : State} (h : ns.map Node.unaged = s.lar.nodes.map Node.unaged) (i : Nat) :
    leafCtr (s.withNodes ns) i = leafCtr s i := by
  have hbind : ∀ t : State, leafCtr t i = ((t.node? 0 (i / 64)).map Node.unaged).bind (fun x => x.c.at (i % 64)) := fun t => by
    rw [leafCtr]
    cases t.node? 0 (i / 64) <;> rfl
  rw [hbind, node?_withNodes_unaged h, ← hbind]

theorem ensurePath_cached {i k : Nat} {s : State} (h : ∀ j, j < k → (s.node? j (pathNode i j)).isSome = true) :
    ∃ ns, ensurePath i k s = (true, s.withNodes ns) ∧ ns.map Node.unaged = s.lar.nodes.map Node.unaged := by
  induction k generalizing s with
  | zero => exact ⟨s.lar.nodes, rfl, rfl⟩
  | succ k ih =>
    obtain ⟨x, hx⟩ := Option.isSome_iff_exists.1 (h k (Nat.lt_succ_self k))
    set u := modNode k (pathNode i k) (fun z => { z with lru := s.lruNext }) s with hu
    have haged : u.lar.nodes.map Node.unaged = s.lar.nodes.map Node.unaged := by
      show List.map Node.unaged (List.map _ s.lar.nodes) = _
      rw [List.map_map]
      refine List.map_congr_left fun y _ => ?_
      dsimp only [Function.comp]
      split <;> rfl
    obtain ⟨ns, hns, hsame⟩ := ih (s := u) fun j hj => by
      have hj' := h j (Nat.lt_succ_of_lt hj)
      have hfind : (u.node? j (pathNode i j)).map Node.unaged = (s.node? j (pathNode i j)).map Node.unaged :=
        find?_unaged haged j (pathNode i j)
      have := congrArg Option.isSome hfind
      rwa [Option.isSome_map, Option.isSome_map, hj'] at this
    refine ⟨ns, ?_, hsame.trans haged⟩
    unfold ensurePath
    dsimp only
    rw [hx]
    exact hns

theorem eccRead_sound {s : State} (h : Sound s) (code : Nat) : eccRead code s = (false, s) := by
  obtain ⟨harmed, hupsets⟩ := h
  unfold eccRead
  rw [hupsets, List.find?_nil]
  dsimp only
  rw [State.injected, State.armed?, harmed, List.find?_nil]
  rfl

theorem readPath_sound {s : State} (h : Sound s) (i k : Nat) : readPath i k s = (true, s) := by
  induction k with
  | zero => rfl
  | succ k ih =>
    unfold readPath
    rw [eccRead_sound h]
    exact ih

/-- A walk down a cached path changes the order of use alone. -/
theorem path_cached {i : Nat} {s : State} (h : PathCached i s) :
    ∃ ns, path i s = (true, s.withNodes ns) ∧ ns.map Node.unaged = s.lar.nodes.map Node.unaged := by
  obtain ⟨hnodes, -, -, hsound⟩ := h
  obtain ⟨ns, hns, hsame⟩ := ensurePath_cached (k := 4) hnodes
  refine ⟨ns, ?_, hsame⟩
  unfold path
  rw [hns]
  exact readPath_sound (s := s.withNodes ns) hsound i 4

end Sys2Proof.Machine
end

section
/-!
PROOFS. Places in the Pantry (R16 to R18, R363 to R366): free numbers, the slot that a context takes, the victim, and the place of
a verified context.
-/

namespace Sys2Proof.Machine

/-! ### Free numbers and tables -/

/-- Fewer numbers in use than there are leave a number that is free. -/
theorem lowestFree_free {limit : Nat} {used : List Nat} (h : used.length < limit) :
    (lowestFree limit used).getD 0 ∉ used := by
  unfold lowestFree
  cases hfind : (List.range (used.length + 1)).find? (fun n => !used.contains n) with
  | none =>
    have hall : List.range (used.length + 1) ⊆ used := fun n hn => by
      simpa using List.find?_eq_none.1 hfind n hn
    have hle := (List.subperm_of_subset List.nodup_range hall).length_le
    rw [List.length_range] at hle
    exact absurd hle (Nat.not_succ_le_self _)
  | some n =>
    have hn : n < limit := Nat.lt_of_lt_of_le (List.mem_range.1 (List.mem_of_find?_eq_some hfind)) h
    dsimp only
    rw [if_pos hn, Option.getD_some]
    simpa using List.find?_some hfind

theorem tget_eq_none {α : Type} {k : Nat} {l : List (Nat × α)} (h : k ∉ l.map (·.1)) : tget k l = none := by
  induction l with
  | nil => rfl
  | cons p t ih =>
    rw [List.map_cons, List.mem_cons, not_or] at h
    rw [tget, if_neg (by simpa using Ne.symm h.1)]
    exact ih h.2

/-- An entry of a table stays when another key is set. -/
theorem mem_tset_other {α : Type} {k : Nat} {v : α} {p : Nat × α} {l : List (Nat × α)} (hp : p ∈ l) (hk : p.1 ≠ k) :
    p ∈ tset k v l := by
  induction l with
  | nil => cases hp
  | cons q t ih =>
    unfold tset
    split
    · rcases List.mem_cons.1 hp with rfl | hp
      · exact List.mem_cons_self
      · exact List.mem_cons_of_mem _ (ih hp)
    · split
      · next hq =>
        rcases List.mem_cons.1 hp with rfl | hp
        · exact absurd (by simpa using hq) hk
        · exact List.mem_cons_of_mem _ hp
      · exact List.mem_cons_of_mem _ hp

theorem length_tset_le {α : Type} (k : Nat) (v : α) (l : List (Nat × α)) : (tset k v l).length ≤ l.length + 1 := by
  induction l with
  | nil => exact Nat.le_refl _
  | cons q t ih =>
    unfold tset
    split
    · exact Nat.succ_le_succ ih
    · split <;> simp

theorem mem_keys_tset {α : Type} (k : Nat) (v : α) (l : List (Nat × α)) : k ∈ (tset k v l).map (·.1) := by
  by_contra h
  have hnone := tget_eq_none h
  rw [tget_tset_same] at hnone
  cases hnone

/-! ### The slot that a context takes -/

theorem installSlot_frame (x : Slot) (map : BitVec 1024) (s : State) :
    ∃ slots, installSlot x map s = { s with pan := { s.pan with slots := slots } } := by
  unfold installSlot
  dsimp only
  split
  · exact ⟨_, rfl⟩
  · exact ⟨_, rfl⟩

/-- A context with room takes a free slot with the STAMP of the round, and leaves every other slot. -/
theorem installSlot_takes {x : Slot} {map : BitVec 1024} {s : State}
    (hroom : s.pan.slots.length + (if x.wide then 2 else 1) ≤ s.build.slots) :
    ∃ n a, tget n s.pan.slots = none ∧
      tget n (installSlot x map s).pan.slots = some { x with stamp := s.roundStamp, f120 := a } ∧
      (x.wide = false → ∀ p ∈ s.pan.slots, p ∈ (installSlot x map s).pan.slots) := by
  set n := (lowestFree s.build.slots (s.pan.slots.map (·.1))).getD 0 with hn
  have hfree : n ∉ s.pan.slots.map (·.1) := lowestFree_free (by rw [List.length_map]; split at hroom <;> omega)
  unfold installSlot
  dsimp only
  rw [← hn]
  by_cases hwide : x.wide = true
  · rw [if_pos hwide] at hroom
    rw [if_pos (show Slot.wide { x with stamp := s.roundStamp } = true from hwide)]
    set y : Slot := { x with stamp := s.roundStamp } with hy
    set m := (lowestFree s.build.slots ((tset n y s.pan.slots).map (·.1))).getD 0 with hm
    have hother : n ≠ m := fun h => by
      have hmfree : m ∉ (tset n y s.pan.slots).map (·.1) :=
        lowestFree_free (by rw [List.length_map]; exact Nat.lt_of_le_of_lt (length_tset_le ..) (by omega))
      exact hmfree (h ▸ mem_keys_tset n y s.pan.slots)
    refine ⟨n, m, tget_eq_none hfree, ?_, fun h => absurd hwide (by rw [h]; exact Bool.false_ne_true)⟩
    rw [tget_tset_other hother, tget_tset_same]
  · rw [if_neg (show ¬ Slot.wide { x with stamp := s.roundStamp } = true from hwide)]
    refine ⟨n, x.f120, tget_eq_none hfree, tget_tset_same .., fun _ p hp => mem_tset_other hp fun h => ?_⟩
    exact hfree (h ▸ List.mem_map_of_mem hp)

/-! ### The victim -/

/-- The older one of a slot chosen so far and another slot. -/
def elder (age : Slot → Nat) (m : Option (Nat × Nat)) (p : Nat × Slot) : Option (Nat × Nat) :=
  match m with
  | none => some (p.1, age p.2)
  | some (n, a) => if age p.2 > a then some (p.1, age p.2) else some (n, a)

/-- The slots from which the victim is chosen. -/
def victims (s : State) : List (Nat × Slot) :=
  s.pan.slots.filter (fun p => victimOk s p.2 && !s.lar.fetches.any (fun f => f.victim == some p.1))

theorem chooseVictim_eq (s : State) :
    chooseVictim s = ((victims s).foldl (elder (fun x => s.roundStamp - x.stamp)) none).map (·.1) := rfl

theorem mem_victims {s : State} {p : Nat × Slot} :
    p ∈ victims s ↔ p ∈ s.pan.slots ∧ victimOk s p.2 = true ∧ ∀ f ∈ s.lar.fetches, f.victim ≠ some p.1 := by
  simp [victims, List.mem_filter]

/-- The fold over slots gives one of them, none of which is older. -/
theorem foldl_elder (age : Slot → Nat) (l : List (Nat × Slot)) (n a : Nat) :
    ∃ k b, l.foldl (elder age) (some (n, a)) = some (k, b) ∧ a ≤ b ∧ (∀ p ∈ l, age p.2 ≤ b) ∧
      ((k, b) = (n, a) ∨ ∃ x, (k, x) ∈ l ∧ b = age x) := by
  induction l generalizing n a with
  | nil => exact ⟨n, a, rfl, Nat.le_refl a, fun p hp => absurd hp List.not_mem_nil, .inl rfl⟩
  | cons q t ih =>
    rw [List.foldl_cons]
    by_cases hq : age q.2 > a
    · rw [show elder age (some (n, a)) q = some (q.1, age q.2) from if_pos hq]
      obtain ⟨k, b, hfold, hle, hall, hfrom⟩ := ih q.1 (age q.2)
      refine ⟨k, b, hfold, Nat.le_trans (Nat.le_of_lt hq) hle, fun p hp => ?_, .inr ?_⟩
      · rcases List.mem_cons.1 hp with rfl | hp
        · exact hle
        · exact hall p hp
      · rcases hfrom with h | ⟨x, hx, hb⟩
        · obtain ⟨rfl, rfl⟩ := Prod.mk.inj h
          exact ⟨q.2, List.mem_cons_self, rfl⟩
        · exact ⟨x, List.mem_cons_of_mem _ hx, hb⟩
    · rw [show elder age (some (n, a)) q = some (n, a) from if_neg hq]
      obtain ⟨k, b, hfold, hle, hall, hfrom⟩ := ih n a
      refine ⟨k, b, hfold, hle, fun p hp => ?_, hfrom.imp id fun ⟨x, hx, hb⟩ => ⟨x, List.mem_cons_of_mem _ hx, hb⟩⟩
      rcases List.mem_cons.1 hp with rfl | hp
      · exact Nat.le_trans (Nat.le_of_not_gt hq) hle
      · exact hall p hp

theorem chooseVictim_some {s : State} {v : Nat} (h : chooseVictim s = some v) :
    ∃ x, (v, x) ∈ victims s ∧ ∀ p ∈ victims s, s.roundStamp - p.2.stamp ≤ s.roundStamp - x.stamp := by
  rw [chooseVictim_eq] at h
  cases hl : victims s with
  | nil => rw [hl] at h; cases h
  | cons q t =>
    rw [hl, List.foldl_cons] at h
    obtain ⟨k, b, hfold, hle, hall, hfrom⟩ := foldl_elder (fun x => s.roundStamp - x.stamp) t q.1 (s.roundStamp - q.2.stamp)
    have hv : some k = some v := (congrArg (Option.map Prod.fst) hfold).symm.trans h
    obtain rfl := Option.some.inj hv
    have hmax : ∀ p ∈ q :: t, s.roundStamp - p.2.stamp ≤ b := fun p hp => by
      rcases List.mem_cons.1 hp with rfl | hp
      · exact hle
      · exact hall p hp
    rcases hfrom with heq | ⟨x, hx, hb⟩
    · obtain ⟨rfl, rfl⟩ := Prod.mk.inj heq
      exact ⟨q.2, List.mem_cons_self, hmax⟩
    · exact ⟨x, List.mem_cons_of_mem _ hx, hb ▸ hmax⟩

theorem chooseVictim_none {s : State} (h : chooseVictim s = none) : victims s = [] := by
  rw [chooseVictim_eq] at h
  cases hl : victims s with
  | nil => rfl
  | cons q t =>
    rw [hl, List.foldl_cons] at h
    obtain ⟨k, b, hfold, -⟩ := foldl_elder (fun x => s.roundStamp - x.stamp) t q.1 (s.roundStamp - q.2.stamp)
    cases (congrArg (Option.map Prod.fst) hfold).symm.trans h

theorem victimOk_iff {s : State} {x : Slot} : victimOk s x = true ↔
    x.state = .live ∧ polPinned x.policy = false ∧ x.noVictim = false ∧ x.evicting = false ∧ s.refs x.index = 0 := by
  simp [victimOk, and_assoc]

end Sys2Proof.Machine
end

section
/-!
PROOFS. The place of a verified context (R18, R261, R364): room, a clean victim, a dirty victim.
-/

namespace Sys2Proof.Machine

/-! ### Fetches -/

theorem find?_modFetch {g : Fetch → Fetch} {index : Nat} {f : Fetch} {s : State} (hg : (g f).index = f.index)
    (hf : s.lar.fetches.find? (fun f => f.index == index) = some f) :
    (modFetch index g s).lar.fetches.find? (fun f => f.index == index) = some (g f) := by
  have hindex : f.index = index := by simpa using List.find?_some hf
  show (s.lar.fetches.map (fun x => if x.index == index then g x else x)).find? _ = _
  generalize s.lar.fetches = l at hf
  induction l with
  | nil => cases hf
  | cons a t ih =>
    by_cases ha : a.index = index
    · rw [List.find?_cons_of_pos (by simpa using ha)] at hf
      obtain rfl := Option.some.inj hf
      rw [List.map_cons, if_pos (by simpa using ha), List.find?_cons_of_pos (by simp [hg, ha])]
    · rw [List.find?_cons_of_neg (by simpa using ha)] at hf
      rw [List.map_cons, if_neg (by simpa using ha), List.find?_cons_of_neg (by simpa using ha)]
      exact ih hf

theorem dropFetch_none (index : Nat) (s : State) : ∀ g ∈ (dropFetch index s).lar.fetches, g.index ≠ index := fun g hg => by
  simpa using List.of_mem_filter hg

/-! ### The courses of `placeFetch` -/

section
variable {s : State} {index : Nat} {f : Fetch} {x : Slot} (hf : s.lar.fetches.find? (fun f => f.index == index) = some f)
  (hinc : f.inc = some x)
include hf hinc

theorem placeFetch_room (k : Nat) (hroom : s.pan.slots.length + (if x.wide then 2 else 1) ≤ s.build.slots) :
    placeFetch index (k + 1) s =
      (true, installSlot x (if f.incMap then BitVec.allOnes 1024 else 0) (dropFetch index s)) := by
  conv_lhs => unfold placeFetch
  rw [hf]
  dsimp only
  rw [hinc]
  dsimp only
  rw [if_pos hroom]

variable (hfull : ¬ s.pan.slots.length + (if x.wide then 2 else 1) ≤ s.build.slots)
include hfull

/-- Without a token, or without a victim, the context waits. -/
theorem placeFetch_waits (k : Nat) (hvictim : f.victim = none) (htoken : f.token = false)
    (hnone : s.lar.tokens = 0 ∨ chooseVictim s = none) : placeFetch index (k + 1) s = (false, s) := by
  conv_lhs => unfold placeFetch
  rw [hf]
  dsimp only
  rw [hinc]
  dsimp only
  rw [if_neg hfull, hvictim]
  dsimp only
  split
  · rfl
  · next htokens =>
    rcases hnone with h | h
    · exact absurd (by simp [htoken, h]) htokens
    · rw [h]

/-- A token is spent on a victim. -/
theorem placeFetch_spends (k : Nat) {v : Nat} (hvictim : f.victim = none) (htoken : f.token = false)
    (htokens : 0 < s.lar.tokens) (hchoose : chooseVictim s = some v) :
    placeFetch index (k + 1) s = placeFetch index k (modFetch index (fun y => { y with victim := some v, token := true })
      { s with lar := { s.lar with tokens := s.lar.tokens - 1 } }) := by
  conv_lhs => unfold placeFetch
  rw [hf]
  dsimp only
  rw [hinc]
  dsimp only
  rw [if_neg hfull, hvictim]
  dsimp only
  rw [if_neg (by simp [htoken]; omega), hchoose]
  dsimp only
  rw [htoken, if_neg Bool.false_ne_true]

/-- What becomes of a dirty victim: it is written back once its path is cached. -/
def writeOut (y : Slot) (s : State) : State :=
  if pathBusy s y.index then s
  else
    let r := path y.index s
    if r.1 then readSlotWord y.index (writeVictim y) r.2 else r.2

/-- The course of a context that has its victim. -/
theorem placeFetch_victim (k : Nat) {v : Nat} {y : Slot} (hvictim : f.victim = some v) (hy : tget v s.pan.slots = some y)
    (hok : victimOk s y = true) : placeFetch index (k + 1) s =
      if y.dirty then (false, writeOut y s)
      else placeFetch index k (keepSlots (fun n _ => n != v) (modFetch index (fun z => { z with victim := none, token := false }) s)) := by
  obtain ⟨-, -, -, hevicting, -⟩ := victimOk_iff.1 hok
  conv_lhs => unfold placeFetch
  rw [hf]
  dsimp only
  rw [hinc]
  dsimp only
  rw [if_neg hfull, hvictim]
  dsimp only
  rw [hy]
  dsimp only
  rw [hevicting, hok, if_neg Bool.false_ne_true, if_neg (by decide)]
  cases y.dirty with
  | false => rw [if_pos (by decide), if_neg Bool.false_ne_true]
  | true =>
    rw [if_neg (by decide), if_pos rfl, writeOut]
    split
    · rfl
    · exact (apply_ite (Prod.mk false) _ _ _).symm

end

theorem writeOut_held (y : Slot) (s : State) : (writeOut y s).held = s.held := by
  unfold writeOut
  split
  · rfl
  · dsimp only
    split
    · exact (readSlotWord_held _ (writeVictim_held y) _).trans (path_held ..)
    · exact path_held ..

/-! ### The write-back of a victim whose path is cached -/

theorem dropChildReads_larder (level n : Nat) (s : State) :
    (dropChildReads level n s).pan = s.pan ∧ (dropChildReads level n s).lar.blobBase = s.lar.blobBase ∧
      (dropChildReads level n s).hwy.ports.length = s.hwy.ports.length := by
  unfold dropChildReads
  dsimp only
  split
  · exact ⟨rfl, rfl, List.length_map ..⟩
  · exact ⟨rfl, rfl, List.length_map ..⟩

theorem raiseAt_leaf {s : State} {n : Nat} {y : Node} (hy : s.node? 0 n = some y) (c : Nat) :
    let t := (raiseAt 0 n c s).2
    t.pan = s.pan ∧ t.cel.dirty = true ∧ t.lar.blobBase = s.lar.blobBase ∧ t.hwy.ports.length = s.hwy.ports.length := by
  unfold raiseAt
  rw [if_neg (by decide), hy]
  dsimp only
  split
  · obtain ⟨hpan, hbase, hports⟩ := dropChildReads_larder 0 n s
    exact ⟨hpan, rfl, hbase, hports⟩
  · exact ⟨rfl, rfl, rfl, rfl⟩

theorem wrapBlob_ne_nil {s : State} {seed : List Byte} {state owner seedId ctr serial i : Nat} {pt : List Byte} :
    wrapBlob s seed state owner seedId ctr serial i pt ≠ [] := by
  simp [wrapBlob, blobHeader]

theorem writeVictim_leaf {s : State} {x : Slot} {y : Node} (hports : s.hwy.ports.length = 8)
    (hy : s.node? 0 (x.index / 64) = some y) :
    (writeVictim x s).pan.slots = s.pan.slots.map (fun p =>
        (p.1, if p.2.index = x.index ∧ p.2.state ≠ .companion then { p.2 with evicting := true } else p.2)) ∧
      WriteDue (x.index / 64 % 8) (s.blobAddr x.index) (.victim x.index) (writeVictim x s) ∧ (writeVictim x s).cel.dirty = true := by
  obtain ⟨hpan, hdirty, hbase, hlen⟩ := raiseAt_leaf hy (x.index % 64)
  unfold writeVictim
  dsimp only
  generalize raiseAt 0 (x.index / 64) (x.index % 64) s = r at *
  set u := modCtx x.index (fun y => { y with evicting := true }) r.2 with hu
  have haddr : u.blobAddr x.index = s.blobAddr x.index := by
    rw [State.blobAddr, State.blobAddr, ← hbase]
    rfl
  rw [haddr]
  have hside := writeReq_aside (x.index / 64 % 8) (s.blobAddr x.index)
    (wrapBlob u (r.2.inst x.owner).kek.seed 1 x.owner x.seedId r.1 x.serial x.index x.plain) 0 (.victim x.index) u
  refine ⟨?_, writeDue_writeReq (by rw [show u.hwy = r.2.hwy from rfl, hlen, hports]; omega) wrapBlob_ne_nil,
    (congrArg Cellar.dirty (cel_of_aside hside)).trans hdirty⟩
  rw [show (writeReq _ _ _ 0 _ u).pan = u.pan from pan_of_aside hside, ← hpan]
  simp [hu, modCtx, mapSlots]

theorem writeOut_cached {s : State} {y : Slot} (hports : s.hwy.ports.length = 8) (hpath : PathCached y.index s) :
    (writeOut y s).pan.slots = s.pan.slots.map (fun p =>
        (p.1, if p.2.index = y.index ∧ p.2.state ≠ .companion then { p.2 with evicting := true } else p.2)) ∧
      WriteDue (y.index / 64 % 8) (s.blobAddr y.index) (.victim y.index) (writeOut y s) ∧ (writeOut y s).cel.dirty = true := by
  obtain ⟨ns, hwalk, hsame⟩ := path_cached hpath
  obtain ⟨hnodes, hbusy, -, hsound⟩ := hpath
  have hleaf : (s.node? 0 (y.index / 64)).isSome = true := by simpa [pathNode] using hnodes 0 (by decide)
  have hleaf' : ((s.withNodes ns).node? 0 (y.index / 64)).isSome = true := by
    have hfind := congrArg Option.isSome (node?_withNodes_unaged hsame 0 (y.index / 64))
    rwa [Option.isSome_map, Option.isSome_map, hleaf] at hfind
  obtain ⟨z, hz⟩ := Option.isSome_iff_exists.1 hleaf'
  have hout : writeOut y s = writeVictim y (s.withNodes ns) := by
    unfold writeOut
    rw [hbusy, if_neg Bool.false_ne_true, hwalk]
    dsimp only
    rw [if_pos rfl, readSlotWord, eccRead_sound (s := s.withNodes ns) hsound]
    rfl
  rw [hout]
  exact writeVictim_leaf (s := s.withNodes ns) hports hz

end Sys2Proof.Machine
end

section
/-!
PROOFS. What the Larder reads (O40): turns, nodes, blobs, the pin limits, and the place of a context.
-/

namespace Sys2Proof.Machine

/-! ### Operations that wait for an index -/

/-- An operation that waits for an index, woken. -/
def Op.woken (index : Nat) (o : Op) : Op :=
  if o.phase == .parked index || o.phase == .waitIndex index then { o with phase := .ready } else o

theorem ended_wakeIndex (index : Nat) {id : Nat} {st : Status} {res : Nat} {s : State} (h : Ended id st res s) :
    Ended id st res (wakeIndex index s) := by
  obtain ⟨x, hx, hended⟩ := h
  have hfind : (wakeIndex index s).op? id = (s.op? id).map (Op.woken index) :=
    find?_map_same (g := Op.woken index) (fun o => by unfold Op.woken; split <;> rfl) s.ops
  refine ⟨x.woken index, hfind.trans (congrArg (Option.map _) hx), ?_⟩
  unfold Op.woken
  split
  · exact hended
  · exact hended

theorem chargeTo_store (o : Op) (cost : Nat) (s : State) : (chargeTo o cost s).store = s.store := by
  unfold chargeTo
  dsimp only
  rw [modOp_store]
  split
  · exact store_of_aside (chargeInst_aside ..)
  · exact store_of_aside (refundInst_aside ..)

theorem chargeTo_op? (o : Op) (cost : Nat) (s : State) :
    (chargeTo o cost s).op? o.id = (s.op? o.id).map (fun x => { x with charge := cost }) := by
  unfold chargeTo
  dsimp only
  rw [op?_modOp (by exact fun _ => rfl), if_pos rfl]
  split
  · rw [op?_of_aside (chargeInst_aside ..)]
  · rw [op?_of_aside (refundInst_aside ..)]

theorem failUndispatched_store (o : Op) (st : Status) (s : State) : (failUndispatched o st s).store = s.store := by
  unfold failUndispatched
  rw [endOp_store]
  split
  · rfl
  · exact chargeTo_store ..

/-- An operation that fails with a status that stops no ring ends with it. -/
theorem failUndispatched_ended {o : Op} {st : Status} {s : State} (ho : s.op? o.id = some o) (hold : o.old = false)
    (hstops : st.stops = false) : Ended o.id st (o.resultFor st 0) (failUndispatched o st s) := by
  unfold failUndispatched
  split
  · exact endOp_ended 0 ho hold (.inl hstops)
  · exact endOp_ended (o := { o with charge := 1 }) 0 ((chargeTo_op? o 1 s).trans (congrArg _ ho)) hold (.inl hstops)

/-! ### A fetch that fails -/

/-- The fetch of an index is gone, and its failure counted. -/
def fetchFailed (index : Nat) (st : Status) (s : State) : State :=
  dropReads (fun w => w == .larBlob index) (dropFetch index (if st == .larderIntegrity then countIntegrity index s else s))

section
variable {s : State} {index : Nat} {f : Fetch} (hf : s.lar.fetches.find? (fun f => f.index == index) = some f)
  (hprobe : f.probe = none)
include hf hprobe

theorem failFetch_eq (st : Status) : failFetch index st s =
    wakeIndex index ((s.ops.filter (fun o => o.phase == .parked index)).foldl (fun s o => failUndispatched o st s)
      (fetchFailed index st s)) := by
  have hcount : ∀ b : Bool, (if b then countIntegrity index s else s).lar.fetches = s.lar.fetches ∧
      (if b then countIntegrity index s else s).ops = s.ops := fun b => by cases b <;> exact ⟨rfl, rfl⟩
  obtain ⟨hfetches, hops⟩ := hcount (st == .larderIntegrity)
  unfold failFetch fetchFailed
  dsimp only
  rw [hfetches, hops, hf, Option.bind_some, hprobe]
  simp only [beq_iff_eq, Option.none_beq_some, Bool.and_false, Bool.or_false]

theorem failFetch_store (st : Status) : (failFetch index st s).store = (fetchFailed index st s).store := by
  rw [failFetch_eq hf hprobe]
  exact foldl_keeps State.store (fun s o => failUndispatched_store o st s) _ _

theorem failFetch_ended {st : Status} (hstops : st.stops = false) {o : Op}
    (hone : s.ops.filter (fun o => o.phase == .parked index) = [o]) (ho : Current o s) :
    Ended o.id st (o.resultFor st 0) (failFetch index st s) := by
  obtain ⟨hop, -, hold, -⟩ := ho
  have hkept : (fetchFailed index st s).op? o.id = some o := by
    rw [← hop]
    unfold fetchFailed
    split <;> rfl
  rw [failFetch_eq hf hprobe, hone]
  exact ended_wakeIndex index (failUndispatched_ended hkept hold hstops)

end

/-! ### The courses of a fetch -/

/-- With its path cached, a fetch has its blob or asks for it. -/
theorem advanceFetch_cached {f : Fetch} {s : State} (hpath : PathCached f.index s) (hleaf : leafCtr s f.index ≠ none) :
    ∃ ns, ns.map Node.unaged = s.lar.nodes.map Node.unaged ∧
      (∀ b, f.blob = some b → advanceFetch f s = (.blob b, s.withNodes ns)) ∧
      (f.blob = none → advanceFetch f s = (.waits, askBlob f (s.withNodes ns))) := by
  obtain ⟨ns, hwalk, hsame⟩ := path_cached hpath
  obtain ⟨-, hbusy, hflush, -⟩ := hpath
  obtain ⟨c, hc⟩ := Option.ne_none_iff_exists'.1 hleaf
  have hc' : ((s.withNodes ns).node? 0 (f.index / 64)).bind (fun x => x.c.at (f.index % 64)) = some c :=
    (leafCtr_withNodes hsame f.index).trans hc
  refine ⟨ns, hsame, fun b hb => ?_, fun hb => ?_⟩
  · unfold advanceFetch
    dsimp only
    rw [hbusy, hflush, if_neg (by decide), hwalk]
    dsimp only
    rw [if_neg (by decide), hc', hb]
  · unfold advanceFetch
    dsimp only
    rw [hbusy, hflush, if_neg (by decide), hwalk]
    dsimp only
    rw [if_neg (by decide), hc', hb]

section
variable {s : State} {index : Nat} {f : Fetch} (hf : s.lar.fetches.find? (fun f => f.index == index) = some f)
  (hprobe : f.probe = none) (hinc : f.inc = none) (hseed : (s.inst f.inst).kek.seed ≠ []) (hpath : PathCached index s)
  (hleaf : leafCtr s index ≠ none)
include hf hprobe hinc hseed hpath hleaf

theorem stepFetch_asks (hblob : f.blob = none) :
    ∃ ns, ns.map Node.unaged = s.lar.nodes.map Node.unaged ∧ stepFetch index s = askBlob f (s.withNodes ns) := by
  obtain rfl : f.index = index := by simpa using List.find?_some hf
  obtain ⟨ns, hsame, -, hadvance⟩ := advanceFetch_cached hpath hleaf
  refine ⟨ns, hsame, ?_⟩
  unfold stepFetch
  rw [hf]
  dsimp only
  rw [if_neg (by simpa using hseed), fetchGone, hprobe, hinc]
  dsimp only
  rw [Bool.or_false, if_neg Bool.false_ne_true, Option.isSome_none, Bool.false_and, if_neg Bool.false_ne_true, hadvance hblob]

theorem stepFetch_takes {b : List Byte} (hblob : f.blob = some b) :
    ∃ ns, ns.map Node.unaged = s.lar.nodes.map Node.unaged ∧ stepFetch index s = takeBlob f b (s.withNodes ns) := by
  obtain rfl : f.index = index := by simpa using List.find?_some hf
  obtain ⟨ns, hsame, hadvance, -⟩ := advanceFetch_cached hpath hleaf
  refine ⟨ns, hsame, ?_⟩
  unfold stepFetch
  rw [hf]
  dsimp only
  rw [if_neg (by simpa using hseed), fetchGone, hprobe, hinc]
  dsimp only
  rw [Bool.or_false, if_neg Bool.false_ne_true, Option.isSome_none, Bool.false_and, if_neg Bool.false_ne_true, hadvance b hblob]

end

/-! ### Blobs -/

theorem readBlob_withNodes {ns : List Node} {s : State} (h : ns.map Node.unaged = s.lar.nodes.map Node.unaged) (index inst : Nat)
    (b : List Byte) : readBlob (s.withNodes ns) index inst b = readBlob s index inst b := by
  have hleaf := leafCtr_withNodes h index
  unfold leafCtr at hleaf
  unfold readBlob
  dsimp only
  rw [hleaf]
  rfl

theorem readBlob_live {s : State} {index inst : Nat} {b : List Byte} {x : Slot} (h : readBlob s index inst b = .live x) :
    x.index = index ∧ x.state = .live := by
  unfold readBlob at h
  dsimp only at h
  split at h
  · cases h
  · split at h
    · cases h
    · split at h
      · cases h
      · split at h
        · cases h
        · split at h
          · cases h
          · cases h
            exact ⟨rfl, rfl⟩

/-- PINNED cleared leaves whether a context is WIDE. -/
theorem wide_unpinned (x : Slot) : Slot.wide { x with policy := polSet 18 false x.policy } = x.wide := by
  have hdir : polDir (polSet 18 false x.policy) = polDir x.policy := by
    simp [polDir, polSet]
  have hmode : polReplay (polSet 18 false x.policy) = polReplay x.policy := by
    have hset : (polSet 18 false x.policy).toNat = x.policy.toNat % 2 ^ 18 := Nat.and_two_pow_sub_one_eq_mod x.policy.toNat 18
    rw [polReplay, polReplay, hset]
    omega
  rw [Slot.wide, hdir, hmode, Slot.wide]

theorem polPinned_unpinned (p : BitVec 19) : polPinned (polSet 18 false p) = false := by
  simp [polPinned, polSet]

/-- A context with room is installed, and the operations that wait for it go on. -/
theorem placeInc_room {f : Fetch} {x : Slot} {s : State} (hf : s.lar.fetches.find? (fun g => g.index == f.index) = some f)
    (hprobe : f.probe = none) (hinc : f.inc = some x) (hroom : s.pan.slots.length + (if x.wide then 2 else 1) ≤ s.build.slots) :
    ∃ n a, tget n s.pan.slots = none ∧
      tget n (placeInc f x s).pan.slots = some { x with stamp := s.roundStamp, f120 := a } ∧
      (placeInc f x s).pan.pinDropped = s.pan.pinDropped ∧ (∀ g ∈ (placeInc f x s).lar.fetches, g.index ≠ f.index) ∧
      (placeInc f x s).ops = s.ops.map (Op.woken f.index) := by
  set m : BitVec 1024 := if f.incMap then BitVec.allOnes 1024 else 0 with hm
  obtain ⟨n, a, hfree, htaken, -⟩ := installSlot_takes (map := m) (s := dropFetch f.index s) hroom
  obtain ⟨slots, hframe⟩ := installSlot_frame x m (dropFetch f.index s)
  have hplace : placeInc f x s = wakeIndex f.index (addCounter 0 68 1 (installSlot x m (dropFetch f.index s))) := by
    unfold placeInc
    rw [placeFetch_room hf hinc 2 hroom, hprobe]
    rfl
  have hside := addCounter_aside 0 68 1 (installSlot x m (dropFetch f.index s))
  have hpan : (placeInc f x s).pan = (installSlot x m (dropFetch f.index s)).pan := by
    rw [hplace]
    exact (pan_of_aside hside :)
  have hlar : (placeInc f x s).lar = (dropFetch f.index s).lar := by
    rw [hplace]
    exact (lar_of_aside hside).trans (by rw [hframe])
  refine ⟨n, a, hfree, hpan ▸ htaken, ?_, fun g hg => dropFetch_none f.index s g (hlar ▸ hg), ?_⟩
  · rw [hpan, hframe]
    rfl
  · rw [hplace]
    refine congrArg (List.map (Op.woken f.index)) ((ops_of_aside hside).trans ?_)
    rw [hframe]
    rfl

/-- The fetch as it is once its context waits for a place. -/
def Fetch.placing (x : Slot) (f : Fetch) : Fetch := { f with blob := none, inc := some x, incMap := true }

section
variable {f : Fetch} {x : Slot} {s : State}

theorem placeLive_pinned (h : pinsOf x = 0 ∨ pinOk s x.owner (pinsOf x) = true) :
    placeLive f x s = placeInc (f.placing x) x (modFetch f.index (fun _ => f.placing x) s) := by
  have hexcess : (pinsOf x != 0 && !pinOk s x.owner (pinsOf x)) = false := by rcases h with h | h <;> simp [h]
  unfold placeLive
  dsimp only
  rw [hexcess]
  rfl

theorem placeLive_unpinned (hpins : pinsOf x ≠ 0) (hover : pinOk s x.owner (pinsOf x) = false) (hwide : x.wide = false) :
    let y := { x with policy := polSet 18 false x.policy }
    placeLive f x s = placeInc (f.placing y) y (modFetch f.index (fun _ => f.placing y)
      { s with pan := { s.pan with pinDropped := true } }) := by
  have hexcess : (pinsOf x != 0 && !pinOk s x.owner (pinsOf x)) = true := by simp [hpins, hover]
  unfold placeLive
  dsimp only
  rw [hexcess, hwide]
  rfl

theorem placeLive_refused (hpins : pinsOf x ≠ 0) (hover : pinOk s x.owner (pinsOf x) = false) (hwide : x.wide = true) :
    placeLive f x s = failFetch f.index .ctxPinLimit s := by
  have hexcess : (pinsOf x != 0 && !pinOk s x.owner (pinsOf x)) = true := by simp [hpins, hover]
  unfold placeLive
  dsimp only
  rw [hexcess, hwide]
  rfl

end

theorem takeBlob_live {f : Fetch} {b : List Byte} {x : Slot} {s : State} (h : readBlob s f.index f.inst b = .live x)
    (hprobe : f.probe = none) : takeBlob f b s = placeLive f x s := by
  unfold takeBlob
  rw [h]
  dsimp only
  rw [takeLive, hprobe]

theorem takeBlob_bad {f : Fetch} {b : List Byte} {s : State} (h : readBlob s f.index f.inst b = .bad) :
    takeBlob f b s = failFetch f.index .larderIntegrity s := by
  unfold takeBlob
  rw [h]

/-! ### Turns -/

theorem startFetch_waits {s : State} {index : Nat} {m : Nat × Nat × Option Nat}
    (hm : s.lar.misses.find? (fun m => m.1 == index) = some m) (hstarts : missStarts s m = true) (hleft : turnsLeft s m.2.1 = 0)
    (hother : ∃ k ∈ s.lar.misses, missStarts s k = true ∧ 0 < turnsLeft s k.2.1) : startFetch index s = s := by
  have hfresh : ((s.lar.misses.filter (missStarts s)).map (fun m => m.2.1)).all (fun i => turnsLeft s i == 0) = false := by
    obtain ⟨k, hk, hks, hkl⟩ := hother
    rw [List.all_eq_false]
    exact ⟨k.2.1, List.mem_map.2 ⟨k, List.mem_filter.2 ⟨hk, hks⟩, rfl⟩, by simp; omega⟩
  unfold startFetch
  rw [hm]
  dsimp only
  rw [hstarts, hfresh, if_neg (by decide), if_neg Bool.false_ne_true, hleft, if_pos (by decide)]

/-- The fetch that a miss becomes. -/
def fetchOf (m : Nat × Nat × Option Nat) : Fetch := ⟨m.1, m.2.1, m.2.2, none, none, false, none, false⟩

/-- The state in which a miss has taken its turn. -/
def turnTaken (m : Nat × Nat × Option Nat) (s : State) : State :=
  { s with lar := { s.lar with
      credits := tset m.2.1 (turnsLeft s m.2.1 - 1) s.lar.credits
      misses := s.lar.misses.filter (fun k => k.1 != m.1)
      fetches := s.lar.fetches ++ [fetchOf m] } }

theorem startFetch_takes {s : State} {index : Nat} {m : Nat × Nat × Option Nat}
    (hm : s.lar.misses.find? (fun m => m.1 == index) = some m) (hstarts : missStarts s m = true) (hleft : 0 < turnsLeft s m.2.1) :
    startFetch index s = stepFetch index (turnTaken m s) := by
  obtain rfl : m.1 = index := by simpa using List.find?_some hm
  have hfresh : ((s.lar.misses.filter (missStarts s)).map (fun m => m.2.1)).all (fun i => turnsLeft s i == 0) = false := by
    rw [List.all_eq_false]
    exact ⟨m.2.1, List.mem_map.2 ⟨m, List.mem_filter.2 ⟨List.mem_of_find?_eq_some hm, hstarts⟩, rfl⟩, by simp; omega⟩
  unfold startFetch
  rw [hm]
  dsimp only
  rw [hstarts, hfresh, if_neg (by decide), if_neg Bool.false_ne_true, if_neg (by simp; omega)]
  rfl

theorem turnTaken_find {s : State} {m : Nat × Nat × Option Nat} (hstarts : missStarts s m = true) :
    (turnTaken m s).lar.fetches.find? (fun f => f.index == m.1) = some (fetchOf m) := by
  simp only [missStarts, Bool.and_eq_true, Bool.not_eq_true', List.any_eq_false] at hstarts
  obtain ⟨⟨-, hnone⟩, -⟩ := hstarts
  show (s.lar.fetches ++ [fetchOf m]).find? _ = _
  rw [List.find?_append, List.find?_eq_none.2 hnone, List.find?_cons_of_pos (by simp [fetchOf])]
  rfl

/-- A blob that has not arrived is asked for once. -/
theorem askBlob_due {f : Fetch} {s : State} (hblob : f.blob = none) (harr : s.arrived? (.larBlob f.index) = none)
    (hports : s.hwy.ports.length = 8) :
    0 < readsLeft (askBlob f s) (f.index / 64 % 8) (fun w => w == .larBlob f.index) ∧ (askBlob f s).aside = s.aside := by
  have hnone : s.hwy.arrived.any (fun a => a.owner == .larBlob f.index) = false := by
    rw [State.arrived?, Option.map_eq_none_iff, List.find?_eq_none] at harr
    rw [List.any_eq_false]
    exact harr
  unfold askBlob
  rw [hblob, hnone, Option.isSome_none, Bool.false_or, Bool.or_false]
  split
  · next h => exact ⟨by simpa using h, rfl⟩
  · exact ⟨readsLeft_pos_of_readDue (readDue_readReq (by rw [hports]; exact Nat.mod_lt _ (by decide)) (by decide)), readReq_aside ..⟩

/-! ### Nodes -/

theorem nodeMac_of_cel {s t : State} (h : t.cel = s.cel) (level n ctr : Nat) (body : List Byte) :
    nodeMac t level n ctr body = nodeMac s level n ctr body := by
  rw [nodeMac, State.treeKey, h, nodeMac, State.treeKey]

theorem parentCtrs_of {s t : State} (hcel : t.cel = s.cel) (hlar : t.lar = s.lar) (level n : Nat) :
    t.parentCtrs level n = s.parentCtrs level n := by
  rw [State.parentCtrs, hcel, node?_of_lar hlar, State.parentCtrs]

/-- A quiet door has nothing to go on with. -/
theorem doorStep_quiet {s : State} (h : DoorQuiet s) : doorStep s = s := by
  obtain ⟨hfetches, htombs, -⟩ := h
  have hnone : s.pan.slots.filter (fun p => p.2.tombDue) = [] := by
    rw [List.filter_eq_nil_iff]
    exact fun p hp => by rw [htombs p hp]; exact Bool.false_ne_true
  unfold doorStep
  dsimp only
  rw [hfetches, List.map_nil, List.foldl_nil, hnone, List.foldl_nil]

/-- Nothing of a quiet door needs a node that has failed. -/
theorem nodeFailed_quiet {s : State} (h : DoorQuiet s) (level n : Nat) : nodeFailed level n s = s := by
  obtain ⟨hfetches, htombs, hflush⟩ := h
  have hnone : s.pan.slots.filter (fun p => pathNode p.2.index level == n && p.2.tombDue && !p.2.evicting) = [] := by
    rw [List.filter_eq_nil_iff]
    exact fun p hp => by rw [htombs p hp]; simp
  unfold nodeFailed
  simp [hfetches, hnone, hflush]

theorem addCounter_serving (i n amt : Nat) (s : State) : ((addCounter i n amt s).inst 0).cq = (s.inst 0).cq := by
  have hmod : ∀ (f : Inst → Inst), (∀ x, (f x).cq = x.cq) → ((modInst i f s).inst 0).cq = (s.inst 0).cq := fun f hf => by
    rw [inst_modInst]
    split
    · next h => rw [hf, h]
    · rfl
  unfold addCounter
  dsimp only
  split
  · rfl
  · next c _ =>
    have hcounted := hmod (fun x => { x with
      counters := modAt (fun d => { d with value := (c.value + amt) % 2 ^ 48 }) n x.counters }) (by exact fun _ => rfl)
    split
    · split <;> exact hcounted
    · rfl

end Sys2Proof.Machine
end

section
/-!
PROOFS. The statement about what the Larder reads (O40), from the courses of fetches, nodes and places.
-/

namespace Sys2Proof.Machine

/-! ### NODE_READ_RETURN -/

theorem cacheNode_withNodes (level n : Nat) (c : Ctrs) (s : State) : ∃ ns, cacheNode level n c s = s.withNodes ns := by
  unfold cacheNode
  split
  · exact ⟨s.lar.nodes, rfl⟩
  · split
    · next t ht =>
      unfold nodeRoom at ht
      split at ht
      · cases ht; exact ⟨_, rfl⟩
      · split at ht
        · split at ht
          · cases ht
          · cases ht; exact ⟨_, rfl⟩
        · cases ht
    · exact ⟨s.lar.nodes, rfl⟩

/-- A cache with room takes a node that it does not hold. -/
theorem cacheNode_node? {level n : Nat} {c : Ctrs} {s : State} (hnone : s.node? level n = none)
    (hroom : s.lar.nodes.length < 16384) : ((cacheNode level n c s).node? level n).map (·.c) = some c := by
  unfold cacheNode
  rw [hnone, nodeRoom, if_neg (by decide), if_pos hroom]
  dsimp only
  rw [State.node?, List.find?_append, show List.find? _ s.lar.nodes = none from hnone, List.find?_cons_of_pos (by simp)]
  rfl

/-- A node that has been read goes into the cache when its MAC holds, and a quiet door does no more. -/
theorem nodeReturn_quiet {s : State} {level n ctr : Nat} {b : List Byte} (harr : s.arrived? (.node level n) = some b)
    (hctr : (s.parentCtrs level n).bind (fun c => c.at (childOf level n)) = some ctr) (hquiet : DoorQuiet s)
    (hattach : s.attaching = false) :
    nodeReturn level n s = if slice 56 8 b == nodeMac s level n ctr (b.take 56)
      then cacheNode level n (Ctrs.ofBytes b) (addCounter 0 70 1 (takeArrived (.node level n) s))
      else addCounter 0 70 1 (takeArrived (.node level n) s) := by
  have hside : (addCounter 0 70 1 (takeArrived (.node level n) s)).aside = s.aside :=
    (addCounter_aside ..).trans (takeArrived_aside ..)
  have hserving : ((addCounter 0 70 1 (takeArrived (.node level n) s)).inst 0).cq = (s.inst 0).cq := addCounter_serving ..
  unfold nodeReturn
  rw [harr]
  dsimp only
  generalize addCounter 0 70 1 (takeArrived (.node level n) s) = u at *
  have hidle : ∀ v : State, v.insts = u.insts → v.attaching = false := fun v hv => by
    rw [State.attaching, State.inst, hv, ← State.inst, hserving]
    exact hattach
  have hcalm : ∀ v : State, v.pan = u.pan → v.lar.fetches = u.lar.fetches → v.lar.flush = u.lar.flush → DoorQuiet v :=
    fun v hpan hfetches hflush => by
      rw [DoorQuiet, hpan, hfetches, hflush, pan_of_aside hside, lar_of_aside hside]
      exact hquiet
  have htaken : ∀ (ok : Bool) (v : State), v.insts = u.insts → DoorQuiet v → nodeTaken level n ok v = v := fun ok v hv hq => by
    unfold nodeTaken
    rw [hidle v hv, if_neg Bool.false_ne_true]
    cases ok with
    | true => exact doorStep_quiet hq
    | false =>
      rw [if_neg Bool.false_ne_true, nodeFailed_quiet hq]
      exact doorStep_quiet hq
  rw [parentCtrs_of (cel_of_aside hside) (lar_of_aside hside), hctr]
  dsimp only
  rw [nodeMac_of_cel (cel_of_aside hside)]
  obtain ⟨ns, hns⟩ := cacheNode_withNodes level n (Ctrs.ofBytes b) u
  rw [hns, htaken true (u.withNodes ns) rfl (hcalm (u.withNodes ns) rfl rfl rfl), htaken false u rfl (hcalm u rfl rfl rfl)]

/-! ### LARDER_FETCH_START -/

/-- A miss in its turn whose path is cached asks for its blob. -/
theorem startFetch_asks {s : State} {index : Nat} {m : Nat × Nat × Option Nat}
    (hm : s.lar.misses.find? (fun m => m.1 == index) = some m) (hstarts : missStarts s m = true) (hleft : 0 < turnsLeft s m.2.1)
    (hprobe : m.2.2 = none) (hseed : (s.inst m.2.1).kek.seed ≠ []) (hpath : PathCached index s) (hleaf : leafCtr s index ≠ none)
    (hports : s.hwy.ports.length = 8) (harr : s.arrived? (.larBlob index) = none) :
    ∃ ns, (startFetch index s).aside = ((turnTaken m s).withNodes ns).aside ∧
      0 < readsLeft (startFetch index s) (index / 64 % 8) (fun w => w == .larBlob index) := by
  obtain rfl : m.1 = index := by simpa using List.find?_some hm
  obtain ⟨ns, -, hstep⟩ := stepFetch_asks (s := turnTaken m s) (f := fetchOf m) (turnTaken_find hstarts) hprobe rfl hseed
    hpath hleaf rfl
  obtain ⟨hdue, hside⟩ := askBlob_due (f := fetchOf m) (s := (turnTaken m s).withNodes ns) rfl harr hports
  rw [startFetch_takes hm hstarts hleft, hstep]
  exact ⟨ns, hside, hdue⟩

/-! ### BLOB_READ_RETURN -/

theorem pinOk_modFetch {g : Fetch → Fetch} (hg : ∀ f, (g f).inc = f.inc) (index i n : Nat) (s : State) :
    pinOk (modFetch index g s) i n = pinOk s i n := by
  have hdue : ∀ inst, (modFetch index g s).pinsDue inst = s.pinsDue inst := fun inst => by
    unfold State.pinsDue modFetch mapFetches
    rw [List.foldl_map]
    congr 1
    funext a f
    rw [show (if f.index == index then g f else f).inc = f.inc by split <;> simp [hg]]
  unfold pinOk
  rw [hdue, hdue]
  rfl

section
variable {s : State} {index : Nat} {b : List Byte} {f : Fetch} (harr : s.arrived? (.larBlob index) = some b)
  (hf : s.lar.fetches.find? (fun f => f.index == index) = some f) (hprobe : f.probe = none) (hinc : f.inc = none)
  (hseed : (s.inst f.inst).kek.seed ≠ []) (hpath : PathCached index s) (hleaf : leafCtr s index ≠ none)
include harr hf hprobe hinc hseed hpath hleaf

/-- The state in which the arrived blob of a fetch is judged. -/
theorem blobReturn_takes : ∃ u : State, blobReturn index s = takeBlob { f with blob := some b } b u ∧
    u.pan = s.pan ∧ u.ops = s.ops ∧ u.build = s.build ∧ u.core = s.core ∧ u.lar.integrity = s.lar.integrity ∧
    u.lar.fetches.find? (fun f => f.index == index) = some { f with blob := some b } ∧
    (∀ o, Current o s → Current o u) ∧ (∀ i n, pinOk u i n = pinOk s i n) ∧
    readBlob u index f.inst b = readBlob s index f.inst b := by
  set v := modFetch index (fun f => { f with blob := some b }) (takeArrived (.larBlob index) s) with hv
  have hfind : v.lar.fetches.find? (fun f => f.index == index) = some { f with blob := some b } :=
    find?_modFetch (s := takeArrived (.larBlob index) s) (g := fun f => { f with blob := some b }) rfl hf
  obtain ⟨ns, hsame, hstep⟩ := stepFetch_takes (s := v) hfind hprobe hinc hseed hpath hleaf rfl
  refine ⟨v.withNodes ns, ?_, rfl, rfl, rfl, rfl, rfl, hfind, fun o ho => ho, fun i n => pinOk_modFetch (by exact fun _ => rfl) index i n s, ?_⟩
  · unfold blobReturn
    rw [harr]
    exact hstep
  · rw [readBlob_withNodes (s := v) hsame]
    rfl

/-- The context of a sound blob takes a free slot. -/
theorem blobReturn_installs {x y : Slot} (hblob : readBlob s index f.inst b = .live x)
    (hroom : s.pan.slots.length + (if x.wide then 2 else 1) ≤ s.build.slots) (hwide : y.wide = x.wide) {dropped : Bool}
    (hplace : ∀ u : State, (∀ i n, pinOk u i n = pinOk s i n) → ∀ g : Fetch, placeLive g x u =
      placeInc (g.placing y) y (modFetch g.index (fun _ => g.placing y)
        { u with pan := { u.pan with pinDropped := dropped || u.pan.pinDropped } })) :
    ∃ n a, tget n s.pan.slots = none ∧
      tget n (blobReturn index s).pan.slots = some { y with stamp := s.roundStamp, f120 := a } ∧
      (blobReturn index s).pan.pinDropped = (dropped || s.pan.pinDropped) ∧
      (∀ g ∈ (blobReturn index s).lar.fetches, g.index ≠ index) ∧ (blobReturn index s).ops = s.ops.map (Op.woken index) := by
  obtain rfl : f.index = index := by simpa using List.find?_some hf
  obtain ⟨u, hstep, hpan, hops, hbuild, hcore, -, hfind, -, hpins, hread⟩ :=
    blobReturn_takes harr hf hprobe hinc hseed hpath hleaf
  rw [hstep, takeBlob_live (f := { f with blob := some b }) (hread.trans hblob) hprobe, hplace u hpins]
  set v : State := { u with pan := { u.pan with pinDropped := dropped || u.pan.pinDropped } } with hv
  have hplacing := find?_modFetch (s := v) (index := f.index) (f := { f with blob := some b })
    (g := fun _ => Fetch.placing y { f with blob := some b }) rfl hfind
  obtain ⟨n, a, hfree, htaken, hdropped, hgone, hwoken⟩ := placeInc_room (x := y)
    (s := modFetch f.index (fun _ => Fetch.placing y { f with blob := some b }) v) (f := Fetch.placing y { f with blob := some b })
    hplacing hprobe rfl (by
      rw [show (modFetch f.index (fun _ => Fetch.placing y { f with blob := some b }) v).pan.slots = u.pan.slots from rfl,
        show (modFetch f.index (fun _ => Fetch.placing y { f with blob := some b }) v).build = u.build from rfl, hpan, hbuild, hwide]
      exact hroom)
  refine ⟨n, a, by rw [← hpan]; exact hfree, htaken.trans ?_, hdropped.trans ?_, hgone, hwoken.trans (by rw [← hops]; rfl)⟩
  · rw [State.roundStamp, State.roundStamp, ← hcore]
    rfl
  · rw [← hpan]
    rfl

/-- A blob that fails ends its fetch, and the operation that is parked on it. -/
theorem blobReturn_fails {st : Status} (hstops : st.stops = false)
    (hfail : ∀ u : State, readBlob u index f.inst b = readBlob s index f.inst b → (∀ i n, pinOk u i n = pinOk s i n) →
      takeBlob { f with blob := some b } b u = failFetch index st u) :
    (blobReturn index s).pan.slots = s.pan.slots ∧ (∀ g ∈ (blobReturn index s).lar.fetches, g.index ≠ index) ∧
      (st = .larderIntegrity → (blobReturn index s).lar.integrity = min 0xFFFF (s.lar.integrity + 1) ∧
        (blobReturn index s).lar.failIndex = index) ∧
      ∀ o, s.ops.filter (fun o => o.phase == .parked index) = [o] → Current o s →
        Ended o.id st (o.resultFor st 0) (blobReturn index s) := by
  obtain ⟨u, hstep, hpan, hops, -, -, hcount, hfind, hcurrent, hpins, hread⟩ :=
    blobReturn_takes harr hf hprobe hinc hseed hpath hleaf
  rw [hstep, hfail u hread hpins]
  have hstore := failFetch_store (f := { f with blob := some b }) hfind hprobe st
  have hlar := lar_of_store hstore
  have hfailed : (fetchFailed index st u).pan = u.pan := by
    unfold fetchFailed
    split <;> rfl
  refine ⟨by rw [pan_of_store hstore, hfailed, hpan], fun g hg => ?_, fun hst => ?_, fun o hone ho => ?_⟩
  · rw [hlar] at hg
    exact dropFetch_none index _ g hg
  · rw [hlar, hst, ← hcount]
    exact ⟨rfl, rfl⟩
  · exact failFetch_ended hfind hprobe hstops (by rw [hops]; exact hone) (hcurrent o ho)

end

theorem exec_blobReadReturn {s : State} (hrun : s.unitsRun = true) (index : Nat) :
    exec (.blobReadReturn index) s = .next (finish (redispatch (blobReturn index s))) := congrArg Host.Outcome.next (if_pos hrun)

/-- The ends of a blob that has arrived: installed, installed unpinned, refused, or bad. -/
theorem blobReadReturn_cases {s : State} {index : Nat} {b : List Byte} {f : Fetch} (hrun : s.unitsRun = true)
    (harr : s.arrived? (.larBlob index) = some b) (hf : s.lar.fetches.find? (fun f => f.index == index) = some f)
    (hprobe : f.probe = none) (hinc : f.inc = none) (hseed : (s.inst f.inst).kek.seed ≠ []) (hpath : PathCached index s)
    (hleaf : leafCtr s index ≠ none) :
    (∀ x, readBlob s index f.inst b = .live x → s.pan.slots.length + (if x.wide then 2 else 1) ≤ s.build.slots →
      (pinsOf x = 0 ∨ pinOk s x.owner (pinsOf x) = true →
        ∃ t n y, exec (.blobReadReturn index) s = .next (finish (redispatch t)) ∧ tget n s.pan.slots = none ∧
          tget n t.pan.slots = some y ∧ y.index = index ∧ y.state = .live ∧ y.serial = x.serial ∧ y.key0 = x.key0 ∧
          y.policy = x.policy ∧ y.stamp = s.roundStamp ∧ (∀ g ∈ t.lar.fetches, g.index ≠ index) ∧
          t.ops = s.ops.map (Op.woken index)) ∧
      (pinsOf x ≠ 0 → pinOk s x.owner (pinsOf x) = false → x.wide = false →
        ∃ t n y, exec (.blobReadReturn index) s = .next (finish (redispatch t)) ∧ tget n s.pan.slots = none ∧
          tget n t.pan.slots = some y ∧ y.index = index ∧ y.serial = x.serial ∧ y.key0 = x.key0 ∧
          polPinned y.policy = false ∧ t.pan.pinDropped = true ∧ t.ops = s.ops.map (Op.woken index))) ∧
    (∀ x, readBlob s index f.inst b = .live x → pinsOf x ≠ 0 → pinOk s x.owner (pinsOf x) = false → x.wide = true →
      ∃ t, exec (.blobReadReturn index) s = .next (finish (redispatch t)) ∧ t.pan.slots = s.pan.slots ∧
        (∀ g ∈ t.lar.fetches, g.index ≠ index) ∧
        ∀ o, s.ops.filter (fun o => o.phase == .parked index) = [o] → Current o s →
          Ended o.id .ctxPinLimit (o.resultFor .ctxPinLimit 0) t) ∧
    (readBlob s index f.inst b = .bad →
      ∃ t, exec (.blobReadReturn index) s = .next (finish (redispatch t)) ∧ t.pan.slots = s.pan.slots ∧
        t.lar.integrity = min 0xFFFF (s.lar.integrity + 1) ∧ t.lar.failIndex = index ∧
        (∀ g ∈ t.lar.fetches, g.index ≠ index) ∧
        ∀ o, s.ops.filter (fun o => o.phase == .parked index) = [o] → Current o s →
          Ended o.id .larderIntegrity (o.resultFor .larderIntegrity 0) t) := by
  obtain rfl : f.index = index := by simpa using List.find?_some hf
  refine ⟨fun x hblob hroom => ⟨fun hpins => ?_, fun hpins hover hwide => ?_⟩, fun x hblob hpins hover hwide => ?_, fun hblob => ?_⟩
  · obtain ⟨hxi, hxs⟩ := readBlob_live hblob
    obtain ⟨n, a, hfree, htaken, -, hgone, hops⟩ := blobReturn_installs harr hf hprobe hinc hseed hpath hleaf hblob hroom
      (y := x) rfl (dropped := false) (fun u hu g => placeLive_pinned (by rw [hu]; exact hpins))
    exact ⟨_, n, _, exec_blobReadReturn hrun _, hfree, htaken, hxi, hxs, rfl, rfl, rfl, rfl, hgone, hops⟩
  · obtain ⟨hxi, -⟩ := readBlob_live hblob
    obtain ⟨n, a, hfree, htaken, hdropped, -, hops⟩ := blobReturn_installs harr hf hprobe hinc hseed hpath hleaf hblob hroom
      (y := { x with policy := polSet 18 false x.policy }) (wide_unpinned x) (dropped := true)
      (fun u hu g => placeLive_unpinned hpins (by rw [hu]; exact hover) hwide)
    exact ⟨_, n, _, exec_blobReadReturn hrun _, hfree, htaken, hxi, rfl, rfl, polPinned_unpinned _, hdropped, hops⟩
  · obtain ⟨hslots, hgone, -, hended⟩ := blobReturn_fails harr hf hprobe hinc hseed hpath hleaf (st := .ctxPinLimit) (by decide)
      (fun u hread hpin => (takeBlob_live (f := { f with blob := some b }) (hread.trans hblob) hprobe).trans
        (placeLive_refused hpins (by rw [hpin]; exact hover) hwide))
    exact ⟨_, exec_blobReadReturn hrun _, hslots, hgone, hended⟩
  · obtain ⟨hslots, hgone, hcount, hended⟩ := blobReturn_fails harr hf hprobe hinc hseed hpath hleaf (st := .larderIntegrity)
      (by decide) (fun u hread _ => takeBlob_bad (f := { f with blob := some b }) (hread.trans hblob))
    obtain ⟨hintegrity, hfail⟩ := hcount rfl
    exact ⟨_, exec_blobReadReturn hrun _, hslots, hintegrity, hfail, hgone, hended⟩

/-! ### The place of a context -/

section
variable {s : State} {index : Nat} {f : Fetch} {x : Slot} (hf : s.lar.fetches.find? (fun f => f.index == index) = some f)
  (hinc : f.inc = some x) (hvictim : f.victim = none) (htoken : f.token = false)
  (hfull : ¬ s.pan.slots.length + (if x.wide then 2 else 1) ≤ s.build.slots)

theorem dropFetch_pan (index : Nat) (s : State) : (dropFetch index s).pan = s.pan := rfl

theorem dropFetch_build (index : Nat) (s : State) : (dropFetch index s).build = s.build := rfl

/-- The state in which a token has been spent on a victim. -/
def spentOn (index v : Nat) (s : State) : State :=
  modFetch index (fun y => { y with victim := some v, token := true })
    { s with lar := { s.lar with tokens := s.lar.tokens - 1 } }

/-- The state in which the slot of a clean victim is free. -/
def victimGone (index v : Nat) (s : State) : State :=
  keepSlots (fun n _ => n != v) (modFetch index (fun z => { z with victim := none, token := false }) s)

theorem spentOn_find (hf : s.lar.fetches.find? (fun f => f.index == index) = some f) (v : Nat) :
    (spentOn index v s).lar.fetches.find? (fun f => f.index == index) = some { f with victim := some v, token := true } :=
  find?_modFetch (s := { s with lar := { s.lar with tokens := s.lar.tokens - 1 } })
    (g := fun y => { y with victim := some v, token := true }) rfl hf

/-- A full Pantry that loses a victim has room for a context of one slot. -/
theorem victimGone_room {v : Nat} {y : Slot} (hmem : (v, y) ∈ s.pan.slots) (hwide : x.wide = false)
    (hlen : s.pan.slots.length = s.build.slots) :
    (victimGone index v (spentOn index v s)).pan.slots.length + (if x.wide then 2 else 1) ≤
      (victimGone index v (spentOn index v s)).build.slots := by
  rw [show (victimGone index v (spentOn index v s)).build = s.build from rfl]
  have hless : (s.pan.slots.filter (fun p => p.1 != v)).length < s.pan.slots.length :=
    List.length_filter_lt_length_iff_exists.2 ⟨(v, y), hmem, by simp⟩
  rw [hwide, if_neg Bool.false_ne_true, ← hlen]
  exact hless

theorem victimGone_find (hf : s.lar.fetches.find? (fun f => f.index == index) = some f) (v : Nat) :
    (victimGone index v (spentOn index v s)).lar.fetches.find? (fun f => f.index == index) =
      some { f with victim := none, token := false } :=
  find?_modFetch (s := spentOn index v s) (f := { f with victim := some v, token := true })
    (g := fun z => { z with victim := none, token := false }) rfl (spentOn_find hf v)

include hf hinc in
/-- A context of one slot with room is installed and its fetch is gone. -/
theorem placeFetch_taken (hwide : x.wide = false) (hroom : s.pan.slots.length + (if x.wide then 2 else 1) ≤ s.build.slots) :
    ∃ t n a, placeFetch index 1 s = (true, t) ∧ t.held = s.held ∧ (∀ p ∈ s.pan.slots, p ∈ t.pan.slots) ∧ t.hwy = s.hwy ∧
      (∀ g ∈ t.lar.fetches, g.index ≠ index) ∧ tget n t.pan.slots = some { x with stamp := s.roundStamp, f120 := a } := by
  have hplace := placeFetch_room hf hinc 0 hroom
  generalize (if f.incMap then BitVec.allOnes 1024 else 0) = m at hplace
  rw [← dropFetch_pan index s, ← dropFetch_build index s] at hroom
  obtain ⟨n, a, -, htaken, hrest⟩ := installSlot_takes (map := m) hroom
  obtain ⟨slots, hframe⟩ := installSlot_frame x m (dropFetch index s)
  refine ⟨_, n, a, hplace, ?_, hrest hwide, ?_, ?_, htaken⟩
  · rw [hframe]; rfl
  · rw [hframe]; rfl
  · rw [hframe]
    exact dropFetch_none index s

include hf hinc hvictim htoken hfull

/-- With a token and a victim: a dirty victim goes out first, a clean one goes at once. -/
theorem placeFetch_chosen {v : Nat} {y : Slot} (htokens : 0 < s.lar.tokens) (hchoose : chooseVictim s = some v)
    (hy : tget v s.pan.slots = some y) (hok : victimOk s y = true) :
    placeFetch index 3 s = if y.dirty then (false, writeOut y (spentOn index v s))
      else placeFetch index 1 (victimGone index v (spentOn index v s)) := by
  rw [placeFetch_spends hf hinc hfull 2 hvictim htoken htokens hchoose]
  exact placeFetch_victim (s := spentOn index v s) (f := { f with victim := some v, token := true }) (spentOn_find hf v) hinc
    hfull 1 rfl hy hok

/-- The slot of a clean victim is freed without a write, and taken. -/
theorem placeFetch_clean {v : Nat} {y : Slot} (hwide : x.wide = false) (hlen : s.pan.slots.length = s.build.slots)
    (htokens : 0 < s.lar.tokens) (hchoose : chooseVictim s = some v)
    (hy : tget v s.pan.slots = some y) (hmem : (v, y) ∈ s.pan.slots) (hok : victimOk s y = true) (hclean : y.dirty = false) :
    ∃ t n a, placeFetch index 3 s = (true, t) ∧ t.held = (s.ops, s.lar.tokens - 1, s.image) ∧
      (∀ p ∈ s.pan.slots, p.1 ≠ v → p ∈ t.pan.slots) ∧ t.hwy = s.hwy ∧ (∀ g ∈ t.lar.fetches, g.index ≠ index) ∧
      tget n t.pan.slots = some { x with stamp := s.roundStamp, f120 := a } := by
  have hroom := victimGone_room (index := index) hmem hwide hlen
  have hfind := victimGone_find hf v
  have hplace := placeFetch_chosen hf hinc hvictim htoken hfull htokens hchoose hy hok
  rw [hclean, if_neg Bool.false_ne_true] at hplace
  have hslots : (victimGone index v (spentOn index v s)).pan.slots = s.pan.slots.filter (fun p => p.1 != v) := rfl
  have hheld : (victimGone index v (spentOn index v s)).held = (s.ops, s.lar.tokens - 1, s.image) := rfl
  have hhwy : (victimGone index v (spentOn index v s)).hwy = s.hwy := rfl
  have hstamp : (victimGone index v (spentOn index v s)).roundStamp = s.roundStamp := rfl
  generalize victimGone index v (spentOn index v s) = u at *
  obtain ⟨t, n, a, ht, hkept, hrest, hsame, hgone, htaken⟩ := placeFetch_taken hfind hinc hwide hroom
  refine ⟨t, n, a, hplace.trans ht, hkept.trans hheld, fun p hp hpv => hrest p ?_, hsame.trans hhwy, hgone, hstamp ▸ htaken⟩
  rw [hslots]
  exact List.mem_filter.2 ⟨hp, by simpa using hpv⟩

end

/-- Settles O40: turns, nodes and blobs as they return, the pin limits, the victim, and the place of a context. -/
theorem larderReads : Obligations.LarderReads := by
  refine ⟨fun s index m hrun hm hstarts => ⟨fun hleft hother => ?_, fun hleft hprobe hseed hpath hleaf hinv harr => ?_⟩,
    fun s level n ctr b hrun harr hctr hquiet hattach => ?_,
    fun s index b f => blobReadReturn_cases, fun s => ⟨fun v hv => ?_, fun hnone p hp hok => ?_⟩,
    fun s index f x hf hinc hvictim htoken hwide hlen => ?_⟩
  · have hexec : exec (.larderFetchStart index) s = .next (finish (redispatch (startFetch index s))) :=
      congrArg Host.Outcome.next (if_pos hrun)
    rwa [startFetch_waits hm hstarts hleft hother] at hexec
  · obtain ⟨ns, hside, hdue⟩ := startFetch_asks hm hstarts hleft hprobe hseed hpath hleaf hinv.1 harr
    have hindex : m.1 = index := by simpa using List.find?_some hm
    have hlar := lar_of_aside hside
    refine ⟨_, congrArg Host.Outcome.next (if_pos hrun), ?_, ?_, ⟨fetchOf m, ?_, hindex, rfl⟩, hdue, (pan_of_aside hside :), (ops_of_aside hside :)⟩
    · rw [hlar, ← hindex]; rfl
    · rw [hlar]; rfl
    · rw [hlar]
      exact List.mem_append_right _ (List.mem_singleton.2 rfl)
  · have hside : (addCounter 0 70 1 (takeArrived (.node level n) s)).aside = s.aside :=
      (addCounter_aside ..).trans (takeArrived_aside ..)
    have hret := nodeReturn_quiet harr hctr hquiet hattach
    refine ⟨nodeReturn level n s, congrArg Host.Outcome.next (if_pos hrun), ?_⟩
    rw [hret]
    generalize addCounter 0 70 1 (takeArrived (.node level n) s) = u at *
    obtain ⟨ns, hns⟩ := cacheNode_withNodes level n (Ctrs.ofBytes b) u
    by_cases hmac : slice 56 8 b = nodeMac s level n ctr (b.take 56)
    · rw [if_pos (by simpa using hmac)]
      refine ⟨?_, ?_, ?_, fun _ hnone hroom => cacheNode_node? ?_ ?_, fun h => absurd hmac h⟩
      · rw [hns]; exact (pan_of_aside hside :)
      · rw [hns]; exact (ops_of_aside hside :)
      · rw [hns]; exact (cel_of_aside hside :)
      · rw [node?_of_lar (lar_of_aside hside), hnone]
      · rw [lar_of_aside hside]; exact hroom
    · rw [if_neg (by simpa using hmac)]
      exact ⟨pan_of_aside hside, ops_of_aside hside, cel_of_aside hside, fun h => absurd h hmac,
        fun _ => congrArg Larder.nodes (lar_of_aside hside)⟩
  · obtain ⟨x, hx, hmax⟩ := chooseVictim_some hv
    obtain ⟨hmem, hok, hfree⟩ := mem_victims.1 hx
    obtain ⟨hlive, hpinned, -, hevicting, hrefs⟩ := victimOk_iff.1 hok
    exact ⟨x, hmem, hlive, hpinned, hrefs, hevicting, hfree, fun p hp hpok hpfree => hmax p (mem_victims.2 ⟨hp, hpok, hpfree⟩)⟩
  · by_contra hno
    have hmem : p ∈ victims s := mem_victims.2 ⟨hp, hok, fun f hf hv => hno ⟨f, hf, hv⟩⟩
    rw [chooseVictim_none hnone] at hmem
    cases hmem
  · have hfull : ¬ s.pan.slots.length + (if x.wide then 2 else 1) ≤ s.build.slots := by
      rw [hwide, if_neg Bool.false_ne_true]
      omega
    refine ⟨placeFetch_waits hf hinc hfull 2 hvictim htoken, fun v y htokens hchoose hy honly => ?_⟩
    obtain ⟨z, hz, -⟩ := chooseVictim_some hchoose
    obtain ⟨hmem, hok, -⟩ := mem_victims.1 hz
    obtain rfl : z = y := honly _ hmem rfl
    have hcourse := placeFetch_chosen hf hinc hvictim htoken hfull htokens hchoose hy hok
    cases hdirty : z.dirty with
    | false =>
      obtain ⟨t, n, a, ht, hheld, hrest, hhwy, hgone, htaken⟩ :=
        placeFetch_clean hf hinc hvictim htoken hfull hwide hlen htokens hchoose hy hmem hok hdirty
      rw [ht]
      exact ⟨(congrArg (fun p => p.2.1) hheld :), (congrArg Prod.fst hheld :),
        fun _ => ⟨rfl, hrest, hhwy, hgone, n, _, htaken, rfl, rfl, rfl, rfl⟩, fun h => by cases h⟩
    | true =>
      rw [hdirty, if_pos rfl] at hcourse
      have hheld := writeOut_held z (spentOn index v s)
      rw [hcourse]
      refine ⟨(tokens_of_held hheld :), (ops_of_held hheld :), fun h => ?_, fun _ hpath hinv => ⟨rfl, ?_⟩⟩
      · cases h
      exact writeOut_cached (s := spentOn index v s) hinv.1 hpath

end Sys2Proof.Machine
end

section
/-!
PROOFS. The image in Study SRAM (Table 17-7): what stops with it, what a rebuild starts, and what both leave alone.
-/

namespace Sys2Proof.Machine

/-! ### What is left alone -/

/-- Rings, operations, Pantry, Larder, and the queue of the Hearth. -/
def State.work (s : State) : List (Nat × Ring) × List Op × Pantry × Larder × List (Nat × Nat) :=
  (s.rings, s.ops, s.pan, s.lar, s.hearth.queue)

theorem work_of_aside {s t : State} (h : t.aside = s.aside) : t.work = s.work := by
  have hqueue : t.hearth.queue = s.hearth.queue := (congrArg (fun u : State => u.hearth.queue) h :)
  rw [State.work, rings_of_aside h, ops_of_aside h, pan_of_aside h, lar_of_aside h, hqueue, State.work]

theorem image_of_still {s t : State} (h : t.still = s.still) : t.image = s.image :=
  (congrArg (fun x : Still => (x.fw, x.cmdRdy, x.txn, x.boot)) h :)

/-- Every queue has the packet in service that it had. -/
structure SameService (s t : State) : Prop where
  serving : ∀ i, (t.inst i).cq.serving = (s.inst i).cq.serving

theorem SameService.refl (s : State) : SameService s s := ⟨fun _ => rfl⟩

theorem SameService.trans {a b c : State} (h : SameService a b) (k : SameService b c) : SameService a c :=
  ⟨fun i => (k.serving i).trans (h.serving i)⟩

theorem sameService_of_insts {s t : State} (h : t.insts = s.insts) : SameService s t :=
  ⟨fun i => by rw [State.inst, h, State.inst]⟩

theorem SameService.ofInsts {s u t : State} (k : SameService u t) (h : u.insts = s.insts) : SameService s t :=
  (sameService_of_insts h).trans k

theorem sameService_foldl {α : Type} {f : State → α → State} (h : ∀ s a, SameService s (f s a)) (l : List α) (s : State) :
    SameService s (l.foldl f s) :=
  ⟨fun i => foldl_keeps (fun s : State => (s.inst i).cq.serving) (fun s a => (h s a).serving i) l s⟩

theorem sameService_modInst {f : Inst → Inst} (hf : ∀ x, (f x).cq.serving = x.cq.serving) (i : Nat) (s : State) :
    SameService s (modInst i f s) := ⟨fun j => by
  rw [inst_modInst]
  split
  · next h => rw [hf, h]
  · rfl⟩

theorem sameService_modCq {f : CmdQ → CmdQ} (hf : ∀ c, (f c).serving = c.serving) (q : Nat) (s : State) :
    SameService s (modCq q f s) := sameService_modInst (f := fun x => { x with cq := f x.cq }) (fun x => hf x.cq) q s

theorem sameService_dropPacketRead (q : Nat) (s : State) : SameService s (dropPacketRead q s) :=
  (sameService_modCq (f := fun c => { c with rdOut := false }) (fun _ => rfl) q _).ofInsts rfl

theorem OnlyBeats.sameService {s t : State} (h : OnlyBeats s t) : SameService s t := by
  obtain ⟨-, -, -, hcq, -⟩ := h
  exact ⟨fun i => congrArg CmdQ.serving (hcq i)⟩

theorem sameService_irqCheck (i : Nat) (s : State) : SameService s (irqCheck i s) := by
  unfold irqCheck
  dsimp only
  split
  · exact (sameService_modInst (by exact fun _ => rfl) i s).trans (onlyBeats_writeReq ..).sameService
  · exact .refl s

theorem sameService_setPend (i typ ring : Nat) (s : State) : SameService s (setPend i typ ring s) := by
  unfold setPend
  split
  · exact sameService_of_insts (modRing_insts ..)
  · exact sameService_modInst (by exact fun _ => rfl) i s

theorem sameService_evWrite (i typ status ring index aux : Nat) (s : State) :
    SameService s (evWrite i typ status ring index aux s) := by
  unfold evWrite
  dsimp only
  split
  · exact sameService_setPend ..
  · split
    · exact ((sameService_modInst (by exact fun _ => rfl) i s).trans (sameService_setPend ..)).trans (sameService_irqCheck ..)
    · exact (sameService_modInst (by exact fun _ => rfl) i s).trans (onlyBeats_writeReq ..).sameService

/-! ### What stops with the image -/

/-- The firmware record when a stage from memory ends. -/
def Fw.unstaged (st : Status) (f : Fw) : Fw :=
  if f.copy.isSome then { f with copy := none, state := .idle, lastStatus := st.code.toNat } else f

/-- The firmware record when a forwarded stage ends. -/
def Fw.unforwarded (f : Fw) : Fw :=
  if f.fwding then { f with state := .idle, fwding := false, fwdLast := false, fwd := [], freeValid := false } else f

/-- From `s` to `t` the firmware record has become `f`, and of what is left alone nothing else has changed. -/
structure FwBecomes (f : Fw) (s t : State) : Prop where
  image : t.image = (f, s.study.cmdRdy, s.txn, s.boot)
  work : t.work = s.work
  halts : t.halts = s.halts
  service : SameService s t

theorem modLink_becomes {f : Fw} {s : State} (h : s.fw = f) (down : Bool) (g : Link → Link) :
    FwBecomes f s (modLink down g s) := by
  subst h
  unfold modLink
  split <;> exact ⟨rfl, rfl, rfl, sameService_of_insts rfl⟩

theorem FwBecomes.trans {f g : Fw} {a b c : State} (h : FwBecomes f a b) (k : FwBecomes g b c) : FwBecomes g a c := by
  have hrest : (b.study.cmdRdy, b.txn, b.boot) = (a.study.cmdRdy, a.txn, a.boot) := congrArg Prod.snd h.image
  exact ⟨k.image.trans (congrArg (Prod.mk g) hrest), k.work.trans h.work, k.halts.trans h.halts, h.service.trans k.service⟩

theorem FwBecomes.fw {f : Fw} {s t : State} (h : FwBecomes f s t) : t.fw = f := congrArg Prod.fst h.image

theorem dropImages_becomes (f : Fw) (s : State) : FwBecomes f s (dropImages { s with fw := f }) :=
  ⟨rfl, rfl, dropImages_halts .., sameService_of_insts rfl⟩

theorem dropStage_becomes (st : Status) (s : State) : FwBecomes (s.fw.unstaged st) s (dropStage st s) := by
  unfold dropStage Fw.unstaged
  cases s.fw.copy with
  | none => exact ⟨rfl, rfl, rfl, .refl s⟩
  | some c =>
    dsimp only
    rw [Option.isSome_some, if_pos rfl]
    split
    · exact (dropImages_becomes _ s).trans (modLink_becomes (dropImages_becomes _ s).fw ..)
    · exact dropImages_becomes _ s

theorem endForward_becomes (s : State) : FwBecomes s.fw.unforwarded s (endForward s) := by
  unfold endForward Fw.unforwarded
  split
  · exact dropImages_becomes _ s
  · exact ⟨rfl, rfl, rfl, .refl s⟩

theorem lowerCmdRdy_frame (s : State) : (lowerCmdRdy s).image = (s.fw, false, s.txn, s.boot) ∧
    (lowerCmdRdy s).work = s.work ∧ (lowerCmdRdy s).halts = s.halts ∧ SameService s (lowerCmdRdy s) := by
  have hheld : (if s.study.cmdRdy then holdRegs s else s).image = s.image ∧
      (if s.study.cmdRdy then holdRegs s else s).work = s.work ∧ (if s.study.cmdRdy then holdRegs s else s).halts = s.halts ∧
      SameService s (if s.study.cmdRdy then holdRegs s else s) := by
    split
    · exact ⟨rfl, rfl, rfl, sameService_of_insts rfl⟩
    · exact ⟨rfl, rfl, rfl, .refl s⟩
  obtain ⟨himage, hwork, hhalts, hserving⟩ := hheld
  unfold lowerCmdRdy
  dsimp only
  generalize (if s.study.cmdRdy then holdRegs s else s) = u at *
  have haside := foldl_keeps State.aside (fun (s : State) q => dropPacketRead_aside q s) (s.insts.map (·.1)) u
  have hhalted := foldl_keeps State.halts (fun (s : State) q => dropPacketRead_halts q s) (s.insts.map (·.1)) u
  have hserved := sameService_foldl (f := fun s q => dropPacketRead q s) (fun s q => sameService_dropPacketRead q s) (s.insts.map (·.1)) u
  generalize List.foldl (fun s q => dropPacketRead q s) u (s.insts.map (·.1)) = v at *
  have hkept := (image_of_aside haside).trans himage
  refine ⟨?_, (work_of_aside haside).trans hwork, hhalted.trans hhalts, (hserving.trans hserved).trans (sameService_of_insts rfl)⟩
  exact congrArg (fun x : Fw × Bool × Txn × Boot => (x.1, false, x.2.2)) hkept

theorem endTxn_frame (code : Nat) (s : State) :
    (∃ x : Txn, x.opened = false ∧ (endTxn code true s).aside = ({ s with txn := x } : State).aside) ∧
      (endTxn code true s).halts = s.halts ∧ SameService s (endTxn code true s) := by
  unfold endTxn
  cases hopen : s.txn.opened with
  | false => exact ⟨⟨s.txn, hopen, rfl⟩, rfl, .refl s⟩
  | true =>
    dsimp only
    rw [if_neg (by decide), if_pos rfl]
    generalize hu : ({ s with txn := _ } : State) = u
    have haside := evWrite_aside 0 Status.txnAborted.code.toNat 0 s.txn.num code (typ := 6) (by decide) u
    have hhalts := evWrite_halts 0 6 Status.txnAborted.code.toNat 0 s.txn.num code u
    have hserved := sameService_evWrite 0 6 Status.txnAborted.code.toNat 0 s.txn.num code u
    subst hu
    exact ⟨⟨_, rfl, haside⟩, hhalts, hserved.ofInsts rfl⟩

/-- The firmware record when the image stops. -/
def Fw.stopped (f : Fw) : Fw := { (f.unstaged .studyRestarted).unforwarded with imageRuns := false }

/-- The image stops: cmd_rdy is low, no transaction is open, and the work stays. -/
theorem imageStops_frame (s : State) : (imageStops s).fw = s.fw.stopped ∧ (imageStops s).study.cmdRdy = false ∧
    (imageStops s).txn.opened = false ∧ (imageStops s).boot = s.boot ∧ (imageStops s).work = s.work ∧
    (imageStops s).halts = s.halts ∧ SameService s (imageStops s) := by
  have hstaged := (dropStage_becomes .studyRestarted s).trans (endForward_becomes (dropStage .studyRestarted s))
  rw [(dropStage_becomes .studyRestarted s).fw] at hstaged
  unfold imageStops
  dsimp only
  generalize endForward (dropStage .studyRestarted s) = u at *
  obtain ⟨himage, hwork, hhalts, hserving⟩ := lowerCmdRdy_frame u
  obtain ⟨⟨x, hx, hend⟩, hendHalts, hendServing⟩ := endTxn_frame 5 (lowerCmdRdy u)
  generalize endTxn 5 true (lowerCmdRdy u) = w at *
  generalize lowerCmdRdy u = v at *
  have hfw : w.fw = (s.fw.unstaged .studyRestarted).unforwarded :=
    (fw_of_aside hend).trans ((congrArg Prod.fst himage).trans hstaged.fw)
  have hready : w.study.cmdRdy = false :=
    (congrArg Study.cmdRdy (study_of_aside hend)).trans (congrArg (fun p => p.2.1) himage)
  have hboot : w.boot = s.boot := (boot_of_aside hend).trans
    ((congrArg (fun p => p.2.2.2) himage).trans (congrArg (fun p => p.2.2.2) hstaged.image))
  refine ⟨?_, hready, (congrArg Txn.opened (txn_of_aside hend)).trans hx, hboot,
    (work_of_aside hend).trans (hwork.trans hstaged.work), hendHalts.trans (hhalts.trans hstaged.halts),
    ((hstaged.service.trans hserving).trans hendServing).trans (sameService_of_insts rfl)⟩
  show { w.fw with imageRuns := false } = _
  rw [hfw, Fw.stopped]

end Sys2Proof.Machine
end

section
/-!
PROOFS. The rebuild of the image (Table 17-8), and its restarts (O49).
-/

namespace Sys2Proof.Machine

/-! ### The rebuild -/

/-- From `s` to `t` neither the record of the image nor the work has changed, and no packet in service. -/
structure SameWork (s t : State) : Prop where
  image : t.image = s.image
  work : t.work = s.work
  service : SameService s t

theorem SameWork.refl (s : State) : SameWork s s := ⟨rfl, rfl, .refl s⟩

theorem SameWork.trans {a b c : State} (h : SameWork a b) (k : SameWork b c) : SameWork a c :=
  ⟨k.image.trans h.image, k.work.trans h.work, h.service.trans k.service⟩

theorem sameWork_foldl {α : Type} {f : State → α → State} (h : ∀ s a, SameWork s (f s a)) (l : List α) (s : State) :
    SameWork s (l.foldl f s) :=
  ⟨foldl_keeps State.image (fun s a => (h s a).image) l s, foldl_keeps State.work (fun s a => (h s a).work) l s,
    sameService_foldl (fun s a => (h s a).service) l s⟩

theorem sameWork_setDrbg (u : Nat) (d : Drbg) (s : State) : SameWork s (setDrbg u d s) := ⟨rfl, rfl, sameService_of_insts rfl⟩

theorem sameWork_draw (s : State) : SameWork s (draw s) := ⟨rfl, rfl, sameService_of_insts rfl⟩

theorem sameWork_seedDrbgs (s : State) : SameWork s (seedDrbgs s) := by
  unfold seedDrbgs
  split
  · refine sameWork_foldl (fun s u => ?_) _ s
    split
    · exact (sameWork_setDrbg ..).trans (sameWork_draw _)
    · exact .refl s
  · exact .refl s

theorem sameWork_generate (u n : Nat) (addin : List Byte) (pr : Bool) (s : State) : SameWork s (generate u n addin pr s).2 := by
  have hfresh : ∀ b : Bool, SameWork s (if b then reseedDrbg u addin s else s) := fun b => by
    split
    · exact (sameWork_setDrbg ..).trans (sameWork_draw _)
    · exact .refl s
  unfold generate
  split
  · exact sameWork_draw s
  · exact (hfresh _).trans (sameWork_setDrbg ..)

theorem sameWork_modLink (down : Bool) (g : Link → Link) (s : State) : SameWork s (modLink down g s) :=
  ⟨(modLink_becomes (s := s) rfl down g).image, (modLink_becomes (s := s) rfl down g).work, (modLink_becomes (s := s) rfl down g).service⟩

theorem sameWork_sendHello (down : Bool) (s : State) : SameWork s (sendHello down s) := by
  unfold sendHello
  dsimp only
  split
  · have hhello : SameWork s (helloOut s).2 := sameWork_generate ..
    exact hhello.trans (sameWork_modLink ..)
  · exact .refl s

theorem sameWork_sendHellos (s : State) : SameWork s (sendHellos s) := (sameWork_sendHello ..).trans (sameWork_sendHello ..)

/-! ### The packets that a restart answers -/

/-- No packet in service waits for an attach. -/
def NoAttach (s : State) : Prop := ∀ i v, (s.inst i).cq.serving = some v → v.wait ≠ .attach

theorem NoAttach.of_sameService {s t : State} (h : NoAttach s) (k : SameService s t) : NoAttach t := fun i v hv =>
  h i v ((k.serving i).symm.trans hv)

theorem noAttach_takeArrivedPacket {s : State} (h : NoAttach s) (q : Nat) (p : List Byte) : NoAttach (takeArrivedPacket q p s) := by
  intro i v hv
  by_cases hi : i = q
  · subst hi
    rw [takeArrivedPacket_serving] at hv
    obtain rfl := Option.some.inj hv
    exact Wait.noConfusion
  · obtain ⟨-, -, -, hother, -⟩ := sameBut_modCq q (fun c => { c with arrived := none, serving := some ⟨p, c.base + c.head.toNat % queueSize q * 256, .none, none⟩ }) s
    exact h i v ((congrArg CmdQ.serving (hother i hi)).symm.trans hv)

theorem noAttach_reply {s : State} (h : NoAttach s) (q : Nat) (st : Status) (d : Nat) (body : List Byte) :
    NoAttach (reply q st d body s) := by
  cases hv : (s.inst q).cq.serving with
  | none => unfold reply; rw [hv]; exact h
  | some v =>
    obtain ⟨⟨-, -, -, hother, -⟩, w, -, hcq⟩ := reply_replied st d body hv
    intro i x hx
    by_cases hi : i = q
    · subst hi
      rw [hcq] at hx
      obtain rfl := Option.some.inj hx
      exact Wait.noConfusion
    · exact h i x ((congrArg CmdQ.serving (hother i hi)).symm.trans hx)

theorem keyinDone_work (q : Nat) (p : List Byte) (s : State) : SameWork s (keyinDone q p s) := by
  unfold keyinDone
  split
  · exact ⟨rfl, rfl, sameService_of_insts rfl⟩
  · exact .refl s

theorem undoAttach_image (w : Wait) (s : State) : (undoAttach w s).image = s.image := by
  unfold undoAttach
  split <;> rfl

/-- A packet that has arrived is taken, unless the restart keeps it. -/
def takeIn (keep : Nat → List Byte → Wait → Bool) (q : Nat) (s : State) : State :=
  (s.inst q).cq.arrived.elim s (fun p => if keep q p .none then s else takeArrivedPacket q p s)

/-- A packet in service is answered, unless it has its reply or the restart keeps it. -/
def answerIn (st : Status) (keep : Nat → List Byte → Wait → Bool) (q : Nat) (s : State) : State :=
  (s.inst q).cq.serving.elim s (fun v =>
    if v.reply.isSome || keep q v.pkt v.wait then s else reply q st 0 [] (undoAttach v.wait (keyinDone q v.pkt s)))

theorem answerTaken_eq (st : Status) (keep : Nat → List Byte → Wait → Bool) (s : State) :
    answerTaken st keep s = (s.insts.map (·.1)).foldl (fun s q => answerIn st keep q (takeIn keep q s)) s := by
  unfold answerTaken
  congr 1
  funext s q
  unfold takeIn answerIn
  dsimp only
  cases (s.inst q).cq.arrived with
  | none =>
    rw [Option.elim_none]
    cases (s.inst q).cq.serving <;> rfl
  | some p =>
    rw [Option.elim_some]
    dsimp only
    generalize (if keep q p .none then s else takeArrivedPacket q p s) = u
    cases (u.inst q).cq.serving <;> rfl

theorem takeIn_frame (keep : Nat → List Byte → Wait → Bool) (q : Nat) (s : State) :
    (takeIn keep q s).aside = s.aside ∧ (NoAttach s → NoAttach (takeIn keep q s)) := by
  unfold takeIn
  cases (s.inst q).cq.arrived with
  | none => exact ⟨rfl, id⟩
  | some p =>
    rw [Option.elim_some]
    split
    · exact ⟨rfl, id⟩
    · exact ⟨takeArrivedPacket_aside .., fun h => noAttach_takeArrivedPacket h q p⟩

theorem answerIn_image (st : Status) (keep : Nat → List Byte → Wait → Bool) (q : Nat) (s : State) :
    (answerIn st keep q s).image = s.image := by
  unfold answerIn
  cases (s.inst q).cq.serving with
  | none => rfl
  | some v =>
    rw [Option.elim_some]
    split
    · rfl
    · exact (image_of_aside (reply_aside ..)).trans ((undoAttach_image ..).trans (keyinDone_work ..).image)

theorem answerIn_work (st : Status) (keep : Nat → List Byte → Wait → Bool) (q : Nat) {s : State} (h : NoAttach s) :
    (answerIn st keep q s).work = s.work ∧ NoAttach (answerIn st keep q s) := by
  unfold answerIn
  cases hv : (s.inst q).cq.serving with
  | none => exact ⟨rfl, h⟩
  | some v =>
    rw [Option.elim_some]
    split
    · exact ⟨rfl, h⟩
    · have hkeyin := keyinDone_work q v.pkt s
      have hundo : undoAttach v.wait (keyinDone q v.pkt s) = keyinDone q v.pkt s := by
        unfold undoAttach
        rw [if_neg (by simpa using h q v hv)]
      rw [hundo]
      exact ⟨(work_of_aside (reply_aside ..)).trans hkeyin.work, fun i w hw =>
        noAttach_reply (h.of_sameService hkeyin.service) q st 0 [] i w hw⟩

theorem answerTaken_image (st : Status) (keep : Nat → List Byte → Wait → Bool) (s : State) :
    (answerTaken st keep s).image = s.image := by
  rw [answerTaken_eq]
  exact foldl_keeps State.image (fun s q => (answerIn_image ..).trans (image_of_aside (takeIn_frame keep q s).1)) _ s

theorem answerTaken_work (st : Status) (keep : Nat → List Byte → Wait → Bool) {s : State} (h : NoAttach s) :
    (answerTaken st keep s).work = s.work := by
  rw [answerTaken_eq]
  generalize s.insts.map (·.1) = l
  induction l generalizing s with
  | nil => rfl
  | cons q l ih =>
    obtain ⟨hside, hkept⟩ := takeIn_frame keep q s
    obtain ⟨hwork, hnext⟩ := answerIn_work st keep q (hkept h)
    rw [List.foldl_cons, ih hnext, hwork, work_of_aside hside]

/-! ### The image starts -/

theorem raiseCmdRdy_image (s : State) : (raiseCmdRdy s).image = (s.fw, true, s.txn, s.boot) := rfl

/-- The image starts: it runs with cmd_rdy high, and the firmware record is otherwise as before. -/
theorem rebuildImage_image (hold : Bool) (s : State) :
    ∃ r, (rebuildImage hold s).image = ({ s.fw with imageRuns := true, rollout := r }, true, s.txn, s.boot) := by
  unfold rebuildImage
  dsimp only
  generalize hu : ({ s with study := _, scu := _, keys := _, stair := _, fw := _ } : State) = u
  have hstart := ((sameWork_setDrbg drbgStudy Drbg.cold u).trans (sameWork_seedDrbgs _)).trans (sameWork_sendHellos _)
  have hanswer := answerTaken_image .studyRestarted restartKeeps (raiseCmdRdy (sendHellos (seedDrbgs (setDrbg drbgStudy Drbg.cold u))))
  rw [raiseCmdRdy_image] at hanswer
  have himage : u.image = ({ s.fw with imageRuns := true }, s.study.cmdRdy, s.txn, s.boot) := by rw [← hu]; rfl
  generalize sendHellos (seedDrbgs (setDrbg drbgStudy Drbg.cold u)) = v at *
  generalize answerTaken .studyRestarted restartKeeps (raiseCmdRdy v) = w at *
  refine ⟨(startRollout hold w).fw.rollout, ?_⟩
  have hv := hstart.image.trans himage
  have hw : w.image = ({ s.fw with imageRuns := true }, true, s.txn, s.boot) :=
    hanswer.trans (congrArg (fun p : Fw × Bool × Txn × Boot => (p.1, true, p.2.2)) hv)
  exact congrArg (fun p : Fw × Bool × Txn × Boot => ({ p.1 with rollout := (startRollout hold w).fw.rollout }, p.2)) hw

theorem rebuildImage_work (hold : Bool) {s : State} (h : NoAttach s) : (rebuildImage hold s).work = s.work := by
  unfold rebuildImage
  dsimp only
  generalize hu : ({ s with study := _, scu := _, keys := _, stair := _, fw := _ } : State) = u
  have hfirst : SameService s u := sameService_of_insts (by rw [← hu])
  have hwork : u.work = s.work := by rw [← hu]; rfl
  have hstart := ((sameWork_setDrbg drbgStudy Drbg.cold u).trans (sameWork_seedDrbgs _)).trans (sameWork_sendHellos _)
  generalize sendHellos (seedDrbgs (setDrbg drbgStudy Drbg.cold u)) = v at *
  have hraised : NoAttach (raiseCmdRdy v) := (h.of_sameService (hfirst.trans hstart.service)).of_sameService (sameService_of_insts rfl)
  have hanswer := answerTaken_work .studyRestarted restartKeeps hraised
  generalize answerTaken .studyRestarted restartKeeps (raiseCmdRdy v) = w at *
  exact (show (startRollout hold w).work = w.work from rfl).trans
    (hanswer.trans ((show (raiseCmdRdy v).work = v.work from rfl).trans (hstart.work.trans hwork)))

end Sys2Proof.Machine
end

section
/-!
PROOFS. The soft reset and the restarts of the Study (O49).
-/

namespace Sys2Proof.Machine

/-! ### A write to a unit's register -/

theorem unitWrite_ok {off : Nat} {strb : BitVec 8} {s : State} (h : UnitOk off strb s) (k : State → State) :
    unitWrite off strb k s = finish (k (onUnit off s)) := by
  unfold unitWrite
  dsimp only
  rw [if_pos (show writable (0x10000000 + off) strb s = true from h)]
  rfl

/-- A write to a unit's register is answered and ends Idle. -/
theorem onUnit_eq (off : Nat) (s : State) :
    ∃ p w, onUnit off s = { s with porch := p, pwr := { s.pwr with state := w } } := by
  unfold onUnit stir answerWrite
  dsimp only
  split
  · exact ⟨_, _, rfl⟩
  · exact ⟨_, s.pwr.state, rfl⟩

theorem resetTaken_onUnit (data : Word) (off : Nat) (s : State) : resetTaken data (onUnit off s) = resetTaken data s := by
  obtain ⟨p, w, hu⟩ := onUnit_eq off s
  rw [hu]
  rfl

/-! ### The soft reset -/

/-- What a soft reset sets at once (step 1 of Table 18-3). -/
def resetBegun (keep rom : Bool) (b : Option BringUp) (r : RomTest) (s : State) : State :=
  { s with
    cel := { s.cel with tick := s.tickNow }, stair := { s.stair with fromCellar := true }, specs := []
    fw := { s.fw with landing := none }, boot := { s.boot with rom := r, run := none, lines := [] }
    pwr := { s.pwr with
      state := .active, step := 0, softReset := some 1, keepImage := keep, romAfter := rom, softUs := 0, bring := b
      grants := false, entry := none, target := 0 }
    diag := { s.diag with armed := [] } }

/-- Beyond what it sets at once a soft reset ends the transaction. -/
theorem startSoftReset_aside (keep rom : Bool) (b : Option BringUp) (r : RomTest) (s : State) :
    ∃ x : Txn, x.opened = false ∧
      (startSoftReset keep rom b r s).aside = ({ resetBegun keep rom b r s with txn := x } : State).aside := by
  have hdrop : ∀ (c : Bool) (u : State), ((if c then fun s => s else dropImages) u).aside = u.aside := fun c u => by
    split
    · rfl
    · exact dropImages_aside u
  unfold startSoftReset
  dsimp only
  generalize hv : dropReads _ _ = v
  have hside : v.aside = (resetBegun keep rom b r s).aside := by
    rw [← hv, dropReads_aside]
    exact hdrop _ _
  obtain ⟨⟨x, hx, hend⟩, -⟩ := endTxn_frame 5 v
  exact ⟨x, hx, hend.trans (congrArg (fun u : State => { u with txn := x }) hside)⟩

/-! ### A restart of the Study -/

theorem stopped_sram (f : Fw) : f.stopped.sram = f.sram := by
  unfold Fw.stopped Fw.unforwarded Fw.unstaged
  split <;> split <;> rfl

theorem image_fields {s : State} {f : Fw} {c : Bool} {x : Txn} {b : Boot} (h : s.image = (f, c, x, b)) :
    s.fw = f ∧ s.study.cmdRdy = c ∧ s.txn = x ∧ s.boot = b := by
  simpa [State.image] using h

theorem work_fields {s t : State} (h : t.work = s.work) :
    t.rings = s.rings ∧ t.ops = s.ops ∧ t.pan = s.pan ∧ t.lar = s.lar ∧ t.hearth.queue = s.hearth.queue := by
  simpa [State.work] using h

/-- A restart keeps the image and every table; while Landing takes its time the image stands still. -/
theorem restartStudy_course {x : LandingRun} {s : State} (hboot : s.boot.run = none) (hland : s.fw.landing = none)
    (hstate : s.fw.state ≠ .trial) (hok : x.sramOk = true) (hno : NoAttach s) :
    (x.us = 0 → ImageRestarted s (restartStudy x s)) ∧ (0 < x.us → Lands 3 x s (restartStudy x s)) := by
  have hcourse : restartStudy x s = land ⟨x.us, 3, x, false, []⟩ (imageStops (dropLines s)) := by
    unfold restartStudy
    rw [hland]
    dsimp only
    rw [if_neg (by simpa using hstate), restartImage, if_pos hok]
  obtain ⟨hfw, hready, hclosed, hrun, hwork, -, hserving⟩ := imageStops_frame (dropLines s)
  have hnone : (imageStops (dropLines s)).boot.run = none := by rw [hrun]; exact hboot
  have hno' : NoAttach (imageStops (dropLines s)) := hno.of_sameService (hserving.ofInsts rfl)
  rw [show (dropLines s).fw = s.fw from rfl] at hfw
  rw [show (dropLines s).work = s.work from rfl] at hwork
  rw [hcourse]
  generalize imageStops (dropLines s) = v at *
  refine ⟨fun hus => ?_, fun hus => ?_⟩
  · have hend : land ⟨x.us, 3, x, false, []⟩ v = rebuildImage false { v with fw := { v.fw with landing := none } } := by
      unfold land
      rw [if_pos (by simpa using hus)]
      show restartEnd ⟨x.us, 3, x, false, []⟩ { v with fw := { v.fw with landing := none } } = _
      unfold restartEnd imageAgain
      dsimp only
      rw [if_pos hok, hnone]
    rw [hend]
    obtain ⟨r, himage⟩ := rebuildImage_image false { v with fw := { v.fw with landing := none } }
    obtain ⟨hfw', hready', htxn, -⟩ := image_fields himage
    obtain ⟨hrings, hops, hpan, hlar, hqueue⟩ := work_fields ((rebuildImage_work false
      (s := { v with fw := { v.fw with landing := none } }) (hno'.of_sameService (sameService_of_insts rfl))).trans hwork)
    refine ⟨hready', by rw [hfw'], ?_, by rw [htxn]; exact hclosed, hrings, hops, hpan, hlar, hqueue⟩
    rw [hfw', hfw]
    exact stopped_sram s.fw
  · obtain ⟨hrings, hops, -⟩ := work_fields hwork
    unfold land
    rw [if_neg (by simp; omega)]
    exact ⟨⟨_, rfl, rfl, rfl, rfl⟩, hready, by rw [hfw]; rfl, hrings, hops⟩

theorem mismatchCause_sound {s : State} (h : Sound s) : mismatchCause s = s := by
  obtain ⟨harmed, hupsets⟩ := h
  unfold mismatchCause
  simp [State.injected, State.armed?, harmed, hupsets]

/-- A failure of the Study outside a soft reset restarts it. -/
theorem studyFails_course {x : LandingRun} {s : State} (hsoft : s.pwr.softReset = none) : studyFails x s = restartStudy x s := by
  unfold studyFails
  rw [hsoft]
  rfl

/-- Settles O49: the soft reset, the restart by register, by watchdog and by lockstep mismatch, and the stop of bring-up. -/
theorem restartsAndSoftReset : Obligations.RestartsAndSoftReset := by
  refine ⟨fun s strb data b hunit => ⟨fun htaken hbit => ?_, fun htaken => ?_⟩,
    fun s strb data x hunit => ⟨fun hnot => ?_, fun htaken hbit hruns hstate hok hboot hland hno => ?_⟩,
    fun s x hmain hland => ⟨fun hruns hboot hstate hok hsoft hno => ⟨fun hready => ?_, fun hstep hsound => ?_⟩,
      fun hruns hstep hsoft => ?_⟩⟩
  · obtain ⟨y, hy, hside⟩ := startSoftReset_aside (data.getLsbD 2) false (if data.getLsbD 2 then some b else none) b.rom
      (onUnit 0x10300 s)
    obtain ⟨p, w, hu⟩ := onUnit_eq 0x10300 s
    refine ⟨startSoftReset (data.getLsbD 2) false (if data.getLsbD 2 then some b else none) b.rom (onUnit 0x10300 s), ?_, ?_⟩
    · refine (congrArg Host.Outcome.next (unitWrite_ok hunit _)).trans ?_
      rw [resetTaken_onUnit, htaken, hbit]
      rfl
    · generalize startSoftReset _ false _ b.rom (onUnit 0x10300 s) = t at *
      rw [hu] at hside
      have hpwr := pwr_of_aside hside
      refine ⟨?_, ?_, ?_, ?_, ?_, ?_, ?_, (specs_of_aside hside :), ?_, ?_, (cel_of_aside hside :), (rings_of_aside hside :),
        (ops_of_aside hside :), (pan_of_aside hside :)⟩
      · rw [hpwr]; rfl
      · rw [hpwr]; rfl
      · rw [hpwr]; rfl
      · rw [hpwr]; rfl
      · rw [hpwr]; rfl
      · rw [hpwr]; rfl
      · rw [boot_of_aside hside]; rfl
      · rw [diag_of_aside hside]; rfl
      · rw [txn_of_aside hside]; exact hy
  · refine (congrArg Host.Outcome.next (unitWrite_ok hunit _)).trans ?_
    rw [resetTaken_onUnit, htaken]
    rfl
  · refine (congrArg Host.Outcome.next (unitWrite_ok hunit _)).trans ?_
    obtain ⟨p, w, hu⟩ := onUnit_eq 0x10300 s
    have hruns : (onUnit 0x10300 s).fw.imageRuns = s.fw.imageRuns := by rw [hu]
    rw [resetTaken_onUnit, hruns]
    rcases hnot with h | h <;> simp [h]
  · obtain ⟨p, w, hu⟩ := onUnit_eq 0x10300 s
    have hcourse := restartStudy_course (s := onUnit 0x10300 s) (x := x) (by rw [hu]; exact hboot) (by rw [hu]; exact hland)
      (by rw [hu]; exact hstate) hok (by rw [hu]; exact hno)
    refine ⟨restartStudy x (onUnit 0x10300 s), ?_, ?_⟩
    · refine (congrArg Host.Outcome.next (unitWrite_ok hunit _)).trans ?_
      have hruns' : (onUnit 0x10300 s).fw.imageRuns = true := by rw [hu]; exact hruns
      rw [resetTaken_onUnit, htaken, hbit, hruns']
      rfl
    · rw [hu] at hcourse ⊢
      exact hcourse
  · refine ⟨restartStudy x s, ?_, restartStudy_course hboot hland hstate hok hno⟩
    refine congrArg Host.Outcome.next ((if_pos (by simp [hmain, hruns, hready])).trans ?_)
    rw [studyFails_course hsoft]
  · refine ⟨restartStudy x s, ?_, restartStudy_course hboot hland hstate hok hno⟩
    refine congrArg Host.Outcome.next ((if_neg (by simp [hmain, hstep])).trans ((if_pos (by simp [hruns])).trans ?_))
    rw [mismatchCause_sound hsound, studyFails_course hsoft]
  · refine ⟨dropImages (bootStop 2 { s with fw := { s.fw with sram := [] } }), ?_, rfl, rfl, rfl⟩
    exact congrArg Host.Outcome.next ((if_neg (by simp [hmain, hstep])).trans (if_neg (by simp [hruns, hland, hsoft])))

end Sys2Proof.Machine
end

section
/-!
PROOFS. The Pantry door at work leaves the record of the image alone: firmware, cmd_rdy, transaction and bring-up.
-/

namespace Sys2Proof.Machine

theorem endOp_image (id : Nat) (st : Status) (good : Nat) (s : State) : (endOp id st good s).image = s.image :=
  image_of_still (endOp_still ..)

theorem failUndispatched_image (o : Op) (st : Status) (s : State) : (failUndispatched o st s).image = s.image :=
  image_of_still (failUndispatched_still ..)

theorem wakeIndex_image (index : Nat) (s : State) : (wakeIndex index s).image = s.image := rfl

theorem failFetch_image (index : Nat) (st : Status) (s : State) : (failFetch index st s).image = s.image := by
  have hcount : (if st == .larderIntegrity then countIntegrity index s else s).image = s.image := by split <;> rfl
  unfold failFetch
  dsimp only
  rw [wakeIndex_image, foldl_keeps State.image (fun s o => failUndispatched_image o st s)]
  exact hcount

/-! ### Installs -/

theorem sampleIn_image (i id : Nat) (s : State) : (sampleIn i id s).image = s.image := by
  unfold sampleIn
  dsimp only
  split
  · split <;> rfl
  · rfl

theorem noteDispatch_image (o : Op) (s : State) : (noteDispatch o s).image = s.image := by
  have hcount : (fixedOp 16 1 o (countOp 2 1 o s)).image = s.image :=
    image_of_aside ((fixedOp_aside ..).trans (countOp_aside ..))
  have hbytes : ∀ (b : Bool) (u : State), (if b then fixedOp 19 o.payload o u else u).image = u.image := fun b u => by
    split
    · exact image_of_aside (fixedOp_aside ..)
    · rfl
  have hsample : ∀ (b : Bool) (i : Nat) (u : State), (if b then sampleIn i o.id u else u).image = u.image := fun b i u => by
    split
    · exact sampleIn_image ..
    · rfl
  have hring : ∀ (f : Ring → Ring) (u : State), (modRing o.ring f u).image = u.image := fun f u => image_of_still (modRing_still ..)
  unfold noteDispatch
  exact (hring _ _).trans ((hsample _ _ _).trans ((hsample _ _ _).trans ((hbytes _ _).trans hcount)))

theorem installDone_image (id serial : Nat) (s : State) : (installDone id serial s).image = s.image := by
  unfold installDone
  split
  · rfl
  · exact (endOp_image ..).trans (noteDispatch_image ..)

theorem placeFetch_image (index k : Nat) (s : State) : (placeFetch index k s).2.image = s.image := by
  induction k generalizing s with
  | zero => rfl
  | succ k ih =>
    unfold placeFetch
    split
    · rfl
    · split
      · rfl
      · next f _ _ x _ =>
        generalize (if x.wide then 2 else 1) = size
        generalize (if f.incMap then BitVec.allOnes 1024 else 0) = map
        split
        · obtain ⟨slots, hframe⟩ := installSlot_frame x map (dropFetch index s)
          rw [hframe]
          rfl
        · split
          · split
            · exact ih _
            · next y _ =>
              split
              · rfl
              · split
                · exact ih _
                · split
                  · exact ih _
                  · split
                    · rfl
                    · have hwalk := path_held y.index s
                      generalize path y.index s = r at hwalk ⊢
                      dsimp only
                      split
                      · exact image_of_held ((readSlotWord_held _ (writeVictim_held y) _).trans hwalk)
                      · exact image_of_held hwalk
          · split
            · rfl
            · split
              · rfl
              · dsimp only
                rw [ih]
                split <;> rfl

/-- The end of an install whose blob is sound and whose serial is new. -/
def installPlace (id : Nat) (o : Op) (pt : List Byte) (s : State) : State :=
  let i := s.ctxOf o
  let (x, m) := installedSlot s o pt
  if !pinOk s o.inst (pinsOf x) && polPinned x.policy then
    failCheck o .ctxPinLimit (wakeIndex i (dropFetch i s))
  else
    let (done, s) := placeFetch i 3 (modFetch i (fun f => { f with inc := some x, incMap := m }) s)
    if done then wakeIndex i (installDone id x.serial (modOp id (fun y => { y with phase := .ready }) s)) else s

theorem installPlace_image (id : Nat) (o : Op) (pt : List Byte) (s : State) : (installPlace id o pt s).image = s.image := by
  unfold installPlace
  dsimp only
  split
  · exact failUndispatched_image ..
  · have hplace := placeFetch_image (s.ctxOf o) 3 (modFetch (s.ctxOf o) (fun f => { f with
      inc := some (installedSlot s o pt).1, incMap := (installedSlot s o pt).2 }) s)
    generalize placeFetch (s.ctxOf o) 3 _ = r at hplace ⊢
    split
    · rw [wakeIndex_image, installDone_image]
      exact hplace
    · exact hplace

theorem installRest_image (id : Nat) (tomb : Option Nat) (s : State) : (installRest id tomb s).image = s.image := by
  unfold installRest
  split
  · rfl
  · next o _ =>
    split
    · exact failUndispatched_image ..
    · next pt _ =>
      have hcourse : ∀ c : Bool, (if c = true then failCheck o .ctxSerial (wakeIndex (s.ctxOf o) (dropFetch (s.ctxOf o) s))
          else installPlace id o pt s).image = s.image := fun c => by
        split
        · exact failUndispatched_image ..
        · exact installPlace_image ..
      cases tomb with
      | none => exact hcourse false
      | some t => exact hcourse _

/-! ### Fetches -/

theorem placeInc_image (f : Fetch) (x : Slot) (s : State) : (placeInc f x s).image = s.image := by
  have hplace := placeFetch_image f.index 3 s
  unfold placeInc
  generalize placeFetch f.index 3 s = r at hplace ⊢
  dsimp only
  split
  · exact hplace
  · split
    · rw [wakeIndex_image, installDone_image]
      exact hplace
    · rw [wakeIndex_image]
      exact (image_of_aside (addCounter_aside ..)).trans hplace

theorem placeLive_image (f : Fetch) (x : Slot) (s : State) : (placeLive f x s).image = s.image := by
  unfold placeLive
  dsimp only
  split
  · exact failFetch_image ..
  · rw [placeInc_image]
    split <;> rfl

theorem takeLive_image (f : Fetch) (x : Slot) (s : State) : (takeLive f x s).image = s.image := by
  unfold takeLive
  split
  · next id _ =>
    have hrest : ∀ u : State, u.image = s.image → (if u.ops.any (fun o => o.phase == .parked f.index)
        then placeLive { f with probe := none } x u else wakeIndex f.index (dropFetch f.index u)).image = s.image := fun u hu => by
      split
      · exact (placeLive_image ..).trans hu
      · exact hu
    cases s.op? id with
    | none => exact hrest s rfl
    | some o => exact hrest _ (failUndispatched_image ..)
  · exact placeLive_image ..

theorem takeEmpty_image (f : Fetch) (s : State) : (takeEmpty f s).image = s.image := by
  unfold takeEmpty
  split
  · exact installRest_image ..
  · exact failFetch_image ..

theorem takeBlob_image (f : Fetch) (b : List Byte) (s : State) : (takeBlob f b s).image = s.image := by
  unfold takeBlob
  split
  · exact failFetch_image ..
  · exact takeEmpty_image ..
  · split
    · exact installRest_image ..
    · exact failFetch_image ..
  · exact takeLive_image ..

theorem askBlob_image (f : Fetch) (s : State) : (askBlob f s).image = s.image := by
  unfold askBlob
  split
  · rfl
  · exact image_of_aside (readReq_aside ..)

theorem advanceFetch_image (f : Fetch) (s : State) : (advanceFetch f s).2.image = s.image := by
  unfold advanceFetch
  dsimp only
  split
  · rfl
  · have hwalk := image_of_held (path_held f.index s)
    generalize path f.index s = r at hwalk ⊢
    split
    · dsimp only
      split
      · exact (askBlob_image ..).trans hwalk
      · exact hwalk
    · split
      · exact hwalk
      · exact hwalk
      · exact (askBlob_image ..).trans hwalk

theorem stepFetch_image (index : Nat) (s : State) : (stepFetch index s).image = s.image := by
  unfold stepFetch
  split
  · rfl
  · next f _ =>
    split
    · exact failFetch_image ..
    · split
      · rfl
      · split
        · rfl
        · split
          · exact placeInc_image ..
          · have hadvance := advanceFetch_image f s
            generalize advanceFetch f s = r at hadvance ⊢
            split
            · exact hadvance
            · exact (takeEmpty_image ..).trans hadvance
            · exact (takeBlob_image ..).trans hadvance

/-! ### The door -/

theorem progressTomb_image (index : Nat) (s : State) : (progressTomb index s).image = s.image := by
  unfold progressTomb
  split
  · split
    · have hwalk := image_of_held (path_held index s)
      generalize path index s = r at hwalk ⊢
      dsimp only
      split
      · have hraise := image_of_held (raiseAt_held 0 (index / 64) (index % 64) r.2)
        generalize raiseAt 0 (index / 64) (index % 64) r.2 = v at hraise ⊢
        exact (image_of_aside (writeReq_aside ..)).trans (hraise.trans hwalk)
      · exact hwalk
    · rfl
  · rfl

theorem doorStep_image (s : State) : (doorStep s).image = s.image := by
  unfold doorStep
  dsimp only
  rw [foldl_keeps State.image (fun s (p : Nat × Slot) => progressTomb_image p.2.index s),
    foldl_keeps State.image (fun s i => stepFetch_image i s)]

theorem doorTick_image (s : State) : (doorTick s).image = s.image := by
  unfold doorTick
  split
  · exact doorStep_image s
  · rfl

end Sys2Proof.Machine
end

section
/-!
PROOFS. Activation and fall-back (O18): the image stops, the bundle is read, and the image that Landing brings starts.
-/

namespace Sys2Proof.Machine

/-! ### The bundle is asked for -/

theorem stopped_slots (f : Fw) :
    f.stopped.base = f.base ∧ f.stopped.runSlot = f.runSlot ∧ (f.fwding = false → f.stopped.freeValid = f.freeValid) := by
  have hstage : (f.unstaged .studyRestarted).base = f.base ∧ (f.unstaged .studyRestarted).runSlot = f.runSlot ∧
      (f.unstaged .studyRestarted).freeValid = f.freeValid ∧ (f.unstaged .studyRestarted).fwding = f.fwding := by
    unfold Fw.unstaged
    split <;> exact ⟨rfl, rfl, rfl, rfl⟩
  obtain ⟨hbase, hslot, hvalid, hfwding⟩ := hstage
  unfold Fw.stopped Fw.unforwarded
  split
  · next h => exact ⟨hbase, hslot, fun hno => by rw [hfwding, hno] at h; cases h⟩
  · exact ⟨hbase, hslot, fun _ => hvalid⟩

/-- The next block of a Landing is asked for, and nothing else changes. -/
theorem landAsk_course (l : Landing) {s : State} (hports : s.hwy.ports.length = 8) :
    (landAsk l s).fw = { s.fw with landing := some l } ∧ (landAsk l s).study = s.study ∧ (landAsk l s).rings = s.rings ∧
      (landAsk l s).ops = s.ops ∧
      ReadDue 0 (s.slotAddr (2 ≤ l.kind) + 4096 * l.got.length) (.image l.got.length) (landAsk l s) := by
  have hside : (landAsk l s).aside = ({ s with fw := { s.fw with landing := some l } } : State).aside := readReq_aside ..
  refine ⟨(fw_of_aside hside :), (study_of_aside hside :), (rings_of_aside hside :), (ops_of_aside hside :), ?_⟩
  exact readDue_readReq (s := { s with fw := { s.fw with landing := some l } }) (by rw [hports]; decide) (by decide)

/-- An activation whose port works stops the image and reads the staged bundle from block 1 on. -/
theorem activate_course {handover : Bool} {x : LandingRun} {s : State} (hports : s.hwy.ports.length = 8)
    (hport : (s.port 0).halted = false) :
    Lands (if handover then 0 else 1) x s (activate handover x s) ∧
      ReadDue 0 (s.slotAddr false + 4096) (.image 1) (activate handover x s) := by
  obtain ⟨hfw, hready, -, -, hwork, hhalts, -⟩ := imageStops_frame s
  obtain ⟨hrings, hops, -⟩ := work_fields hwork
  obtain ⟨hbase, hslot, -⟩ := stopped_slots s.fw
  have hlen : (imageStops s).hwy.ports.length = 8 := (ports_length_of_halts hhalts).trans hports
  have hworks : ((imageStops s).port 0).halted = false := (halted_of_halts 0 hhalts).trans hport
  have haddr : (imageStops s).slotAddr false = s.slotAddr false := by
    rw [State.slotAddr, hfw, hbase, hslot, State.slotAddr]
  unfold activate
  dsimp only
  rw [hworks, if_neg Bool.false_ne_true]
  have hkind : (decide (2 ≤ (if handover then 0 else 1))) = false := by cases handover <;> rfl
  obtain ⟨hfw', hstudy, hrings', hops', hdue⟩ := landAsk_course
    ⟨x.us, if handover then 0 else 1, x, true, [(imageStops s).fw.freeHdr]⟩ hlen
  refine ⟨⟨⟨_, congrArg Fw.landing hfw', rfl, rfl, rfl⟩, ?_, ?_, hrings'.trans hrings, hops'.trans hops⟩, ?_⟩
  · rw [hstudy]; exact hready
  · rw [hfw', hfw]; rfl
  · rw [← haddr, ← hkind]
    exact hdue

/-- A fall-back whose port works stops the image and reads the bundle that ran before. -/
theorem fallBack_course {x : LandingRun} {s : State} (hports : s.hwy.ports.length = 8) (hport : (s.port 0).halted = false)
    (hfwding : s.fw.fwding = false) :
    let t := fallBack true x s
    Lands 2 x s t ∧ ReadDue 0 (s.slotAddr false) (.image 0) t ∧ t.fw.state = .fallingBack ∧
      t.fw.lastStatus = Status.fwFellBack.code.toNat ∧ t.fw.runSlot = !s.fw.runSlot ∧ t.fw.runValid = s.fw.freeValid := by
  obtain ⟨hfw, hready, -, -, hwork, hhalts, -⟩ := imageStops_frame (dropImages s)
  obtain ⟨hrings, hops, -⟩ := work_fields hwork
  rw [show (dropImages s).fw = s.fw from rfl] at hfw
  have hhalts' : (imageStops (dropImages s)).halts = s.halts := hhalts.trans (dropImages_halts s)
  obtain ⟨hbase, hslot, hvalid⟩ := stopped_slots s.fw
  have hlen : (imageStops (dropImages s)).hwy.ports.length = 8 := (ports_length_of_halts hhalts').trans hports
  have hworks : ((imageStops (dropImages s)).port 0).halted = false := (halted_of_halts 0 hhalts').trans hport
  unfold fallBack
  dsimp only
  rw [if_pos rfl]
  generalize imageStops (dropImages s) = v at *
  set w := fwLast .fwFellBack { v with fw := { swapSlots { v.fw with freeHdr := v.fw.sram.headD [] } with
    state := .fallingBack, armedHere := false, byChain := false } } with hw
  have hread : readSlot 2 x w = landAsk ⟨x.us, 2, x, true, []⟩ w := by
    unfold readSlot
    rw [show (w.port 0).halted = false from hworks, if_neg Bool.false_ne_true]
  have haddr : w.slotAddr (2 ≤ 2) = s.slotAddr false := by
    show v.fw.base + (if (!v.fw.runSlot) == true then 2097152 else 0) = _
    rw [hfw, hbase, hslot, State.slotAddr]
    cases s.fw.runSlot <;> rfl
  obtain ⟨hfw', hstudy, hrings', hops', hdue⟩ := landAsk_course ⟨x.us, 2, x, true, []⟩ (s := w) hlen
  rw [hread, hfw']
  refine ⟨⟨⟨_, congrArg Fw.landing hfw', rfl, rfl, rfl⟩, ?_, ?_, hrings'.trans hrings, hops'.trans hops⟩, ?_, rfl, rfl, ?_, ?_⟩
  · rw [hstudy]; exact hready
  · rw [hfw']
    show v.fw.imageRuns = false
    rw [hfw]; rfl
  · rw [← haddr]
    exact hdue
  · show (!v.fw.runSlot) = _
    rw [hfw, hslot]
  · show v.fw.freeValid = _
    rw [hfw, hvalid hfwding]

/-! ### The image that Landing brings -/

theorem answerActivate_image (st : Status) (s : State) :
    ∃ d, (answerActivate st s).image = ({ s.fw with replyDue := d }, s.study.cmdRdy, s.txn, s.boot) := by
  unfold answerActivate
  split
  · exact ⟨false, image_of_aside (reply_aside ..)⟩
  · exact ⟨s.fw.replyDue, rfl⟩

/-- The firmware record once a staged image has started in TRIAL. -/
def Fw.trialOf (l : Landing) (r : List Nat) (d : Bool) (f : Fw) : Fw :=
  { swapSlots { f with freeHdr := f.sram.headD [], sram := l.got } with
    state := .trial, tick := 0, imageRuns := true, rollout := r, replyDue := d }

/-- The state in which a staged image starts: its records are swapped in, and nothing runs yet. -/
def trialState (l : Landing) (s : State) : State :=
  { s with fw := { swapSlots { s.fw with freeHdr := s.fw.sram.headD [], sram := l.got } with state := .trial, tick := 0 } }

/-- The first start of a staged image in state `u`: in the same Study at a HANDOVER, after a rebuild otherwise. -/
def trialStart (handover : Bool) (u : State) : State :=
  if handover then
    startRollout false (raiseCmdRdy { u with
      study := { u.study with proto := if protoIn (u.fw.sram.headD []) u.study.proto then u.study.proto else 0x0100 }
      fw := { u.fw with imageRuns := true } })
  else rebuildImage false u

theorem startStaged_eq (handover : Bool) (l : Landing) (s : State) :
    startStaged handover l s = answerActivate .ok (trialStart handover (trialState l s)) := rfl

theorem trialStart_image (handover : Bool) (u : State) :
    ∃ r, (trialStart handover u).image = ({ u.fw with imageRuns := true, rollout := r }, true, u.txn, u.boot) := by
  cases handover with
  | true => exact ⟨_, rfl⟩
  | false => exact rebuildImage_image false u

theorem startStaged_image (handover : Bool) (l : Landing) (s : State) :
    ∃ r d, (startStaged handover l s).image = (s.fw.trialOf l r d, true, s.txn, s.boot) := by
  obtain ⟨r, hr⟩ := trialStart_image handover (trialState l s)
  obtain ⟨hvfw, hvready, hvtxn, hvboot⟩ := image_fields hr
  obtain ⟨d, hd⟩ := answerActivate_image .ok (trialStart handover (trialState l s))
  exact ⟨r, d, by rw [startStaged_eq, hd, hvfw, hvready, hvtxn, hvboot]; rfl⟩

/-- A staged image that starts is the new image. -/
theorem startStaged_newImage {handover : Bool} {l : Landing} {s u t : State} (hfw : ∃ x, s.fw = { u.fw with landing := x })
    (hclosed : s.txn.opened = false) (ht : t.image = (startStaged handover l s).image) : NewImage u l.got t := by
  obtain ⟨r, d, himage⟩ := startStaged_image handover l s
  obtain ⟨hnew, hready, htxn, -⟩ := image_fields (ht.trans himage)
  obtain ⟨x, hx⟩ := hfw
  rw [hx] at hnew
  refine ⟨?_, ?_, ?_, ?_, ?_, ?_, ?_, hready, by rw [htxn]; exact hclosed⟩ <;> rw [hnew] <;> rfl

theorem fallEnd_image {l : Landing} {s : State} (hgood : bundleFault s.build none l.got = none) :
    ∃ r d, (fallEnd l s).image =
      ({ s.fw with state := .idle, sram := l.got, imageRuns := true, rollout := r, replyDue := d }, true, s.txn, s.boot) := by
  unfold fallEnd
  dsimp only
  rw [hgood, Option.isSome_none, if_neg Bool.false_ne_true]
  obtain ⟨r, hr⟩ := rebuildImage_image true { s with fw := { s.fw with state := .idle, sram := l.got } }
  obtain ⟨hvfw, hvready, hvtxn, hvboot⟩ := image_fields hr
  obtain ⟨d, hd⟩ := answerActivate_image .fwFellBack (rebuildImage true { s with fw := { s.fw with state := .idle, sram := l.got } })
  exact ⟨r, d, hd.trans (by rw [hvfw, hvready, hvtxn, hvboot])⟩

/-- The last block of a Landing, sound, ends the reading: the image starts at once or after its time. -/
theorem landBlock_last {s : State} {l : Landing} {b : List Byte} (hok : blockOk b = true)
    (htotal : ({ l with got := l.got ++ [b] } : Landing).total ≤ l.got.length + 1)
    (hgood : l.kind < 2 → digestOk (l.got.headD b) ((l.got ++ [b]).drop 1) = true ∧ l.run.selfCheck = true) :
    landBlock l b s = land { l with got := l.got ++ [b] } s := by
  have hhead : (l.got ++ [b]).headD [] = l.got.headD b := by cases l.got <;> rfl
  unfold landBlock
  dsimp only
  rw [hok, if_neg (by decide), if_pos (by simpa using htotal), landRead]
  dsimp only
  by_cases hkind : 2 ≤ l.kind
  · rw [if_pos hkind]
  · obtain ⟨hdigest, hself⟩ := hgood (by omega)
    rw [if_neg hkind, hhead, hdigest, hself, if_neg (by decide), if_neg (by decide)]

theorem imageCame_landing {s : State} {l : Landing} (h : s.fw.landing = some l) (b : List Byte) :
    imageCame b s = landBlock l b s := by
  unfold imageCame
  rw [h]

theorem landingEnd_staged {l : Landing} {s : State} (h : l.kind < 2) :
    ∃ handover, landingEnd l s = startStaged handover l { s with fw := { s.fw with landing := none } } := by
  obtain ⟨us, kind, run, reading, got⟩ := l
  match kind, h with
  | 0, _ => exact ⟨true, rfl⟩
  | 1, _ => exact ⟨false, rfl⟩

/-! ### HANDOVER -/

theorem all_tset {α : Type} {P : Nat × α → Bool} {k : Nat} (hk : ∀ v, P (k, v) = true) (v : α) (l : List (Nat × α)) :
    (tset k v l).all P = l.all P := by
  induction l with
  | nil => simp [tset, hk]
  | cons p t ih =>
    unfold tset
    split
    · rw [List.all_cons, List.all_cons, ih]
    · split
      · next hp =>
        obtain rfl : p.1 = k := by simpa using hp
        rw [List.all_cons, List.all_cons, hk, show P p = true from hk p.2]
      · rw [List.all_cons, hk, Bool.true_and]

/-- A packet taken into service leaves whether the other queues are quiet. -/
theorem quietStudy_inService (q : Nat) (p : List Byte) (s : State) : quietStudy (some q) (inService q p s) = quietStudy (some q) s := by
  have hstir : (stir s).insts = s.insts := by unfold stir; split <;> rfl
  have hinsts : (inService q p s).insts = tset q { (stir s).inst q with
      cq := { ((stir s).inst q).cq with
        arrived := none
        serving := some ⟨p, ((stir s).inst q).cq.base + ((stir s).inst q).cq.head.toNat % queueSize q * 256, .none, none⟩ } } s.insts := by
    rw [← hstir]
    rfl
  rw [quietStudy, hinsts, all_tset (by simp)]
  rfl

/-- A packet that passes its checks is acted on by the row that takes it. -/
theorem command_served {q op : Nat} {p : List Byte} {s : State} {mine : List Byte → Bool} (k : List Byte → State → State)
    (h : Taken q op p s) (hmine : mine p = true) : command q mine k s = finish (k p (inService q p s)) := by
  obtain ⟨hready, harrived, hstate, -, hfault⟩ := h
  simp [command, serve, hready, harrived, hstate, hmine, stir_inst, packetFault_stir, hfault, inService]

theorem wakeForCommand_frame (s : State) : (wakeForCommand s).fw = s.fw ∧ (wakeForCommand s).hwy = s.hwy ∧
    (wakeForCommand s).rings = s.rings ∧ (wakeForCommand s).ops = s.ops := by
  unfold wakeForCommand wake
  split <;> exact ⟨rfl, rfl, rfl, rfl⟩

theorem stir_frame (s : State) : (stir s).fw = s.fw ∧ (stir s).hwy = s.hwy ∧ (stir s).rings = s.rings ∧ (stir s).ops = s.ops := by
  unfold stir
  split <;> exact ⟨rfl, rfl, rfl, rfl⟩

theorem Lands.of_work {kind : Nat} {x : LandingRun} {s u t : State} (h : Lands kind x u t) (hrings : u.rings = s.rings)
    (hops : u.ops = s.ops) : Lands kind x s t := by
  obtain ⟨hl, hready, hruns, hr, ho⟩ := h
  exact ⟨hl, hready, hruns, hr.trans hrings, ho.trans hops⟩

theorem slotAddr_of_slots {s t : State} (hbase : t.fw.base = s.fw.base) (hslot : t.fw.runSlot = s.fw.runSlot) (running : Bool) :
    t.slotAddr running = s.slotAddr running := by
  rw [State.slotAddr, hbase, hslot, State.slotAddr]

/-! ### EVICTION_TOKEN_REFILL -/

theorem cellarMicro_calm {s : State} (h : s.diag.asserted = []) :
    (cellarMicro (microsecond s)).image = s.image := by
  unfold cellarMicro
  dsimp only
  rw [show (microsecond s).diag.asserted = [] from h]
  rfl

theorem bootTick_done {s : State} (h : s.boot.step = 0x0A) : bootTick s = s := by
  unfold bootTick
  rw [h]
  split <;> rfl

end Sys2Proof.Machine
end

section
/-!
PROOFS. The rows of an activation (O18): HANDOVER, ARMED_TICK, TRIAL_TIMEOUT, the last block of a Landing, and the end of its time.
-/

namespace Sys2Proof.Machine

/-- A HANDOVER that passes its checks starts the activation once no other queue has a packet to answer, and waits otherwise. -/
theorem handOver_course {q : Nat} {x : LandingRun} {p : List Byte} {s : State} (hports : s.hwy.ports.length = 8)
    (hport : (s.port 0).halted = false) (hcheck : activateCheck (inService q p s) p = none) :
    let t := handOver q x p (inService q p s)
    (quietStudy (some q) s = true → Lands 0 x s t ∧ ReadDue 0 (s.slotAddr false + 4096) (.image 1) t) ∧
      (quietStudy (some q) s = false → Waiting q .handover (inService q p s) t) := by
  unfold handOver
  dsimp only
  rw [hcheck, quietStudy_inService]
  refine ⟨fun hquiet => ?_, fun hbusy => ?_⟩
  · dsimp only
    rw [if_pos hquiet]
    obtain ⟨hfw, hhwy, hrings, hops⟩ := wakeForCommand_frame
      { inService q p s with fw := { (inService q p s).fw with replyDue := true } }
    generalize wakeForCommand { inService q p s with fw := { (inService q p s).fw with replyDue := true } } = w at *
    have hhwy' : w.hwy = s.hwy := hhwy.trans (inService_hwy q p s)
    obtain ⟨hlands, hdue⟩ := activate_course (handover := true) (x := x) (s := waitFor q .newImage w)
      (by rw [show (waitFor q .newImage w).hwy = s.hwy from hhwy']; exact hports)
      (by rw [State.port, show (waitFor q .newImage w).hwy = s.hwy from hhwy']; exact hport)
    have haddr : (waitFor q .newImage w).slotAddr false = s.slotAddr false :=
      slotAddr_of_slots ((congrArg Fw.base hfw).trans (congrArg (fun f : Fw => f.base) (inService_fw q p s) :))
        ((congrArg Fw.runSlot hfw).trans (congrArg (fun f : Fw => f.runSlot) (inService_fw q p s) :)) false
    rw [haddr] at hdue
    exact ⟨hlands.of_work (hrings.trans (inService_rings q p s)) (hops.trans (inService_ops q p s)), hdue⟩
  · dsimp only
    rw [if_neg (by rw [hbusy]; exact Bool.false_ne_true)]
    exact waitFor_waiting .handover (inService_serving q p s)

theorem execHandover_eq {q : Nat} {x : LandingRun} {p : List Byte} {s : State} (htaken : Taken q 0x51 p s)
    (hmode : par 0 1 p = 0) (hfree : servingWaits q .handover s = false) :
    exec (.handover q x) s = .next (finish (handOver q x p (inService q p s))) := by
  have hmine : (isOp 0x51 p && (par 0 1 p == 0 || par 0 1 p > 3)) = true := by
    obtain ⟨-, -, -, hop, -⟩ := htaken
    simp [isOp, hop, hmode]
  exact congrArg Host.Outcome.next ((if_neg (by rw [hfree]; exact Bool.false_ne_true)).trans
    (command_served (handOver q x) htaken hmine))

theorem execArmedTick_eq {x : LandingRun} {s : State} (hmain : s.pins.mainUp = true) (hland : s.fw.landing = none)
    (hsoft : s.pwr.softReset = none) (harmed : s.fw.state = .armed) (htick : s.fw.tick ≤ s.tickNow) :
    exec (.armedTick x) s = .next (finish (activate false x (stir s))) :=
  congrArg Host.Outcome.next (if_pos (by simp [hmain, hland, hsoft, harmed, htick]))

theorem execTrialTimeout_eq {x : LandingRun} {s : State} (hmain : s.pins.mainUp = true) (hland : s.fw.landing = none)
    (hsoft : s.pwr.softReset = none) (htrial : s.fw.state = .trial) (hlocked : s.cel.locked = false) :
    exec (.trialTimeout x) s = .next (finish (fallBack true x (stir s))) :=
  congrArg Host.Outcome.next (if_pos (by simp [hmain, hland, hsoft, htrial, hlocked]))

theorem activate_stir {x : LandingRun} {s : State} (hports : s.hwy.ports.length = 8) (hport : (s.port 0).halted = false) :
    Lands 1 x s (activate false x (stir s)) ∧
      ReadDue 0 (s.slotAddr false + 4096) (.image 1) (activate false x (stir s)) := by
  obtain ⟨hfw, hhwy, hrings, hops⟩ := stir_frame s
  generalize stir s = u at *
  obtain ⟨hlands, hdue⟩ := activate_course (handover := false) (x := x) (s := u) (by rw [hhwy]; exact hports)
    (by rw [State.port, hhwy]; exact hport)
  rw [slotAddr_of_slots (congrArg Fw.base hfw) (congrArg Fw.runSlot hfw)] at hdue
  exact ⟨hlands.of_work hrings hops, hdue⟩

theorem fallBack_stir {x : LandingRun} {s : State} (hports : s.hwy.ports.length = 8) (hport : (s.port 0).halted = false)
    (hfwding : s.fw.fwding = false) :
    let t := fallBack true x (stir s)
    Lands 2 x s t ∧ ReadDue 0 (s.slotAddr false) (.image 0) t ∧ t.fw.state = .fallingBack ∧
      t.fw.lastStatus = Status.fwFellBack.code.toNat ∧ t.fw.runSlot = !s.fw.runSlot ∧ t.fw.runValid = s.fw.freeValid := by
  obtain ⟨hfw, hhwy, hrings, hops⟩ := stir_frame s
  generalize stir s = u at *
  obtain ⟨hlands, hdue, hstate, hlast, hslot, hvalid⟩ := fallBack_course (x := x) (s := u) (by rw [hhwy]; exact hports)
    (by rw [State.port, hhwy]; exact hport) (by rw [hfw]; exact hfwding)
  rw [slotAddr_of_slots (congrArg Fw.base hfw) (congrArg Fw.runSlot hfw)] at hdue
  rw [hfw] at hslot hvalid
  exact ⟨hlands.of_work hrings hops, hdue, hstate, hlast, hslot, hvalid⟩

/-! ### The Landing ends -/

theorem land_now {l : Landing} {s : State} (h : l.us = 0) : land l s = landingEnd l s :=
  if_pos (by rw [h]; rfl)

theorem land_later {l : Landing} {s : State} (h : 0 < l.us) :
    land l s = { s with fw := { s.fw with landing := some { l with reading := false } } } :=
  if_neg (by simp; omega)

theorem landingEnd_newImage {l : Landing} {s u : State} (hkind : l.kind < 2) (hfw : s.fw = u.fw)
    (hclosed : s.txn.opened = false) {t : State} (ht : t.image = (landingEnd l s).image) : NewImage u l.got t := by
  obtain ⟨handover, hend⟩ := landingEnd_staged (l := l) (s := s) hkind
  exact startStaged_newImage (s := { s with fw := { s.fw with landing := none } }) ⟨none, by rw [hfw]⟩ hclosed
    (ht.trans (congrArg State.image hend))

theorem landingEnd_fall {l : Landing} {s : State} (h : l.kind = 2) :
    landingEnd l s = fallEnd l { s with fw := { s.fw with landing := none } } := by
  obtain ⟨us, kind, run, reading, got⟩ := l
  obtain rfl : kind = 2 := h
  rfl

/-- The end of a staged Landing leaves the bring-up where it is. -/
theorem landingEnd_boot {l : Landing} {s : State} (h : l.kind < 2) : (landingEnd l s).boot = s.boot := by
  obtain ⟨handover, hend⟩ := landingEnd_staged (l := l) (s := s) h
  obtain ⟨r, d, himage⟩ := startStaged_image handover l { s with fw := { s.fw with landing := none } }
  obtain ⟨-, -, -, hboot⟩ := image_fields himage
  rw [hend, hboot]

/-- The microsecond in which the time of a Landing runs out. -/
theorem landingTick_last {l : Landing} {s : State} (hland : s.fw.landing = some l) (hus : l.us = 1) (hread : l.reading = false) :
    landingTick s = landingEnd l s := by
  unfold landingTick
  rw [hland]
  dsimp only
  rw [hread, if_neg Bool.false_ne_true, if_pos (by omega)]

theorem execEvictionTokenRefill_eq {s : State} (hmain : s.pins.mainUp = true) : exec .evictionTokenRefill s =
    .next (finish (redispatch (doorTick (bootTick (landingTick (cellarMicro (microsecond s))))))) :=
  congrArg Host.Outcome.next (if_pos hmain)

/-- In that microsecond the staged image starts. -/
theorem microTicks_newImage {s : State} {l : Landing} (hland : s.fw.landing = some l) (hus : l.us = 1) (hread : l.reading = false)
    (hkind : l.kind < 2) (hclosed : s.txn.opened = false) (hstep : s.boot.step = 0x0A) (hcalm : s.diag.asserted = []) :
    NewImage s l.got (doorTick (bootTick (landingTick (cellarMicro (microsecond s))))) := by
  obtain ⟨hfw, -, htxn, hboot⟩ := image_fields (cellarMicro_calm hcalm)
  generalize cellarMicro (microsecond s) = v at *
  have hdone : (landingEnd l v).boot.step = 0x0A := by rw [landingEnd_boot hkind, hboot]; exact hstep
  rw [landingTick_last (by rw [hfw]; exact hland) hus hread, bootTick_done hdone]
  exact landingEnd_newImage hkind hfw (by rw [htxn]; exact hclosed) (doorTick_image _)

/-- A sound last block ends a Landing that takes no time. -/
theorem lastBlock_now {s : State} {l : Landing} {b : List Byte} (hland : s.fw.landing = some l) (hok : blockOk b = true)
    (htotal : ({ l with got := l.got ++ [b] } : Landing).total ≤ l.got.length + 1)
    (hgood : l.kind < 2 → digestOk (l.got.headD b) ((l.got ++ [b]).drop 1) = true ∧ l.run.selfCheck = true) (hus : l.us = 0) :
    deliverWhole (.image l.got.length) b s = landingEnd { l with got := l.got ++ [b] } s :=
  (imageCame_landing hland b).trans ((landBlock_last hok htotal hgood).trans (land_now hus))

/-- Settles O18: an activation stops the image and reads the staged bundle, a sound bundle starts in TRIAL at once or after
Landing's time, and an unconfirmed trial falls back. -/
theorem firmwareActivates : Obligations.FirmwareActivates := by
  refine ⟨fun s x hinv hport => ⟨fun q p htaken hmode hcheck hfree => ?_, fun hmain hland hsoft harmed htick => ?_,
      fun hmain hland hsoft htrial hfwding hlocked => ?_⟩,
    fun s l b _ hland hclosed hok htotal => ⟨fun hus hgood => ?_, fun hus hkind hdigest hself => ?_, fun hus hkind hgood => ?_⟩,
    fun s l hmain hland hus hread hkind hclosed hstep hcalm => ?_⟩
  · exact ⟨_, execHandover_eq htaken hmode hfree, handOver_course hinv.1 hport hcheck⟩
  · exact ⟨_, execArmedTick_eq hmain hland hsoft harmed htick, activate_stir hinv.1 hport⟩
  · exact ⟨_, execTrialTimeout_eq hmain hland hsoft htrial hlocked, fallBack_stir hinv.1 hport hfwding⟩
  · exact (imageCame_landing hland b).trans ((landBlock_last hok htotal hgood).trans (land_later hus))
  · exact landingEnd_newImage (l := { l with got := l.got ++ [b] }) hkind rfl hclosed
      (congrArg State.image (lastBlock_now hland hok htotal (fun _ => ⟨hdigest, hself⟩) hus))
  · have hcourse := (lastBlock_now hland hok htotal (fun h => by omega) hus).trans
      (landingEnd_fall (l := { l with got := l.got ++ [b] }) hkind)
    obtain ⟨r, d, himage⟩ := fallEnd_image (l := { l with got := l.got ++ [b] })
      (s := { s with fw := { s.fw with landing := none } }) hgood
    obtain ⟨hfw, hready, -⟩ := image_fields ((congrArg State.image hcourse).trans himage)
    exact ⟨by rw [hfw], by rw [hfw], by rw [hfw], hready⟩
  · exact ⟨_, execEvictionTokenRefill_eq hmain, microTicks_newImage hland hus hread hkind hclosed hstep hcalm⟩

end Sys2Proof.Machine
end

section
/-!
PROOFS. Packets of the command queues: what reset leaves (O60), the device commands (O1), the checks of Table 2-6 (O2), the
transactions (O8) and the stageable commands (O5).
-/

namespace Sys2Proof.Machine

open Sys2Proof

/-! ### Reset -/

/-- After reset no instance but the manager is present (R74). -/
theorem reset_inst_absent {i : Nat} (h : i ≠ 0) : (State.reset.inst i).state = .absent := by
  have hnone : tget i State.reset.insts = none := by simp [State.reset, tget, Ne.symm h]
  rw [State.inst, hnone]
  rfl

/-- The block after reset has the ports and units of its build. -/
theorem reset_inv : State.reset.Inv := by
  unfold State.Inv
  decide

/-- Settles O60: every register stands at the cold value of its table, and the table of instances holds the manager alone. -/
theorem resetLeaves : Obligations.ResetLeaves := by
  refine ⟨reset_inv, rfl, rfl, rfl, rfl, fun i h => reset_inst_absent h, ?_⟩
  repeat' constructor

/-! ### The device commands -/

/-- A packet in service changes nothing that the DEV_QUERY reply shows (Table 2-12). -/
theorem devQueryBody_inService (q : Nat) (p : List Byte) (s : State) :
    devQueryBody q (inService q p s) = devQueryBody q s := by
  have hbody := inService_body q p s q
  have hquota : ((inService q p s).inst q).ringQuota = (s.inst q).ringQuota := (congrArg Inst.ringQuota hbody :)
  have hmax : ((inService q p s).inst q).quota = (s.inst q).quota := (congrArg Inst.quota hbody :)
  have hbase : ((inService q p s).inst q).ctxBase = (s.inst q).ctxBase := (congrArg Inst.ctxBase hbody :)
  have hlimit : ((inService q p s).inst q).ctxLimit = (s.inst q).ctxLimit := (congrArg Inst.ctxLimit hbody :)
  have hgen : ((inService q p s).inst q).gen = (s.inst q).gen := (congrArg Inst.gen hbody :)
  have hcel : (inService q p s).cel = s.cel := by unfold inService stir; split <;> rfl
  have hpos : (inService q p s).position = s.position := by unfold inService stir; split <;> rfl
  unfold devQueryBody
  simp only [hquota, hmax, hbase, hlimit, hgen, hcel, hpos, inService_build, inService_fw, inService_study, inService_txn]

/-- DEV_CAPS_NEGOTIATE of a packet in service (R48). -/
theorem negotiate_replied {q : Nat} {p : List Byte} {u : State} {v : Serving} (hv : (u.inst q).cq.serving = some v) :
    let h := u.fw.sram.headD []
    let top := min (par 2 2 p) (field 30 2 h)
    if par 0 2 p ≤ top ∧ field 28 2 h ≤ top then
      (negotiate q p u).study.proto = BitVec.ofNat 16 top ∧
        Replied q .ok 0 (leBytes 2 top ++ leBytes 6 0) (u.withProto top) (negotiate q p u)
    else Replied q .cmdVersion 0 [] u (negotiate q p u) := by
  dsimp only
  split
  · next h =>
    have ht := (max_le_iff.2 h)
    rw [negotiate, if_pos ht]
    exact ⟨congrArg Study.proto (study_of_aside (reply_aside ..)), reply_replied _ _ _ hv⟩
  · next h =>
    have ht := fun k => h (max_le_iff.1 k)
    rw [negotiate, if_neg ht]
    exact reply_replied _ _ _ hv

/-- Settles O1: both rows act on a packet in service, whose reply is `reply_replied`. -/
theorem deviceCommandsAnswer : Obligations.DeviceCommandsAnswer := by
  refine ⟨fun s q p h => ?_, fun s q p h => ?_⟩
  · refine ⟨_, congrArg Host.Outcome.next (command_taken _ h), ?_⟩
    rw [devQueryBody_inService]
    exact reply_replied _ _ _ (inService_serving q p s)
  · refine ⟨_, congrArg Host.Outcome.next (command_taken _ h), ?_⟩
    have hneg := negotiate_replied (p := p) (inService_serving q p s)
    rwa [inService_fw] at hneg

/-! ### The checks of Table 2-6 -/

theorem inRejection_serving (q : Nat) (p : List Byte) (s : State) :
    ∃ v, ((inRejection q p s).inst q).cq.serving = some v := ⟨_, takeArrivedPacket_serving ..⟩

/-- The rows that serve a packet by its opcode alone. -/
def opcodeRows (q : Nat) : List (Nat × Instr) :=
  [(0x01, .devQuery q), (0x02, .devCapsNegotiate q), (0x10, .instCreate q), (0x12, .instQuiesce q),
    (0x13, .instReset q), (0x14, .shareSet q), (0x20, .ringCreate q), (0x21, .ringDestroy q), (0x22, .ringResume q),
    (0x23, .ringReset q), (0x30, .txnBegin q), (0x31, .txnCommit q), (0x32, .txnRollback q), (0x41, .unlock q),
    (0x52, .fwConfirm q), (0x60, .moverResume q), (0x70, .hearthAbort q), (0x80, .diagInject q),
    (0x90, .counterConfig q), (0xA0, .larderAttach q), (0xA1, .larderReset q)]

/-- Each of those rows is `command` on the packets of its opcode. -/
theorem exec_opcodeRows {q op : Nat} {c : Instr} (h : (op, c) ∈ opcodeRows q) (s : State) :
    ∃ k, exec c s = .next (command q (isOp op) k s) := by
  simp only [opcodeRows, List.mem_cons, Prod.mk.injEq, List.not_mem_nil, or_false] at h
  rcases h with ⟨rfl, rfl⟩ | ⟨rfl, rfl⟩ | ⟨rfl, rfl⟩ | ⟨rfl, rfl⟩ | ⟨rfl, rfl⟩ | ⟨rfl, rfl⟩ | ⟨rfl, rfl⟩ | ⟨rfl, rfl⟩ |
    ⟨rfl, rfl⟩ | ⟨rfl, rfl⟩ | ⟨rfl, rfl⟩ | ⟨rfl, rfl⟩ | ⟨rfl, rfl⟩ | ⟨rfl, rfl⟩ | ⟨rfl, rfl⟩ | ⟨rfl, rfl⟩ | ⟨rfl, rfl⟩ |
    ⟨rfl, rfl⟩ | ⟨rfl, rfl⟩ | ⟨rfl, rfl⟩ | ⟨rfl, rfl⟩
  all_goals exact ⟨_, rfl⟩

/-- CMD_UNKNOWN answers a packet that no row serves with the first check it fails. -/
theorem exec_cmdUnknown {q : Nat} {p : List Byte} {s : State} {st : Status} {d : Nat} (hready : s.study.cmdRdy = true)
    (harrived : (s.inst q).cq.arrived = some p) (hunserved : pkState p = 1 → cmdInfo (pkOpcode p) = none)
    (hfault : packetFault s q p = some (st, d)) :
    exec (.cmdUnknown q) s = .next (finish (reply q st d [] (inRejection q p s))) := by
  have hrow : (pkState p == 1 && (cmdInfo (pkOpcode p)).isSome) = false := by
    by_cases h : pkState p = 1
    · rw [hunserved h]; simp
    · simp [h]
  have hserve : serveUnknown q (stir s) = reply q st d [] (inRejection q p s) := by
    simp only [serveUnknown, stir_inst, harrived, hrow, packetFault_stir, hfault, Bool.false_eq_true, if_false]
    rfl
  exact congrArg Host.Outcome.next ((if_pos hready).trans (congrArg finish hserve))

theorem packetFault_notPosted {q : Nat} {p : List Byte} (s : State) (h : pkState p ≠ 1) :
    packetFault s q p = some (.cmdNotPosted, 18) := by
  simp [packetFault, h]

/-- The two answers to a posted packet of an unlisted opcode (steps 2 and 3 of Table 2-6). -/
theorem packetFault_unlisted {q : Nat} {p : List Byte} (s : State) (hposted : pkState p = 1)
    (hop : cmdInfo (pkOpcode p) = none) :
    packetFault s q p = if pkVer p = s.study.proto.toNat then some (.cmdUnknown, 0) else some (.cmdVersion, 2) := by
  have h1 : pkOpcode p ≠ 1 := fun h => by rw [h] at hop; cases hop
  have h2 : pkOpcode p ≠ 2 := fun h => by rw [h] at hop; cases hop
  by_cases hver : pkVer p = s.study.proto.toNat <;> simp [packetFault, hposted, hop, h1, h2, hver]

/-- Settles O2: a row answers the first failed check by `command_failed`, CMD_UNKNOWN by `exec_cmdUnknown`. -/
theorem packetsChecked : Obligations.PacketsChecked := by
  refine ⟨fun s q op p st d c hrow hready harrived hposted hop hfault => ?_, fun s q p hready harrived => ?_⟩
  · obtain ⟨k, hk⟩ := exec_opcodeRows hrow s
    obtain ⟨v, hv⟩ := inRejection_serving q p s
    have hcommand := command_failed (isOp op) k hready harrived hposted (by simp [isOp, hop]) hfault
    exact ⟨_, hk.trans (congrArg Host.Outcome.next hcommand), reply_replied _ _ _ hv⟩
  · obtain ⟨v, hv⟩ := inRejection_serving q p s
    refine ⟨fun hstate => ?_, fun hposted hop hver => ?_, fun hposted hop hver => ?_⟩
    · exact ⟨_, exec_cmdUnknown hready harrived (fun h => absurd h hstate) (packetFault_notPosted s hstate),
        reply_replied _ _ _ hv⟩
    · exact ⟨_, exec_cmdUnknown hready harrived (fun _ => hop) ((packetFault_unlisted s hposted hop).trans (if_pos hver)),
        reply_replied _ _ _ hv⟩
    · exact ⟨_, exec_cmdUnknown hready harrived (fun _ => hop) ((packetFault_unlisted s hposted hop).trans (if_neg hver)),
        reply_replied _ _ _ hv⟩

end Sys2Proof.Machine
end

section
/-!
PROOFS. Transactions (O8) and the commands staged in them (O5).
-/

namespace Sys2Proof.Machine

open Sys2Proof

/-! ### The end of a transaction -/

/-- A transaction that its commands end (R66, R67): the record alone changes. -/
theorem endTxn_commanded {s : State} (code : Nat) (h : s.txn.opened = true) : endTxn code false s =
    s.withTxn { s.txn with opened := false, lastEnd := code, staged := [], taken := false } := by
  simp [endTxn, h, State.withTxn]

/-- A transaction that Wilto ends by itself (R69): its number is kept, and a record is written. -/
theorem endTxn_byItself {s : State} (code : Nat) (h : s.txn.opened = true) :
    (endTxn code true s).aside = (s.withTxn { s.txn with
      opened := false, lastEnd := code, staged := [], taken := false, aborted := s.txn.num :: s.txn.aborted }).aside := by
  simp only [endTxn, h, Bool.not_true, Bool.false_eq_true, if_false, if_true]
  exact evWrite_aside _ _ _ _ _ (by decide) _

theorem withTxn_serving (x : Txn) (q : Nat) (p : List Byte) (s : State) :
    ∃ v, (((inService q p s).withTxn x).inst q).cq.serving = some v := ⟨_, inService_serving q p s⟩

theorem inService_tickNow (q : Nat) (p : List Byte) (s : State) : (inService q p s).tickNow = s.tickNow := by
  unfold inService stir; split <;> rfl

/-! ### TXN_BEGIN and TXN_COMMIT -/

/-- The record of a transaction that TXN_BEGIN opens (R55, R56, R59). -/
def Txn.begun (p : List Byte) (x : Txn) : Txn :=
  { x with
    opened := true, num := x.next, next := txnAfter x.next, staged := [], taken := false,
    timeoutMs := if par 0 4 p == 0 then 2000 else par 0 4 p, aborted := x.aborted.filter (fun k => k != x.next) }

theorem beginTxn_closed {q : Nat} {p : List Byte} {s : State} (h : s.txn.opened = false) :
    beginTxn q p s = reply q .ok 0 (leBytes 4 s.txn.next ++ leBytes 4 0) (s.withTxn (s.txn.begun p)) := by
  simp only [beginTxn, h, Bool.false_eq_true, if_false]
  rfl

theorem beginTxn_opened {q : Nat} {p : List Byte} {s : State} (h : s.txn.opened = true) :
    beginTxn q p s = reply q .txnOpen 0 [] s := by
  simp only [beginTxn, h, if_true]

/-- The three courses of a TXN_COMMIT that passes Table 2-6 (R64, R66). -/
theorem commitTxn_replied {q : Nat} {s : State} {v : Serving} (hv : (s.inst q).cq.serving = some v) :
    let u := s.withTxn { s.txn with taken := true }
    (s.txn.staged = [] → s.txn.opened = true →
      Replied q .ok 0 (commitBody 0 s.tickNow)
        (u.withTxn { s.txn with opened := false, lastEnd := 1, staged := [], taken := false }) (commitTxn q s)) ∧
    (s.txn.staged ≠ [] → recheck 0 s.txn.staged u = none → Waiting q .commit u (commitTxn q s)) ∧
    (∀ n, s.txn.staged ≠ [] → recheck 0 s.txn.staged u = some n → s.txn.opened = true →
      Replied q .txnConflict n []
        (u.withTxn { s.txn with opened := false, lastEnd := 7, staged := [], taken := false }) (commitTxn q s)) := by
  intro u
  have hcommit : commitTxn q s = if u.txn.staged.isEmpty then reply q .ok 0 (commitBody 0 u.tickNow) (endTxn 1 false u)
      else match recheck 0 u.txn.staged u with
        | some n => reply q .txnConflict n [] (endTxn 7 false u)
        | none => waitFor q .commit u := rfl
  have hstaged : u.txn.staged = s.txn.staged := rfl
  refine ⟨fun hnone hopen => ?_, fun hsome hpass => ?_, fun n hsome hfail hopen => ?_⟩
  · rw [hcommit, hstaged, hnone, endTxn_commanded 1 (s := u) hopen]
    exact reply_replied _ _ _ hv
  · rw [hcommit, hstaged, hpass, if_neg (by simpa using hsome)]
    exact waitFor_waiting _ hv
  · rw [hcommit, hstaged, hfail, if_neg (by simpa using hsome), endTxn_commanded 7 (s := u) hopen]
    exact reply_replied _ _ _ hv

/-- Settles O8: each row acts on a packet in service; what a rollback by Wilto itself leaves is read off `State.aside`. -/
theorem transactionsRun : Obligations.TransactionsRun := by
  refine ⟨fun s q p h => ?_, fun s q p h hopen => ?_, fun s hopen htaken => ?_, fun s q p h => ?_⟩
  · refine ⟨_, congrArg Host.Outcome.next (command_taken _ h), fun hopen => ?_, fun hclosed => ?_⟩
    · rw [beginTxn_opened ((congrArg Txn.opened (inService_txn q p s)).trans hopen)]
      exact reply_replied _ _ _ (inService_serving q p s)
    · obtain ⟨v, hv⟩ := withTxn_serving (s.txn.begun p) q p s
      rw [beginTxn_closed ((congrArg Txn.opened (inService_txn q p s)).trans hclosed), inService_txn]
      refine ⟨s.txn.begun p, rfl, rfl, rfl, rfl, ?_, rfl, rfl, by simp [Txn.begun], reply_replied _ _ _ hv⟩
      simp only [Txn.begun, beq_iff_eq]
  · refine ⟨_, congrArg Host.Outcome.next (command_taken _ h), ?_⟩
    rw [endTxn_commanded 2 ((congrArg Txn.opened (inService_txn q p s)).trans hopen), inService_txn]
    obtain ⟨v, hv⟩ := withTxn_serving { s.txn with opened := false, lastEnd := 2, staged := [], taken := false } q p s
    exact reply_replied _ _ _ hv
  · have hend := endTxn_byItself 3 hopen
    refine ⟨endTxn 3 true s, ?_, ?_, (ops_of_aside hend :), (lar_of_aside hend :), (pan_of_aside hend :),
      (cel_of_aside hend :)⟩
    · exact congrArg Host.Outcome.next (if_pos (by simp [hopen, htaken]))
    · rw [txn_of_aside hend, ← htaken]
      rfl
  · refine ⟨_, congrArg Host.Outcome.next (command_taken _ h), ?_⟩
    have hcourses := commitTxn_replied (inService_serving q p s)
    rwa [inService_txn, inService_tickNow] at hcourses

theorem Taken.opcode {q op : Nat} {p : List Byte} {s : State} (h : Taken q op p s) : pkOpcode p = op := h.2.2.2.1

/-! ### Free ring numbers -/

/-- No number is free where each below the limit is in use (R175). -/
theorem lowestFree_none {limit : Nat} {used : List Nat} (h : ∀ n, n < limit → n ∈ used) : lowestFree limit used = none := by
  unfold lowestFree
  split
  · next n hn =>
    have hfree : n ∉ used := by simpa using List.find?_some hn
    exact if_neg fun hlt => hfree (h n hlt)
  · rfl

theorem mem_keys_of_tget {α : Type} {k : Nat} {l : List (Nat × α)} (h : tget k l ≠ none) : k ∈ l.map (·.1) := by
  by_contra hk
  exact h (tget_eq_none hk)

/-- A number taken is below the limit and not in use. -/
theorem lowestFree_some {limit n : Nat} {used : List Nat} (h : lowestFree limit used = some n) : n ∉ used := by
  unfold lowestFree at h
  split at h
  · next m hm =>
    split at h
    · cases h
      simpa using List.find?_some hm
    · cases h
  · cases h

theorem inService_stagedAll (q : Nat) (p : List Byte) (s : State) : (inService q p s).stagedAll = s.stagedAll := by
  rw [State.stagedAll, inService_txn, State.stagedAll]

theorem inService_reservedRings (q : Nat) (p : List Byte) (s : State) :
    (inService q p s).reservedRings = s.reservedRings := by
  rw [State.reservedRings, inService_stagedAll, State.reservedRings]

/-- The number that a staged RING_CREATE takes is free in the staged view and not reserved (R61). -/
theorem freeRing?_some {u : State} {n : Nat} (h : freeRing? true u = some n) :
    tget n (stagedView u.stagedAll u).rings = none ∧ n ∉ u.reservedRings := by
  have hused := lowestFree_some h
  rw [List.mem_append, not_or] at hused
  exact ⟨tget_eq_none hused.1, hused.2⟩

/-- Where each number is in use in the staged view, or reserved, none is free. -/
theorem freeRing?_none {u : State} (h : ∀ n, n < u.build.rings →
    tget n (stagedView u.stagedAll u).rings ≠ none ∨ n ∈ u.reservedRings) : freeRing? true u = none :=
  lowestFree_none fun n hn => List.mem_append.2 ((h n hn).imp mem_keys_of_tget id)

/-! ### Staging -/

/-- The reply body of a staged command (R62): the number of a ring to be created, the entries that a destruction meets. -/
def stagedBody (p : List Byte) (ring : Nat) (s : State) : List Byte :=
  if pkOpcode p == 0x20 then leBytes 2 ring ++ leBytes 6 0
  else if pkOpcode p == 0x11 then leBytes 8 (s.instOps (par 0 2 p)).length
  else if pkOpcode p == 0x21 then leBytes 8 (s.ringOps (par 0 2 p)).length else []

section
variable {q : Nat} {p : List Byte} {u : State} (now : Nat → State → State) (htxn : pkTxn p ≠ 0)
  (hfault : stageFault (stagedView u.stagedAll u) [] [] p = none)
include htxn hfault

/-- A command that passes its checks joins the staged ones, and is not run (R57, R60). -/
theorem stageOrRun_staged (hring : pkOpcode p = 0x20 → (freeRing? true u).isSome = true) :
    stageOrRun q p now u = reply q .okStaged u.txn.staged.length (stagedBody p (freeRing true u) u)
      (u.withTxn { u.txn with staged := u.txn.staged ++ [⟨p, freeRing true u⟩] }) := by
  have hnone : (if pkOpcode p == 0x20 && (freeRing? true u).isNone then some (Status.ringNoneFree, 0) else none) = none := by
    refine if_neg fun h => ?_
    obtain ⟨hop, hfree⟩ := Bool.and_eq_true_iff.1 h
    have hsome := hring (by simpa using hop)
    rw [Option.isNone_iff_eq_none.1 hfree] at hsome
    cases hsome
  have hstaging : (pkTxn p != 0) = true := by simpa using htxn
  simp only [stageOrRun, hstaging, if_true, hfault, Option.none_or, hnone]
  rfl

/-- A RING_CREATE that finds no free number is refused, and not staged (R175). -/
theorem stageOrRun_noneFree (hop : pkOpcode p = 0x20) (hring : freeRing? true u = none) :
    stageOrRun q p now u = reply q .ringNoneFree 0 [] u := by
  have hstaging : (pkTxn p != 0) = true := by simpa using htxn
  simp [stageOrRun, hstaging, hfault, hop, hring]

end

/-- Each stageable row is `stageOrRun` on the packets that it takes. -/
theorem exec_stageable {q op : Nat} {p : List Byte} {c : Instr} {s : State}
    (hrow : (op, c) ∈ ([(0x10, .instCreate q), (0x11, .instDestroy q), (0x14, .shareSet q), (0x20, .ringCreate q),
      (0x21, .ringDestroy q), (0x90, .counterConfig q)] : List (Nat × Instr)))
    (h : Taken q op p s) (hkek : op = 0x11 → ∀ x, s.keys.kekPending = some x → x.1 ≠ par 0 2 p) :
    ∃ now, exec c s = .next (finish (stageOrRun q p now (inService q p s))) := by
  simp only [List.mem_cons, Prod.mk.injEq, List.not_mem_nil, or_false] at hrow
  rcases hrow with ⟨rfl, rfl⟩ | ⟨rfl, rfl⟩ | ⟨rfl, rfl⟩ | ⟨rfl, rfl⟩ | ⟨rfl, rfl⟩ | ⟨rfl, rfl⟩
  case inr.inl =>
    have hmine : (isOp 0x11 p && (match s.keys.kekPending with
        | some (i, _) => i != par 0 2 p
        | none => true)) = true := by
      refine Bool.and_eq_true_iff.2 ⟨by simp [isOp, h.opcode], ?_⟩
      split
      · next i x hx => simpa using hkek rfl _ hx
      · rfl
    exact ⟨_, congrArg Host.Outcome.next (command_served _ h hmine)⟩
  all_goals exact ⟨_, congrArg Host.Outcome.next (command_taken _ h)⟩

/-- Settles O5: a row stages its packet by `stageOrRun_staged`, with the number that `freeRing?_some` says is free. -/
theorem stagedNotApplied : Obligations.StagedNotApplied := by
  refine ⟨fun s q op p c hrow h ⟨htxn, hfault, hring⟩ hkek => ?_, fun s q p h htxn hfault hused => ?_⟩
  · obtain ⟨now, hexec⟩ := exec_stageable hrow h hkek
    rw [← inService_stagedAll q p s] at hfault
    refine ⟨_, stagedBody p (freeRing true (inService q p s)) (inService q p s), freeRing true (inService q p s), hexec,
      fun hop => ?_, ?_⟩
    · have hcode : pkOpcode p = 0x20 := h.opcode.trans hop
      obtain ⟨n, hn⟩ := Option.isSome_iff_exists.1 (hring hcode)
      have hfree := freeRing?_some hn
      rw [inService_stagedAll, inService_reservedRings] at hfree
      rw [freeRing, hn, Option.getD_some]
      exact ⟨by simp [stagedBody, hcode], hfree⟩
    · rw [stageOrRun_staged now htxn hfault hring, inService_txn]
      obtain ⟨v, hv⟩ := withTxn_serving
        { s.txn with staged := s.txn.staged ++ [⟨p, freeRing true (inService q p s)⟩] } q p s
      exact reply_replied _ _ _ hv
  · rw [← inService_stagedAll q p s] at hfault
    have hnone : freeRing? true (inService q p s) = none := by
      refine freeRing?_none fun n hn => ?_
      rw [inService_stagedAll, inService_reservedRings]
      exact hused n (by rwa [inService_build] at hn)
    refine ⟨_, congrArg Host.Outcome.next (command_taken _ h), ?_⟩
    rw [stageOrRun_noneFree _ htxn hfault h.opcode hnone]
    exact reply_replied _ _ _ (inService_serving q p s)

end Sys2Proof.Machine
end

section
/-!
PROOFS. The registers of a command queue (O11).
-/

namespace Sys2Proof.Machine

open Sys2Proof

/-! ### A write to a register of a page -/

/-- A write with all byte enables to a served page acts on the register (R498). -/
theorem pageWrite_ok {page off : Nat} {strb : BitVec 8} {s : State} (k : State → State) (h : PageOk page off strb s) :
    pageWrite page off strb k s = finish (k (onPage page off s)) := by
  obtain ⟨hpage, hwritable⟩ := h
  simp [pageWrite, hpage, hwritable, onPage]

theorem onPage_frame (page off : Nat) (s : State) : (onPage page off s).insts = s.insts ∧
    (onPage page off s).tables = s.tables ∧ (onPage page off s).txn = s.txn := by
  unfold onPage stir
  split <;> exact ⟨rfl, rfl, rfl⟩

theorem onPage_inst (page off j : Nat) (s : State) : (onPage page off s).inst j = s.inst j := by
  obtain ⟨hinsts, -, -⟩ := onPage_frame page off s
  rw [State.inst, hinsts, State.inst]

/-! ### Event records and command queues -/

theorem modEq_inst_cq (i j : Nat) (f : EventQ → EventQ) (s : State) : ((modEq i f s).inst j).cq = (s.inst j).cq := by
  rw [modEq, inst_modInst]
  split
  · next h => rw [h]
  · rfl

theorem modEq_inst_other {i j : Nat} (h : j ≠ i) (f : EventQ → EventQ) (s : State) : (modEq i f s).inst j = s.inst j := by
  rw [modEq, inst_modInst, if_neg h]

theorem OnlyBeats.cq {s t : State} (h : OnlyBeats s t) (j : Nat) : (t.inst j).cq = (s.inst j).cq := h.2.2.2.1 j

theorem OnlyBeats.body {s t : State} (h : OnlyBeats s t) (j : Nat) : (t.inst j).body = (s.inst j).body := h.2.2.1 j

theorem OnlyBeats.counters {s t : State} (h : OnlyBeats s t) {j : Nat} (hj : j ≠ 0) :
    (t.inst j).counters = (s.inst j).counters := h.2.2.2.2 j hj

/-- An instance is its queue, its counters and its body. -/
theorem Inst.ext_parts {x y : Inst} (hcq : x.cq = y.cq) (hcounters : x.counters = y.counters) (hbody : x.body = y.body) :
    x = y := by
  cases x; cases y
  simp only [Inst.body, Inst.mk.injEq] at hcq hcounters hbody ⊢
  simp_all

/-- Hallway requests leave every guest's instance. -/
theorem OnlyBeats.inst {s t : State} (h : OnlyBeats s t) {j : Nat} (hj : j ≠ 0) : t.inst j = s.inst j :=
  Inst.ext_parts (h.cq j) (h.counters hj) (h.body j)

theorem irqCheck_cq (i j : Nat) (s : State) : ((irqCheck i s).inst j).cq = (s.inst j).cq := by
  unfold irqCheck
  dsimp only
  split
  · exact ((onlyBeats_writeReq ..).cq j).trans (modEq_inst_cq ..)
  · rfl

theorem setPend_cq (i typ ring j : Nat) (s : State) : ((setPend i typ ring s).inst j).cq = (s.inst j).cq := by
  unfold setPend
  split
  · rw [inst_modRing]
  · exact modEq_inst_cq ..

/-- An event record leaves every command queue. -/
theorem evWrite_cq (i typ status ring index aux j : Nat) (s : State) :
    ((evWrite i typ status ring index aux s).inst j).cq = (s.inst j).cq := by
  unfold evWrite
  dsimp only
  split
  · exact setPend_cq ..
  · split
    · rw [irqCheck_cq, setPend_cq, modEq_inst_cq]
    · exact ((onlyBeats_writeReq ..).cq j).trans (modEq_inst_cq ..)

theorem irqCheck_inst {j : Nat} (s : State) (hj : j ≠ 0) : (irqCheck 0 s).inst j = s.inst j := by
  unfold irqCheck
  dsimp only
  split
  · exact ((onlyBeats_writeReq ..).inst hj).trans (modEq_inst_other hj ..)
  · rfl

theorem setPend_inst {j : Nat} (typ ring : Nat) (s : State) (hj : j ≠ 0) : (setPend 0 typ ring s).inst j = s.inst j := by
  unfold setPend
  split
  · exact inst_modRing ..
  · exact modEq_inst_other hj ..

/-- A record of the manager's queue leaves every guest. -/
theorem evWrite_inst {j : Nat} (typ status ring index aux : Nat) (s : State) (hj : j ≠ 0) :
    (evWrite 0 typ status ring index aux s).inst j = s.inst j := by
  unfold evWrite
  dsimp only
  split
  · exact setPend_inst _ _ _ hj
  · split
    · rw [irqCheck_inst _ hj, setPend_inst _ _ _ hj, modEq_inst_other hj]
    · exact ((onlyBeats_writeReq ..).inst hj).trans (modEq_inst_other hj ..)

/-! ### BASE and TAIL -/

theorem tables_of_aside {s t : State} (h : t.aside = s.aside) : t.tables = s.tables := (congrArg State.tables h :)

/-- A queue after a rise of ENABLE (R24). -/
def CmdQ.risen (data : Word) (c : CmdQ) : CmdQ :=
  { c with base := bits data 51 12 * 4096, enable := true, tail := 0, head := 0, fabErr := false, overrun := false }

theorem modCq_inst_other {q j : Nat} (h : j ≠ q) (f : CmdQ → CmdQ) (s : State) : (modCq q f s).inst j = s.inst j := by
  rw [modCq, inst_modInst, if_neg h]

theorem modCq_inst_same (q : Nat) (f : CmdQ → CmdQ) (s : State) :
    (modCq q f s).inst q = { s.inst q with cq := f (s.inst q).cq } := by
  rw [modCq, inst_modInst, if_pos rfl]

theorem cqBaseWrite_rise {q : Nat} {data : Word} {s : State} (hset : data.getLsbD 0 = true) (hoff : (s.inst q).cq.enable = false) :
    cqBaseWrite q data s = modCq q (CmdQ.risen data) s := by
  simp only [cqBaseWrite, hset, hoff, Bool.not_false, Bool.and_self, Bool.false_eq_true, if_true, if_false]
  rfl

/-- A queue whose ENABLE has fallen, its packet read discarded (R25, R29). -/
def cqFallen (q : Nat) (s : State) : State := modCq q (fun c => { c with enable := false }) (dropPacketRead q s)

theorem cqBaseWrite_fall {q : Nat} {data : Word} {s : State} (hclear : data.getLsbD 0 = false)
    (hon : (s.inst q).cq.enable = true) : cqBaseWrite q data s =
      if q == 0 && !s.txn.taken then endTxn 4 true (cqFallen q s) else cqFallen q s := by
  simp only [cqBaseWrite, hclear, hon, Bool.not_true, Bool.not_false, Bool.and_self, Bool.false_eq_true,
    if_true, if_false]
  rfl

theorem cqFallen_still (q : Nat) (s : State) : (cqFallen q s).still = s.still := rfl

theorem cqFallen_inst (q : Nat) (s : State) :
    (cqFallen q s).inst q = { s.inst q with cq := { (s.inst q).cq with enable := false, rdOut := false } } := by
  rw [cqFallen, modCq_inst_same, dropPacketRead, modCq_inst_same]
  rfl

theorem cqFallen_inst_other {q j : Nat} (h : j ≠ q) (s : State) : (cqFallen q s).inst j = s.inst j := by
  rw [cqFallen, modCq_inst_other h, dropPacketRead, modCq_inst_other h]
  rfl

theorem endTxn_cq (code : Nat) (byItself : Bool) (j : Nat) (s : State) :
    ((endTxn code byItself s).inst j).cq = (s.inst j).cq := by
  unfold endTxn
  split
  · rfl
  · dsimp only
    split
    · exact evWrite_cq ..
    · rfl

theorem endTxn_inst {j : Nat} (code : Nat) (byItself : Bool) (s : State) (hj : j ≠ 0) :
    (endTxn code byItself s).inst j = s.inst j := by
  unfold endTxn
  split
  · rfl
  · dsimp only
    split
    · exact evWrite_inst _ _ _ _ _ _ hj
    · rfl

theorem endTxn_tables (code : Nat) (byItself : Bool) (s : State) : (endTxn code byItself s).tables = s.tables := by
  unfold endTxn
  split
  · rfl
  · dsimp only
    split
    · exact (tables_of_aside (evWrite_aside (typ := 6) _ _ _ _ _ (by decide) _) :)
    · rfl

/-- A fall of ENABLE of a guest's queue, of the manager's outside a transaction, and of the manager's after its TXN_COMMIT
has been taken: no transaction ends (R68, R70). -/
theorem cqBaseWrite_fall_keeps {q : Nat} {data : Word} {s : State} (hclear : data.getLsbD 0 = false)
    (hon : (s.inst q).cq.enable = true) (h : q ≠ 0 ∨ s.txn.opened = false ∨ s.txn.taken = true) :
    cqBaseWrite q data s = cqFallen q s := by
  rw [cqBaseWrite_fall hclear hon]
  rcases h with hq | hclosed | htaken
  · exact if_neg (by simp [hq])
  · have hshut : (cqFallen q s).txn.opened = false := hclosed
    have hend : endTxn 4 true (cqFallen q s) = cqFallen q s := if_pos (by rw [hshut]; rfl)
    rw [hend, ite_self]
  · exact if_neg (by simp [htaken])

section
variable {q : Nat} {data : Word} {s : State} (hclear : data.getLsbD 0 = false) (hon : (s.inst q).cq.enable = true)
include hclear hon

theorem cqBaseWrite_fall_cq : ((cqBaseWrite q data s).inst q).cq =
    { (s.inst q).cq with enable := false, rdOut := false } := by
  have hfallen : ((cqFallen q s).inst q).cq = { (s.inst q).cq with enable := false, rdOut := false } :=
    congrArg Inst.cq (cqFallen_inst q s)
  rw [cqBaseWrite_fall hclear hon]
  split
  · exact (endTxn_cq ..).trans hfallen
  · exact hfallen

theorem cqBaseWrite_fall_other {j : Nat} (hj : j ≠ q) : (cqBaseWrite q data s).inst j = s.inst j := by
  rw [cqBaseWrite_fall hclear hon]
  split
  · next hq =>
    have hzero : q = 0 := by simpa using (Bool.and_eq_true_iff.1 hq).1
    exact (endTxn_inst _ _ _ (hzero ▸ hj)).trans (cqFallen_inst_other hj s)
  · exact cqFallen_inst_other hj s

theorem cqBaseWrite_fall_tables : (cqBaseWrite q data s).tables = s.tables := by
  rw [cqBaseWrite_fall hclear hon]
  split
  · exact endTxn_tables ..
  · rfl

end

/-- The manager's ENABLE falls with a transaction open whose TXN_COMMIT has not been taken (R68). -/
theorem cqBaseWrite_fall_txn {data : Word} {s : State} (hclear : data.getLsbD 0 = false)
    (hon : (s.inst 0).cq.enable = true) (hopen : s.txn.opened = true) (htaken : s.txn.taken = false) :
    (cqBaseWrite 0 data s).txn =
      { s.txn with opened := false, lastEnd := 4, staged := [], aborted := s.txn.num :: s.txn.aborted } := by
  have hend := txn_of_aside (endTxn_byItself 4 (s := cqFallen 0 s) hopen)
  rw [cqBaseWrite_fall hclear hon, if_pos (by simp [htaken]), hend, ← htaken]
  rfl

/-- What a write to TAIL leaves of a queue (R26). -/
def CmdQ.tailSet (q : Nat) (v : Idx) (c : CmdQ) : CmdQ :=
  if (v - c.head).toNat ≤ queueSize q ∧ (v - c.tail).toNat ≤ queueSize q then { c with tail := v } else { c with overrun := true }

theorem cqTailWrite_eq (q : Nat) (v : Idx) (s : State) : cqTailWrite q v s = modCq q (fun _ => (s.inst q).cq.tailSet q v) s := by
  unfold cqTailWrite CmdQ.tailSet
  dsimp only [modCq, modInst]
  simp only [Bool.and_eq_true, decide_eq_true_eq]
  split <;> rfl

theorem execCmdQueueDisable_eq {page : Nat} {strb : BitVec 8} {data : Word} {s : State} (hok : PageOk page 0x1100 strb s)
    (hclear : data.getLsbD 0 = false) :
    exec (.cmdQueueDisable page strb data) s = .next (finish (cqBaseWrite page data (onPage page 0x1100 s))) := by
  refine congrArg Host.Outcome.next ((pageWrite_ok _ hok).trans (congrArg finish ?_))
  rw [hclear]
  rfl

theorem execCmdQueueEnable_eq {page : Nat} {strb : BitVec 8} {data : Word} {s : State} (hok : PageOk page 0x1100 strb s)
    (hset : data.getLsbD 0 = true) :
    exec (.cmdQueueEnable page strb data) s = .next (finish (cqBaseWrite page data (onPage page 0x1100 s))) := by
  refine congrArg Host.Outcome.next ((pageWrite_ok _ hok).trans (congrArg finish ?_))
  rw [hset]
  rfl

/-- Settles O11: each write acts on the queue of its page by `modCq`; a fall of the manager's ENABLE may end a transaction,
whose record changes the manager's event queue alone. -/
theorem commandQueueRegisters : Obligations.CommandQueueRegisters := by
  refine ⟨⟨fun s page strb data hok hset hoff => ?_, fun s page strb data hok hclear hon => ?_⟩, fun s page strb data hok => ?_⟩
  · obtain ⟨-, htables, -⟩ := onPage_frame page 0x1100 s
    refine ⟨_, execCmdQueueEnable_eq hok hset, ?_⟩
    rw [cqBaseWrite_rise hset (by rwa [onPage_inst])]
    refine ⟨?_, fun j hj => ?_, htables, modCq_still ..⟩
    · rw [modCq_inst_same, onPage_inst]
      rfl
    · rw [modCq_inst_other hj, onPage_inst]
  · obtain ⟨-, htables, htxn⟩ := onPage_frame page 0x1100 s
    have hon' : ((onPage page 0x1100 s).inst page).cq.enable = true := by rwa [onPage_inst]
    have hcq := cqBaseWrite_fall_cq hclear hon'
    rw [onPage_inst] at hcq
    refine ⟨_, execCmdQueueDisable_eq hok hclear, ?_, ?_, ?_, fun j hj => ?_, ?_, fun hkeep => ?_, fun hpage hopen htaken => ?_⟩
    · rw [hcq]; rfl
    · rw [hcq]
    · rw [hcq]
    · rw [cqBaseWrite_fall_other hclear hon' hj, onPage_inst]
    · rw [cqBaseWrite_fall_tables hclear hon', htables]
    · rw [cqBaseWrite_fall_keeps hclear hon' (by rwa [htxn]), cqFallen_still]
    · subst hpage
      rw [cqBaseWrite_fall_txn hclear hon' (by rwa [htxn]) (by rwa [htxn]), htxn]
  · obtain ⟨-, htables, -⟩ := onPage_frame page 0x1108 s
    refine ⟨_, congrArg Host.Outcome.next (pageWrite_ok _ hok), ?_⟩
    rw [cqTailWrite_eq, onPage_inst]
    refine ⟨?_, fun j hj => ?_, htables, modCq_still ..⟩
    · rw [modCq_inst_same, onPage_inst]
      rfl
    · rw [modCq_inst_other hj, onPage_inst]

end Sys2Proof.Machine
end

section
/-!
PROOFS. Responses and acknowledgements of the Hallway (O24).
-/

namespace Sys2Proof.Machine

open Sys2Proof

/-! ### A response without injections -/

theorem fabricInjected_unarmed {s : State} (h : s.diag.armed = []) (n kind : Nat) : fabricInjected s n kind = false := by
  simp [fabricInjected, State.injected, State.armed?, h]

/-- The block with a read of a port answered, and no longer outstanding. -/
def readGone (n id : Nat) (s : State) : State := modPort n (fun p => { p with rds := p.rds.filter (fun x => x.id != id) }) s

/-- The block with a write of a port acknowledged, and no longer outstanding. -/
def writeGone (n id : Nat) (s : State) : State := modPort n (fun p => { p with wrs := p.wrs.filter (fun x => x.id != id) }) s

section
variable {s : State} {n : Nat} (hmain : s.pins.mainUp = true) (hn : n < 8)
include hmain hn

theorem execHallwayReadResponse_eq (id : Nat) (ok : Bool) (status : BitVec 2) (data : List Byte) :
    exec (.hallwayReadResponse n id ok status data) s = .next (afterPort n (readResponse n id ok status data s)) :=
  congrArg Host.Outcome.next (if_pos (by simp [hmain, hn]))

theorem execHallwayWriteAck_eq (id : Nat) (ok : Bool) (status : BitVec 2) :
    exec (.hallwayWriteAck n id ok status) s = .next (afterPort n (writeAck n id ok status s)) :=
  congrArg Host.Outcome.next (if_pos (by simp [hmain, hn]))

end

section
variable {s : State} {n id : Nat}

theorem readResponse_badParity (harmed : s.diag.armed = []) (status : BitVec 2) (data : List Byte) :
    readResponse n id false status data s = haltPort n 2 .fabricReadError 0 s := by
  simp [readResponse, fabricInjected_unarmed harmed]

theorem readResponse_unmatched (harmed : s.diag.armed = []) (status : BitVec 2) (data : List Byte)
    (hnone : (s.port n).rds.find? (fun x => x.id == id) = none) :
    readResponse n id true status data s = haltPort n 2 .fabricReadError 0 s := by
  simp [readResponse, fabricInjected_unarmed harmed, hnone]

theorem readResponse_late (harmed : s.diag.armed = []) (status : BitVec 2) (data : List Byte) {r : Rd}
    (hr : (s.port n).rds.find? (fun x => x.id == id) = some r) (hquar : r.quar = true) :
    readResponse n id true status data s =
      if status = 0 then readBeats n r (readGone n id s) else readGone n id s := by
  simp [readResponse, fabricInjected_unarmed harmed, hr, hquar, readGone]

/-- A read that is awaited and answered OK gives its data on. -/
theorem readResponse_data (harmed : s.diag.armed = []) (data : List Byte) {r : Rd}
    (hr : (s.port n).rds.find? (fun x => x.id == id) = some r) (hquar : r.quar = false) (hdrop : r.drop = false) :
    readResponse n id true 0 data s =
      takeData n r (fillTo r.len (data.take r.len)) (readBeats n r (readGone n id s)) := by
  have hunarmed : fabricInjected (readGone n id s) n = fun _ => false := funext (fabricInjected_unarmed harmed n)
  rw [readGone] at hunarmed
  simp [readResponse, fabricInjected_unarmed harmed, hr, hquar, hdrop, hunarmed, readGone]

theorem writeAck_badParity (status : BitVec 2) : writeAck n id false status s = haltPort n 2 .fabricWriteError 0 s := by
  simp [writeAck]

theorem writeAck_unmatched (status : BitVec 2) (hnone : (s.port n).wrs.find? (fun x => x.id == id) = none) :
    writeAck n id true status s = haltPort n 2 .fabricWriteError 0 s := by
  simp [writeAck, hnone]

theorem writeAck_late (status : BitVec 2) {w : Wr} (hw : (s.port n).wrs.find? (fun x => x.id == id) = some w)
    (hquar : w.quar = true) : writeAck n id true status s = writeGone n id s := by
  simp [writeAck, hw, hquar, writeGone]

/-- The acknowledgement of word 2 of a reply goes to the Study. -/
theorem writeAck_word2 {w : Wr} {q : Nat} (hw : (s.port n).wrs.find? (fun x => x.id == id) = some w) (hquar : w.quar = false)
    (howner : w.owner = .replyWord2 q) : writeAck n id true 0 s = arrive (.replyWord2 q) [] (writeGone n id s) := by
  simp [writeAck, hw, hquar, howner, Owner.outputs, writeAcked, writeGone]

end

/-! ### A packet that has arrived whole -/

theorem onlyBeats_readBeats (n : Nat) (r : Rd) (s : State) : OnlyBeats s (readBeats n r s) :=
  (onlyBeats_modPort _ _ _).trans (onlyBeats_countIn _ _ _ _)

/-- Counting beats leaves the requests of every port, and the pieces that have come. -/
theorem readBeats_hwy {n : Nat} (r : Rd) {s : State} (hn : n < s.hwy.ports.length) :
    ((readBeats n r s).port n).rds = (s.port n).rds ∧ ((readBeats n r s).port n).rdQ = (s.port n).rdQ ∧
      (readBeats n r s).hwy.pieces = s.hwy.pieces := by
  unfold readBeats State.port
  rw [countIn_hwy]
  change ((modPort n _ s).port n).rds = (s.port n).rds ∧ ((modPort n _ s).port n).rdQ = (s.port n).rdQ ∧ _
  rw [port_modPort _ _ _ _ hn, if_pos rfl]
  exact ⟨rfl, rfl, rfl⟩

theorem build_of_shape {s t : State} (h : t.shape = s.shape) : t.build = s.build := (congrArg Shape.build h :)

theorem readBeats_build (n : Nat) (r : Rd) (s : State) : (readBeats n r s).build = s.build :=
  build_of_shape (s := modPort n _ s) (countIn_shape ..)

theorem gather_single {d : List Byte} (h : d ≠ []) : gather [(0, d)] 1 0 = d := by
  simp [gather, List.length_pos_of_ne_nil h]

theorem fillTo_length (n : Nat) (bs : List Byte) : (fillTo n (bs.take n)).length = n := by
  simp [fillTo]

/-- The only piece of a packet read completes it. -/
theorem takeData_packet {n q : Nat} {r : Rd} {d : List Byte} {u : State} (howner : r.owner = .cmdPacket q) (hoff : r.off = 0)
    (hd : d ≠ []) (hleft : readsLeft u n (fun v => v == .cmdPacket q) = 0) (hpieces : ∀ x ∈ u.hwy.pieces, x.1 ≠ .cmdPacket q) :
    takeData n r d u = deliverWhole (.cmdPacket q) d u := by
  generalize hw : Owner.cmdPacket q = w at *
  have hmine : (u.hwy.pieces ++ [(w, 0, d)]).filter (fun x => x.1 == w) = [(w, 0, d)] := by
    rw [List.filter_append, List.filter_eq_nil_iff.2 fun x hx => by simpa using hpieces x hx]
    simp
  have hrest : (u.hwy.pieces ++ [(w, 0, d)]).filter (fun x => x.1 != w) = u.hwy.pieces := by
    rw [List.filter_append, List.filter_eq_self.2 fun x hx => by simpa using hpieces x hx]
    simp
  have hnone : ¬0 < readsLeft { u with hwy := { u.hwy with pieces := u.hwy.pieces ++ [(w, 0, d)] } } n (fun v => v == w) :=
    Nat.not_lt.2 (Nat.le_of_eq hleft)
  subst hw
  simp only [takeData, howner, hoff]
  rw [if_neg hnone, hmine, hrest]
  simp only [List.map_cons, List.map_nil, List.length_singleton, gather_single hd]

/-- A packet is checked against the build, the protocol in force, the rings, the lock state and the transaction alone. -/
theorem packetFault_congr {s t : State} (hbuild : t.build = s.build) (hproto : t.study.proto = s.study.proto)
    (hrings : t.rings = s.rings) (hcel : t.cel = s.cel) (htxn : t.txn = s.txn) (q : Nat) (p : List Byte) :
    packetFault t q p = packetFault s q p := by
  have hparam : paramFault t = paramFault s := by
    unfold paramFault
    rw [hbuild]
  have hown : ownObjects t = ownObjects s := by
    unfold ownObjects
    rw [hrings]
  unfold packetFault
  rw [hparam, hown, hproto, hcel, htxn]

/-- The record of the transaction when a TXN_COMMIT that passes its checks has arrived (R70). -/
def Txn.takenBy (q : Nat) (d : List Byte) (s : State) : Txn :=
  if q = 0 ∧ pkOpcode d = 0x31 ∧ packetFault s 0 d = none then { s.txn with taken := true } else s.txn

theorem commitTaken_eq (q : Nat) (d : List Byte) (s : State) : commitTaken q d s = s.withTxn (Txn.takenBy q d s) := by
  unfold commitTaken Txn.takenBy
  simp only [Bool.and_eq_true, beq_iff_eq, Option.isNone_iff_eq_none, and_assoc]
  split <;> rfl

/-- What the arrival of a packet changes (R29, R36, R70). -/
theorem deliverPacket (q : Nat) (d : List Byte) {s u : State} (h : OnlyBeats s u) (hbuild : u.build = s.build) :
    ((deliverWhole (.cmdPacket q) d u).inst q).cq = { (s.inst q).cq with rdOut := false, arrived := some d } ∧
      (deliverWhole (.cmdPacket q) d u).tables = (noteTaken q s).tables ∧
      (deliverWhole (.cmdPacket q) d u).txn = Txn.takenBy q d s := by
  obtain ⟨hstill, htables, -, hcq, -⟩ := h
  have hstudy : u.study = s.study := (congrArg Tables.study htables :)
  generalize hv : modCq q (fun c => { c with rdOut := false, arrived := some d }) u = v
  have hdeliver : deliverWhole (.cmdPacket q) d u = (noteTaken q v).withTxn (Txn.takenBy q d (noteTaken q v)) :=
    hv ▸ commitTaken_eq q d _
  have hvq : (v.inst q).cq = { (s.inst q).cq with rdOut := false, arrived := some d } := by
    rw [← hv, modCq_inst_same, hcq]
  have hvtables : v.tables = s.tables := hv ▸ htables
  have hvtxn : v.txn = s.txn := hv ▸ (congrArg Still.txn hstill :)
  have hfault : packetFault (noteTaken q v) 0 d = packetFault s 0 d :=
    packetFault_congr (hv ▸ hbuild) (hv ▸ (congrArg Study.proto hstudy :)) (congrArg Tables.rings hvtables :)
      (hv ▸ (congrArg Still.cel hstill :)) hvtxn 0 d
  rw [hdeliver]
  refine ⟨hvq, ?_, ?_⟩
  · change { v.tables with study := (noteTaken q v).study } = { s.tables with study := (noteTaken q s).study }
    have hvstudy : v.study = s.study := (congrArg Tables.study hvtables :)
    rw [hvtables, noteTaken, noteTaken, hvstudy]
  · change Txn.takenBy q d (noteTaken q v) = Txn.takenBy q d s
    have htaken : (noteTaken q v).txn = s.txn := hvtxn
    rw [Txn.takenBy, hfault, htaken, Txn.takenBy]

/-- No read of the packet is left once its only one has been answered. -/
theorem readsLeft_readGone {n id q : Nat} {s : State} {r : Rd} (hn : n < s.hwy.ports.length) (hid : r.id = id)
    (honly : (s.port n).rds.filter (fun x => x.owner == .cmdPacket q) = [r]) (hidle : (s.port n).rdQ = []) :
    readsLeft (readBeats n r (readGone n id s)) n (fun v => v == .cmdPacket q) = 0 := by
  have hlen : n < (readGone n id s).hwy.ports.length := by simpa [readGone, modPort, modAt_length] using hn
  obtain ⟨hrds, hrdQ, -⟩ := readBeats_hwy r hlen
  have hport : (readGone n id s).port n = { s.port n with rds := (s.port n).rds.filter (fun x => x.id != id) } := by
    rw [readGone, port_modPort _ _ _ _ hn, if_pos rfl]
  have hnone : ((s.port n).rds.filter (fun x => x.id != id)).filter
      (fun x => x.owner == .cmdPacket q && !x.quar && !x.drop) = [] := by
    refine List.filter_eq_nil_iff.2 fun x hx hown => ?_
    obtain ⟨hmem, hne⟩ := List.mem_filter.1 hx
    have hmine : x ∈ (s.port n).rds.filter (fun x => x.owner == .cmdPacket q) :=
      List.mem_filter.2 ⟨hmem, by simp only [Bool.and_eq_true] at hown; exact hown.1.1⟩
    rw [honly, List.mem_singleton] at hmine
    rw [hmine, hid] at hne
    simp at hne
  unfold readsLeft
  dsimp only
  rw [hrds, hrdQ, hport]
  simp only [hnone, hidle, List.filter_nil, List.length_nil, Nat.add_zero]

/-- Settles O24: each response by its course in `readResponse`, each acknowledgement by its course in `writeAck`; a packet that
is whole by `deliverPacket`. -/
theorem hallwayResponds : Obligations.HallwayResponds := by
  refine ⟨fun s n id status data hinv hmain hn harmed => ⟨fun r hr hquar => ?_, fun hnone => ?_, ?_, ?_⟩,
    fun s n id status hinv hmain hn harmed => ⟨fun w hw hquar => ?_, fun hnone => ?_, ?_, fun w q hw hquar howner => ?_⟩⟩
  · rw [execHallwayReadResponse_eq hmain hn, readResponse_late harmed status data hr hquar]
    rfl
  · rw [execHallwayReadResponse_eq hmain hn, readResponse_unmatched harmed status data hnone]
  · rw [execHallwayReadResponse_eq hmain hn, readResponse_badParity harmed]
  · intro r q hr hquar hdrop howner hoff hlen honly hidle hpieces d
    have hport : n < s.hwy.ports.length := by rw [hinv.1]; exact hn
    have hid : r.id = id := by simpa using List.find?_some hr
    have hgone : n < (readGone n id s).hwy.ports.length := by simpa [readGone, modPort, modAt_length] using hport
    have hd : d ≠ [] := List.ne_nil_of_length_pos (by rw [fillTo_length]; exact hlen)
    obtain ⟨hcq, htables, htxn⟩ := deliverPacket q d
      ((onlyBeats_modPort _ _ _).trans (onlyBeats_readBeats n r (readGone n id s))) (readBeats_build ..)
    refine ⟨_, ?_, hcq, htables, htxn⟩
    · rw [execHallwayReadResponse_eq hmain hn, readResponse_data harmed data hr hquar hdrop,
        takeData_packet howner hoff hd (readsLeft_readGone hport hid honly hidle) (by rwa [(readBeats_hwy r hgone).2.2])]
  · rw [execHallwayWriteAck_eq hmain hn, writeAck_late status hw hquar]
    rfl
  · rw [execHallwayWriteAck_eq hmain hn, writeAck_unmatched status hnone]
  · rw [execHallwayWriteAck_eq hmain hn, writeAck_badParity]
  · rw [execHallwayWriteAck_eq hmain hn, writeAck_word2 hw hquar howner]
    rfl

end Sys2Proof.Machine
end

section
/-!
PROOFS. The writes of the ports (R456, R458): what counting, asking for transfers, records, stops and completions add to them and
keep of them (`Grows`).
-/

namespace Sys2Proof.Machine

open Sys2Proof

/-! ### The writes of a port -/

/-- A write without its ID. -/
def Wr.anon (w : Wr) : Wr := { w with id := 0 }

/-- The writes of a port that are outstanding or wait, without their IDs. -/
def Port.due (p : Port) : List Wr := (p.wrs ++ p.wrQ).map Wr.anon

theorem mem_due {p : Port} {w : Wr} : w ∈ p.due ↔ ∃ v, (v ∈ p.wrs ∨ v ∈ p.wrQ) ∧ v.anon = w := by
  simp [Port.due, or_and_right, exists_or]

/-- Issuing a write, or letting it wait on, changes which writes are due by none but that write. -/
theorem pumpWrite_due (p : Port) (w x : Wr) : x ∈ (pumpWrite p w).due ↔ x ∈ p.due ∨ x = w.anon := by
  unfold pumpWrite
  split
  · simp [Port.due, Wr.anon]
    grind
  · simp [Port.due, or_assoc, eq_comm]

theorem pumpWrite_wrQ {p : Port} {w x : Wr} (h : x ∈ (pumpWrite p w).wrQ) : x ∈ p.wrQ ∨ x = w := by
  unfold pumpWrite at h
  split at h
  · exact .inl h
  · simpa using h

theorem foldl_pumpWrite_due (l : List Wr) (p : Port) (x : Wr) :
    x ∈ (l.foldl pumpWrite p).due ↔ x ∈ p.due ∨ ∃ w ∈ l, x = w.anon := by
  induction l generalizing p with
  | nil => simp
  | cons w t ih => simp [ih, pumpWrite_due, or_assoc]

theorem foldl_pumpWrite_wrQ {l : List Wr} {p : Port} {x : Wr} (h : x ∈ (l.foldl pumpWrite p).wrQ) : x ∈ p.wrQ ∨ x ∈ l := by
  induction l generalizing p with
  | nil => exact .inl h
  | cons w t ih =>
    rcases ih h with h | h
    · exact (pumpWrite_wrQ h).imp id (by rintro rfl; exact List.mem_cons_self)
    · exact .inr (List.mem_cons_of_mem _ h)

/-- Pumping keeps the writes that are due. -/
theorem pumpWrites_due (p : Port) (x : Wr) : x ∈ (pumpWrites p).due ↔ x ∈ p.due := by
  rw [pumpWrites_eq, foldl_pumpWrite_due]
  simp [Port.due, eq_comm]

theorem pumpWrites_wrQ {p : Port} {x : Wr} (h : x ∈ (pumpWrites p).wrQ) : x ∈ p.wrQ := by
  rw [pumpWrites_eq] at h
  exact (foldl_pumpWrite_wrQ h).resolve_left (List.not_mem_nil)

/-! ### States between which writes have only been added -/

/-- Whether a port is halted, by what, and whether it holds its writes until PAUSE is 0 (R467, R480). -/
def Port.stance (p : Port) : Bool × Nat × Bool × Bool := (p.halted, p.cause, p.hush, p.paused)

theorem pumpReads_stance (p : Port) : (pumpReads p).stance = p.stance := by
  rw [pumpReads_eq]
  refine foldl_keeps Port.stance (fun p r => ?_) _ _
  unfold pumpRead
  split <;> rfl

theorem pumpWrites_stance (p : Port) : (pumpWrites p).stance = p.stance := by
  rw [pumpWrites_eq]
  refine foldl_keeps Port.stance (fun p w => ?_) _ _
  unfold pumpWrite
  split <;> rfl

/-- From `s` to `t` no port has been halted or resumed, none has lost a write that was due, and the writes that it has gained are of owners that `P` names; it
lets no other write wait that did not wait before. -/
structure Grows (P : Owner → Prop) (s t : State) : Prop where
  length : t.hwy.ports.length = s.hwy.ports.length
  kept : ∀ n, ∀ w ∈ (s.port n).due, w ∈ (t.port n).due
  fresh : ∀ n, ∀ w ∈ (t.port n).due, w ∈ (s.port n).due ∨ P w.owner
  queued : ∀ n, ∀ w ∈ (t.port n).wrQ, w ∈ (s.port n).wrQ ∨ P w.owner
  stance : ∀ n, (t.port n).stance = (s.port n).stance

section
variable {P Q : Owner → Prop} {s t u : State}

theorem Grows.refl (P : Owner → Prop) (s : State) : Grows P s s :=
  ⟨rfl, fun _ _ h => h, fun _ _ h => .inl h, fun _ _ h => .inl h, fun _ => rfl⟩

theorem Grows.trans (h : Grows P s t) (k : Grows P t u) : Grows P s u where
  length := k.length.trans h.length
  kept n w hw := k.kept n w (h.kept n w hw)
  fresh n w hw := (k.fresh n w hw).elim (h.fresh n w) .inr
  queued n w hw := (k.queued n w hw).elim (h.queued n w) .inr
  stance n := (k.stance n).trans (h.stance n)

theorem Grows.mono (h : Grows P s t) (hPQ : ∀ o, P o → Q o) : Grows Q s t :=
  ⟨h.length, h.kept, fun n w hw => (h.fresh n w hw).imp id (hPQ _), fun n w hw => (h.queued n w hw).imp id (hPQ _),
    h.stance⟩

theorem Grows.of_hwy (h : t.hwy = s.hwy) : Grows P s t := by
  have hport : ∀ n, t.port n = s.port n := fun n => by rw [State.port, h, State.port]
  exact ⟨by rw [h], fun n w hw => by rwa [hport], fun n w hw => .inl (by rwa [← hport]), fun n w hw => .inl (by rwa [← hport]),
    fun n => by rw [hport]⟩

/-- Reads may come and go. -/
theorem Grows.of_writes (hlength : t.hwy.ports.length = s.hwy.ports.length) (hwrs : ∀ n, (t.port n).wrs = (s.port n).wrs)
    (hwrQ : ∀ n, (t.port n).wrQ = (s.port n).wrQ) (hstance : ∀ n, (t.port n).stance = (s.port n).stance) : Grows P s t := by
  have hdue : ∀ n, (t.port n).due = (s.port n).due := fun n => by rw [Port.due, hwrs, hwrQ, Port.due]
  exact ⟨hlength, fun n w hw => by rwa [hdue], fun n w hw => .inl (by rwa [← hdue]), fun n w hw => .inl (by rwa [← hwrQ]),
    hstance⟩

theorem Grows.foldl {α : Type} {f : State → α → State} {l : List α} (h : ∀ s, ∀ x ∈ l, Grows P s (f s x)) (s : State) :
    Grows P s (l.foldl f s) := by
  induction l generalizing s with
  | nil => exact .refl P s
  | cons a l ih => exact (h s a List.mem_cons_self).trans (ih (fun s x hx => h s x (List.mem_cons_of_mem _ hx)) _)

/-- A write that is due stays due. -/
theorem Grows.writeDue (h : Grows P s t) {n addr : Nat} {o : Owner} (hdue : WriteDue n addr o s) : WriteDue n addr o t := by
  obtain ⟨w, hw, howner, haddr⟩ := hdue
  have hmem : w.anon ∈ (s.port n).due := mem_due.2 ⟨w, List.mem_append.1 hw, rfl⟩
  obtain ⟨v, hv, hanon⟩ := mem_due.1 (h.kept n _ hmem)
  exact ⟨v, List.mem_append.2 hv, (congrArg Wr.owner hanon).trans howner, (congrArg Wr.addr hanon).trans haddr⟩

end

/-- The port with a number is one of the ports, or has no write. -/
theorem port_cases (s : State) (n : Nat) : s.port n ∈ s.hwy.ports ∨ s.port n = Port.cold := by
  rw [State.port, List.getD_eq_getElem?_getD]
  cases h : s.hwy.ports[n]? with
  | none => exact .inr rfl
  | some p => exact .inl (List.mem_of_getElem? h)

theorem mem_ports {s : State} {p : Port} (h : p ∈ s.hwy.ports) : ∃ n, s.port n = p := by
  obtain ⟨n, hn⟩ := List.mem_iff_getElem?.1 h
  exact ⟨n, by rw [State.port, List.getD_eq_getElem?_getD, hn]; rfl⟩

/-- A port whose number no port has stays cold, whatever is done to it. -/
theorem port_modPort_beyond {n : Nat} {s : State} (h : ¬n < s.hwy.ports.length) (f : Port → Port) (m : Nat) :
    (modPort n f s).port m = s.port m := by
  have hlist : modAt f n s.hwy.ports = s.hwy.ports := by
    refine List.ext_getElem? fun k => ?_
    rw [modAt_getElem?]
    split
    · next hk => rw [List.getElem?_eq_none (by omega)]; rfl
    · rfl
  rw [State.port, modPort, hlist, State.port]

theorem modPort_length (n : Nat) (f : Port → Port) (s : State) :
    (modPort n f s).hwy.ports.length = s.hwy.ports.length := modAt_length ..

/-- A change of one port. -/
theorem grows_modPort {P : Owner → Prop} {n : Nat} {f : Port → Port} {s : State}
    (hkept : ∀ w ∈ (s.port n).due, w ∈ (f (s.port n)).due) (hfresh : ∀ w ∈ (f (s.port n)).due, w ∈ (s.port n).due ∨ P w.owner)
    (hqueued : ∀ w ∈ (f (s.port n)).wrQ, w ∈ (s.port n).wrQ ∨ P w.owner) (hstance : (f (s.port n)).stance = (s.port n).stance) :
    Grows P s (modPort n f s) := by
  by_cases hn : n < s.hwy.ports.length
  · have hport : ∀ m, (modPort n f s).port m = if m = n then f (s.port m) else s.port m := fun m => port_modPort n m f s hn
    refine ⟨modPort_length .., fun m w hw => ?_, fun m w hw => ?_, fun m w hw => ?_, fun m => ?_⟩
    · rw [hport]
      split
      · next hm => subst hm; exact hkept w hw
      · exact hw
    · rw [hport] at hw
      split at hw
      · next hm => subst hm; exact hfresh w hw
      · exact .inl hw
    · rw [hport] at hw
      split at hw
      · next hm => subst hm; exact hqueued w hw
      · exact .inl hw
    · rw [hport]
      split
      · next hm => subst hm; exact hstance
      · rfl
  · have hport := port_modPort_beyond hn f
    exact .of_writes (modPort_length ..) (fun m => by rw [hport]) (fun m => by rw [hport]) (fun m => by rw [hport])

/-- A change of the reads of one port, or of what it counts. -/
theorem grows_modPort_same {P : Owner → Prop} {f : Port → Port} (h : ∀ p, (f p).wrs = p.wrs ∧ (f p).wrQ = p.wrQ ∧
    (f p).stance = p.stance) (n : Nat) (s : State) : Grows P s (modPort n f s) := by
  have hdue : ∀ p, (f p).due = p.due := fun p => by rw [Port.due, (h p).1, (h p).2.1, Port.due]
  exact grows_modPort (fun w hw => by rwa [hdue]) (fun w hw => .inl (by rwa [← hdue])) (fun w hw => .inl (by rwa [← (h _).2.1]))
    (h _).2.2

/-! ### Asking for transfers -/

theorem grows_issueWrites (P : Owner → Prop) (n : Nat) (s : State) : Grows P s (issueWrites n s) := by
  have hpump : Grows P s (modPort n (fun _ => pumpWrites (s.port n)) s) :=
    grows_modPort (fun w hw => (pumpWrites_due _ _).2 hw) (fun w hw => .inl ((pumpWrites_due _ _).1 hw))
      (fun w hw => .inl (pumpWrites_wrQ hw)) (pumpWrites_stance _)
  unfold issueWrites
  dsimp only
  split
  · exact hpump
  · exact hpump.trans (.of_hwy (countIn_hwy ..))

theorem grows_pump (P : Owner → Prop) (n : Nat) (s : State) : Grows P s (pump n s) := by
  unfold pump
  split
  · exact (grows_modPort_same (fun p => ⟨pumpReads_wrs p, pumpReads_wrQ p, pumpReads_stance p⟩) n s).trans (grows_issueWrites P n _)
  · exact .refl P s

theorem grows_readReq (P : Owner → Prop) (n addr len tag : Nat) (o : Owner) (off : Nat) (s : State) :
    Grows P s (readReq n addr len tag o off s) := by
  unfold readReq
  exact (grows_modPort_same (by exact fun _ => ⟨rfl, rfl, rfl⟩) n s).trans (grows_pump P n _)

theorem grows_writeReq {P : Owner → Prop} {o : Owner} (ho : P o) (n addr : Nat) (data : List Byte) (tag : Nat) (s : State) :
    Grows P s (writeReq n addr data tag o s) := by
  unfold writeReq
  dsimp only
  generalize hl : (cutReq addr (data.length / 512 + 2) 0 data.length).map _ = l
  have howner : ∀ w ∈ l, w.owner = o := fun w hw => by
    rw [← hl, List.mem_map] at hw
    obtain ⟨p, -, rfl⟩ := hw
    rfl
  refine (grows_modPort (fun w hw => ?_) (fun w hw => ?_) (fun w hw => ?_) rfl).trans (grows_pump P n _)
  · obtain ⟨v, hv, rfl⟩ := mem_due.1 hw
    exact mem_due.2 ⟨v, hv.imp id (List.mem_append_left _), rfl⟩
  · obtain ⟨v, hv, rfl⟩ := mem_due.1 hw
    rcases hv with hv | hv
    · exact .inl (mem_due.2 ⟨v, .inl hv, rfl⟩)
    · exact (List.mem_append.1 hv).imp (fun hv => mem_due.2 ⟨v, .inr hv, rfl⟩) (fun hv => by rw [Wr.anon, howner v hv]; exact ho)
  · exact (List.mem_append.1 hw).imp id (fun hw => by rw [howner w hw]; exact ho)

/-- A change of the reads of every port. -/
theorem grows_mapReads (P : Owner → Prop) {g : Port → Port} {s t : State} (ht : t.hwy.ports = s.hwy.ports.map g)
    (h : ∀ p, (g p).wrs = p.wrs ∧ (g p).wrQ = p.wrQ ∧ (g p).stance = p.stance) (hcold : g Port.cold = Port.cold) : Grows P s t := by
  have hport : ∀ n, t.port n = g (s.port n) := fun n => by
    simp only [State.port, ht, List.getD_eq_getElem?_getD, List.getElem?_map]
    cases s.hwy.ports[n]? <;> simp [hcold]
  exact .of_writes (by rw [ht, List.length_map]) (fun n => by rw [hport, (h _).1]) (fun n => by rw [hport, (h _).2.1])
    (fun n => by rw [hport, (h _).2.2])

theorem grows_dropReads (P : Owner → Prop) (f : Owner → Bool) (s : State) : Grows P s (dropReads f s) :=
  grows_mapReads P rfl (by exact fun _ => ⟨rfl, rfl, rfl⟩) rfl

theorem grows_orphanReads (P : Owner → Prop) (f : Owner → Bool) (s : State) : Grows P s (orphanReads f s) :=
  (grows_dropReads P f s).trans (grows_mapReads P rfl (by exact fun _ => ⟨rfl, rfl, rfl⟩) rfl)

end Sys2Proof.Machine
end

section
/-!
PROOFS. Stops, releases and completions: what they leave of the rings, of the operations and of the writes of the ports.
-/

namespace Sys2Proof.Machine

open Sys2Proof

/-! ### Owners of writes -/

/-- Writes that tell of a ring or an event: records, interrupt messages, index blocks. -/
def Owner.announces : Owner → Bool
  | .eventRec _ _ => true
  | .irqMsg _ => true
  | .idxBlock _ => true
  | _ => false

/-- Those, and completions. -/
def Owner.reports : Owner → Bool
  | .compl _ => true
  | o => o.announces

theorem reports_of_announces {o : Owner} (h : o.announces = true) : o.reports = true := by
  unfold Owner.reports
  split
  · rfl
  · exact h

/-! ### A ring but for its marks -/

/-- A ring without the bits that a withheld and a due record set. -/
def Ring.unmarked (r : Ring) : Ring := { r with pend := false, errDue := false }

/-- A ring of a state, unmarked. -/
def State.ring? (s : State) (n : Nat) : Option Ring := (tget n s.rings).map Ring.unmarked

theorem ring?_of_rings {s t : State} (h : t.rings = s.rings) (n : Nat) : t.ring? n = s.ring? n := by
  rw [State.ring?, h, State.ring?]

theorem ring?_of_aside {s t : State} (h : t.aside = s.aside) (n : Nat) : t.ring? n = s.ring? n :=
  ring?_of_rings (rings_of_aside h) n

theorem ring?_modRing {f : Ring → Ring} (hf : ∀ r, (f r).unmarked = r.unmarked) (m n : Nat) (s : State) :
    (modRing m f s).ring? n = s.ring? n := by
  rw [State.ring?, modRing_rings, State.ring?]
  split
  · rw [Option.map_map]
    exact congrArg (Option.map · _) (funext hf)
  · rfl

/-- What a ring that has stopped shows (R163). -/
theorem RingStopped.of_ring? {n : Nat} {e h : Idx} {st : Status} {r x : Ring} {t : State} (ht : t.ring? n = some x.unmarked)
    (hstate : x.state = .error) (herr : x.errIdx = e) (hhalt : x.haltIdx = h) (hcons : x.consumed = h)
    (hstatus : x.errStatus = st.code.toNat) (hstops : x.stops = (r.stops + 1) % 2 ^ 32) : RingStopped n e h st r t := by
  obtain ⟨y, hy, hxy⟩ := Option.map_eq_some_iff.1 ht
  exact ⟨y, hy, (congrArg Ring.state hxy :).trans hstate, (congrArg Ring.errIdx hxy :).trans herr,
    (congrArg Ring.haltIdx hxy :).trans hhalt, (congrArg Ring.consumed hxy :).trans hcons,
    (congrArg Ring.errStatus hxy :).trans hstatus, (congrArg Ring.stops hxy :).trans hstops⟩

/-! ### Event records -/

theorem setPend_ring? (i typ ring n : Nat) (s : State) : (setPend i typ ring s).ring? n = s.ring? n := by
  unfold setPend
  split
  · exact ring?_modRing (by exact fun _ => rfl) ..
  · rfl

theorem evWrite_ring? (i typ status ring index aux n : Nat) (s : State) :
    (evWrite i typ status ring index aux s).ring? n = s.ring? n := by
  unfold evWrite
  dsimp only
  split
  · exact setPend_ring? ..
  · split
    · rw [ring?_of_aside (irqCheck_aside ..), setPend_ring?, ring?_of_aside (modEq_aside ..)]
    · rw [ring?_of_aside (writeReq_aside ..), ring?_of_aside (modEq_aside ..)]

theorem ringErrorRecord_ring? (m n : Nat) (s : State) : (ringErrorRecord m s).ring? n = s.ring? n := by
  unfold ringErrorRecord
  split
  · rfl
  · rw [evWrite_ring?, ring?_modRing (by exact fun _ => rfl)]

theorem Grows.from_hwy {P : Owner → Prop} {s t u : State} (k : Grows P t u) (h : t.hwy = s.hwy) : Grows P s u :=
  (Grows.of_hwy h).trans k

theorem Grows.to_hwy {P : Owner → Prop} {s t u : State} (h : Grows P s t) (k : u.hwy = t.hwy) : Grows P s u :=
  h.trans (.of_hwy k)

section
variable {P : Owner → Prop} (hP : ∀ o, Owner.announces o = true → P o)
include hP

theorem grows_irqCheck (i : Nat) (s : State) : Grows P s (irqCheck i s) := by
  unfold irqCheck
  dsimp only
  split
  · exact (grows_writeReq (hP (.irqMsg i) rfl) ..).from_hwy rfl
  · exact .refl P s

theorem grows_evWrite (i typ status ring index aux : Nat) (s : State) :
    Grows P s (evWrite i typ status ring index aux s) := by
  have hpend : ∀ u : State, Grows P u (setPend i typ ring u) := fun u => by
    unfold setPend
    split
    · exact .of_hwy (modRing_hwy ..)
    · exact .of_hwy rfl
  unfold evWrite
  dsimp only
  split
  · exact hpend s
  · split
    · exact ((hpend _).trans (grows_irqCheck hP ..)).from_hwy rfl
    · exact (grows_writeReq (hP (.eventRec i _) rfl) ..).from_hwy rfl

theorem grows_ringErrorRecord (n : Nat) (s : State) : Grows P s (ringErrorRecord n s) := by
  unfold ringErrorRecord
  split
  · exact .refl P s
  · exact (grows_evWrite hP ..).from_hwy (modRing_hwy ..)

theorem grows_writeIndex (n : Nat) (s : State) : Grows P s (writeIndex n s) := by
  unfold writeIndex
  split
  · exact .refl P s
  · exact grows_writeReq (hP (.idxBlock n) rfl) ..

end

/-! ### Releases -/

theorem releaseOp_rings (id : Nat) (s : State) : (releaseOp id s).rings = s.rings := by
  have hkeep : ∀ (o : Op) (u : State), (keepRecord o u).rings = u.rings := fun o u => by
    unfold keepRecord
    split
    · split <;> rfl
    · rfl
  unfold releaseOp
  dsimp only
  split
  · next o _ =>
    have hskip := rings_of_aside (foldl_keeps State.aside (fun s (p : Nat × Nat) => skipSample_aside p.1 s) o.sample s)
    split <;> exact (hkeep _ _).trans hskip
  · rfl

theorem grows_releaseOp (P : Owner → Prop) (id : Nat) (s : State) : Grows P s (releaseOp id s) := by
  have hkeep : ∀ (o : Op) (u : State), (keepRecord o u).hwy = u.hwy := fun o u => by
    unfold keepRecord
    split
    · split <;> rfl
    · rfl
  unfold releaseOp
  dsimp only
  split
  · next o _ =>
    have hskip : (o.sample.foldl (fun s (p : Nat × Nat) => skipSample p.1 s) s).hwy = s.hwy :=
      foldl_keeps State.hwy (by exact fun _ _ => rfl) o.sample s
    have hbefore : Grows P s (keepRecord o (o.sample.foldl (fun s (p : Nat × Nat) => skipSample p.1 s) s)) :=
      .of_hwy ((hkeep _ _).trans hskip)
    split
    · exact (hbefore.trans (grows_orphanReads P _ _)).to_hwy rfl
    · exact (hbefore.trans (grows_dropReads P (fun w => w.op? == some id) _)).to_hwy rfl
  · exact .of_hwy rfl

theorem grows_dropSpecs (P : Owner → Prop) (n : Nat) (s : State) : Grows P s (dropSpecs n s) :=
  (grows_dropReads P _ _).from_hwy rfl

theorem releaseAll_rings (f : Op → Bool) (s : State) : (releaseAll f s).rings = s.rings :=
  foldl_keeps State.rings (fun s (o : Op) => releaseOp_rings o.id s) _ _

theorem grows_releaseAll (P : Owner → Prop) (f : Op → Bool) (s : State) : Grows P s (releaseAll f s) :=
  .foldl (fun s o _ => grows_releaseOp P o.id s) s

theorem op?_none_of_subset {s t : State} {id : Nat} (h : t.ops ⊆ s.ops) (hnone : s.op? id = none) : t.op? id = none := by
  rw [State.op?, List.find?_eq_none] at hnone ⊢
  exact fun o ho => hnone o (h ho)

theorem releaseOp_ops_subset (id : Nat) (s : State) : (releaseOp id s).ops ⊆ s.ops := by
  rw [(releaseOp_tables id s).2]
  exact List.filter_subset_self _

theorem releaseAll_ops_subset (f : Op → Bool) (s : State) : (releaseAll f s).ops ⊆ s.ops := by
  unfold releaseAll
  generalize s.ops.filter f = l
  induction l generalizing s with
  | nil => exact List.Subset.refl _
  | cons o l ih => exact List.Subset.trans (ih _) (releaseOp_ops_subset o.id s)

/-! ### Stops -/

/-- A ring that has stopped with ERR_INDEX `e` and HALT_INDEX `h` (R163). -/
def Ring.stopped (e h : Idx) (st : Status) (r : Ring) : Ring :=
  { r with state := .error, errIdx := e, haltIdx := h, consumed := h, advanced := r.advancedTo h, errStatus := st.code.toNat,
           errDue := true, stops := (r.stops + 1) % 2 ^ 32 }

/-- What a stop releases: fetched and not dispatched, at or above HALT_INDEX (R164). -/
def releasedAt (n : Nat) (h : Idx) (o : Op) : Bool := o.ring == n && !o.old && o.unrun && !idxBefore o.head.idx h

section
variable {n : Nat} {e h : Idx} {st : Status} {now : Bool} {s : State} {r : Ring}

theorem stopAt_idle (hidle : ∀ r, tget n s.rings = some r → r.state ≠ .running) : stopAt n e h st now s = s := by
  unfold stopAt
  split
  · rfl
  · next r hr => exact if_pos (by simpa using hidle r hr)

section
variable (hr : tget n s.rings = some r) (hrun : r.state = .running)
include hr hrun

theorem stopAt_running : stopAt n e h st now s =
    (let u := writeIndex n (dropSpecs n (releaseAll (releasedAt n h) { s with rings := tset n (r.stopped e h st) s.rings }))
     if now then ringErrorRecord n u else u) := by
  unfold stopAt
  rw [hr]
  exact if_neg (by simp [hrun])

theorem stopAt_ring? : (stopAt n e h st now s).ring? n = some (r.stopped e h st).unmarked := by
  rw [stopAt_running hr hrun]
  dsimp only
  generalize hv : ({ s with rings := tset n (r.stopped e h st) s.rings } : State) = v
  have hring : v.ring? n = some (r.stopped e h st).unmarked := by
    rw [← hv, State.ring?]
    dsimp only
    rw [tget_tset_same]
    rfl
  have hindex : (writeIndex n (dropSpecs n (releaseAll (releasedAt n h) v))).ring? n = v.ring? n :=
    (ring?_of_aside (writeIndex_aside ..) n).trans (ring?_of_rings (releaseAll_rings ..) n)
  split
  · rw [ringErrorRecord_ring?, hindex, hring]
  · rw [hindex, hring]

theorem stopAt_stopped : RingStopped n e h st r (stopAt n e h st now s) :=
  .of_ring? (stopAt_ring? hr hrun) rfl rfl rfl rfl rfl rfl

theorem stopAt_ops : (stopAt n e h st now s).ops =
    (releaseAll (releasedAt n h) { s with rings := tset n (r.stopped e h st) s.rings }).ops := by
  rw [stopAt_running hr hrun]
  dsimp only
  split
  · rw [(ringErrorRecord_tables ..).2, ops_of_aside (writeIndex_aside ..)]
    rfl
  · rw [ops_of_aside (writeIndex_aside ..)]
    rfl

end

/-- A stop leaves every operation that it does not release. -/
theorem stopAt_op? {id : Nat} (hkeep : ∀ o ∈ s.ops, o.id = id → releasedAt n h o = false) :
    (stopAt n e h st now s).op? id = s.op? id := by
  by_cases hidle : ∀ r, tget n s.rings = some r → r.state ≠ .running
  · rw [stopAt_idle hidle]
  · push Not at hidle
    obtain ⟨r, hr, hrun⟩ := hidle
    rw [State.op?, stopAt_ops hr hrun]
    exact releaseAll_op? (s := { s with rings := tset n (r.stopped e h st) s.rings })
      fun o ho hf hid => by rw [hkeep o ho hid] at hf; cases hf

theorem stopAt_ops_subset : (stopAt n e h st now s).ops ⊆ s.ops := by
  by_cases hidle : ∀ r, tget n s.rings = some r → r.state ≠ .running
  · rw [stopAt_idle hidle]
    exact List.Subset.refl _
  · push Not at hidle
    obtain ⟨r, hr, hrun⟩ := hidle
    rw [stopAt_ops hr hrun]
    exact releaseAll_ops_subset ..

theorem grows_stopAt {P : Owner → Prop} (hP : ∀ o, Owner.announces o = true → P o) : Grows P s (stopAt n e h st now s) := by
  by_cases hidle : ∀ r, tget n s.rings = some r → r.state ≠ .running
  · rw [stopAt_idle hidle]
    exact .refl P s
  · push Not at hidle
    obtain ⟨r, hr, hrun⟩ := hidle
    rw [stopAt_running hr hrun]
    have hindex : Grows P s (writeIndex n (dropSpecs n (releaseAll (releasedAt n h)
        { s with rings := tset n (r.stopped e h st) s.rings }))) :=
      (((grows_releaseAll P _ _).trans (grows_dropSpecs P n _)).trans (grows_writeIndex hP ..)).from_hwy rfl
    dsimp only
    split
    · exact hindex.trans (grows_ringErrorRecord hP ..)
    · exact hindex

end

theorem stopRing_of {n : Nat} {e : Idx} {st : Status} {now : Bool} {s : State} {r : Ring} (hr : tget n s.rings = some r) :
    stopRing n e st now s = stopAt n e (r.haltFor e) st now s := by
  unfold stopRing
  rw [hr]

end Sys2Proof.Machine
end

section
/-!
PROOFS. What a halt of a port leaves halted: the operations that it returns, the LARDER_ATTACH and the firmware traffic that it
ends.
-/

namespace Sys2Proof.Machine

open Sys2Proof

/-! ### Halts stay -/

theorem addCounter_halts (i n amt : Nat) (s : State) : (addCounter i n amt s).halts = s.halts :=
  halts_of_hwy (addCounter_hwy ..)

theorem dropWrites_halts (f : Owner → Bool) (s : State) : (dropWrites f s).halts = s.halts := by
  simp [State.halts, dropWrites, Function.comp_def]

theorem takeArrivedPacket_halts (q : Nat) (p : List Byte) (s : State) : (takeArrivedPacket q p s).halts = s.halts := rfl

theorem keyinDone_halts (q : Nat) (p : List Byte) (s : State) : (keyinDone q p s).halts = s.halts := by
  unfold keyinDone
  split <;> rfl

theorem undoAttach_halts (w : Wait) (s : State) : (undoAttach w s).halts = s.halts := by
  unfold undoAttach
  split
  · dsimp only
    generalize hu : dropReads _ s = u
    have hdrop : u.halts = s.halts := by rw [← hu, dropReads_halts]
    exact hdrop
  · rfl

theorem reply_halts (q : Nat) (st : Status) (detail : Nat) (body : List Byte) (s : State) :
    (reply q st detail body s).halts = s.halts := by
  unfold reply
  split
  · rfl
  · exact (writeReq_halts ..).trans (writeReq_halts ..)

theorem answerTaken_halts (st : Status) (keep : Nat → List Byte → Wait → Bool) (s : State) :
    (answerTaken st keep s).halts = s.halts := by
  refine foldl_keeps State.halts (fun s q => ?_) _ s
  dsimp only
  have hanswer : ∀ u : State, (match (u.inst q).cq.serving with
      | some v => if v.reply.isSome || keep q v.pkt v.wait then u
        else reply q st 0 [] (undoAttach v.wait (keyinDone q v.pkt u))
      | none => u).halts = u.halts := fun u => by
    split
    · split
      · rfl
      · rw [reply_halts, undoAttach_halts, keyinDone_halts]
    · rfl
  refine (hanswer _).trans ?_
  split
  · split
    · rfl
    · exact takeArrivedPacket_halts ..
  · rfl

theorem attachEnd_halts (ok : Bool) (s : State) : (attachEnd ok s).halts = s.halts := by
  unfold attachEnd
  dsimp only
  generalize hu : dropReads _ s = u
  have hdrop : u.halts = s.halts := by rw [← hu, dropReads_halts]
  split
  · exact (reply_halts ..).trans hdrop
  · exact (reply_halts ..).trans hdrop

theorem returnOp_halts (o : Op) (s : State) : (returnOp o s).halts = s.halts := by
  have hdrop := dropReads_halts (fun w => w.op? == some o.id) s
  unfold returnOp
  split
  · exact hdrop
  · exact (dropWrites_halts (fun w => w == .dst o.id (some o.ring) o.head.idx) _).trans hdrop

/-! ### Firmware -/

theorem startSoftReset_halts (keep rom : Bool) (b : Option BringUp) (r : RomTest) (s : State) :
    (startSoftReset keep rom b r s).halts = s.halts := by
  have hdrop : ∀ u : State, ((if s.fw.copy.isSome || s.fw.fwding then fun s => s else dropImages) u).halts = u.halts := fun u => by
    split
    · rfl
    · exact dropImages_halts u
  unfold startSoftReset
  rw [(endTxn_frame ..).2.1, dropReads_halts, hdrop]
  rfl

theorem giveUp_halts (r : RomTest) (s : State) : (giveUp r s).halts = s.halts :=
  (startSoftReset_halts ..).trans (answerTaken_halts ..)

theorem landLost_halts (r : RomTest) (s : State) : (landLost r s).halts = s.halts := giveUp_halts r _

theorem readSlot_halts (kind : Nat) (x : LandingRun) (s : State) : (readSlot kind x s).halts = s.halts := by
  unfold readSlot
  split
  · exact landLost_halts ..
  · exact readReq_halts ..

theorem imageStops_halts (s : State) : (imageStops s).halts = s.halts := by
  obtain ⟨-, -, -, -, -, hhalts, -⟩ := imageStops_frame s
  exact hhalts

theorem fallBack_halts (swapped : Bool) (x : LandingRun) (s : State) : (fallBack swapped x s).halts = s.halts := by
  unfold fallBack
  dsimp only
  rw [readSlot_halts]
  generalize hu : imageStops (dropImages s) = u
  have hstop : u.halts = s.halts := by rw [← hu, imageStops_halts, dropImages_halts]
  exact hstop

theorem landFails_halts (l : Landing) (s : State) : (landFails l s).halts = s.halts := by
  unfold landFails
  split
  · exact fallBack_halts ..
  · exact (landLost_halts ..).trans (dropImages_halts s)

theorem bootFail_halts (err detail : Nat) (s : State) : (bootFail err detail s).halts = s.halts :=
  dropImages_halts _

theorem copyFails_halts (st : Status) (d : Nat) (s : State) : (copyFails st d s).halts = s.halts :=
  (reply_halts ..).trans (dropStage_becomes st s).halts

theorem fwdFails_halts (st : Status) (s : State) : (fwdFails st s).halts = s.halts := by
  have hlink : ∀ (g : Link → Link) (u : State), (modLink false g u).halts = u.halts := fun g u =>
    (modLink_becomes rfl false g).halts
  exact (hlink _ _).trans (endForward_becomes s).halts

theorem imageFailed_halts (i : Nat) (s : State) : (imageFailed i s).halts = s.halts := by
  unfold imageFailed
  split
  · exact (landFails_halts ..).trans (dropImages_halts s)
  · exact bootFail_halts ..
  · exact copyFails_halts ..
  · split
    · exact fwdFails_halts ..
    · rfl

theorem lineCame_halts (p : Nat) (x : Option (List Byte)) (s : State) : (lineCame p x s).halts = s.halts := by
  unfold lineCame
  dsimp only
  split
  · rfl
  · split
    · exact bootFail_halts ..
    · split
      · exact bootFail_halts ..
      · exact writeReq_halts ..

theorem lineWritten_failed_halts (s : State) : (lineWritten false s).halts = s.halts := by
  unfold lineWritten
  split
  · exact bootFail_halts ..
  · rfl

theorem firmwareFailed_halts (n : Nat) (w : Owner) (s : State) : (firmwareFailed n w s).halts = s.halts := by
  unfold firmwareFailed
  split
  · exact imageFailed_halts ..
  · exact imageFailed_halts ..
  · exact (lineCame_halts ..).trans (dropReads_halts _ s)
  · exact lineWritten_failed_halts s
  · rfl

/-! ### The halt -/

theorem attachHalted_halts (n : Nat) (s : State) : (attachHalted n s).halts = s.halts := by
  unfold attachHalted
  dsimp only
  split
  · exact attachEnd_halts ..
  · rfl

theorem firmwareHalted_halts (n : Nat) (p : Port) (s : State) : (firmwareHalted n p s).halts = s.halts := by
  unfold firmwareHalted
  dsimp only
  split
  · exact firmwareFailed_halts ..
  · rfl

/-- A halt leaves its port halted (R467). -/
theorem haltPort_halted {n : Nat} {s : State} (hn : n < s.hwy.ports.length) (cause : Nat) (st : Status) (ring : Nat) :
    ((haltPort n cause st ring s).port n).halted = true := by
  unfold haltPort
  dsimp only
  generalize hu : modPort n (fun p => { p with halts := min 0xFFFF (p.halts + 1) }) s = u
  have hlen : n < u.hwy.ports.length := by rw [← hu, modPort_length]; exact hn
  have hsame : (u.port n).halted = (s.port n).halted := by rw [← hu, port_modPort n n _ s hn, if_pos rfl]
  split
  · next h => rw [hsame, h]
  · generalize hv : modPort n (fun p => { p with halted := true, cause := cause, first := some (st, ring), told := false })
        (addCounter 0 67 1 u) = v
    have hhalted : (v.port n).halted = true := by
      rw [← hv, port_modPort n n _ _ (by rw [addCounter_hwy]; exact hlen), if_pos rfl]
    refine (halted_of_halts n ?_).trans hhalted
    rw [firmwareHalted_halts, attachHalted_halts]
    generalize hw : List.foldl (fun s o => returnOp o s) v _ = w
    have hback : w.halts = v.halts := by rw [← hw, foldl_keeps State.halts fun s o => returnOp_halts o s]
    exact (modPort_halts (by exact fun _ => rfl) w).trans hback

end Sys2Proof.Machine
end

section
/-!
PROOFS. Ends of operations and of open chains: what they leave of the rings, and how a fabric status ends an operation and stops its
ring.
-/

namespace Sys2Proof.Machine

open Sys2Proof

/-! ### Rings -/

theorem modOp_rings' (id : Nat) (f : Op → Op) (s : State) : (modOp id f s).rings = s.rings := rfl

theorem postOp_rings (o : Op) (s : State) : (postOp o s).rings = s.rings := by
  unfold postOp
  split
  · exact releaseOp_rings ..
  · next r _ =>
    generalize hu : modOp o.id _ s = u
    have hmark : u.rings = s.rings := by rw [← hu]; rfl
    exact (foldl_keeps State.rings (fun s (e : Entry) => rings_of_aside (writeReq_aside (portOf o.ring) (r.slot e.idx)
      (complBytes r.fmt e.d o.status (o.entryResult r.fmt e)) o.inst (.compl o.id) s)) o.entries u).trans hmark

theorem tryPost_rings (n : Nat) (s : State) : (tryPost n s).rings = s.rings := by
  refine foldl_keeps State.rings (fun s _ => ?_) _ s
  split
  · rfl
  · split
    · exact postOp_rings ..
    · rfl

theorem endWrites_rings (id : Nat) (st : Status) (scrub : Bool) (o : Op) (s : State) :
    (endWrites id st scrub o s).rings = s.rings := by
  have hzero : ∀ u : State, (if scrub then zeroWrites o u else u).rings = u.rings := fun u => by
    split
    · exact rings_of_aside (zeroWrites_aside o u)
    · rfl
  unfold endWrites
  dsimp only
  generalize hw : ({ s with hearth := _, scu := _ } : State) = w
  have hrings : w.rings = s.rings := by subst hw; rfl
  split
  · exact (rings_of_aside (countOp_aside 0xF 1 o _)).trans ((hzero w).trans hrings)
  · exact (hzero w).trans hrings

theorem chargeTo_rings (o : Op) (cost : Nat) (s : State) : (chargeTo o cost s).rings = s.rings := by
  unfold chargeTo
  dsimp only
  rw [modOp_rings']
  split
  · exact rings_of_aside (chargeInst_aside ..)
  · exact rings_of_aside (refundInst_aside ..)

theorem stopRing_idle {n : Nat} {e : Idx} {st : Status} {now : Bool} {s : State}
    (hidle : ∀ r, tget n s.rings = some r → r.state ≠ .running) : stopRing n e st now s = s := by
  unfold stopRing
  split
  · rfl
  · exact stopAt_idle hidle

/-- The end of an operation of a ring that does not run changes no ring. -/
theorem endOp_rings {id : Nat} {s : State}
    (hidle : ∀ o, s.op? id = some o → ∀ r, tget o.ring s.rings = some r → r.state ≠ .running) (st : Status) (good : Nat) :
    (endOp id st good s).rings = s.rings := by
  cases h : s.op? id with
  | none => rw [endOp, h]
  | some o =>
    cases hold : o.old with
    | true =>
      unfold endOp
      rw [h]
      simp only [hold, if_true]
      exact releaseOp_rings ..
    | false =>
      obtain ⟨stops, ents, scrub, -, he⟩ := endOp_eq (st := st) (good := good) h hold
      rw [he]
      dsimp only
      generalize hu : endWrites id st scrub o _ = u
      have hrings : u.rings = s.rings := by rw [← hu, endWrites_rings]; rfl
      rw [tryPost_rings]
      split
      · rw [stopRing_idle (by rw [hrings]; exact hidle o h), hrings]
      · exact hrings

theorem failUndispatched_rings {o : Op} {s : State} (h : s.op? o.id = some o)
    (hidle : ∀ r, tget o.ring s.rings = some r → r.state ≠ .running) (st : Status) :
    (failUndispatched o st s).rings = s.rings := by
  unfold failUndispatched
  split
  · exact endOp_rings (fun p hp => by rw [h] at hp; cases hp; exact hidle) ..
  · refine (endOp_rings (fun p hp => ?_) ..).trans (chargeTo_rings ..)
    rw [chargeTo_op?, h] at hp
    obtain rfl := Option.some_inj.1 hp
    rw [chargeTo_rings]
    exact hidle

/-! ### Open chains -/

theorem takeGrant_rings (id : Nat) (x : Op) (s : State) : (takeGrant id x s).rings = s.rings := by
  unfold takeGrant
  dsimp only
  rw [releaseOp_rings, rings_of_aside (refundInst_aside ..)]
  rfl

theorem fetchEntry_rings (id ring : Nat) (i : Idx) (s : State) : (fetchEntry id ring i s).rings = s.rings := by
  unfold fetchEntry
  split
  · dsimp only
    split
    · split
      · rfl
      · rw [rings_of_aside (count_aside ..), rings_of_aside (readReq_aside ..)]
        rfl
    · rw [rings_of_aside (count_aside ..), rings_of_aside (readReq_aside ..)]
      rfl
  · rfl

/-- A chain does not change a ring that does not run. -/
theorem extendChain_ring? {n : Nat} {s : State} (hidle : ∀ r, tget n s.rings = some r → r.state ≠ .running) (id : Nat) :
    (extendChain id s).ring? n = s.ring? n := by
  unfold extendChain
  split
  · rfl
  · next o ho =>
    split
    · rfl
    · next r hr =>
      split
      · rfl
      · split
        · exact ring?_of_rings (takeGrant_rings ..) n
        · split
          · next hstate =>
            have hid : o.id = id := by simpa using List.find?_some ho
            refine ring?_of_rings (failUndispatched_rings (by rw [hid, ho]) (fun x hx => ?_) _) n
            rw [hr] at hx
            cases hx
            simpa using hstate
          · next hstate =>
            split
            · rw [ring?_of_rings (fetchEntry_rings ..), State.ring?, modRing_rings, if_neg, State.ring?]
              rintro rfl
              exact hidle r hr (by simpa using hstate)
            · rfl

theorem pushChain_ring? {n : Nat} {s : State} (hidle : ∀ r, tget n s.rings = some r → r.state ≠ .running) :
    (pushChain n s).ring? n = s.ring? n := by
  unfold pushChain
  split
  · exact extendChain_ring? hidle _
  · rfl

/-! ### Stops at CONSUMED -/

section
variable {n : Nat} {st : Status} {s : State} {r : Ring} (hr : tget n s.rings = some r) (hrun : r.state = .running)
include hr hrun

theorem stopConsumed_ring? :
    (stopConsumed n st s).ring? n = some (r.stopped r.consumed r.consumed st).unmarked := by
  have hstop := stopAt_ring? (e := r.consumed) (h := r.consumed) (st := st) (now := true) hr hrun
  unfold stopConsumed
  rw [hr]
  dsimp only
  rw [pushChain_ring? fun x hx => ?_, hstop]
  rw [State.ring?, hx] at hstop
  have hstate : x.state = .error := (congrArg Ring.state (Option.some_inj.1 hstop) :)
  rw [hstate]
  decide

theorem stopConsumed_stopped : RingStopped n r.consumed r.consumed st r (stopConsumed n st s) :=
  .of_ring? (stopConsumed_ring? hr hrun) rfl rfl rfl rfl rfl rfl

/-- A harvest read that fails while no doorbell is held stops its ring at CONSUMED (R135, R136). -/
theorem harvestFailed_stopped (hheld : r.held = none) : RingStopped n r.consumed r.consumed st r (harvestFailed n st s) := by
  set u := modRing n (fun r => { r with harvOut := none }) s with hu
  have hring : tget n u.rings = some { r with harvOut := none } := by rw [hu, modRing_rings, if_pos rfl, hr]; rfl
  have hdoor : doorStop n st u = stopConsumed n st u := by
    unfold doorStop
    rw [hring]
    simp [hrun]
  have hstop := stopConsumed_ring? (st := st) hring hrun
  obtain ⟨x, hx, hxr⟩ := Option.map_eq_some_iff.1 hstop
  have hnone : x.held = none := (congrArg Ring.held hxr :).trans hheld
  have hfree : releaseHeld n (stopConsumed n st u) = stopConsumed n st u := by
    unfold releaseHeld
    rw [hx]
    dsimp only
    rw [hnone]
  unfold harvestFailed
  rw [← hu, hdoor, hfree]
  exact .of_ring? (r := r) hstop rfl rfl rfl rfl rfl rfl

end

/-! ### A fabric status ends an operation -/

section
variable {id good : Nat} {st : Status} {s : State} {o : Op} {r : Ring}

/-- What an operation becomes at its end with a status that stops its ring. -/
def Op.stoppedAs (o : Op) (st : Status) (good : Nat) (x : Op) : Op :=
  x.ended st (o.resultFor st good) (if o.ran then o.entries else o.entries.take 1) (!st.success && !o.written.isEmpty)
    (st.success && 0 < o.payload)

/-- The state in which an operation of a RUNNING ring has ended with a status that stops the ring, before its ring stops. -/
def endStopping (id : Nat) (st : Status) (good : Nat) (o : Op) (s : State) : State :=
  endWrites id st (!st.success && !o.written.isEmpty) o
    (modOp id (o.stoppedAs st good) (dropReads (fun w => w.op? == some id) s))

theorem endStopping_rings : (endStopping id st good o s).rings = s.rings := endWrites_rings ..

theorem endStopping_ops : (endStopping id st good o s).ops = s.ops.map (fun x => if x.id == id then o.stoppedAs st good x else x) :=
  (endWrites_tables ..).2

theorem endOp_stopping (h : s.op? id = some o) (hold : o.old = false) (hst : st.stops = true)
    (hr : tget o.ring s.rings = some r) (hrun : r.state = .running) :
    endOp id st good s = tryPost o.ring (stopRing o.ring o.head.idx st false (endStopping id st good o s)) := by
  unfold endOp endStopping endWrites Op.stoppedAs
  rw [h]
  cases hran : o.ran <;> simp [hold, hst, hr, hrun, hran, Op.ended]

end

end Sys2Proof.Machine
end

section
/-!
PROOFS. A status that ends an operation and stops its ring: the ring, the operation and the writes afterwards.
-/

namespace Sys2Proof.Machine

open Sys2Proof

/-! ### Writes -/

section
variable {P : Owner → Prop}

theorem grows_postOp (hP : ∀ i, P (.compl i)) (o : Op) (s : State) : Grows P s (postOp o s) := by
  unfold postOp
  split
  · exact grows_releaseOp ..
  · generalize hu : modOp o.id _ s = u
    exact Grows.from_hwy (.foldl (fun s e _ => grows_writeReq (hP o.id) ..) u) (by rw [← hu]; rfl)

theorem grows_tryPost (hP : ∀ i, P (.compl i)) (n : Nat) (s : State) : Grows P s (tryPost n s) := by
  refine .foldl (fun s _ _ => ?_) s
  split
  · exact .refl P s
  · split
    · exact grows_postOp hP ..
    · exact .refl P s

theorem grows_zeroWrites {o : Op} (hP : P (.zero o.id)) (s : State) : Grows P s (zeroWrites o s) :=
  .foldl (fun _ _ _ => grows_writeReq hP ..) s

theorem countOp_hwy (ev amt : Nat) (o : Op) (s : State) : (countOp ev amt o s).hwy = s.hwy := by
  unfold countOp count
  split
  · exact countIn_hwy ..
  · rw [countIn_hwy]
    split
    · rfl
    · exact countIn_hwy ..

theorem grows_endWrites {o : Op} {scrub : Bool} (hP : scrub = true → P (.zero o.id)) (id : Nat) (st : Status) (s : State) :
    Grows P s (endWrites id st scrub o s) := by
  have hzero : ∀ u : State, Grows P u (if scrub then zeroWrites o u else u) := fun u => by
    split
    · next h => exact grows_zeroWrites (hP h) u
    · exact .refl P u
  unfold endWrites
  dsimp only
  generalize hw : ({ s with hearth := _, scu := _ } : State) = w
  have hwrites : Grows P s (if scrub then zeroWrites o w else w) := (hzero w).from_hwy (by rw [← hw])
  split
  · exact hwrites.to_hwy (countOp_hwy ..)
  · exact hwrites

theorem grows_stopRing (hP : ∀ o, Owner.announces o = true → P o) (n : Nat) (e : Idx) (st : Status) (now : Bool) (s : State) :
    Grows P s (stopRing n e st now s) := by
  unfold stopRing
  split
  · exact .refl P s
  · exact grows_stopAt hP

theorem foldl_writeDue {α : Type} {f : State → α → State} {l : List α} {n addr : Nat} {o : Owner} {x : α}
    (hgrow : ∀ s a, Grows P s (f s a)) (hlen : ∀ s a, (f s a).hwy.ports.length = s.hwy.ports.length)
    (hdue : ∀ s : State, s.hwy.ports.length = 8 → WriteDue n addr o (f s x)) (hx : x ∈ l) {s : State}
    (hs : s.hwy.ports.length = 8) : WriteDue n addr o (l.foldl f s) := by
  induction l generalizing s with
  | nil => cases hx
  | cons a l ih =>
    rcases List.mem_cons.1 hx with rfl | hx
    · exact (Grows.foldl (l := l) (fun s a _ => hgrow s a) (f s x)).writeDue (hdue s hs)
    · exact ih hx ((hlen s a).trans hs)

/-- Zeros are due over every byte that an operation has written (R196). -/
theorem zeroWrites_due {o : Op} {w : Nat × Nat} (hw : w ∈ o.written) (hlen : 0 < w.2) {s : State} (hs : s.hwy.ports.length = 8) :
    WriteDue (portOf o.ring) w.1 (.zero o.id) (zeroWrites o s) := by
  refine foldl_writeDue (P := fun _ => True) (x := w) (fun s a => grows_writeReq trivial ..)
    (fun s a => (grows_writeReq (P := fun _ => True) trivial ..).length) (fun s hs => ?_) (List.mem_eraseDups.2 hw) hs
  refine writeDue_writeReq ?_ ?_
  · rw [hs]
    exact Nat.mod_lt _ (by decide)
  · rw [Ne, List.replicate_eq_nil_iff]
    omega

end

/-! ### Operations that wait for no completion -/

theorem postOp_op?_other {o : Op} {id : Nat} (h : id ≠ o.id) (s : State) : (postOp o s).op? id = s.op? id := by
  unfold postOp
  split
  · exact releaseOp_op?_other h s
  · next r _ =>
    rw [op?_of_aside (foldl_keeps State.aside (fun s (e : Entry) => writeReq_aside (portOf o.ring) (r.slot e.idx)
      (complBytes r.fmt e.d o.status (o.entryResult r.fmt e)) o.inst (.compl o.id) s) o.entries _),
      op?_modOp (by exact fun _ => rfl), if_neg h]

theorem postOp_ops (o : Op) (s : State) (x : Op) (hx : x ∈ (postOp o s).ops) (hid : x.id ≠ o.id) : x ∈ s.ops := by
  unfold postOp at hx
  split at hx
  · exact releaseOp_ops_subset o.id s hx
  · next r _ =>
    rw [ops_of_aside (foldl_keeps State.aside (fun s (e : Entry) => writeReq_aside (portOf o.ring) (r.slot e.idx)
      (complBytes r.fmt e.d o.status (o.entryResult r.fmt e)) o.inst (.compl o.id) s) o.entries _)] at hx
    obtain ⟨y, hy, rfl⟩ := List.mem_map.1 hx
    by_cases hc : (y.id == o.id) = true
    · rw [if_pos hc] at hid
      exact absurd (by simpa using hc) hid
    · rwa [if_neg hc]

/-- No completion is issued for an operation that does not wait for one. -/
theorem tryPost_op?_unready {id : Nat} {s : State} (h : ∀ o ∈ s.ops, o.id = id → o.phase ≠ .post) (n : Nat) :
    (tryPost n s).op? id = s.op? id := by
  unfold tryPost
  generalize List.range s.ops.length = l
  induction l generalizing s with
  | nil => rfl
  | cons k l ih =>
    rw [List.foldl_cons]
    split
    · exact ih h
    · next r _ =>
      split
      · next o ho =>
        have hne : id ≠ o.id := by
          rintro rfl
          have hphase := List.find?_some ho
          simp only [postable, Bool.and_eq_true, beq_iff_eq] at hphase
          exact h o (List.mem_of_mem_filter (List.mem_of_find?_eq_some ho)) rfl hphase.1.1.1.1
        rw [ih fun x hx hid => h x (postOp_ops o s x hx (by rw [hid]; exact hne)) hid, postOp_op?_other hne]
      · exact ih h

/-! ### The end that stops a ring -/

section
variable {id good : Nat} {st : Status} {s : State} {o : Op} {r : Ring}

theorem stoppedAs_head (x : Op) : (o.stoppedAs st good x).head = o.head := by
  unfold Op.stoppedAs Op.ended Op.head
  dsimp only
  split
  · rfl
  · cases o.entries <;> rfl

theorem endStopping_op? (h : s.op? id = some o) : (endStopping id st good o s).op? id = some (o.stoppedAs st good o) := by
  rw [State.op?, endStopping, (endWrites_tables ..).2, ← State.op?, op?_modOp (by exact fun _ => rfl), if_pos rfl]
  exact congrArg (Option.map _) h

theorem stopRing_endStopping_op? (h : s.op? id = some o) (hr : tget o.ring s.rings = some r)
    (hkeep : (∀ p ∈ s.ops, p.id = id → p.ran = true) ∨ idxBefore o.head.idx (r.haltFor o.head.idx) = true) :
    (stopRing o.ring o.head.idx st false (endStopping id st good o s)).op? id = some (o.stoppedAs st good o) := by
  have hring : tget o.ring (endStopping id st good o s).rings = some r := by rw [endStopping_rings]; exact hr
  rw [stopRing_of hring, stopAt_op? fun p hp hid => ?_, endStopping_op? h]
  rw [endStopping_ops] at hp
  obtain ⟨x, hx, rfl⟩ := List.mem_map.1 hp
  have hxid : (x.id == id) = true := by
    by_contra hne
    rw [if_neg hne] at hid
    exact hne (by simpa using hid)
  rw [if_pos hxid]
  rcases hkeep with hran | hbefore
  · have hunrun : (o.stoppedAs st good x).unrun = false := by
      simp [Op.unrun, Op.stoppedAs, Op.ended, hran x hx (by simpa using hxid)]
    exact (by simp [releasedAt, hunrun] : releasedAt o.ring (r.haltFor o.head.idx) (o.stoppedAs st good x) = false)
  · have hhead : (o.stoppedAs st good x).head.idx = o.head.idx := by rw [stoppedAs_head]
    exact (by simp [releasedAt, hhead, hbefore] : releasedAt o.ring (r.haltFor o.head.idx) (o.stoppedAs st good x) = false)

section
variable (h : s.op? id = some o) (hold : o.old = false) (hst : st.stops = true) (hr : tget o.ring s.rings = some r)
  (hrun : r.state = .running)
include h hold hst hr hrun

theorem endOp_ring? : (endOp id st good s).ring? o.ring = some (r.stopped o.head.idx (r.haltFor o.head.idx) st).unmarked := by
  have hring : tget o.ring (endStopping id st good o s).rings = some r := by rw [endStopping_rings]; exact hr
  rw [endOp_stopping h hold hst hr hrun, ring?_of_rings (tryPost_rings ..), stopRing_of hring, stopAt_ring? hring hrun]

theorem endOp_ringStopped : RingStopped o.ring o.head.idx (r.haltFor o.head.idx) st r (endOp id st good s) :=
  .of_ring? (endOp_ring? h hold hst hr hrun) rfl rfl rfl rfl rfl rfl

theorem grows_endOp {P : Owner → Prop} (hP : ∀ o, Owner.reports o = true → P o)
    (hz : (!st.success && !o.written.isEmpty) = true → P (.zero o.id)) : Grows P s (endOp id st good s) := by
  rw [endOp_stopping h hold hst hr hrun]
  refine Grows.trans ?_ (grows_tryPost (fun i => hP (.compl i) rfl) ..)
  refine Grows.trans ?_ (grows_stopRing (fun o ho => hP o (reports_of_announces ho)) ..)
  unfold endStopping
  exact ((grows_dropReads P _ s).to_hwy (modOp_hwy ..)).trans (grows_endWrites hz ..)

section
variable (hkeep : (∀ p ∈ s.ops, p.id = id → p.ran = true) ∨ idxBefore o.head.idx (r.haltFor o.head.idx) = true)
include hkeep

theorem endOp_unposted : ((endOp id st good s).op? id).map Op.unposted = some (o.stoppedAs st good o).unposted := by
  rw [endOp_stopping h hold hst hr hrun, (tryPost_tables ..).2, stopRing_endStopping_op? h hr hkeep]
  rfl

/-- An operation that ends with a status that stops its ring holds the status and its RESULT, and its packet number. -/
theorem endOp_stops : Ended id st (o.resultFor st good) (endOp id st good s) ∧
    ∀ y, (endOp id st good s).op? id = some y → y.pn = o.pn := by
  have hend := endOp_unposted (good := good) h hold hst hr hrun hkeep
  obtain ⟨x, hx, hxo⟩ := Option.map_eq_some_iff.1 hend
  refine ⟨⟨x, hx, (congrArg Op.status hxo :), (congrArg Op.result hxo :), (congrArg Op.key hxo :), (congrArg Op.buf hxo :),
    (congrArg Op.acc hxo :), (congrArg Op.unit hxo :)⟩, fun y hy => ?_⟩
  rw [hy] at hx
  cases hx
  exact (congrArg Op.pn hxo :)

/-- One whose output must be zeroed waits for the zeros, not for its completion. -/
theorem endOp_scrubs (hscrub : (!st.success && !o.written.isEmpty) = true) :
    ∃ y, (endOp id st good s).op? id = some y ∧ y.phase = .scrub ∧ y.posted = o.posted := by
  refine ⟨o.stoppedAs st good o, ?_, by simp [Op.stoppedAs, Op.ended, hscrub], rfl⟩
  rw [endOp_stopping h hold hst hr hrun, tryPost_op?_unready fun p hp hid => ?_,
    stopRing_endStopping_op? h hr hkeep]
  have hring : tget o.ring (endStopping id st good o s).rings = some r := by rw [endStopping_rings]; exact hr
  rw [stopRing_of hring] at hp
  have hmem := stopAt_ops_subset hp
  rw [endStopping_ops] at hmem
  obtain ⟨x, hx, rfl⟩ := List.mem_map.1 hmem
  have hxid : (x.id == id) = true := by
    by_contra hne
    rw [if_neg hne] at hid
    exact hne (by simpa using hid)
  rw [if_pos hxid]
  simp [Op.stoppedAs, Op.ended, hscrub]

end

theorem endOp_zeros (hscrub : (!st.success && !o.written.isEmpty) = true) {w : Nat × Nat} (hw : w ∈ o.written) (hlen : 0 < w.2)
    (hports : s.hwy.ports.length = 8) : WriteDue (portOf o.ring) w.1 (.zero o.id) (endOp id st good s) := by
  rw [endOp_stopping h hold hst hr hrun]
  refine (grows_tryPost (P := fun _ => True) (fun _ => trivial) ..).writeDue ?_
  refine (grows_stopRing (P := fun _ => True) (fun _ _ => trivial) ..).writeDue ?_
  unfold endStopping endWrites
  rw [hscrub]
  dsimp only
  rw [if_pos rfl]
  generalize hu : (State.mk ..) = u
  have hlength : u.hwy.ports.length = 8 := by
    rw [← hu]
    exact (grows_dropReads (fun _ => True) (fun w => w.op? == some id) s).length.trans hports
  have hdue := zeroWrites_due hw hlen hlength
  split
  · exact (Grows.of_hwy (P := fun _ => True) (countOp_hwy ..)).writeDue hdue
  · exact hdue

end

end

end Sys2Proof.Machine
end

section
/-!
PROOFS. Timeouts and failed requests of the Hallway (O25).
-/

namespace Sys2Proof.Machine

open Sys2Proof

/-! ### Quarantine -/

/-- The read under an ID is quarantined (R462). -/
def quarRead (n id : Nat) (s : State) : State :=
  countIn 0 0x22 1 ⟨0, none, none, none, some n⟩
    (modPort n (fun p => { p with rds := p.rds.map (fun x => if x.id == id then { x with quar := true } else x) }) s)

/-- The write under an ID is quarantined (R462). -/
def quarWrite (n id : Nat) (s : State) : State :=
  modPort n (fun p => { p with wrs := p.wrs.map (fun x => if x.id == id then { x with quar := true } else x) }) s

section
variable {n id : Nat} {s : State}

theorem quarRead_port (hn : n < s.hwy.ports.length) (m : Nat) : (quarRead n id s).port m = if m = n then
    { s.port m with rds := (s.port m).rds.map (fun x => if x.id == id then { x with quar := true } else x) } else s.port m := by
  have hhwy : ∀ u : State, (countIn 0 0x22 1 ⟨0, none, none, none, some n⟩ u).port m = u.port m := fun u => by
    rw [State.port, countIn_hwy, State.port]
  rw [quarRead, hhwy, port_modPort n m _ s hn]

theorem quarWrite_port (hn : n < s.hwy.ports.length) (m : Nat) : (quarWrite n id s).port m = if m = n then
    { s.port m with wrs := (s.port m).wrs.map (fun x => if x.id == id then { x with quar := true } else x) } else s.port m := by
  rw [quarWrite, port_modPort n m _ s hn]

theorem readTimeout_quarantines (hn : n < s.hwy.ports.length) {r : Rd}
    (hr : (s.port n).rds.find? (fun x => x.id == id && !x.quar) = some r) :
    { r with quar := true } ∈ ((quarRead n id s).port n).rds ∧ (quarRead n id s).tables = s.tables ∧
      ((quarRead n id s).port n).rds.map (·.id) = (s.port n).rds.map (·.id) ∧
      (∀ m, m ≠ n → (quarRead n id s).port m = s.port m) ∧
      exec (.readTimeout n id) s = .next (afterPort n (if r.drop = true then absorbRead n r .fabricTimeout (quarRead n id s)
        else readFailed n r .fabricTimeout (quarRead n id s))) := by
  have hid : (r.id == id) = true := by have h := List.find?_some hr; exact (Bool.and_eq_true_iff.1 h).1
  refine ⟨?_, tables_of_aside (countIn_aside ..), ?_, fun m hm => by rw [quarRead_port hn, if_neg hm], ?_⟩
  · rw [quarRead_port hn, if_pos rfl]
    exact List.mem_map.2 ⟨r, List.mem_of_find?_eq_some hr, if_pos hid⟩
  · rw [quarRead_port hn, if_pos rfl, List.map_map]
    exact List.map_congr_left fun x _ => by
      rw [Function.comp_apply]
      split <;> rfl
  · show Host.Outcome.next (readLate n id s) = _
    unfold readLate
    rw [hr]
    rfl

theorem writeTimeout_quarantines (hn : n < s.hwy.ports.length) {w : Wr}
    (hw : (s.port n).wrs.find? (fun x => x.id == id && !x.quar) = some w) :
    { w with quar := true } ∈ ((quarWrite n id s).port n).wrs ∧ (quarWrite n id s).tables = s.tables ∧
      ((quarWrite n id s).port n).wrs.map (·.id) = (s.port n).wrs.map (·.id) ∧
      (∀ m, m ≠ n → (quarWrite n id s).port m = s.port m) ∧
      exec (.writeTimeout n id) s = .next (afterPort n (writeFailed n w .fabricWriteTimeout (quarWrite n id s))) := by
  have hid : (w.id == id) = true := by have h := List.find?_some hw; exact (Bool.and_eq_true_iff.1 h).1
  refine ⟨?_, rfl, ?_, fun m hm => by rw [quarWrite_port hn, if_neg hm], ?_⟩
  · rw [quarWrite_port hn, if_pos rfl]
    exact List.mem_map.2 ⟨w, List.mem_of_find?_eq_some hw, if_pos hid⟩
  · rw [quarWrite_port hn, if_pos rfl, List.map_map]
    exact List.map_congr_left fun x _ => by
      rw [Function.comp_apply]
      split <;> rfl
  · show Host.Outcome.next (writeLate n id s) = _
    unfold writeLate
    rw [hw]
    rfl

end

/-! ### The command queue -/

/-- A queue whose packet read or reply write has failed (R30). -/
theorem queueFailed_queue (q : Nat) (s : State) : (queueFailed q s).tables = s.tables ∧ ((queueFailed q s).inst q).cq =
    { (s.inst q).cq with fabErr := true, rdOut := false, arrived := none, serving := none } := by
  refine ⟨rfl, ?_⟩
  unfold queueFailed
  rw [modCq_inst_same]
  rfl

/-! ### Statuses of the fabric -/

/-- The statuses of a failed request (Table 13-3). -/
def fabricStatus (st : Status) : Bool :=
  st == .fabricReadError || st == .fabricTimeout || st == .fabricWriteError || st == .fabricWriteTimeout

theorem stops_of_fabricStatus {st : Status} (h : fabricStatus st = true) : st.stops = true ∧ st.success = false := by
  simp only [fabricStatus, Bool.or_eq_true, beq_iff_eq] at h
  rcases h with ((rfl | rfl) | rfl) | rfl <;> exact ⟨rfl, rfl⟩

/-! ### Failed reads -/

section
variable {st : Status} {s : State} {o : Op} {r : Ring}

theorem slotFailed_stops (hhead : o.openHead = false) (hr : tget o.ring s.rings = some r) (hrun : r.state = .running) :
    RingStopped o.ring o.head.idx (r.haltFor o.head.idx) st r (slotFailed o st s) ∧ (slotFailed o st s).op? o.id = none ∧
      Grows (fun w => w.announces = true) s (slotFailed o st s) := by
  have hring : tget o.ring (releaseOp o.id s).rings = some r := by rw [releaseOp_rings]; exact hr
  have hslot : slotFailed o st s = stopAt o.ring o.head.idx (r.haltFor o.head.idx) st true (releaseOp o.id s) := by
    rw [slotFailed, hhead, if_neg Bool.false_ne_true, stopRing_of hring]
  rw [hslot]
  exact ⟨stopAt_stopped hring hrun, op?_none_of_subset stopAt_ops_subset (releaseOp_op?_same o.id s),
    (grows_releaseOp _ o.id s).trans (grows_stopAt fun _ h => h)⟩

/-- Writes that tell of rings and events are no completions. -/
theorem completionDue_of_grows {id : Nat} {t : State} (h : Grows (fun w => w.announces = true) s t) (hdue : CompletionDue id t) :
    CompletionDue id s := by
  obtain ⟨p, hp, w, hw, howner⟩ := hdue
  obtain ⟨n, rfl⟩ := mem_ports hp
  rcases h.fresh n w.anon (mem_due.2 ⟨w, List.mem_append.1 hw, rfl⟩) with hold | hnew
  · obtain ⟨v, hv, hanon⟩ := mem_due.1 hold
    rcases port_cases s n with hport | hport
    · exact ⟨_, hport, v, List.mem_append.2 hv, (congrArg Wr.owner hanon :).trans howner⟩
    · rw [hport] at hv
      exact absurd hv (by simp [Port.cold])
  · have howner' : w.anon.owner = .compl id := howner
    rw [howner'] at hnew
    cases hnew

theorem correctCharge_op? (o : Op) (cost : Nat) (s : State) :
    (correctCharge o cost s).op? o.id = (s.op? o.id).map (fun x => { x with charge := cost }) := by
  rw [correctCharge, chargeTo_op?, State.op?, modRing_ops, ← State.op?]

/-- A list block or a blob of an operation that is not dispatched has failed. -/
theorem failEntry_ends (hcur : Current o s) (hfabric : fabricStatus st = true) (hr : tget o.ring s.rings = some r)
    (hrun : r.state = .running) (hbefore : idxBefore o.head.idx (r.haltFor o.head.idx) = true) :
    Ended o.id st (o.resultFor st 0) (failEntry o st s) ∧
      RingStopped o.ring o.head.idx (r.haltFor o.head.idx) st r (failEntry o st s) ∧
      ∀ y, (failEntry o st s).op? o.id = some y → y.pn = o.pn := by
  obtain ⟨hop, -, hold, -⟩ := hcur
  obtain ⟨hst, -⟩ := stops_of_fabricStatus hfabric
  have hop' : (correctCharge o 1 s).op? o.id = some { o with charge := 1 } := by rw [correctCharge_op?, hop]; rfl
  have hring : tget o.ring (correctCharge o 1 s).rings = some { r with estimate := 1 } := by
    rw [correctCharge, chargeTo_rings, modRing_rings, if_pos rfl, hr]
    rfl
  have hstops := endOp_stops (good := 0) hop' hold hst hring hrun (.inr hbefore)
  have hstop := endOp_ring? (good := 0) hop' hold hst hring hrun
  exact ⟨hstops.1, .of_ring? hstop rfl rfl rfl rfl rfl rfl, hstops.2⟩

/-- A read of an operation on a unit has failed (R465). -/
theorem failRead_ends (hcur : Current o s) (hran : o.ran = true) (hfabric : fabricStatus st = true)
    (hr : tget o.ring s.rings = some r) (hrun : r.state = .running) :
    Ended o.id st (o.resultFor st 0) (failRead o.id st s) ∧
      RingStopped o.ring o.head.idx (r.haltFor o.head.idx) st r (failRead o.id st s) ∧
      (s.Inv → ∀ w ∈ o.written, 0 < w.2 → WriteDue (portOf o.ring) w.1 (.zero o.id) (failRead o.id st s)) ∧
      (o.written ≠ [] → ∃ y, (failRead o.id st s).op? o.id = some y ∧ y.phase = .scrub ∧ y.posted = o.posted) := by
  obtain ⟨hop, huniq, hold, -⟩ := hcur
  obtain ⟨hst, hfail⟩ := stops_of_fabricStatus hfabric
  have hkeep : (∀ p ∈ s.ops, p.id = o.id → p.ran = true) ∨ idxBefore o.head.idx (r.haltFor o.head.idx) = true :=
    .inl fun p hp hid => by rw [huniq p hp hid, hran]
  refine ⟨(endOp_stops (good := 0) hop hold hst hr hrun hkeep).1, endOp_ringStopped hop hold hst hr hrun,
    fun hinv w hw hlen => ?_, fun hwritten => ?_⟩
  · exact endOp_zeros hop hold hst hr hrun (by rw [hfail]; cases h : o.written <;> simp_all) hw hlen hinv.1
  · exact endOp_scrubs hop hold hst hr hrun hkeep (by simp [hfail, hwritten])

end

end Sys2Proof.Machine
end

section
/-!
PROOFS. Failed writes of the Hallway, and what a failed request of each owner does (O25).
-/

namespace Sys2Proof.Machine

open Sys2Proof

/-! ### Event queues -/

theorem OnlyBeats.eq {s t : State} (h : OnlyBeats s t) (j : Nat) : (t.inst j).eq = (s.inst j).eq :=
  (congrArg Inst.eq (h.body j) :)

theorem modEq_inst_same (i : Nat) (f : EventQ → EventQ) (s : State) : ((modEq i f s).inst i).eq = f (s.inst i).eq := by
  rw [modEq, inst_modInst, if_pos rfl]

/-- The conditions of `Signals`, as the model tests them. -/
theorem irqCheck_of_due {i : Nat} {s : State} (hgo : (s.inst i).eq.armed = true ∧ (s.inst i).eq.mask = false ∧
    MessageDue (s.inst i).eq ∧ (s.port 0).holdsWrites = false) : irqCheck i s =
      writeReq 0 (s.inst i).eq.msgAddr (leBytes 4 (s.inst i).eq.msgData) i (.irqMsg i)
        (modEq i (fun e => { e with armed := false, unsig := 0, flagSet := false, due := false }) s) := by
  obtain ⟨harmed, hmask, hdue, hport⟩ := hgo
  unfold irqCheck
  refine if_pos ?_
  unfold MessageDue at hdue
  simpa [harmed, hmask, hport, or_assoc] using hdue

theorem irqCheck_of_not_due {i : Nat} {s : State} (hno : ¬((s.inst i).eq.armed = true ∧ (s.inst i).eq.mask = false ∧
    MessageDue (s.inst i).eq ∧ (s.port 0).holdsWrites = false)) : irqCheck i s = s := by
  unfold irqCheck
  refine if_neg fun h => hno ?_
  unfold MessageDue
  simpa [or_assoc, and_assoc] using h

/-- A write that fits one request goes out as it is. -/
theorem writeReq_whole {n addr tag : Nat} {data : List Byte} {o : Owner} {s : State} (hn : n < s.hwy.ports.length)
    (hdata : data ≠ []) (hfit : data.length ≤ 512 - addr % 512) :
    ∃ w ∈ ((writeReq n addr data tag o s).port n).wrs ++ ((writeReq n addr data tag o s).port n).wrQ,
      w.owner = o ∧ w.addr = addr ∧ w.data = data := by
  have hlen : 0 < data.length := List.length_pos_of_ne_nil hdata
  have hpumped := pump_writes (w := ⟨0, addr, slice 0 (min data.length (512 - addr % 512)) data, tag, o, false⟩)
    (s := modPort n (fun p => { p with wrQ := p.wrQ ++ (cutReq addr (data.length / 512 + 2) 0 data.length).map (fun x =>
      (⟨0, addr + x.1, slice x.1 x.2 data, tag, o, false⟩ : Wr)) }) s) (n := n)
    (by rw [modPort_length]; exact hn) (by
      rw [port_modPort _ _ _ _ hn, if_pos rfl]
      exact List.mem_append_right _ (List.mem_map.2 ⟨_, mem_cutReq addr _ hlen, rfl⟩))
  obtain ⟨i, hw⟩ := hpumped
  refine ⟨_, hw, rfl, rfl, ?_⟩
  rw [Nat.min_eq_left hfit]
  exact List.take_length

/-- The check of R156, from the queue that it finds. -/
theorem irqCheck_signals (i : Nat) (s : State) : Signals i (s.inst i).eq s (irqCheck i s) := by
  refine ⟨fun hgo => ?_, fun hno => by rw [irqCheck_of_not_due hno]⟩
  rw [irqCheck_of_due hgo]
  refine ⟨?_, fun hinv halign => ?_⟩
  · rw [(onlyBeats_writeReq ..).eq, modEq_inst_same]
  · have hports : s.hwy.ports.length = 8 := hinv.1
    have hlen : (leBytes 4 (s.inst i).eq.msgData).length = 4 := by simp [leBytes]
    refine writeReq_whole (by rw [show (modEq i _ s).hwy = s.hwy from rfl, hports]; decide) (fun h => ?_) (by rw [hlen]; omega)
    rw [h] at hlen
    cases hlen

/-- An interrupt message that has failed is counted, and its queue is armed again (Table 13-3). -/
theorem irqFailed_signals (i : Nat) (s : State) :
    Signals i { (s.inst i).eq with armed := true } s (irqCheck i (modEq i (fun e => { e with armed := true }) (addCounter 0 66 1 s))) ∧
      (irqCheck i (modEq i (fun e => { e with armed := true }) (addCounter 0 66 1 s))).tables = s.tables := by
  set u := modEq i (fun e => { e with armed := true }) (addCounter 0 66 1 s) with hu
  have heq : (u.inst i).eq = { (s.inst i).eq with armed := true } := by
    rw [hu, modEq_inst_same, (onlyBeats_addCounter ..).eq]
  have hhwy : u.hwy = s.hwy := addCounter_hwy ..
  have hport : u.port 0 = s.port 0 := by rw [State.port, hhwy, State.port]
  have hside : u.aside = s.aside := addCounter_aside ..
  have hrooms : u.rooms = s.rooms ∧ u.hearth = s.hearth ∧ u.build = s.build :=
    ⟨(congrArg State.rooms hside :), (congrArg State.hearth hside :), (congrArg State.build hside :)⟩
  obtain ⟨hrooms, hhearth, hbuild⟩ := hrooms
  have hinv : s.Inv → u.Inv := fun h => by
    unfold State.Inv
    rw [hhwy, hrooms, hhearth, hbuild]
    exact h
  obtain ⟨hgo, hno⟩ := irqCheck_signals i u
  rw [heq, hport] at hgo hno
  refine ⟨⟨fun h => ⟨(hgo h).1, fun hs => (hgo h).2 (hinv hs)⟩, hno⟩, ?_⟩
  exact tables_of_aside ((irqCheck_aside ..).trans hside)

/-- A record write that has failed sets FABRIC_ERR (R152, Table 13-3). -/
theorem evFail_sets {i : Nat} {s : State} (h : (s.inst i).eq.inFlight ≠ []) :
    ((evFail i s).inst i).eq.fabErr = true ∧ (evFail i s).ops = s.ops := by
  have hirq : ∀ u : State, ((irqCheck i u).inst i).eq.fabErr = (u.inst i).eq.fabErr := fun u => by
    by_cases hgo : (u.inst i).eq.armed = true ∧ (u.inst i).eq.mask = false ∧ MessageDue (u.inst i).eq ∧
        (u.port 0).holdsWrites = false
    · rw [irqCheck_of_due hgo, (onlyBeats_writeReq ..).eq, modEq_inst_same]
    · rw [irqCheck_of_not_due hgo]
  unfold evFail
  dsimp only
  split
  · next hstop => exact ⟨by simpa [h] using hstop, rfl⟩
  · rw [hirq, ops_of_aside (irqCheck_aside ..), modEq_inst_same]
    exact ⟨rfl, (modInst_ops ..).trans <| foldl_keeps State.ops (fun s (x : Idx × Nat × Nat) => (setPend_tables i x.2.1 x.2.2 s).2) _ _⟩

/-! ### Completions and output -/

section
variable {st : Status} {s : State} {o : Op} {r : Ring}

theorem complFailed_stops (hop : s.op? o.id = some o) (hr : tget o.ring s.rings = some r) (hrun : r.state = .running) :
    RingStopped o.ring o.head.idx (r.haltFor o.head.idx) st r (complFailed o.id st s) ∧
      (∃ y, tget o.ring (complFailed o.id st s).rings = some y ∧ y.complBad = true) ∧
      (o.complLeft ≤ 1 → (complFailed o.id st s).op? o.id = none) := by
  set u := modRing o.ring (fun r => { r with complBad := true }) s with hu
  have hring : tget o.ring u.rings = some { r with complBad := true } := by rw [hu, modRing_rings, if_pos rfl, hr]; rfl
  set v := stopRing o.ring o.head.idx st true u with hv
  have hstop : v.ring? o.ring =
      some (({ r with complBad := true } : Ring).stopped o.head.idx (r.haltFor o.head.idx) st).unmarked := by
    rw [hv, stopRing_of hring]
    exact stopAt_ring? hring hrun
  have heq : complFailed o.id st s =
      if o.complLeft ≤ 1 then releaseOp o.id v else modOp o.id (fun x => { x with complLeft := x.complLeft - 1 }) v := by
    unfold complFailed
    rw [hop]
    dsimp only
    rw [← hu, hring]
    dsimp only
    simp only [hrun, beq_self_eq_true, if_true]
    rfl
  have hkeep : (complFailed o.id st s).ring? o.ring = v.ring? o.ring := by
    rw [heq]
    split
    · exact ring?_of_rings (releaseOp_rings ..) _
    · rfl
  have hshown := hkeep.trans hstop
  refine ⟨.of_ring? hshown rfl rfl rfl rfl rfl rfl, ?_, fun hlast => ?_⟩
  · obtain ⟨y, hy, hyr⟩ := Option.map_eq_some_iff.1 hshown
    exact ⟨y, hy, (congrArg Ring.complBad hyr :)⟩
  · rw [heq, if_pos hlast]
    exact releaseOp_op?_same ..

/-- Output of an operation. -/
def Owner.outputOf (id : Nat) : Owner → Bool
  | .dst i _ _ => i == id
  | .zero i => i == id
  | _ => false

theorem failWrite_eq {id ring : Nat} {e : Idx} (hop : s.op? id = some o) (hold : o.old = false) :
    failWrite id ring e st s = if o.posted then stopRing ring e st false (dropWrites (Owner.outputOf id) s)
      else endOp id st 0 (modOp id (fun x => { x with wrote := [], prior := [] }) (dropWrites (Owner.outputOf id) s)) := by
  unfold failWrite
  rw [hop]
  dsimp only
  rw [if_neg (by rw [hold]; decide)]
  rfl

theorem dropWrites_wrQ {f : Owner → Bool} {n : Nat} {w : Wr} (h : w ∈ ((dropWrites f s).port n).wrQ) : f w.owner = false := by
  rcases port_cases (dropWrites f s) n with hport | hport
  · obtain ⟨p, -, hp⟩ := List.mem_map.1 hport
    rw [← hp] at h
    simpa using List.of_mem_filter h
  · rw [hport] at h
    cases h

/-- No output of an operation waits once its writes have been dropped and only reports added. -/
theorem no_output_of_grows {id : Nat} {t : State} (h : Grows (fun w => w.reports = true) (dropWrites (Owner.outputOf id) s) t) :
    ∀ p ∈ t.hwy.ports, ∀ w ∈ p.wrQ, w.owner ≠ .zero id ∧ ∀ k e, w.owner ≠ .dst id k e := by
  intro p hp w hw
  obtain ⟨n, rfl⟩ := mem_ports hp
  have hout : w.owner.outputOf id = false := by
    rcases h.queued n w hw with hold | hnew
    · exact dropWrites_wrQ hold
    · revert hnew
      cases w.owner with
      | dst _ _ _ => exact fun h => nomatch h
      | zero _ => exact fun h => nomatch h
      | _ => exact fun _ => rfl
  exact ⟨fun h => by simp [h, Owner.outputOf] at hout, fun k e h => by simp [h, Owner.outputOf] at hout⟩

theorem failWrite_stops (hcur : Current o s) (hfabric : fabricStatus st = true) (hr : tget o.ring s.rings = some r)
    (hrun : r.state = .running) (hran : o.ran = true) :
    let t := failWrite o.id o.ring o.head.idx st s
    RingStopped o.ring o.head.idx (r.haltFor o.head.idx) st r t ∧
      (∀ p ∈ t.hwy.ports, ∀ w ∈ p.wrQ, w.owner ≠ .zero o.id ∧ ∀ k e, w.owner ≠ .dst o.id k e) ∧
      (o.posted = false → Ended o.id st (o.resultFor st 0) t) ∧ (o.posted = true → t.op? o.id = some o) := by
  obtain ⟨hop, huniq, hold, -⟩ := hcur
  obtain ⟨hst, hfail⟩ := stops_of_fabricStatus hfabric
  have hranAll : ∀ p ∈ s.ops, p.id = o.id → p.ran = true := fun p hp hid => by rw [huniq p hp hid, hran]
  dsimp only
  rw [failWrite_eq hop hold]
  set u := dropWrites (Owner.outputOf o.id) s with hu
  have hring : tget o.ring u.rings = some r := hr
  cases hposted : o.posted with
  | true =>
    rw [if_pos rfl]
    refine ⟨?_, no_output_of_grows (grows_stopRing (fun _ => reports_of_announces) ..), (nomatch ·), fun _ => ?_⟩
    · rw [stopRing_of hring]
      exact stopAt_stopped hring hrun
    · rw [(stopRing_tables _ _ _ _ u).2 o.id hranAll]
      exact hop
  | false =>
    rw [if_neg Bool.false_ne_true]
    set v := modOp o.id (fun x => { x with wrote := [], prior := [] }) u with hv
    have hopv : v.op? o.id = some { o with wrote := [], prior := [] } := by
      rw [hv, op?_modOp (by exact fun _ => rfl), if_pos rfl]
      exact congrArg _ hop
    have hranv : ∀ p ∈ v.ops, p.id = o.id → p.ran = true := fun p hp hid => by
      obtain ⟨x, hx, rfl⟩ := List.mem_map.1 hp
      by_cases hc : (x.id == o.id) = true
      · rw [if_pos hc]
        exact hranAll x hx (by simpa using hc)
      · rw [if_neg hc] at hid ⊢
        exact hranAll x hx hid
    have hended := (endOp_stops (good := 0) hopv hold hst hring hrun (.inl hranv)).1
    have hgrow : Grows (fun w => w.reports = true) u (endOp o.id st 0 v) :=
      (grows_endOp (good := 0) hopv hold hst hring hrun (fun _ h => h) (by simp [Op.written])).from_hwy (modOp_hwy ..)
    have hstop := endOp_ringStopped (good := 0) hopv hold hst hring hrun
    exact ⟨hstop, no_output_of_grows hgrow, fun _ => hended, (nomatch ·)⟩

end

end Sys2Proof.Machine
end

section
/-!
PROOFS. A failed request of each owner (O25): the owner decides what fails.
-/

namespace Sys2Proof.Machine

open Sys2Proof

section
variable {n : Nat} {st : Status} {s : State}

theorem readFailed_unread {x : Rd} {o : Op} (hown : (∃ i d, x.owner = .list o.id i d) ∨
    x.owner ∈ ([.blob o.id, .aad o.id, .src o.id, .tagIn o.id] : List Owner)) (hop : s.op? o.id = some o) :
    readFailed n x st s = if o.onUnit then failRead o.id st s else failEntry o st s := by
  have howner : (∃ i d, x.owner = .list o.id i d) ∨ x.owner = .blob o.id ∨ x.owner = .aad o.id ∨ x.owner = .src o.id ∨
      x.owner = .tagIn o.id := by simpa using hown
  unfold readFailed
  rcases howner with ⟨i, d, h⟩ | h | h | h | h <;> (rw [h]; dsimp only; rw [hop])

theorem readFailed_desc {x : Rd} {o : Op} (hown : x.owner = .desc o.id) (hop : s.op? o.id = some o)
    (hfirst : earlierFetch o s = false) :
    readFailed n x st s = slotFailed o st (dropReads (fun w => w == .desc o.id) s) := by
  have hlater : earlierFetch o (dropReads (fun w => w == .desc o.id) s) = false := hfirst
  unfold readFailed
  rw [hown]
  dsimp only
  rw [hop]
  dsimp only
  rw [slotReadFailed, hlater, if_neg Bool.false_ne_true]

theorem haltCause_isSome {w : Owner} (h : w.haltCause.isSome = true) : (∃ r i, w = .spec r i) ∨ (∃ l m, w = .node l m) ∨
    (∃ i, w = .larBlob i) ∨ ∃ l m c, w = .child l m c := by
  cases w with
  | spec r i => exact .inl ⟨r, i, rfl⟩
  | node l m => exact .inr (.inl ⟨l, m, rfl⟩)
  | larBlob i => exact .inr (.inr (.inl ⟨i, rfl⟩))
  | child l m c => exact .inr (.inr (.inr ⟨l, m, c, rfl⟩))
  | _ => cases h

/-- A read that is charged to no one halts its port (Table 13-3). -/
theorem readFailed_halts {x : Rd} (hcause : x.owner.haltCause.isSome = true) (hn : n < s.hwy.ports.length) :
    ((readFailed n x st s).port n).halted = true := by
  have hagain : n < (modPort n (fun p => { p with rdQ := x :: p.rdQ }) s).hwy.ports.length := by rw [modPort_length]; exact hn
  unfold readFailed
  rcases haltCause_isSome hcause with ⟨r, i, h⟩ | ⟨l, m, h⟩ | ⟨i, h⟩ | ⟨l, m, c, h⟩ <;> rw [h]
  · exact haltPort_halted hn ..
  · exact haltPort_halted hagain ..
  · exact haltPort_halted hagain ..
  · exact haltPort_halted hagain ..

end

/-! ### The statement -/

theorem readFailed_clauses (s : State) (n : Nat) (x : Rd) (st : Status) (hst : st = .fabricReadError ∨ st = .fabricTimeout) :
    let t := readFailed n x st s
    (∀ q, x.owner = .cmdPacket q → t.tables = s.tables ∧ (t.inst q).cq =
      { (s.inst q).cq with fabErr := true, rdOut := false, arrived := none, serving := none }) ∧
    (∀ o r, x.owner = .desc o.id → s.op? o.id = some o → earlierFetch o s = false → o.openHead = false →
      tget o.ring s.rings = some r → r.state = .running →
      RingStopped o.ring o.head.idx (r.haltFor o.head.idx) st r t ∧ t.op? o.id = none ∧
        (CompletionDue o.id t → CompletionDue o.id s)) ∧
    (∀ k r, x.owner = .harvest k → tget k s.rings = some r → r.state = .running → r.held = none →
      RingStopped k r.consumed r.consumed st r t) ∧
    (∀ o r i d, x.owner = .list o.id i d ∨ x.owner = .blob o.id → Current o s → o.onUnit = false → o.written = [] →
      tget o.ring s.rings = some r → r.state = .running → idxBefore o.head.idx (r.haltFor o.head.idx) = true →
      Ended o.id st (o.resultFor st 0) t ∧ RingStopped o.ring o.head.idx (r.haltFor o.head.idx) st r t ∧
        ∀ y, t.op? o.id = some y → y.pn = o.pn) ∧
    (∀ o r, (∃ i d, x.owner = .list o.id i d) ∨ x.owner ∈ ([.src o.id, .aad o.id, .tagIn o.id] : List Owner) → Current o s →
      o.onUnit = true → o.ran = true → tget o.ring s.rings = some r → r.state = .running →
      Ended o.id st (o.resultFor st 0) t ∧ RingStopped o.ring o.head.idx (r.haltFor o.head.idx) st r t ∧
        (s.Inv → ∀ w ∈ o.written, 0 < w.2 → WriteDue (portOf o.ring) w.1 (.zero o.id) t) ∧
        (o.written ≠ [] → ∃ y, t.op? o.id = some y ∧ y.phase = .scrub ∧ y.posted = o.posted)) ∧
    (x.owner.haltCause.isSome = true → (s.port n).halted = false → n < 8 → s.Inv → (t.port n).halted = true) := by
  have hfabric : fabricStatus st = true := by rcases hst with rfl | rfl <;> rfl
  dsimp only
  refine ⟨fun q hown => ?_, fun o r hown hop hfirst hhead hr hrun => ?_, fun k r hown hr hrun hheld => ?_,
    fun o r i d hown hcur hunit _ hr hrun hbefore => ?_, fun o r hown hcur hunit hran hr hrun => ?_, fun hcause _ hn hinv => ?_⟩
  · rw [readFailed, hown]
    exact queueFailed_queue q s
  · rw [readFailed_desc hown hop hfirst]
    obtain ⟨hstop, hnone, hgrow⟩ :=
      slotFailed_stops (st := st) (s := dropReads (fun w => w == .desc o.id) s) (r := r) hhead hr hrun
    exact ⟨hstop, hnone, completionDue_of_grows ((grows_dropReads _ _ s).trans hgrow)⟩
  · rw [readFailed, hown]
    exact harvestFailed_stopped hr hrun hheld
  · rw [readFailed_unread (o := o) (hown.imp (fun h => ⟨i, d, h⟩) fun h => by simp [h]) hcur.1, hunit, if_neg Bool.false_ne_true]
    exact failEntry_ends hcur hfabric hr hrun hbefore
  · rw [readFailed_unread (o := o) (hown.imp id fun h => by simp at h ⊢; tauto) hcur.1, hunit, if_pos rfl]
    exact failRead_ends hcur hran hfabric hr hrun
  · exact readFailed_halts hcause (by rw [hinv.1]; exact hn)

theorem writeFailed_clauses (s : State) (n : Nat) (x : Wr) (st : Status)
    (hst : st = .fabricWriteError ∨ st = .fabricWriteTimeout) :
    let t := writeFailed n x st s
    (∀ q, x.owner = .replyBody q ∨ x.owner = .replyWord2 q → t.tables = s.tables ∧ (t.inst q).cq =
      { (s.inst q).cq with fabErr := true, rdOut := false, arrived := none, serving := none }) ∧
    (∀ i k, x.owner = .eventRec i k → (s.inst i).eq.inFlight ≠ [] → (t.inst i).eq.fabErr = true ∧ t.ops = s.ops) ∧
    (∀ i, x.owner = .irqMsg i → Signals i { (s.inst i).eq with armed := true } s t ∧ t.tables = s.tables) ∧
    (∀ k r, x.owner = .idxBlock k → tget k s.rings = some r → r.state = .running → (s.inst r.owner).served = true →
      RingStopped k r.consumed r.consumed st r t) ∧
    (∀ o r, x.owner = .compl o.id → s.op? o.id = some o → tget o.ring s.rings = some r → r.state = .running →
      RingStopped o.ring o.head.idx (r.haltFor o.head.idx) st r t ∧
        (∃ y, tget o.ring t.rings = some y ∧ y.complBad = true) ∧ (o.complLeft ≤ 1 → t.op? o.id = none)) ∧
    (∀ o r, x.owner = .dst o.id (some o.ring) o.head.idx → Current o s → tget o.ring s.rings = some r →
      r.state = .running → s.hearth.engines.any (fun g => g.op == some o.id) = false → o.ran = true →
      RingStopped o.ring o.head.idx (r.haltFor o.head.idx) st r t ∧
        (∀ p ∈ t.hwy.ports, ∀ w ∈ p.wrQ, w.owner ≠ .zero o.id ∧ ∀ k e, w.owner ≠ .dst o.id k e) ∧
        (o.posted = false → Ended o.id st (o.resultFor st 0) t) ∧ (o.posted = true → t.op? o.id = some o)) ∧
    (∀ id k e r, x.owner = .dst id (some k) e → s.op? id = none → tget k s.rings = some r → r.state = .running →
      (s.inst r.owner).state ≠ .resetting → (s.inst r.owner).state ≠ .destroying →
      RingStopped k e (r.haltFor e) st r t) ∧
    (∀ i l m, x.owner ∈ ([.victim i, .nodeWb l m, .tomb i, .reauth] : List Owner) →
      t = haltPort n 4 st 0 (modPort n (fun p => { p with wrQ := x :: p.wrQ }) s)) := by
  have hfabric : fabricStatus st = true := by rcases hst with rfl | rfl <;> rfl
  dsimp only
  refine ⟨fun q hown => ?_, fun i k hown hflight => ?_, fun i hown => ?_, fun k r hown hr hrun hserved => ?_,
    fun o r hown hop hr hrun => ?_, fun o r hown hcur hr hrun hengines hran => ?_,
    fun id k e r hown hop hr hrun hreset hdestroy => ?_, fun i l m hown => ?_⟩
  · rcases hown with hown | hown <;> (rw [writeFailed, hown]; exact queueFailed_queue q s)
  · rw [writeFailed, hown]
    exact evFail_sets hflight
  · rw [writeFailed, hown]
    exact irqFailed_signals i s
  · rw [writeFailed, hown]
    dsimp only
    rw [hr]
    dsimp only
    rw [hrun, hserved, if_pos (by decide)]
    exact stopConsumed_stopped hr hrun
  · rw [writeFailed, hown]
    exact complFailed_stops hop hr hrun
  · rw [writeFailed, hown]
    dsimp only
    rw [hcur.1]
    dsimp only
    rw [hcur.2.2.1, if_neg Bool.false_ne_true, hengines, if_neg Bool.false_ne_true]
    exact failWrite_stops hcur hfabric hr hrun hran
  · rw [writeFailed, hown]
    dsimp only
    rw [hop]
    dsimp only
    have hlate : lateWriteFailed k e st s = stopAt k e (r.haltFor e) st true s := by
      rw [lateWriteFailed, hr]
      dsimp only
      rw [if_neg (by simp [hreset, hdestroy]), stopRing_of hr]
    rw [hlate]
    exact stopAt_stopped hr hrun
  · rw [writeFailed]
    have howner : x.owner = .victim i ∨ x.owner = .nodeWb l m ∨ x.owner = .tomb i ∨ x.owner = .reauth := by simpa using hown
    rcases howner with h | h | h | h <;> rw [h]

/-- Settles O25: a timeout quarantines the request and fails it, and what fails is decided by the owner of the request. -/
theorem timeoutsQuarantine : Obligations.TimeoutsQuarantine := by
  unfold Obligations.TimeoutsQuarantine
  refine ⟨fun s n id hinv hn => ?_, readFailed_clauses, writeFailed_clauses⟩
  have hports : n < s.hwy.ports.length := by rw [hinv.1]; exact hn
  exact ⟨fun r hr => ⟨quarRead n id s, readTimeout_quarantines hports hr⟩,
    fun w hw => ⟨quarWrite n id s, writeTimeout_quarantines hports hw⟩⟩

end Sys2Proof.Machine
end

section
/-!
PROOFS. What goes on at a boundary (R225) beside the change that waits for it (O34): counters, charges, records, stops, completions and
ends leave the rounds, the rates, the states and commands of the instances, and no operation becomes new, young or returned
(`Runs`).
-/

namespace Sys2Proof.Machine

open Sys2Proof

/-! ### What stays -/

/-- An instance but for its counters, its deficit, its event queue, its doorbell status and its sampling. -/
def Inst.pace (x : Inst) : Inst :=
  { x with deficit := 0, eq := EventQ.cold, db := ⟨0, false, false, false, false, false⟩, counters := [], samp := Samp.cold }

/-- The round, the CORE cycles, the ratio of the Rooms in force and the next one, and whether an image runs. -/
def State.beat (s : State) : Nat × Nat × Bool × Bool × Bool :=
  (s.sched.round, s.core, s.rooms.ratioNow, s.rooms.ratio, s.fw.imageRuns)

/-- An operation that another has become: of the same instance, and neither young again nor returned. -/
structure Follows (x y : Op) : Prop where
  id : y.id = x.id
  inst : y.inst = x.inst
  old : x.old = true → y.old = true
  returned : y.returned = true → x.returned = true

theorem Follows.refl (x : Op) : Follows x x := ⟨rfl, rfl, fun h => h, fun h => h⟩

theorem Follows.trans {x y z : Op} (h : Follows x y) (k : Follows y z) : Follows x z :=
  ⟨k.id.trans h.id, k.inst.trans h.inst, fun hx => k.old (h.old hx), fun hz => h.returned (k.returned hz)⟩

/-- From `s` to `t` operations have gone on or gone, and nothing of a boundary has happened. -/
structure Runs (s t : State) : Prop where
  beat : t.beat = s.beat
  pace : ∀ j, (t.inst j).pace = (s.inst j).pace
  ops : ∀ y ∈ t.ops, ∃ x ∈ s.ops, Follows x y

section
variable {s t u : State}

theorem Runs.refl (s : State) : Runs s s := ⟨rfl, fun _ => rfl, fun y hy => ⟨y, hy, .refl y⟩⟩

theorem Runs.trans (h : Runs s t) (k : Runs t u) : Runs s u where
  beat := k.beat.trans h.beat
  pace j := (k.pace j).trans (h.pace j)
  ops z hz := by
    obtain ⟨y, hy, hyz⟩ := k.ops z hz
    obtain ⟨x, hx, hxy⟩ := h.ops y hy
    exact ⟨x, hx, hxy.trans hyz⟩

theorem Runs.foldl {α : Type} {f : State → α → State} (h : ∀ s x, Runs s (f s x)) (l : List α) (s : State) :
    Runs s (l.foldl f s) := by
  induction l generalizing s with
  | nil => exact .refl s
  | cons a l ih => exact (h s a).trans (ih _)

theorem Runs.same (hbeat : t.beat = s.beat) (hinsts : t.insts = s.insts) (hops : t.ops = s.ops) : Runs s t :=
  ⟨hbeat, fun j => by rw [State.inst, hinsts, State.inst], fun y hy => ⟨y, hops ▸ hy, .refl y⟩⟩

/-- What comes after changes other tables. -/
theorem Runs.then (h : Runs s t) (hbeat : u.beat = t.beat) (hinsts : u.insts = t.insts) (hops : u.ops = t.ops) : Runs s u :=
  h.trans (.same hbeat hinsts hops)

/-- What came before changed other tables. -/
theorem Runs.after (k : Runs t u) (hbeat : t.beat = s.beat) (hinsts : t.insts = s.insts) (hops : t.ops = s.ops) : Runs s u :=
  (Runs.same hbeat hinsts hops).trans k

/-- Operations are changed one by one. -/
theorem Runs.map {f : Op → Op} (hbeat : t.beat = s.beat) (hinsts : t.insts = s.insts) (hops : t.ops = s.ops.map f)
    (hf : ∀ o, Follows o (f o)) : Runs s t := by
  refine ⟨hbeat, fun j => by rw [State.inst, hinsts, State.inst], fun y hy => ?_⟩
  rw [hops] at hy
  obtain ⟨x, hx, rfl⟩ := List.mem_map.1 hy
  exact ⟨x, hx, hf x⟩

/-- Operations go. -/
theorem Runs.sub (hbeat : t.beat = s.beat) (hpace : ∀ j, (t.inst j).pace = (s.inst j).pace) (hops : t.ops ⊆ s.ops) : Runs s t :=
  ⟨hbeat, hpace, fun y hy => ⟨y, hops hy, .refl y⟩⟩

theorem pace_of_parts {x y : Inst} (hbody : x.body = y.body) (hcq : x.cq = y.cq) : x.pace = y.pace := by
  have h := congrArg Inst.pace hbody
  cases x; cases y
  simp only [Inst.body, Inst.pace, Inst.mk.injEq] at h hcq ⊢
  simp_all

/-- Hallway requests. -/
theorem OnlyBeats.runs (h : OnlyBeats s t) : Runs s t := by
  obtain ⟨hstill, htables, hbody, hcq, -⟩ := h
  refine ⟨?_, fun j => pace_of_parts (hbody j) (hcq j), fun y hy => ⟨y, ?_, .refl y⟩⟩
  · have hsched : t.sched = s.sched := (congrArg Still.sched hstill :)
    have hcore : t.core = s.core := (congrArg Still.core hstill :)
    have hrooms : { t.rooms with linger := [] } = { s.rooms with linger := [] } := (congrArg Still.rooms hstill :)
    have hnow : t.rooms.ratioNow = s.rooms.ratioNow := (congrArg Rooms.ratioNow hrooms :)
    have hratio : t.rooms.ratio = s.rooms.ratio := (congrArg Rooms.ratio hrooms :)
    have hfw : t.fw = s.fw := (congrArg Still.fw hstill :)
    simp only [State.beat, hsched, hcore, hnow, hratio, hfw]
  · have hops : t.ops = s.ops := (congrArg Tables.ops htables :)
    rwa [← hops]

end

theorem runs_modInst {f : Inst → Inst} (hf : ∀ x, (f x).pace = x.pace) (i : Nat) (s : State) : Runs s (modInst i f s) := by
  refine ⟨rfl, fun j => ?_, fun y hy => ⟨y, hy, .refl y⟩⟩
  rw [inst_modInst]
  split
  · next h => rw [hf, h]
  · rfl

theorem runs_modEq (i : Nat) (f : EventQ → EventQ) (s : State) : Runs s (modEq i f s) := runs_modInst (by exact fun _ => rfl) i s

theorem runs_modOp {f : Op → Op} (hf : ∀ o, Follows o (f o)) (id : Nat) (s : State) : Runs s (modOp id f s) := by
  refine .map rfl rfl rfl fun o => ?_
  split
  · exact hf o
  · exact .refl o

/-- A change of an operation that touches neither its number nor its instance, generation or return. -/
theorem runs_modOp_kept {f : Op → Op} (hf : ∀ o, (f o).id = o.id ∧ (f o).inst = o.inst ∧ (f o).old = o.old ∧
    (f o).returned = o.returned) (id : Nat) (s : State) : Runs s (modOp id f s) :=
  runs_modOp (fun o => ⟨(hf o).1, (hf o).2.1, fun h => (hf o).2.2.1.trans h, fun h => (hf o).2.2.2.symm.trans h⟩) id s

theorem runs_modRing (n : Nat) (f : Ring → Ring) (s : State) : Runs s (modRing n f s) := by
  unfold modRing
  split
  · exact .refl s
  · exact .same rfl rfl rfl

theorem runs_dropReads (f : Owner → Bool) (s : State) : Runs s (dropReads f s) := .same rfl rfl rfl

theorem runs_orphanReads (f : Owner → Bool) (s : State) : Runs s (orphanReads f s) := .same rfl rfl rfl

theorem runs_readReq (n addr len tag : Nat) (o : Owner) (off : Nat) (s : State) : Runs s (readReq n addr len tag o off s) :=
  (onlyBeats_readReq ..).runs

theorem runs_writeReq (n addr : Nat) (data : List Byte) (tag : Nat) (o : Owner) (s : State) :
    Runs s (writeReq n addr data tag o s) := (onlyBeats_writeReq ..).runs

/-! ### Counters and charges -/

theorem runs_addCounter (i n amt : Nat) (s : State) : Runs s (addCounter i n amt s) := by
  have hset : ∀ v : Nat, Runs s (modInst i (fun x => { x with counters := modAt (fun c => { c with value := v }) n x.counters }) s) :=
    fun _ => runs_modInst (by exact fun _ => rfl) i s
  unfold addCounter
  dsimp only
  split
  · exact .refl s
  · split
    · split
      · exact (hset _).then rfl rfl rfl
      · exact hset _
    · exact .refl s

theorem runs_countWith (g : Word → Bool) (i ev amt : Nat) (t : EvTag) (s : State) : Runs s (countWith g i ev amt t s) := by
  refine .foldl (fun s n => ?_) _ s
  split
  · exact .refl s
  · split
    · exact runs_addCounter ..
    · exact .refl s

theorem runs_countIn (i ev amt : Nat) (t : EvTag) (s : State) : Runs s (countIn i ev amt t s) := runs_countWith ..

theorem runs_count (ev amt : Nat) (t : EvTag) (s : State) : Runs s (count ev amt t s) := by
  unfold count
  refine Runs.trans ?_ (runs_countIn ..)
  split
  · exact .refl s
  · exact runs_countIn ..

theorem runs_countOp (ev amt : Nat) (o : Op) (s : State) : Runs s (countOp ev amt o s) := by
  unfold countOp
  split
  · exact runs_countIn ..
  · exact runs_count ..

theorem runs_fixedCount (i n amt : Nat) (s : State) : Runs s (fixedCount i n amt s) := by
  unfold fixedCount
  split
  · exact .refl s
  · exact runs_addCounter ..

theorem runs_fixedOp (n amt : Nat) (o : Op) (s : State) : Runs s (fixedOp n amt o s) := by
  unfold fixedOp
  split
  · exact .refl s
  · exact runs_fixedCount ..

theorem runs_chargeInst (i units : Nat) (s : State) : Runs s (chargeInst i units s) :=
  (runs_modInst (by exact fun _ => rfl) i s).trans (runs_fixedCount ..)

theorem runs_refundInst (i units : Nat) (s : State) : Runs s (refundInst i units s) := by
  have hdeficit := runs_modInst (f := fun x => { x with deficit := x.deficit + (units * 256 : Nat) }) (by exact fun _ => rfl) i s
  unfold refundInst
  dsimp only
  split
  · exact hdeficit
  · exact hdeficit.trans (runs_modInst (by exact fun _ => rfl) ..)

theorem runs_chargeTo (o : Op) (cost : Nat) (s : State) : Runs s (chargeTo o cost s) := by
  unfold chargeTo
  refine Runs.trans ?_ (runs_modOp_kept (by exact fun _ => ⟨rfl, rfl, rfl, rfl⟩) ..)
  split
  · exact runs_chargeInst ..
  · exact runs_refundInst ..

/-! ### Records -/

theorem runs_irqCheck (i : Nat) (s : State) : Runs s (irqCheck i s) := by
  unfold irqCheck
  dsimp only
  split
  · exact (runs_modEq ..).trans (runs_writeReq ..)
  · exact .refl s

theorem runs_setPend (i typ ring : Nat) (s : State) : Runs s (setPend i typ ring s) := by
  unfold setPend
  split
  · exact runs_modRing ..
  · exact runs_modEq ..

theorem runs_evWrite (i typ status ring index aux : Nat) (s : State) : Runs s (evWrite i typ status ring index aux s) := by
  unfold evWrite
  dsimp only
  split
  · exact runs_setPend ..
  · split
    · exact ((runs_modEq ..).trans (runs_setPend ..)).trans (runs_irqCheck ..)
    · exact (runs_modEq ..).trans (runs_writeReq ..)

theorem runs_ringErrorRecord (n : Nat) (s : State) : Runs s (ringErrorRecord n s) := by
  unfold ringErrorRecord
  split
  · exact .refl s
  · exact (runs_modRing ..).trans (runs_evWrite ..)

theorem runs_writeIndex (n : Nat) (s : State) : Runs s (writeIndex n s) := by
  unfold writeIndex
  split
  · exact .refl s
  · exact runs_writeReq ..

/-! ### Releases and stops -/

theorem runs_keepRecord (o : Op) (s : State) : Runs s (keepRecord o s) := by
  unfold keepRecord
  split
  · split
    · exact .same rfl rfl rfl
    · exact .refl s
  · exact .refl s

theorem runs_releaseOp (id : Nat) (s : State) : Runs s (releaseOp id s) := by
  have hgone : ∀ u : State, Runs s u → Runs s { u with
      ops := u.ops.filter (fun o => o.id != id),
      hearth := { u.hearth with queue := u.hearth.queue.filter (fun q => q.2 != id) },
      scu := { u.scu with partQ := u.scu.partQ.filter (fun q => q != id) } } := fun u h =>
    h.trans (.sub rfl (fun _ => rfl) (List.filter_subset_self _))
  unfold releaseOp
  refine hgone _ ?_
  split
  · next o _ =>
    have hskip : Runs s (o.sample.foldl (fun s (p : Nat × Nat) => skipSample p.1 s) s) :=
      .foldl (fun s (p : Nat × Nat) => runs_modInst (by exact fun _ => rfl) p.1 s) _ s
    dsimp only
    split
    · exact (hskip.trans (runs_keepRecord ..)).trans (runs_orphanReads ..)
    · exact (hskip.trans (runs_keepRecord ..)).trans (runs_dropReads ..)
  · exact .refl s

theorem runs_releaseAll (f : Op → Bool) (s : State) : Runs s (releaseAll f s) := .foldl (fun s (o : Op) => runs_releaseOp o.id s) _ s

theorem runs_dropSpecs (n : Nat) (s : State) : Runs s (dropSpecs n s) := (runs_dropReads ..).after rfl rfl rfl

theorem runs_stopAt (n : Nat) (e h : Idx) (st : Status) (now : Bool) (s : State) : Runs s (stopAt n e h st now s) := by
  by_cases hidle : ∀ r, tget n s.rings = some r → r.state ≠ .running
  · rw [stopAt_idle hidle]
    exact .refl s
  · push Not at hidle
    obtain ⟨r, hr, hrun⟩ := hidle
    rw [stopAt_running hr hrun]
    have hindex : Runs s (writeIndex n (dropSpecs n (releaseAll (releasedAt n h)
        { s with rings := tset n (r.stopped e h st) s.rings }))) :=
      (((runs_releaseAll ..).trans (runs_dropSpecs ..)).trans (runs_writeIndex ..)).after rfl rfl rfl
    dsimp only
    split
    · exact hindex.trans (runs_ringErrorRecord ..)
    · exact hindex

theorem runs_stopRing (n : Nat) (e : Idx) (st : Status) (now : Bool) (s : State) : Runs s (stopRing n e st now s) := by
  unfold stopRing
  split
  · exact .refl s
  · exact runs_stopAt ..

/-! ### Completions and ends -/

theorem runs_postOp (o : Op) (s : State) : Runs s (postOp o s) := by
  unfold postOp
  split
  · exact runs_releaseOp ..
  · exact (runs_modOp_kept (by exact fun _ => ⟨rfl, rfl, rfl, rfl⟩) o.id s).trans (.foldl (fun _ _ => runs_writeReq ..) _ _)

theorem runs_tryPost (n : Nat) (s : State) : Runs s (tryPost n s) := by
  refine .foldl (fun s _ => ?_) _ s
  split
  · exact .refl s
  · split
    · exact runs_postOp ..
    · exact .refl s

theorem runs_zeroWrites (o : Op) (s : State) : Runs s (zeroWrites o s) := .foldl (fun _ _ => runs_writeReq ..) _ s

theorem runs_endWrites (id : Nat) (st : Status) (scrub : Bool) (o : Op) (s : State) : Runs s (endWrites id st scrub o s) := by
  have hzero : ∀ u : State, Runs u (if scrub then zeroWrites o u else u) := fun u => by
    split
    · exact runs_zeroWrites o u
    · exact .refl u
  unfold endWrites
  dsimp only
  generalize hw : ({ s with hearth := _, scu := _ } : State) = w
  have hwrites : Runs s (if scrub then zeroWrites o w else w) := by
    subst hw
    exact (hzero _).after rfl rfl rfl
  split
  · exact hwrites.trans (runs_countOp ..)
  · exact hwrites

theorem runs_endOp (id : Nat) (st : Status) (good : Nat) (s : State) : Runs s (endOp id st good s) := by
  cases h : s.op? id with
  | none => rw [endOp, h]; exact .refl s
  | some o =>
    cases hold : o.old with
    | true =>
      unfold endOp
      rw [h]
      simp only [hold, if_true]
      exact runs_releaseOp ..
    | false =>
      obtain ⟨stops, ents, scrub, -, he⟩ := endOp_eq (st := st) (good := good) h hold
      rw [he]
      dsimp only
      refine Runs.trans ?_ (runs_tryPost ..)
      have hends : Runs s (endWrites id st scrub o (modOp id
          (fun x => x.ended st (o.resultFor st good) ents scrub (st.success && 0 < o.payload))
          (dropReads (fun w => w.op? == some id) s))) :=
        ((runs_dropReads ..).trans (runs_modOp (by exact fun o => ⟨rfl, rfl, fun h => h, fun h => nomatch h⟩) ..)).trans
          (runs_endWrites ..)
      split
      · exact hends.trans (runs_stopRing ..)
      · exact hends

theorem runs_failUndispatched (o : Op) (st : Status) (s : State) : Runs s (failUndispatched o st s) := by
  unfold failUndispatched
  refine Runs.trans ?_ (runs_endOp ..)
  split
  · exact .refl s
  · exact runs_chargeTo ..

end Sys2Proof.Machine
end

section
/-!
PROOFS. What a dispatch (R214, R254) leaves of a boundary (O34): the operations that a resume gives back are dispatched again.
-/

namespace Sys2Proof.Machine

open Sys2Proof

/-! ### Contexts and keys -/

theorem runs_markDirty (s : State) : Runs s (markDirty s) := .same rfl rfl rfl

theorem runs_modCtx (index : Nat) (f : Slot → Slot) (s : State) : Runs s (modCtx index f s) := .same rfl rfl rfl

theorem runs_mapFetches (f : Fetch → Fetch) (s : State) : Runs s (mapFetches f s) := .same rfl rfl rfl

theorem runs_slotLost (index : Nat) (s : State) : Runs s (slotLost index s) := .same rfl rfl rfl

theorem runs_pinKek (o : Op) (ver : Option Nat) (s : State) : Runs s (pinKek o ver s) := by
  unfold pinKek
  split
  · exact runs_modOp_kept (by exact fun _ => ⟨rfl, rfl, rfl, rfl⟩) ..
  · exact .refl s

theorem runs_eccRead (code : Nat) (s : State) : Runs s (eccRead code s).2 := by
  unfold eccRead
  split
  · dsimp only
    split <;> exact .same rfl rfl rfl
  · split
    · split <;> exact .same rfl rfl rfl
    · exact .refl s

theorem runs_readDirectory (s : State) : Runs s (readDirectory s).2 := by
  unfold readDirectory
  dsimp only
  split
  · exact (runs_eccRead 2 s).then rfl rfl rfl
  · exact runs_eccRead 2 s

theorem runs_readKeyStore (s : State) : Runs s (readKeyStore s).2 := by
  unfold readKeyStore
  dsimp only
  split
  · exact (runs_eccRead 8 s).then rfl rfl rfl
  · exact runs_eccRead 8 s

theorem runs_addMiss (index inst : Nat) (probe : Option Nat) (s : State) : Runs s (addMiss index inst probe s) := by
  unfold addMiss
  split
  · exact .refl s
  · exact .same rfl rfl rfl

/-! ### Counts of a dispatch -/

theorem runs_countHit (o : Op) (s : State) : Runs s (countHit o s) := by
  unfold countHit
  split
  · exact .refl s
  · exact runs_countOp ..

theorem runs_countMiss (o : Op) (s : State) : Runs s (countMiss o s) := by
  unfold countMiss
  split
  · exact .refl s
  · exact (runs_countOp ..).trans (runs_fixedOp ..)

theorem runs_sampleIn (b id : Nat) (s : State) : Runs s (sampleIn b id s) := by
  have hcount : ∀ n : Nat, Runs s (modInst b (fun y => { y with samp := { y.samp with dispatches := n } }) s) :=
    fun _ => runs_modInst (by exact fun _ => rfl) b s
  unfold sampleIn
  dsimp only
  split
  · split
    · exact (hcount _).trans (runs_modOp_kept (by exact fun _ => ⟨rfl, rfl, rfl, rfl⟩) ..)
    · exact hcount _
  · exact .refl s

/-- What a dispatch notes in the operations. -/
theorem follows_noted (o x : Op) (seq t : Nat) : Follows x (if x.id == o.id then { x with ran := true, seq := seq, tDisp := t }
    else if x.ring == o.ring && x.phase.parkedOn.isSome && idxBefore x.head.idx o.head.idx then { x with passed := x.passed + 1 }
    else x) := by
  split
  · exact ⟨rfl, rfl, fun h => h, fun h => h⟩
  · split
    · exact ⟨rfl, rfl, fun h => h, fun h => h⟩
    · exact .refl x

theorem runs_noteDispatch (o : Op) (s : State) : Runs s (noteDispatch o s) := by
  have hif : ∀ (c : Bool) (f : State → State), (∀ u, Runs u (f u)) → ∀ u, Runs u (if c then f u else u) := fun c f hf u => by
    split
    · exact hf u
    · exact .refl u
  have hcounted := ((((runs_countOp 2 1 o s).trans (runs_fixedOp 16 1 o _)).trans
    (hif (o.head.d.aead || o.head.d.opcode == 0x10) _ (runs_fixedOp 19 o.payload o) _)).trans
    (hif (o.inst != 0) _ (runs_sampleIn o.inst o.id) _))
  unfold noteDispatch
  dsimp only
  refine Runs.trans (hcounted.trans (Runs.trans ?_ (runs_modRing o.ring _ _)))
    (.map rfl rfl rfl fun x => follows_noted o x _ _)
  exact hif _ _ (runs_sampleIn 0 o.id) _

theorem runs_noteAgain (o : Op) (s : State) : Runs s (noteAgain o s) := by
  unfold noteAgain
  split
  · exact runs_modOp (by exact fun _ => ⟨rfl, rfl, fun h => h, fun h => nomatch h⟩) ..
  · exact runs_noteDispatch ..

theorem runs_ctxRecord (o : Op) (st : Status) (pn : Nat) (s : State) : Runs s (ctxRecord o st pn s) := runs_evWrite ..

theorem runs_assignPn (o : Op) (x : Slot) (s : State) : Runs s (assignPn o x s) := by
  have htell : ∀ (c : Bool) (st : Status) (ev pn : Nat) (u : State),
      Runs u (if c then ctxRecord o st pn (countOp ev 1 o u) else u) := fun c st ev pn u => by
    split
    · exact (runs_countOp ..).trans (runs_ctxRecord ..)
    · exact .refl u
  have htaken := (runs_modCtx x.index (fun z => { z with f104 := x.advance.f104, policy := x.advance.policy, dirty := true }) s).trans
    (runs_markDirty _)
  unfold assignPn
  dsimp only
  exact ((htaken.trans (runs_modOp_kept (by exact fun _ => ⟨rfl, rfl, rfl, rfl⟩) o.id _)).trans (htell _ _ _ _ _)).trans
    (htell _ _ _ _ _)

/-! ### Reads of a dispatch -/

theorem runs_issueSrc (id : Nat) (s : State) : Runs s (issueSrc id s) := by
  have hfold : ∀ (o : Op) (l : List (Nat × Nat)) (p : Nat × State), Runs p.2 (l.foldl (fun (p : Nat × State) x =>
      (p.1 + x.2, readReq (portOf o.ring) x.1 x.2 o.inst (.src id) p.1 p.2)) p).2 := fun o l => by
    induction l with
    | nil => exact fun p => .refl p.2
    | cons x l ih => exact fun p => (runs_readReq (portOf o.ring) x.1 x.2 o.inst (.src id) p.1 p.2).trans (ih (p.1 + x.2, _))
  unfold issueSrc
  split
  · exact .refl s
  · refine Runs.trans ?_ (hfold _ _ _)
    exact runs_modOp_kept (by exact fun _ => ⟨rfl, rfl, rfl, rfl⟩) id s

theorem runs_joinPartQ (id : Nat) (s : State) : Runs s (joinPartQ id s) := by
  unfold joinPartQ
  split
  · exact .refl s
  · dsimp only
    split
    · exact .same rfl rfl rfl
    · exact .refl s

theorem runs_readList (id ent : Nat) (dst : Bool) (s : State) : Runs s (readList id ent dst s) := by
  have hread : ∀ (c : Bool) (p addr len tag : Nat), Runs s (if c then s else readReq p addr len tag (.list id ent dst) 0 s) :=
    fun c p addr len tag => by
      split
      · exact .refl s
      · exact runs_readReq ..
  unfold readList
  split
  · exact .refl s
  · split
    · exact .refl s
    · dsimp only
      split
      · exact hread _ _ _ _ _
      · exact .refl s

theorem runs_readLists (id : Nat) (s : State) : Runs s (readLists id s) := by
  have hone : ∀ (c : Bool) (n : Nat) (dst : Bool) (u : State), Runs u (if c then readList id n dst u else u) :=
    fun c n dst u => by
      split
      · exact runs_readList ..
      · exact .refl u
  unfold readLists
  split
  · exact .refl s
  · refine .foldl (fun s n => ?_) _ s
    split
    · exact (hone _ n false s).trans (hone _ n true _)
    · exact .refl s

theorem runs_startReads (id : Nat) (s : State) : Runs s (startReads id s) := by
  have hread : ∀ (c : Bool) (n addr len tag : Nat) (o : Owner) (u : State),
      Runs u (if c then readReq n addr len tag o 0 u else u) := fun c n addr len tag o u => by
    split
    · exact runs_readReq ..
    · exact .refl u
  have hstart := runs_modOp_kept (f := fun x => { x with
    phase := .run, unit := none, avoid := none, part := 0, done := 0, charged := true, need := 0, buf := [], aad := [], tag := [],
    acc := [], stage := [] }) (by exact fun _ => ⟨rfl, rfl, rfl, rfl⟩) id s
  unfold startReads
  dsimp only
  split
  · exact hstart
  · exact ((((hstart.trans (hread _ _ _ _ _ _ _)).trans (hread _ _ _ _ _ _ _)).trans (runs_readLists id _)).trans
      (runs_issueSrc id _)).trans (runs_joinPartQ id _)

/-! ### The dispatch rows -/

theorem runs_dispatchAead (o : Op) (x : Slot) (s : State) : Runs s (dispatchAead o x s) := by
  unfold dispatchAead
  dsimp only
  split
  · exact (((runs_modOp (by exact fun _ => ⟨rfl, rfl, fun h => h, fun h => nomatch h⟩) o.id s).trans
      (runs_modOp_kept (by exact fun _ => ⟨rfl, rfl, rfl, rfl⟩) o.id _)).trans (runs_countHit ..)).trans
      (runs_failUndispatched ..)
  · split
    · exact .refl s
    · have hroom := (((runs_modOp_kept (f := fun y => { y with ref := some x.index }) (by exact fun _ => ⟨rfl, rfl, rfl, rfl⟩)
        o.id s).trans (runs_countHit o _)).trans (runs_noteAgain o _))
      refine Runs.trans ?_ (runs_startReads ..)
      split
      · exact (hroom.trans (runs_modOp_kept (by exact fun _ => ⟨rfl, rfl, rfl, rfl⟩) o.id _)).trans (runs_assignPn ..)
      · exact (hroom.trans (runs_modOp_kept (by exact fun _ => ⟨rfl, rfl, rfl, rfl⟩) o.id _)).trans
          (runs_modOp_kept (by exact fun _ => ⟨rfl, rfl, rfl, rfl⟩) o.id _)

theorem runs_dispatchDigest (o : Op) (s : State) : Runs s (dispatchDigest o s) :=
  (runs_noteAgain ..).trans (runs_startReads ..)

theorem runs_failCheck (o : Op) (st : Status) (s : State) : Runs s (failCheck o st s) := runs_failUndispatched ..

theorem runs_dispatchInstall (o : Op) (s : State) : Runs s (dispatchInstall o s) := by
  unfold dispatchInstall
  split
  · exact (runs_pinKek ..).trans (runs_failCheck ..)
  · have hstore := (runs_pinKek o (some (field 4 2 o.blob)) s).trans (runs_readKeyStore _)
    dsimp only
    split
    · exact hstore.trans (runs_failCheck ..)
    · split
      · exact hstore.trans (runs_failCheck ..)
      · split
        · exact hstore.trans (runs_failCheck ..)
        · have hdir := hstore.trans (runs_readDirectory _)
          split
          · exact hdir
          · split
            · split
              · exact hdir.trans (runs_failCheck ..)
              · exact hdir.trans (runs_modOp_kept (by exact fun _ => ⟨rfl, rfl, rfl, rfl⟩) o.id _)
            · exact (hdir.trans (runs_modOp_kept (by exact fun _ => ⟨rfl, rfl, rfl, rfl⟩) o.id _)).trans (runs_addMiss ..)

theorem runs_dispatchPk (o : Op) (s : State) : Runs s (dispatchPk o s) := by
  unfold dispatchPk
  split
  · exact (runs_noteDispatch ..).trans (runs_endOp ..)
  · exact ((runs_noteDispatch o s).trans (runs_modOp_kept (f := fun x => { x with phase := .hearth })
      (by exact fun _ => ⟨rfl, rfl, rfl, rfl⟩) o.id _)).then rfl rfl rfl

theorem runs_park (o : Op) (i : Nat) (s : State) : Runs s (park o i s) :=
  ((runs_countMiss ..).trans (runs_modOp_kept (by exact fun _ => ⟨rfl, rfl, rfl, rfl⟩) o.id _)).trans (runs_addMiss ..)

theorem runs_withCtx {k : Slot → State → State} (hk : ∀ x u, Runs u (k x u)) (o : Op) (s : State) : Runs s (withCtx o k s) := by
  have hdir := runs_readDirectory s
  unfold withCtx
  dsimp only
  split
  · exact hdir
  · split
    · split
      · exact (hdir.trans (runs_countMiss ..)).trans (runs_failCheck ..)
      · exact hdir.trans (runs_failCheck ..)
    · exact hdir.trans (runs_park ..)
    · have hslot := hdir.trans (runs_eccRead 1 _)
      split
      · exact (hslot.trans (runs_slotLost ..)).trans (runs_failCheck ..)
      · exact (hslot.trans (runs_modCtx ..)).trans (hk ..)

theorem runs_dispatchRekey (o : Op) (s : State) : Runs s (dispatchRekey o s) := by
  unfold dispatchRekey
  split
  · exact (runs_pinKek ..).trans (runs_failCheck ..)
  · have hstore := (runs_pinKek o (some (field 4 2 o.blob)) s).trans (runs_readKeyStore _)
    dsimp only
    split
    · exact hstore.trans (runs_failCheck ..)
    · refine hstore.trans (runs_withCtx (fun x u => ?_) ..)
      split
      · exact ((runs_modOp_kept (by exact fun _ => ⟨rfl, rfl, rfl, rfl⟩) o.id u).trans (runs_countHit ..)).trans
          (runs_failCheck ..)
      · exact (((((runs_countHit o u).trans (runs_modCtx ..)).trans (runs_markDirty _)).trans
          (runs_modOp_kept (by exact fun _ => ⟨rfl, rfl, rfl, rfl⟩) o.id _)).trans (runs_noteDispatch ..)).trans (runs_endOp ..)

theorem runs_dispatchRetire (o : Op) (s : State) : Runs s (dispatchRetire o s) := by
  unfold dispatchRetire
  refine runs_withCtx (fun x u => ?_) ..
  exact (((((runs_modCtx ..).trans (runs_markDirty _)).trans (runs_mapFetches ..)).trans (runs_countHit ..)).trans
    (runs_noteDispatch ..)).trans (runs_modOp_kept (by exact fun _ => ⟨rfl, rfl, rfl, rfl⟩) o.id _)

/-- A dispatch (R214, R254). -/
theorem runs_dispatchOp (o : Op) (s : State) : Runs s (dispatchOp o s) := by
  unfold dispatchOp
  dsimp only
  split
  · split
    · split
      · exact ((runs_eccRead 1 s).trans (runs_slotLost ..)).trans (runs_failCheck ..)
      · exact (runs_eccRead 1 s).trans (runs_dispatchAead ..)
    · exact runs_withCtx (fun x u => runs_dispatchAead o x u) ..
  · split
    · exact runs_dispatchDigest ..
    · split
      · exact runs_dispatchInstall ..
      · split
        · exact runs_dispatchRekey ..
        · split
          · exact runs_dispatchRetire ..
          · split
            · exact runs_dispatchPk ..
            · exact (runs_noteDispatch ..).trans (runs_endOp ..)

end Sys2Proof.Machine
end

section
/-!
PROOFS. A resume (R478): every returned operation of the port is given back, and the port issues again.
-/

namespace Sys2Proof.Machine

open Sys2Proof

/-! ### The order of the returned operations -/

theorem insertOp_perm (before : Op → Op → Bool) (o : Op) (l : List Op) : (insertOp before o l).Perm (o :: l) := by
  induction l with
  | nil => exact .refl _
  | cons p l ih =>
    unfold insertOp
    split
    · exact .refl _
    · exact (ih.cons p).trans (.swap o p l)

theorem orderOps_perm (before : Op → Op → Bool) (l : List Op) : (orderOps before l).Perm l := by
  induction l with
  | nil => exact .refl _
  | cons o l ih => exact (insertOp_perm before o _).trans (ih.cons o)

/-- Every place among the elements that a test names is the place of one of them. -/
theorem exists_turn {α : Type} (f : α → Bool) (l : List α) {j : Nat} (hj : j < (l.filter f).length) :
    ∃ k x, l[k]? = some x ∧ f x = true ∧ ((l.take k).filter f).length = j := by
  induction l generalizing j with
  | nil => cases hj
  | cons a l ih =>
    cases ha : f a with
    | true =>
      cases j with
      | zero => exact ⟨0, a, rfl, ha, rfl⟩
      | succ j =>
        obtain ⟨k, x, hx, hfx, hk⟩ := ih (j := j) (by simpa [ha] using hj)
        exact ⟨k + 1, x, hx, hfx, by simp [ha, hk]⟩
    | false =>
      obtain ⟨k, x, hx, hfx, hk⟩ := ih (j := j) (by simpa [ha] using hj)
      exact ⟨k + 1, x, hx, hfx, by simp [ha, hk]⟩

theorem mem_returnedOps {n : Nat} {s : State} {o : Op} (ho : o ∈ s.ops) (hport : portOf o.ring = n) (hret : o.returned = true) :
    o ∈ returnedOps n s := by
  unfold returnedOps
  dsimp only
  set turns := orderOps (fun a b => decide (a.seq < b.seq)) (s.ops.filter (fun o => portOf o.ring == n && o.returned)) with hturns
  have hturn : o ∈ turns := (orderOps_perm ..).mem_iff.2 (List.mem_filter.2 ⟨ho, by simp [hport, hret]⟩)
  set own := orderOps (fun a b => idxBefore a.head.idx b.head.idx) (turns.filter fun x => x.ring == o.ring) with hown
  have hperm : own.Perm (turns.filter fun x => x.ring == o.ring) := orderOps_perm ..
  obtain ⟨j, hj⟩ := List.mem_iff_getElem?.1 (hperm.mem_iff.2 (List.mem_filter.2 ⟨hturn, by simp⟩))
  have hlt : j < (turns.filter fun x => x.ring == o.ring).length := by
    rw [← hperm.length_eq]
    exact (List.getElem?_eq_some_iff.1 hj).1
  obtain ⟨k, x, hx, hring, hcount⟩ := exists_turn _ turns hlt
  refine List.mem_filterMap.2 ⟨(x, k), List.mem_zipIdx_iff_getElem?.2 hx, ?_⟩
  have hxring : x.ring = o.ring := by simpa using hring
  simp only [hxring, hcount]
  exact hj

theorem returnedOps_nil {n : Nat} {s : State} (h : ∀ o ∈ s.ops, portOf o.ring = n → o.returned = false) : returnedOps n s = [] := by
  have hnone : s.ops.filter (fun o => portOf o.ring == n && o.returned) = [] := by
    refine List.filter_eq_nil_iff.2 fun o ho => ?_
    intro hc
    obtain ⟨hport, hret⟩ := Bool.and_eq_true_iff.1 hc
    rw [h o ho (by simpa using hport)] at hret
    cases hret
  unfold returnedOps
  rw [hnone]
  rfl

/-! ### The steps of a resume -/

/-- A port issues again (R478). -/
def Port.resumed (p : Port) : Port := { p with halted := false, cause := 0, first := none, hush := p.paused, rdQ := [] }

/-- A returned operation is given back; one of the Hearth waits in its queue. -/
def giveBack (s : State) (o : Op) : State :=
  let s := modOp o.id (fun x => { x with returned := false }) s
  if o.phase == .hearth then s
  else match s.op? o.id with
    | some x => dispatchOp x s
    | none => s

/-- The reads of the port that waited are asked for again, but for those of operations that have gone. -/
def askAgain (n : Nat) (held : List Rd) (s : State) : State :=
  modPort n (fun p => { p with rdQ := p.rdQ ++ held.filter (fun r => match r.owner.op? with
    | some id => (s.op? id).isSome
    | none => true) }) s

theorem resumePort_eq (n : Nat) (s : State) : resumePort n s = writesResume n (pump n (askAgain n (s.port n).rdQ
    ((returnedOps n s).foldl giveBack (issueWrites n (modPort n Port.resumed s))))) := rfl

theorem runs_giveBack (s : State) (o : Op) : Runs s (giveBack s o) := by
  have hback := runs_modOp (f := fun x => { x with returned := false }) (by exact fun _ => ⟨rfl, rfl, fun h => h, fun h => nomatch h⟩)
    o.id s
  unfold giveBack
  dsimp only
  split
  · exact hback
  · split
    · exact hback.trans (runs_dispatchOp ..)
    · exact hback

theorem runs_writesResume (n : Nat) (s : State) : Runs s (writesResume n s) := by
  have hposts : Runs s ((s.rings.map (·.1)).foldl (fun s r => if portOf r == n then tryPost r s else s) s) :=
    .foldl (fun s r => by
      split
      · exact runs_tryPost ..
      · exact .refl s) _ s
  unfold writesResume
  dsimp only
  split
  · exact hposts.trans (.foldl (fun s i => runs_irqCheck i s) _ _)
  · exact hposts

theorem runs_askAgain (n : Nat) (held : List Rd) (s : State) : Runs s (askAgain n held s) := (onlyBeats_modPort ..).runs

theorem runs_resumed (n : Nat) (s : State) : Runs s (issueWrites n (modPort n Port.resumed s)) :=
  ((onlyBeats_modPort ..).trans (onlyBeats_issueWrites ..)).runs

theorem runs_finishResume (n : Nat) (held : List Rd) (s : State) : Runs s (writesResume n (pump n (askAgain n held s))) :=
  ((runs_askAgain n held s).trans (onlyBeats_pump ..).runs).trans (runs_writesResume ..)

theorem runs_resumePort (n : Nat) (s : State) : Runs s (resumePort n s) := by
  rw [resumePort_eq]
  exact ((runs_resumed n s).trans (.foldl runs_giveBack _ _)).trans (runs_finishResume ..)

/-! ### Operations given back -/

/-- No operation with a number is returned. -/
def GivenBack (id : Nat) (s : State) : Prop := ∀ y ∈ s.ops, y.id = id → y.returned = false

theorem Runs.givenBack {s t : State} (h : Runs s t) {id : Nat} (hs : GivenBack id s) : GivenBack id t := by
  intro y hy hid
  obtain ⟨x, hx, hxy⟩ := h.ops y hy
  have hback := hs x hx (hxy.id.symm.trans hid)
  cases hret : y.returned with
  | false => rfl
  | true => rw [hxy.returned hret] at hback; cases hback

theorem givenBack_giveBack (s : State) (o : Op) : GivenBack o.id (giveBack s o) := by
  have hback : GivenBack o.id (modOp o.id (fun x => { x with returned := false }) s) := by
    intro y hy hid
    obtain ⟨x, -, rfl⟩ := List.mem_map.1 hy
    by_cases hc : (x.id == o.id) = true
    · rw [if_pos hc]
    · rw [if_neg hc] at hid
      simp [hid] at hc
  unfold giveBack
  dsimp only
  split
  · exact hback
  · split
    · exact (runs_dispatchOp ..).givenBack hback
    · exact hback

theorem givenBack_foldl {o : Op} {l : List Op} (ho : o ∈ l) (s : State) : GivenBack o.id (l.foldl giveBack s) := by
  induction l generalizing s with
  | nil => cases ho
  | cons a l ih =>
    rcases List.mem_cons.1 ho with rfl | ho
    · exact (Runs.foldl runs_giveBack l _).givenBack (givenBack_giveBack s o)
    · exact ih ho _

/-- A resume gives every operation back that a halt of its port has returned (R248, R478). -/
theorem givenBack_resumePort {n : Nat} {s : State} {o : Op} (ho : o ∈ s.ops) (hport : portOf o.ring = n)
    (hret : o.returned = true) : GivenBack o.id (resumePort n s) := by
  rw [resumePort_eq]
  exact (runs_finishResume ..).givenBack (givenBack_foldl (mem_returnedOps ho hport hret) _)

/-! ### The port -/

theorem grows_writesResume (n : Nat) (s : State) : Grows (fun _ => True) s (writesResume n s) := by
  have hposts : Grows (fun _ => True) s ((s.rings.map (·.1)).foldl (fun s r => if portOf r == n then tryPost r s else s) s) :=
    .foldl (fun s r _ => by
      split
      · exact grows_tryPost (fun _ => trivial) ..
      · exact .refl _ s) s
  unfold writesResume
  dsimp only
  split
  · exact hposts.trans (.foldl (fun s i _ => grows_irqCheck (fun _ _ => trivial) i s) _)
  · exact hposts

/-- A resume with nothing to give back: the port is not halted, and every write that waited is due. -/
theorem resumePort_port {n : Nat} {s : State} (hn : n < s.hwy.ports.length)
    (hnone : ∀ o ∈ s.ops, portOf o.ring = n → o.returned = false) :
    ((resumePort n s).port n).stance = (false, 0, (s.port n).paused, (s.port n).paused) ∧
      ∀ w ∈ (s.port n).wrQ, WriteDue n w.addr w.owner (resumePort n s) := by
  have hgrow : Grows (fun _ => True) (modPort n Port.resumed s) (resumePort n s) := by
    rw [resumePort_eq, returnedOps_nil hnone]
    exact (((grows_issueWrites _ n _).trans (grows_modPort_same (by exact fun _ => ⟨rfl, rfl, rfl⟩) n _)).trans
      (grows_pump _ n _)).trans (grows_writesResume ..)
  have hport : (modPort n Port.resumed s).port n = (s.port n).resumed := by rw [port_modPort n n _ s hn, if_pos rfl]
  refine ⟨?_, fun w hw => hgrow.writeDue ⟨w, ?_, rfl, rfl⟩⟩
  · rw [hgrow.stance, hport]
    rfl
  · rw [hport]
    exact List.mem_append_right _ hw

end Sys2Proof.Machine
end

section
/-!
PROOFS. A command that waits for the boundary is applied and answered there (R65, R88, R478, R575, R654).
-/

namespace Sys2Proof.Machine

open Sys2Proof

/-! ### Replies -/

theorem reply_answered {q : Nat} {s : State} {v : Serving} (st : Status) (d : Nat) (body : List Byte)
    (h : (s.inst q).cq.serving = some v) : Answered q v.pkt st d body (reply q st d body s) := by
  obtain ⟨-, w, hw, hcq⟩ := reply_replied st d body h
  rw [h] at hw
  cases hw
  exact ⟨_, congrArg CmdQ.serving hcq, rfl, rfl⟩

section
variable {q : Nat} {s t : State} (h : SameBut q s t)
include h

theorem SameBut.body (j : Nat) : (t.inst j).body = (s.inst j).body := h.2.2.1 j
theorem SameBut.rings : t.rings = s.rings := (congrArg Tables.rings h.2.1 :)
theorem SameBut.ops : t.ops = s.ops := (congrArg Tables.ops h.2.1 :)
theorem SameBut.txn : t.txn = s.txn := (congrArg Still.txn h.1 :)

end

theorem grows_reply (q : Nat) (st : Status) (d : Nat) (body : List Byte) (s : State) :
    Grows (fun _ => True) s (reply q st d body s) := by
  unfold reply
  split
  · exact .refl _ s
  · exact ((grows_writeReq trivial ..).trans (grows_writeReq trivial ..)).from_hwy rfl

/-! ### Shares -/

theorem applyShare_cq (i w n h q : Nat) (s : State) : ((applyShare i w n h s).inst q).cq = (s.inst q).cq := by
  unfold applyShare
  rw [inst_modInst]
  split
  · next e => rw [e]
  · rfl

/-- The shares of an instance once its SHARE_SET has been applied and a reply made (R88). -/
theorem share_answered {i w n h q : Nat} {s u : State} {v : Serving} (hv : (s.inst q).cq.serving = some v)
    (hinsts : u.insts = (applyShare i w n h s).insts) (hrings : u.rings = s.rings) (hops : u.ops = s.ops)
    (body : List Byte) :
    let t := reply q .ok 0 body u
    (t.inst i).weight = w ∧ (t.inst i).quota = n ∧ (t.inst i).hshare = h ∧ (t.inst i).clamp = true ∧
      Answered q v.pkt .ok 0 body t ∧ t.rings = s.rings ∧ t.ops = s.ops := by
  have hinst : ∀ j, u.inst j = (applyShare i w n h s).inst j := fun j => by rw [State.inst, hinsts, State.inst]
  have hserving : (u.inst q).cq.serving = some v := by rw [hinst, applyShare_cq, hv]
  obtain ⟨hsame, -⟩ := reply_replied .ok 0 body hserving
  have hbody := hsame.body i
  rw [hinst, applyShare, inst_modInst, if_pos rfl] at hbody
  exact ⟨(congrArg Inst.weight hbody :), (congrArg Inst.quota hbody :), (congrArg Inst.hshare hbody :),
    (congrArg Inst.clamp hbody :), reply_answered .ok 0 body hserving, hsame.rings.trans hrings, hsame.ops.trans hops⟩

/-- What a command that waits for the boundary does there (R225). -/
def applied (q : Nat) (w : Wait) (s : State) : State :=
  match w with
  | .share i w n h => reply q .ok 0 [] (applyShare i w n h s)
  | .counter i n en ev f => reply q .ok 0 [] (applyCounter i n en ev f s)
  | .resume n => reply q .ok 0 [] (resumePort n s)
  | .unlock => reply q .ok 0 [] s
  | .commit => applyCommit q s
  | _ => s

section
variable {q : Nat} {s : State} {v : Serving} (hv : (s.inst q).cq.serving = some v)
include hv

theorem applyWait_of {w : Wait} (hw : v.wait = w) : applyWait q s = applied q w s := by
  unfold applyWait
  rw [hv]
  dsimp only
  rw [hw]
  cases w <;> rfl

theorem applyWait_share {i w n h : Nat} (hw : v.wait = .share i w n h) :
    let t := applyWait q s
    (t.inst i).weight = w ∧ (t.inst i).quota = n ∧ (t.inst i).hshare = h ∧ (t.inst i).clamp = true ∧
      Answered q v.pkt .ok 0 [] t ∧ t.rings = s.rings ∧ t.ops = s.ops := by
  rw [applyWait_of hv hw]
  exact share_answered hv rfl rfl rfl []

/-- A committed transaction of one SHARE_SET (R65). -/
theorem applyWait_commit_share {c : Staged} (hw : v.wait = .commit) (hopen : s.txn.opened = true) (hstaged : s.txn.staged = [c])
    (hop : pkOpcode c.pkt = 0x14) :
    let t := applyWait q s
    (t.inst (par 0 2 c.pkt)).weight = par 4 2 c.pkt ∧ (t.inst (par 0 2 c.pkt)).quota = par 8 4 c.pkt ∧
      (t.inst (par 0 2 c.pkt)).hshare = par 2 2 c.pkt ∧ t.txn.opened = false ∧ t.txn.staged = [] ∧
      Answered q v.pkt .ok 0 (commitBody 1 s.tickNow) t ∧ t.rings = s.rings ∧ t.ops = s.ops := by
  have happlied : applyInOrder [c] s = applyShare (par 0 2 c.pkt) (par 4 2 c.pkt) (par 8 4 c.pkt) (par 2 2 c.pkt) s := by
    have hfree : c.blocked s = false := by simp [Staged.blocked, hop]
    unfold applyInOrder
    rw [hfree, if_neg Bool.false_ne_true]
    simp [applyInOrder, applyStaged, hop]
  set u := endTxn 1 false (applyShare (par 0 2 c.pkt) (par 4 2 c.pkt) (par 8 4 c.pkt) (par 2 2 c.pkt) s) with hu
  have hend : u.insts = (applyShare (par 0 2 c.pkt) (par 4 2 c.pkt) (par 8 4 c.pkt) (par 2 2 c.pkt) s).insts ∧
      u.rings = s.rings ∧ u.ops = s.ops ∧ u.txn.opened = false ∧ u.txn.staged = [] := by
    have hopened : (applyShare (par 0 2 c.pkt) (par 4 2 c.pkt) (par 8 4 c.pkt) (par 2 2 c.pkt) s).txn.opened = true := hopen
    rw [hu, endTxn, hopened]
    exact ⟨rfl, rfl, rfl, rfl, rfl⟩
  obtain ⟨hinsts, hrings, hops, hclosed, hempty⟩ := hend
  have hdone : applyWait q s = reply q .ok 0 (commitBody 1 s.tickNow) u := by
    rw [applyWait_of hv hw]
    show applyCommit q s = _
    unfold applyCommit
    rw [hstaged, happlied]
    rfl
  have hserving : (u.inst q).cq.serving = some v := by
    rw [State.inst, hinsts, ← State.inst, applyShare_cq, hv]
  obtain ⟨hsame, -⟩ := reply_replied .ok 0 (commitBody 1 s.tickNow) hserving
  obtain ⟨hweight, hquota, hshare, -, hanswer, hr, ho⟩ := share_answered hv hinsts hrings hops (commitBody 1 s.tickNow)
  rw [hdone]
  exact ⟨hweight, hquota, hshare, by rw [hsame.txn, hclosed], by rw [hsame.txn, hempty], hanswer, hr, ho⟩

theorem applyWait_unlock (hw : v.wait = .unlock) : Replied q .ok 0 [] s (applyWait q s) := by
  rw [applyWait_of hv hw]
  exact reply_replied .ok 0 [] hv

theorem applyWait_resume {n : Nat} (hw : v.wait = .resume n) (hinv : s.Inv) (hn : n < 8) :
    let t := applyWait q s
    (∀ o ∈ s.ops, portOf o.ring = n → o.returned = true → ∀ y, t.op? o.id = some y → y.returned = false) ∧
      ((∀ o ∈ s.ops, portOf o.ring = n → o.returned = false) →
        (t.port n).halted = false ∧ (t.port n).cause = 0 ∧ (t.port n).hush = (s.port n).paused ∧
        Answered q v.pkt .ok 0 [] t ∧ ∀ w ∈ (s.port n).wrQ, WriteDue n w.addr w.owner t) := by
  have hserving : ((resumePort n s).inst q).cq.serving = some v :=
    (congrArg (fun x : Inst => x.cq.serving) ((runs_resumePort n s).pace q) :).trans hv
  obtain ⟨hsame, -⟩ := reply_replied .ok 0 [] hserving
  have hdone : applyWait q s = reply q .ok 0 [] (resumePort n s) := applyWait_of hv hw
  rw [hdone]
  dsimp only
  refine ⟨fun o ho hport hret y hy => ?_, fun hnone => ?_⟩
  · rw [State.op?, hsame.ops] at hy
    exact givenBack_resumePort ho hport hret y (List.mem_of_find?_eq_some hy) (by simpa using List.find?_some hy)
  · obtain ⟨hstance, hdue⟩ := resumePort_port (n := n) (s := s) (by rw [hinv.1]; exact hn) hnone
    have hgrow := grows_reply q .ok 0 [] (resumePort n s)
    have hshown := (hgrow.stance n).trans hstance
    exact ⟨(congrArg Prod.fst hshown :), (congrArg (fun x => x.2.1) hshown :), (congrArg (fun x => x.2.2.1) hshown :),
      reply_answered .ok 0 [] hserving, fun w hw => hgrow.writeDue (hdue w hw)⟩

end

/-! ### Counters -/

/-- The setting of a counter (R651). -/
def Counter.setup (c : Counter) : Counter := { c with value := 0, ovf := false }

/-- The settings of the counters of every instance. -/
def State.setups (s : State) : Nat → List Counter := fun j => (s.inst j).counters.map Counter.setup

theorem setups_modInst {f : Inst → Inst} (hf : ∀ x, (f x).counters.map Counter.setup = x.counters.map Counter.setup) (i : Nat)
    (s : State) : (modInst i f s).setups = s.setups := by
  funext j
  unfold State.setups
  rw [inst_modInst]
  split
  · next h => rw [hf, h]
  · rfl

theorem map_setup_modAt {f : Counter → Counter} (hf : ∀ c, (f c).setup = c.setup) (n : Nat) (l : List Counter) :
    (modAt f n l).map Counter.setup = l.map Counter.setup := by
  refine List.ext_getElem? fun m => ?_
  rw [List.getElem?_map, List.getElem?_map, modAt_getElem?]
  split
  · cases l[m]? with
    | none => rfl
    | some c => exact congrArg some (hf c)
  · rfl

theorem addCounter_setups (i n amt : Nat) (s : State) : (addCounter i n amt s).setups = s.setups := by
  have hset : ∀ v : Nat, (modInst i (fun x => { x with counters := modAt (fun c => { c with value := v }) n x.counters }) s).setups =
      s.setups := fun v => setups_modInst (fun x => map_setup_modAt (by exact fun _ => rfl) n x.counters) i s
  unfold addCounter
  dsimp only
  split
  · rfl
  · split
    · split
      · exact hset _
      · exact hset _
    · rfl

theorem countIn_setups (i ev amt : Nat) (t : EvTag) (s : State) : (countIn i ev amt t s).setups = s.setups := by
  refine foldl_keeps State.setups (fun s n => ?_) _ s
  split
  · rfl
  · split
    · exact addCounter_setups ..
    · rfl

theorem writeReq_setups (n addr : Nat) (data : List Byte) (tag : Nat) (o : Owner) (s : State) :
    (writeReq n addr data tag o s).setups = s.setups := by
  have hissue : ∀ u : State, (issueWrites n u).setups = u.setups := fun u => by
    unfold issueWrites
    dsimp only
    split
    · rfl
    · exact countIn_setups ..
  unfold writeReq pump
  dsimp only
  split
  · exact hissue _
  · rfl

theorem reply_setups (q : Nat) (st : Status) (d : Nat) (body : List Byte) (s : State) : (reply q st d body s).setups = s.setups := by
  unfold reply
  split
  · rfl
  · rw [writeReq_setups, writeReq_setups]
    exact setups_modInst (by exact fun _ => rfl) q s

theorem evWrite_setups (i typ status ring index aux : Nat) (s : State) : (evWrite i typ status ring index aux s).setups = s.setups := by
  have heq : ∀ (f : EventQ → EventQ) (u : State), (modEq i f u).setups = u.setups := fun f u =>
    setups_modInst (by exact fun _ => rfl) i u
  have hpend : ∀ u : State, (setPend i typ ring u).setups = u.setups := fun u => by
    unfold setPend
    split
    · unfold modRing
      split <;> rfl
    · exact heq _ u
  unfold evWrite
  dsimp only
  split
  · exact hpend s
  · split
    · have hirq : ∀ u : State, (irqCheck i u).setups = u.setups := fun u => by
        unfold irqCheck
        dsimp only
        split
        · rw [writeReq_setups, heq]
        · rfl
      rw [hirq, hpend, heq]
    · rw [writeReq_setups, heq]

/-! ### COUNTER_CONFIG -/

/-- A counter once its COUNTER_CONFIG has been applied (R654). -/
def Counter.configured (i n en ev : Nat) (g : Word) (c : Counter) : Counter :=
  let c := if en / 2 % 2 == 1 then { c with value := 0, ovf := false } else c
  let c := { c with ovfRec := en / 4 % 2 == 1 }
  if n < progCounters i then { c with run := en % 2 == 1, event := ev, filter := g } else c

theorem applyCounter_eq (i n en ev : Nat) (g : Word) (s : State) : applyCounter i n en ev g s =
    modInst i (fun x => { x with counters := modAt (Counter.configured i n en ev g) n x.counters }) (takeWrap i n s) := rfl

theorem configured_setup {i n en ev : Nat} {g : Word} {c d : Counter} (h : d.setup = (Counter.configured i n en ev g c).setup) :
    d.ovfRec = (en / 4 % 2 == 1) ∧
      (n < progCounters i → d.run = (en % 2 == 1) ∧ d.event = ev ∧ d.filter = g) ∧
      (progCounters i ≤ n → d.run = c.run ∧ d.event = c.event ∧ d.filter = c.filter) := by
  have hcleared : ∀ z : Bool, (if z then { c with value := 0, ovf := false } else c).setup = c.setup
    | true => rfl
    | false => rfl
  have hconf : (Counter.configured i n en ev g c).setup = if n < progCounters i
      then { c.setup with ovfRec := en / 4 % 2 == 1, run := en % 2 == 1, event := ev, filter := g }
      else { c.setup with ovfRec := en / 4 % 2 == 1 } := by
    rw [← hcleared (en / 2 % 2 == 1)]
    unfold Counter.configured
    dsimp only
    split <;> rfl
  rw [hconf] at h
  by_cases hn : n < progCounters i
  · rw [if_pos hn] at h
    exact ⟨(congrArg Counter.ovfRec h :),
      fun _ => ⟨(congrArg Counter.run h :), (congrArg Counter.event h :), (congrArg Counter.filter h :)⟩,
      fun hle => absurd hn (Nat.not_lt.2 hle)⟩
  · rw [if_neg hn] at h
    exact ⟨(congrArg Counter.ovfRec h :), fun hlt => absurd hlt hn,
      fun _ => ⟨(congrArg Counter.run h :), (congrArg Counter.event h :), (congrArg Counter.filter h :)⟩⟩

theorem configured_value {i n en ev : Nat} {g : Word} {c : Counter} :
    (en / 2 % 2 = 1 → (Counter.configured i n en ev g c).value = 0 ∧ (Counter.configured i n en ev g c).ovf = false) ∧
      (en / 2 % 2 = 0 → (Counter.configured i n en ev g c).value = c.value ∧ (Counter.configured i n en ev g c).ovf = c.ovf) := by
  unfold Counter.configured
  by_cases hn : n < progCounters i
  · exact ⟨fun h => by simp [h, hn], fun h => by simp [h, hn]⟩
  · exact ⟨fun h => by simp [h, hn], fun h => by simp [h, hn]⟩

theorem evWrite_counters {j : Nat} (hj : j ≠ 0) (i typ status ring index aux : Nat) (s : State) :
    ((evWrite i typ status ring index aux s).inst j).counters = (s.inst j).counters := by
  have heq : ∀ (f : EventQ → EventQ) (u : State), ((modEq i f u).inst j).counters = (u.inst j).counters := fun f u => by
    rw [modEq, inst_modInst]
    split
    · next h => rw [h]
    · rfl
  have hpend : ∀ u : State, ((setPend i typ ring u).inst j).counters = (u.inst j).counters := fun u => by
    unfold setPend
    split
    · unfold modRing
      split <;> rfl
    · exact heq _ u
  unfold evWrite
  dsimp only
  split
  · exact hpend s
  · split
    · have hirq : ∀ u : State, ((irqCheck i u).inst j).counters = (u.inst j).counters := fun u => by
        unfold irqCheck
        dsimp only
        split
        · rw [(onlyBeats_writeReq ..).counters hj, heq]
        · rfl
      rw [hirq, hpend, heq]
    · rw [(onlyBeats_writeReq ..).counters hj, heq]

/-- A pending wrap sets OVF, and tells of it where OVF_REC asks for that (R659). -/
theorem takeWrap_counter {i n : Nat} {s : State} {c : Counter} (hc : (s.inst i).counters[n]? = some c) :
    (takeWrap i n s).ops = s.ops ∧ (∀ j, ((takeWrap i n s).inst j).cq = (s.inst j).cq) ∧
      ∃ d, ((takeWrap i n s).inst i).counters[n]? = some d ∧ d.setup = c.setup ∧
        (i ≠ 0 → d.value = c.value ∧ d.ovf = (c.ovf || s.wraps.contains (i, n))) := by
  unfold takeWrap
  cases hwrap : s.wraps.contains (i, n) with
  | false => exact ⟨rfl, fun _ => rfl, c, hc, rfl, fun _ => ⟨rfl, by simp⟩⟩
  | true =>
    simp only [Bool.not_true, Bool.false_eq_true, if_false]
    set u := modInst i (fun x => { x with counters := modAt (fun c => { c with ovf := true }) n x.counters })
      { s with wraps := s.wraps.erase (i, n) } with hu
    have hcq : ∀ j, (u.inst j).cq = (s.inst j).cq := fun j => by
      rw [hu, inst_modInst]
      split
      · next h => rw [h]; rfl
      · rfl
    have hset : (u.inst i).counters[n]? = some { c with ovf := true } := by
      rw [hu, inst_modInst, if_pos rfl]
      dsimp only
      rw [modAt_getElem?, if_pos rfl]
      exact congrArg _ hc
    rw [hset]
    dsimp only
    split
    · refine ⟨(evWrite_tables ..).2, fun j => ?_, ?_⟩
      · exact (congrArg Inst.cq ((runs_evWrite ..).pace j) :).trans (hcq j)
      · have hsetup := congrFun (evWrite_setups i 0x20 0 0 n c.event u) i
        have hat := congrArg (fun l : List Counter => l[n]?) hsetup
        simp only [State.setups, List.getElem?_map, hset, Option.map_some] at hat
        obtain ⟨d, hd, hds⟩ := Option.map_eq_some_iff.1 hat
        refine ⟨d, hd, hds, fun hi => ?_⟩
        rw [evWrite_counters hi, hset] at hd
        cases hd
        exact ⟨rfl, by simp⟩
    · exact ⟨rfl, hcq, _, hset, rfl, fun _ => ⟨rfl, by simp⟩⟩

theorem applyWait_counter {q i n en ev : Nat} {g : Word} {c : Counter} {s : State} {v : Serving}
    (hv : (s.inst q).cq.serving = some v) (hw : v.wait = .counter i n en ev g) (hc : (s.inst i).counters[n]? = some c) :
    let t := applyWait q s
    Answered q v.pkt .ok 0 [] t ∧ t.ops = s.ops ∧
      ∃ d, (t.inst i).counters[n]? = some d ∧ d.ovfRec = (en / 4 % 2 == 1) ∧
        (n < progCounters i → d.run = (en % 2 == 1) ∧ d.event = ev ∧ d.filter = g) ∧
        (progCounters i ≤ n → d.run = c.run ∧ d.event = c.event ∧ d.filter = c.filter) ∧
        (i ≠ 0 → en / 2 % 2 = 1 → d.value = 0 ∧ d.ovf = false) ∧
        (i ≠ 0 → en / 2 % 2 = 0 → d.value = c.value ∧ d.ovf = (c.ovf || s.wraps.contains (i, n))) := by
  obtain ⟨hops, hcq, d, hd, hsetup, hvalue⟩ := takeWrap_counter hc
  set u := applyCounter i n en ev g s with hu
  have hdone : applyWait q s = reply q .ok 0 [] u := applyWait_of hv hw
  have hat : (u.inst i).counters[n]? = some (Counter.configured i n en ev g d) := by
    rw [hu, applyCounter_eq, inst_modInst, if_pos rfl]
    dsimp only
    rw [modAt_getElem?, if_pos rfl, hd]
    rfl
  have hserving : (u.inst q).cq.serving = some v := by
    rw [hu, applyCounter_eq, inst_modInst]
    split
    · next h =>
      subst h
      exact (congrArg CmdQ.serving (hcq q)).trans hv
    · rw [hcq, hv]
  obtain ⟨hsame, -⟩ := reply_replied .ok 0 [] hserving
  obtain ⟨-, -, -, -, hcounters⟩ := hsame
  rw [hdone]
  dsimp only
  refine ⟨reply_answered .ok 0 [] hserving, (reply_replied .ok 0 [] hserving).1.ops.trans hops, ?_⟩
  have hkept := congrArg (fun l : List Counter => l[n]?) (congrFun (reply_setups q .ok 0 [] u) i)
  simp only [State.setups, List.getElem?_map, hat, Option.map_some] at hkept
  obtain ⟨x, hx, hxs⟩ := Option.map_eq_some_iff.1 hkept
  have hrun : d.run = c.run := (congrArg Counter.run hsetup :)
  have hevent : d.event = c.event := (congrArg Counter.event hsetup :)
  have hfilter : d.filter = c.filter := (congrArg Counter.filter hsetup :)
  obtain ⟨hrec, hprog, hfixed⟩ := configured_setup hxs
  rw [hrun, hevent, hfilter] at hfixed
  obtain ⟨hzero, hkeep⟩ := configured_value (i := i) (n := n) (en := en) (ev := ev) (g := g) (c := d)
  have hsame : i ≠ 0 → x = Counter.configured i n en ev g d := fun hi => by
    rw [hcounters i hi, hat] at hx
    exact (Option.some_inj.1 hx).symm
  refine ⟨x, hx, hrec, hprog, hfixed, fun hi h => ?_, fun hi h => ?_⟩
  · rw [hsame hi]
    exact hzero h
  · obtain ⟨hval, hovf⟩ := hvalue hi
    rw [hsame hi, (hkeep h).1, (hkeep h).2, hval, hovf]
    exact ⟨rfl, rfl⟩

end Sys2Proof.Machine
end

section
/-!
PROOFS. Generation steps (R102 to R107) and a committed KEK_SET (R398) at a boundary.
-/

namespace Sys2Proof.Machine

open Sys2Proof

/-! ### Old generations -/

/-- An operation that another has become, with its reference and its packet number, and not younger. -/
structure Ages (x y : Op) : Prop where
  id : y.id = x.id
  inst : y.inst = x.inst
  ref : y.ref = x.ref
  pn : y.pn = x.pn
  old : x.old = true → y.old = true

theorem Ages.refl (x : Op) : Ages x x := ⟨rfl, rfl, rfl, rfl, fun h => h⟩

theorem Ages.trans {x y z : Op} (h : Ages x y) (k : Ages y z) : Ages x z :=
  ⟨k.id.trans h.id, k.inst.trans h.inst, k.ref.trans h.ref, k.pn.trans h.pn, fun hx => k.old (h.old hx)⟩

section
variable {l : List Op} {s : State}

/-- What the operations are after those with some numbers have become old or have been released. -/
structure Aged (ids : List Nat) (s t : State) : Prop where
  from_ : ∀ y ∈ t.ops, ∃ x ∈ s.ops, Ages x y
  old : ∀ y ∈ t.ops, y.id ∈ ids → y.old = true
  kept : ∀ x ∈ s.ops, x.id ∉ ids → x ∈ t.ops

theorem makeOld_aged (o : Op) (s : State) : Aged [o.id] s (makeOld o s) := by
  have hmark : ∀ f : Op → Op, (∀ x, Ages x (f x) ∧ (f x).old = true) →
      Aged [o.id] s { s with ops := s.ops.map (fun x => if x.id == o.id then f x else x) } := fun f hf => by
    refine ⟨fun y hy => ?_, fun y hy hid => ?_, fun x hx hid => ?_⟩
    · obtain ⟨x, hx, rfl⟩ := List.mem_map.1 hy
      refine ⟨x, hx, ?_⟩
      split
      · exact (hf x).1
      · exact .refl x
    · obtain ⟨x, hx, rfl⟩ := List.mem_map.1 hy
      by_cases hc : (x.id == o.id) = true
      · rw [if_pos hc]
        exact (hf x).2
      · rw [if_neg hc] at hid
        exact absurd hid (by simpa using hc)
    · exact List.mem_map.2 ⟨x, hx, if_neg (by simpa using hid)⟩
  unfold makeOld
  dsimp only
  split
  · obtain ⟨hfrom, hold, hkept⟩ := hmark (fun x => { x with old := true, place := none, stage := [], pin := none })
      (by exact fun _ => ⟨⟨rfl, rfl, rfl, rfl, fun _ => rfl⟩, rfl⟩)
    exact ⟨hfrom, hold, hkept⟩
  · obtain ⟨hfrom, hold, hkept⟩ := hmark (fun x => { x with old := true })
      (by exact fun _ => ⟨⟨rfl, rfl, rfl, rfl, fun _ => rfl⟩, rfl⟩)
    generalize hv : modOp o.id (fun x => { x with old := true }) _ = v
    have hops : v.ops = s.ops.map (fun x => if x.id == o.id then { x with old := true } else x) := by rw [← hv]; rfl
    dsimp only at hfrom hold hkept
    rw [← hops] at hfrom hold hkept
    refine ⟨fun y hy => hfrom y (releaseOp_ops_subset o.id v hy), fun y hy => hold y (releaseOp_ops_subset o.id v hy),
      fun x hx hid => ?_⟩
    rw [(releaseOp_tables ..).2]
    exact List.mem_filter.2 ⟨hkept x hx hid, by simpa using hid⟩

theorem foldl_makeOld_aged (l : List Op) (s : State) : Aged (l.map (·.id)) s (l.foldl (fun s o => makeOld o s) s) := by
  induction l generalizing s with
  | nil => exact ⟨fun y hy => ⟨y, hy, .refl y⟩, fun _ _ h => (nomatch h), fun _ hx _ => hx⟩
  | cons o l ih =>
    obtain ⟨hfrom, hold, hkept⟩ := ih (makeOld o s)
    obtain ⟨hfrom1, hold1, hkept1⟩ := makeOld_aged o s
    refine ⟨fun z hz => ?_, fun z hz hid => ?_, fun x hx hid => ?_⟩
    · obtain ⟨y, hy, hyz⟩ := hfrom z hz
      obtain ⟨x, hx, hxy⟩ := hfrom1 y hy
      exact ⟨x, hx, hxy.trans hyz⟩
    · obtain ⟨y, hy, hyz⟩ := hfrom z hz
      rcases List.mem_cons.1 hid with hid | hid
      · exact hyz.old (hold1 y hy (by rw [← hyz.id, hid]; exact List.mem_singleton.2 rfl))
      · exact hold z hz hid
    · rw [List.map_cons, List.mem_cons, not_or] at hid
      exact hkept x (hkept1 x hx (by simpa using hid.1)) hid.2

end

theorem runs_makeOld (o : Op) (s : State) : Runs s (makeOld o s) := by
  have hreads : Runs s (mapEngines (fun e => if e.op == some o.id then { e.stop none with after := none } else e)
      (orphanReads (fun w => w.op? == some o.id) s)) := .same rfl rfl rfl
  unfold makeOld
  dsimp only
  split
  · exact hreads.trans (runs_modOp (by exact fun _ => ⟨rfl, rfl, fun _ => rfl, fun h => h⟩) o.id _)
  · exact (hreads.trans (runs_modOp (by exact fun _ => ⟨rfl, rfl, fun _ => rfl, fun h => h⟩) o.id _)).trans (runs_releaseOp ..)

theorem quietRing_same (n : Nat) (s : State) : (quietRing n s).insts = s.insts ∧ (quietRing n s).ops = s.ops ∧
    (quietRing n s).beat = s.beat ∧ (quietRing n s).build = s.build := by
  unfold quietRing
  have hring : ∀ f : Ring → Ring, (modRing n f s).insts = s.insts ∧ (modRing n f s).ops = s.ops ∧
      (modRing n f s).beat = s.beat ∧ (modRing n f s).build = s.build := fun f => by
    unfold modRing
    split <;> exact ⟨rfl, rfl, rfl, rfl⟩
  exact hring _

/-! ### The generation step -/

/-- The instance after its generation step (R102, R103). -/
def Inst.stepped (guard : Bool) (x : Inst) : Inst :=
  { x with gen := if guard && (x.state == .resetting || x.work) then (x.gen + 1) % 256 else x.gen,
           genStep := false, work := false, stopFetch := true }

/-- The rings of an instance fetch no more. -/
def quietRings (i : Nat) (s : State) : State :=
  ((modInst i (Inst.stepped s.build.guard) s).ringsOf i).foldl (fun s n => quietRing n s) (modInst i (Inst.stepped s.build.guard) s)

theorem generationStep_eq (i : Nat) (s : State) : generationStep i s =
    freeRecords (dropTagged i (((quietRings i s).instOps i).foldl (fun s o => makeOld o s) (quietRings i s))) := rfl

theorem quietRings_same (i : Nat) (s : State) : (quietRings i s).insts = (modInst i (Inst.stepped s.build.guard) s).insts ∧
    (quietRings i s).ops = s.ops ∧ (quietRings i s).beat = s.beat := by
  refine ⟨foldl_keeps State.insts (fun s n => (quietRing_same n s).1) _ _, ?_, ?_⟩
  · exact foldl_keeps State.ops (fun s n => (quietRing_same n s).2.1) _ (modInst i (Inst.stepped s.build.guard) s)
  · exact foldl_keeps State.beat (fun s n => (quietRing_same n s).2.2.1) _ (modInst i (Inst.stepped s.build.guard) s)

theorem runs_generationStep (i : Nat) (s : State) : Runs (quietRings i s) (generationStep i s) := by
  rw [generationStep_eq]
  exact (Runs.foldl (fun s (o : Op) => runs_makeOld o s) _ _).then rfl rfl rfl

/-- Every instance after a generation step. -/
theorem generationStep_pace (i j : Nat) (s : State) : ((generationStep i s).inst j).pace =
    if j = i then ((s.inst i).stepped s.build.guard).pace else (s.inst j).pace := by
  rw [(runs_generationStep i s).pace, State.inst, (quietRings_same i s).1, ← State.inst, inst_modInst]
  split <;> rfl

theorem generationStep_beat (i : Nat) (s : State) : (generationStep i s).beat = s.beat :=
  (runs_generationStep i s).beat.trans (quietRings_same i s).2.2

theorem generationStep_aged (i : Nat) (s : State) : Aged ((s.instOps i).map (·.id)) s (generationStep i s) := by
  obtain ⟨-, hops, -⟩ := quietRings_same i s
  have hlist : (quietRings i s).instOps i = s.instOps i := by rw [State.instOps, hops, State.instOps]
  have haged := foldl_makeOld_aged ((quietRings i s).instOps i) (quietRings i s)
  rw [generationStep_eq]
  rw [hlist] at haged ⊢
  obtain ⟨hfrom, hold, hkept⟩ := haged
  rw [hops] at hfrom hkept
  exact ⟨hfrom, hold, hkept⟩

theorem generationStep_old {i : Nat} {s : State} {y : Op} (hy : y ∈ (generationStep i s).ops) (hi : y.inst = i) :
    y.old = true ∧ ∃ x ∈ s.ops, Ages x y := by
  obtain ⟨hfrom, hold, -⟩ := generationStep_aged i s
  obtain ⟨x, hx, hxy⟩ := hfrom y hy
  have hmem : x ∈ s.instOps i := List.mem_filter.2 ⟨hx, by rw [← hxy.inst, hi]; exact beq_self_eq_true i⟩
  exact ⟨hold y hy (List.mem_map.2 ⟨x, hmem, hxy.id.symm⟩), x, hx, hxy⟩

/-- What a generation step does (R75, R102 to R107). -/
theorem generationStep_steps (s : State) (i : Nat) : let t := generationStep i s
    (t.inst i).gen = (if s.build.guard && ((s.inst i).state == .resetting || (s.inst i).work) then ((s.inst i).gen + 1) % 256
      else (s.inst i).gen) ∧
    (t.inst i).genStep = false ∧ (t.inst i).work = false ∧ (t.inst i).stopFetch = true ∧
    (∀ o ∈ t.ops, o.inst = i → o.old = true ∧ ∃ p ∈ s.ops, p.id = o.id ∧ p.inst = i ∧ p.ref = o.ref ∧ p.pn = o.pn) ∧
    (∀ o ∈ s.ops, (∀ p ∈ s.ops, p.id = o.id → p.inst ≠ i) → o ∈ t.ops) ∧
    (∀ p ∈ t.hwy.ports, ∀ w ∈ p.wrQ, w.tag = i → w.owner.study = true) := by
  have hpace := generationStep_pace i i s
  rw [if_pos rfl] at hpace
  refine ⟨(congrArg Inst.gen hpace :), (congrArg Inst.genStep hpace :), (congrArg Inst.work hpace :),
    (congrArg Inst.stopFetch hpace :), fun o ho hi => ?_, fun o ho hother => ?_, fun p hp w hw htag => ?_⟩
  · obtain ⟨hold, x, hx, hxo⟩ := generationStep_old ho hi
    exact ⟨hold, x, hx, hxo.id.symm, hxo.inst.symm.trans hi, hxo.ref.symm, hxo.pn.symm⟩
  · refine (generationStep_aged i s).kept o ho fun hmem => ?_
    obtain ⟨x, hx, hid⟩ := List.mem_map.1 hmem
    obtain ⟨hxs, hxi⟩ := List.mem_filter.1 hx
    exact hother x hxs hid (by simpa using hxi)
  · rw [generationStep_eq] at hp
    obtain ⟨p', -, rfl⟩ := List.mem_map.1 hp
    have hw' := List.of_mem_filter hw
    simpa [htag] using hw'

/-! ### The key-encryption keys -/

theorem runs_wakeIndex (index : Nat) (s : State) : Runs s (wakeIndex index s) :=
  .map rfl rfl rfl fun o => by
    split
    · exact ⟨rfl, rfl, fun h => h, fun h => h⟩
    · exact .refl o

theorem runs_dropDoorWork (i : Nat) (s : State) : Runs s (dropDoorWork i s) := .same rfl rfl rfl

theorem runs_retireResident (i : Nat) (s : State) : Runs s (retireResident i s) := by
  refine .foldl (fun s p => ?_) _ s
  dsimp only
  split
  · refine Runs.trans ?_ (runs_wakeIndex ..)
    split
    · exact (runs_endOp ..).after rfl rfl rfl
    · exact .same rfl rfl rfl
  · exact .same rfl rfl rfl

theorem runs_seedChanged (i : Nat) (s : State) : Runs s (seedChanged i s) := by
  unfold seedChanged
  refine Runs.trans (Runs.trans ((runs_retireResident i s).trans (runs_dropDoorWork i _)) ?_)
    (.foldl (fun s r => runs_tryPost r s) _ _)
  exact (Runs.foldl (fun s (o : Op) => runs_releaseOp o.id s) _ _).trans (.foldl (fun s n => runs_wakeIndex n s) _ _)

end Sys2Proof.Machine
end

section
/-!
PROOFS. What a command that is applied at the boundary leaves of the instances (R65, R225): no generation step becomes due, none
begins to quiesce, and no command begins to wait for the boundary (`Settles`).
-/

namespace Sys2Proof.Machine

open Sys2Proof

/-! ### Rings that drain -/

theorem runs_dbFlag (page ring : Nat) (f : DbStatus → DbStatus) (s : State) : Runs s (dbFlag page ring f s) :=
  runs_modInst (by exact fun _ => rfl) page s

theorem runs_quietRing (n : Nat) (s : State) : Runs s (quietRing n s) := by
  obtain ⟨hinsts, hops, hbeat, -⟩ := quietRing_same n s
  exact .same hbeat hinsts hops

theorem runs_orphanErrorRecord (n : Nat) (s : State) : Runs s (orphanErrorRecord n s) := by
  unfold orphanErrorRecord
  split
  · exact .refl s
  · split
    · exact runs_ringErrorRecord ..
    · exact .refl s

theorem runs_drainRing (n : Nat) (st : RingState) (s : State) : Runs s (drainRing n st s) := by
  unfold drainRing
  split
  · exact .refl s
  · refine Runs.trans (Runs.trans (Runs.trans (Runs.trans (Runs.trans ?_ (runs_modRing ..)) (runs_quietRing ..))
      (runs_releaseAll ..)) (runs_orphanErrorRecord ..)) (runs_tryPost ..)
    split
    · exact runs_dbFlag ..
    · exact .refl s

theorem runs_settleRing (n : Nat) (s : State) : Runs s (settleRing n s) := by
  have hrestart : ∀ u : State, Runs u (match tget n u.rings with
      | some r => evWrite r.owner 3 0 n r.consumed.toNat r.stops (writeIndex n u)
      | none => u) := fun u => by
    split
    · exact (runs_writeIndex ..).trans (runs_evWrite ..)
    · exact .refl u
  unfold settleRing
  split
  · exact .refl s
  · split
    · exact .refl s
    · dsimp only
      split
      · exact (runs_modRing ..).trans (hrestart _)
      · exact (runs_modRing ..).trans (hrestart _)
      · exact .same rfl rfl rfl
      · exact .refl s

theorem runs_applyCounter (i n en ev : Nat) (g : Word) (s : State) : Runs s (applyCounter i n en ev g s) := by
  rw [applyCounter_eq]
  refine Runs.trans ?_ (runs_modInst (by exact fun _ => rfl) ..)
  have hset : Runs s (modInst i (fun x => { x with counters := modAt (fun c => { c with ovf := true }) n x.counters })
      { s with wraps := s.wraps.erase (i, n) }) := (runs_modInst (by exact fun _ => rfl) ..).after rfl rfl rfl
  unfold takeWrap
  split
  · exact .refl s
  · dsimp only
    split
    · split
      · exact hset.trans (runs_evWrite ..)
      · exact hset
    · exact hset

/-! ### Instances at the boundary -/

/-- An instance that another has become, with no step, no quiesce and no wait for the boundary that the other had not. -/
structure Settled (x y : Inst) : Prop where
  step : y.genStep = true → x.genStep = true
  quiet : y.state = .quiescing → x.state = .quiescing ∧ (x.stopFetch = true → y.stopFetch = true)
  waits : ∀ v, y.cq.serving = some v → v.wait.atBoundary = true → x.cq.serving = some v

theorem Settled.refl (x : Inst) : Settled x x := ⟨fun h => h, fun h => ⟨h, fun h => h⟩, fun _ h _ => h⟩

theorem Settled.trans {x y z : Inst} (h : Settled x y) (k : Settled y z) : Settled x z where
  step hz := h.step (k.step hz)
  quiet hz := by
    obtain ⟨hy, hyz⟩ := k.quiet hz
    obtain ⟨hx, hxy⟩ := h.quiet hy
    exact ⟨hx, fun hs => hyz (hxy hs)⟩
  waits v hz hw := h.waits v (k.waits v hz hw) hw

theorem Settled.of_pace {x y : Inst} (h : y.pace = x.pace) : Settled x y := by
  have hstep : y.genStep = x.genStep := (congrArg Inst.genStep h :)
  have hstate : y.state = x.state := (congrArg Inst.state h :)
  have hstop : y.stopFetch = x.stopFetch := (congrArg Inst.stopFetch h :)
  have hcq : y.cq = x.cq := (congrArg Inst.cq h :)
  exact ⟨fun hy => hstep.symm.trans hy, fun hy => ⟨hstate.symm.trans hy, fun hx => hstop.trans hx⟩, fun v hv _ => by rw [← hcq, hv]⟩

/-- From `s` to `t` the beat has stayed and every instance has settled. -/
structure Settles (s t : State) : Prop where
  beat : t.beat = s.beat
  inst : ∀ j, Settled (s.inst j) (t.inst j)

section
variable {s t u : State}

theorem Settles.refl (s : State) : Settles s s := ⟨rfl, fun _ => .refl _⟩

theorem Settles.trans (h : Settles s t) (k : Settles t u) : Settles s u :=
  ⟨k.beat.trans h.beat, fun j => (h.inst j).trans (k.inst j)⟩

theorem Runs.settles (h : Runs s t) : Settles s t := ⟨h.beat, fun j => .of_pace (h.pace j)⟩

end

theorem settles_modInst {f : Inst → Inst} (hf : ∀ x, Settled x (f x)) (i : Nat) (s : State) : Settles s (modInst i f s) := by
  refine ⟨rfl, fun j => ?_⟩
  rw [inst_modInst]
  split
  · next h => rw [h]; exact hf _
  · exact .refl _

theorem settles_same {s t : State} (hbeat : t.beat = s.beat) (hinsts : t.insts = s.insts) : Settles s t :=
  ⟨hbeat, fun j => .of_pace (by rw [State.inst, hinsts, State.inst])⟩

theorem SameBut.beat {q : Nat} {s t : State} (h : SameBut q s t) : t.beat = s.beat := by
  obtain ⟨hstill, -⟩ := h
  have hsched : t.sched = s.sched := (congrArg Still.sched hstill :)
  have hcore : t.core = s.core := (congrArg Still.core hstill :)
  have hrooms : { t.rooms with linger := [] } = { s.rooms with linger := [] } := (congrArg Still.rooms hstill :)
  have hnow : t.rooms.ratioNow = s.rooms.ratioNow := (congrArg Rooms.ratioNow hrooms :)
  have hratio : t.rooms.ratio = s.rooms.ratio := (congrArg Rooms.ratio hrooms :)
  have hfw : t.fw = s.fw := (congrArg Still.fw hstill :)
  simp only [State.beat, hsched, hcore, hnow, hratio, hfw]

theorem settled_of_body {x y : Inst} (hbody : y.body = x.body)
    (hwaits : ∀ v, y.cq.serving = some v → v.wait.atBoundary = true → x.cq.serving = some v) : Settled x y := by
  have hstep : y.genStep = x.genStep := (congrArg Inst.genStep hbody :)
  have hstate : y.state = x.state := (congrArg Inst.state hbody :)
  have hstop : y.stopFetch = x.stopFetch := (congrArg Inst.stopFetch hbody :)
  exact ⟨fun hy => hstep.symm.trans hy, fun hy => ⟨hstate.symm.trans hy, fun hx => hstop.trans hx⟩, hwaits⟩

/-- A packet in service whose reply has begun waits for nothing. -/
def Unwaiting (q : Nat) (s : State) : Prop := ∀ v, (s.inst q).cq.serving = some v → v.wait.atBoundary = false

theorem reply_settles (q : Nat) (st : Status) (d : Nat) (body : List Byte) (s : State) :
    Settles s (reply q st d body s) ∧ Unwaiting q (reply q st d body s) := by
  cases hv : (s.inst q).cq.serving with
  | none =>
    have hsame : reply q st d body s = s := by rw [reply, hv]
    rw [hsame]
    exact ⟨.refl s, fun v h => by rw [hv] at h; cases h⟩
  | some v =>
    obtain ⟨hsame, w, -, hcq⟩ := reply_replied st d body hv
    have hfree : Unwaiting q (reply q st d body s) := fun x hx => by
      rw [hcq] at hx
      cases hx
      rfl
    refine ⟨⟨hsame.beat, fun j => settled_of_body (hsame.body j) fun x hx hw => ?_⟩, hfree⟩
    by_cases hj : j = q
    · subst hj
      rw [hfree x hx] at hw
      cases hw
    · rw [← hsame.2.2.2.1 j hj]
      exact hx

/-! ### Commands of a transaction -/

theorem settles_coldPage (i : Nat) (s : State) : Settles s (coldPage i s) := by
  have hcold : ∀ u : State, u.beat = s.beat → u.insts = s.insts → Settles s (modInst i (fun x => { x with
      cq := CmdQ.cold, eq := EventQ.cold, db := ⟨0, false, false, false, false, false⟩, ringSel := 0,
      counters := Counter.guest, samp := Samp.cold }) u) := fun u hbeat hinsts =>
    (settles_same hbeat hinsts).trans (settles_modInst (by
      exact fun _ => ⟨fun h => h, fun h => ⟨h, fun h => h⟩, fun _ h => (nomatch h)⟩) i u)
  exact hcold _ rfl rfl

theorem settles_dropRings (i : Nat) (s : State) : Settles s (dropRings i s) := by
  have hquiet : Settles s ((s.ringsOf i).foldl (fun s n => quietRing n s) s) :=
    (Runs.foldl (fun s n => runs_quietRing n s) _ s).settles
  exact hquiet.trans (settles_same rfl rfl)

theorem settles_endDestroy (i : Nat) (s : State) : Settles s (endDestroy i s) := by
  have hpage := (settles_dropRings i s).trans (settles_coldPage i _)
  have hkek : ∀ u v : State, Settles s u → v.beat = u.beat → v.insts = u.insts →
      Settles s (dropDoorWork i (retireResident i (modInst i (fun x => { x with kek := Kek.none }) v))) :=
    fun u v h hbeat hinsts => ((h.trans (settles_same hbeat hinsts)).trans
      (settles_modInst (by exact fun _ => ⟨fun h => h, fun h => ⟨h, fun h => h⟩, fun _ h _ => h⟩) i v)).trans
        ((runs_retireResident i _).trans (runs_dropDoorWork i _)).settles
  exact hkek _ _ hpage rfl rfl

theorem settles_settleDestroy (i : Nat) (s : State) : Settles s (settleDestroy i s) := by
  unfold settleDestroy
  split
  · dsimp only
    split
    · exact (settles_endDestroy i s).trans (settles_modInst (by
        exact fun _ => ⟨(nomatch ·), (nomatch ·), fun _ h => (nomatch h)⟩) ..)
    · exact settles_endDestroy i s
  · exact .refl s

/-- An instance that begins to be destroyed, its packet read discarded (R101). -/
def Inst.doomed (work : Bool) (x : Inst) : Inst :=
  { x with state := .destroying, was := x.state, genStep := true, work := work, cq := { x.cq with rdOut := false } }

/-- INST_DESTROY at a boundary: the instance begins to be destroyed, and its generation step is done at once. -/
theorem settles_destroy (i : Nat) (work : Bool) (s : State) : Settles s (generationStep i (abandonQuiesce i (dropPacketRead i
    (modInst i (fun x => { x with state := .destroying, was := x.state, genStep := true, work := work }) s)))) := by
  set u := abandonQuiesce i (dropPacketRead i
    (modInst i (fun x => { x with state := .destroying, was := x.state, genStep := true, work := work }) s)) with hu
  have hinst : ∀ j, u.inst j = if j = i then (s.inst i).doomed work else s.inst j := fun j => by
    have hstart : u.inst j = (modCq i (fun c => { c with rdOut := false }) (modInst i (fun x => { x with
        state := .destroying, was := x.state, genStep := true, work := work }) s)).inst j := rfl
    rw [hstart, modCq, inst_modInst, inst_modInst, inst_modInst]
    split
    · rw [if_pos rfl]
      rfl
    · rfl
  have hbeat : u.beat = s.beat := rfl
  refine ⟨(generationStep_beat i u).trans hbeat, fun j => ?_⟩
  have hpace := generationStep_pace i j u
  rw [hinst j, hinst i, if_pos rfl] at hpace
  by_cases hj : j = i
  · subst hj
    rw [if_pos rfl] at hpace
    have hstep : ((generationStep j u).inst j).genStep = false := (congrArg Inst.genStep hpace :)
    have hstate : ((generationStep j u).inst j).state = .destroying := (congrArg Inst.state hpace :)
    have hserving : ((generationStep j u).inst j).cq.serving = (s.inst j).cq.serving :=
      (congrArg (fun x : Inst => x.cq.serving) hpace :)
    exact ⟨fun h => absurd h (by rw [hstep]; decide), fun h => absurd h (by rw [hstate]; decide),
      fun v hv _ => by rw [← hserving, hv]⟩
  · rw [if_neg hj, if_neg hj] at hpace
    exact .of_pace hpace

theorem settles_applyStaged (c : Staged) (s : State) : Settles s (applyStaged c s) := by
  unfold applyStaged
  dsimp only
  split
  · exact (settles_modInst (by exact fun _ => ⟨(nomatch ·), (nomatch ·), fun _ h => (nomatch h)⟩) ..).trans
      (settles_coldPage ..)
  · split
    · exact (settles_destroy ..).trans (settles_settleDestroy ..)
    · split
      · exact settles_modInst (by exact fun _ => ⟨fun h => h, fun h => ⟨h, fun h => h⟩, fun _ h _ => h⟩) ..
      · split
        · exact settles_same rfl rfl
        · split
          · exact ((runs_drainRing ..).trans (runs_settleRing ..)).settles
          · split
            · exact (runs_applyCounter ..).settles
            · exact .refl s

theorem settles_applyInOrder (l : List Staged) (s : State) : Settles s (applyInOrder l s) := by
  induction l generalizing s with
  | nil => exact .refl s
  | cons c l ih =>
    unfold applyInOrder
    split
    · exact settles_same rfl rfl
    · exact (settles_applyStaged c s).trans (ih _)

/-! ### The commands that wait -/

theorem settles_endTxn (code : Nat) (s : State) : Settles s (endTxn code false s) := by
  unfold endTxn
  split
  · exact .refl s
  · exact settles_same rfl rfl

/-- A command that is applied at the boundary settles its queue (R65, R225). -/
theorem applied_settles (q : Nat) (w : Wait) (hw : w.atBoundary = true) (s : State) :
    Settles s (applied q w s) ∧ Unwaiting q (applied q w s) := by
  have hreply : ∀ (u : State) (body : List Byte), Settles s u → Settles s (reply q .ok 0 body u) ∧
      Unwaiting q (reply q .ok 0 body u) := fun u body h =>
    ⟨h.trans (reply_settles q .ok 0 body u).1, (reply_settles q .ok 0 body u).2⟩
  cases w with
  | share i w n h =>
    exact hreply _ _ (settles_modInst (by exact fun _ => ⟨fun h => h, fun h => ⟨h, fun h => h⟩, fun _ h _ => h⟩) i s)
  | counter i n en ev f => exact hreply _ _ (runs_applyCounter ..).settles
  | resume n => exact hreply _ _ (runs_resumePort ..).settles
  | unlock => exact hreply _ _ (.refl s)
  | commit => exact hreply _ _ ((settles_applyInOrder s.txn.staged s).trans (settles_endTxn 1 _))
  | _ => cases hw

theorem applied_idle (q : Nat) {w : Wait} (hw : w.atBoundary = false) (s : State) : applied q w s = s := by
  cases w with
  | share _ _ _ _ => cases hw
  | counter _ _ _ _ _ => cases hw
  | resume _ => cases hw
  | unlock => cases hw
  | commit => cases hw
  | _ => rfl

theorem applyWait_settles (q : Nat) (s : State) : Settles s (applyWait q s) ∧ Unwaiting q (applyWait q s) := by
  cases hv : (s.inst q).cq.serving with
  | none =>
    have hsame : applyWait q s = s := by rw [applyWait, hv]
    rw [hsame]
    exact ⟨.refl s, fun v h => by rw [hv] at h; cases h⟩
  | some v =>
    rw [applyWait_of hv rfl]
    cases hw : v.wait.atBoundary with
    | true => exact applied_settles q v.wait hw s
    | false =>
      rw [applied_idle q hw]
      exact ⟨.refl s, fun x h => by rw [hv] at h; cases h; exact hw⟩

/-- A queue whose packet does not wait for the boundary is left alone. -/
theorem applyWait_idle {q : Nat} {s : State} (h : Unwaiting q s) : applyWait q s = s := by
  cases hv : (s.inst q).cq.serving with
  | none => rw [applyWait, hv]
  | some v => rw [applyWait_of hv rfl, applied_idle q (h v hv)]

theorem Settles.unwaiting {s t : State} (h : Settles s t) {q : Nat} (hs : Unwaiting q s) : Unwaiting q t := fun v hv => by
  cases hw : v.wait.atBoundary with
  | false => rfl
  | true => rw [hs v ((h.inst q).waits v hv hw)] at hw; cases hw

theorem settles_foldl_applyWait (l : List Nat) (s : State) : Settles s (l.foldl (fun s q => applyWait q s) s) := by
  induction l generalizing s with
  | nil => exact .refl s
  | cons q l ih => exact (applyWait_settles q s).1.trans (ih _)

theorem unwaiting_foldl_applyWait {l : List Nat} {q : Nat} (hq : q ∈ l) (s : State) :
    Unwaiting q (l.foldl (fun s q => applyWait q s) s) := by
  induction l generalizing s with
  | nil => cases hq
  | cons k l ih =>
    rcases List.mem_cons.1 hq with rfl | hq
    · exact (settles_foldl_applyWait l _).unwaiting (applyWait_settles q s).2
    · exact ih hq _

theorem foldl_applyWait_idle {s : State} (h : ∀ q, Unwaiting q s) (l : List Nat) : l.foldl (fun s q => applyWait q s) s = s := by
  induction l with
  | nil => rfl
  | cons q l ih => rw [List.foldl_cons, applyWait_idle (h q), ih]

/-- Where one queue alone waits, it alone is applied. -/
theorem foldl_applyWait_one {s : State} {q : Nat} (h : ∀ k, k ≠ q → Unwaiting k s) {l : List Nat} (hq : q ∈ l) :
    l.foldl (fun s q => applyWait q s) s = applyWait q s := by
  induction l with
  | nil => cases hq
  | cons k l ih =>
    rw [List.foldl_cons]
    by_cases hk : k = q
    · subst hk
      refine foldl_applyWait_idle (fun j => ?_) l
      by_cases hj : j = k
      · subst hj
        exact (applyWait_settles j s).2
      · exact (applyWait_settles k s).1.unwaiting (h j hj)
    · rw [applyWait_idle (h k hk)]
      exact ih ((List.mem_cons.1 hq).resolve_left (Ne.symm hk))

end Sys2Proof.Machine
end

section
/-!
PROOFS. The steps of a round boundary (R224, R225): the count, the steps of the instances, the quanta and the snapshot.
-/

namespace Sys2Proof.Machine

open Sys2Proof

/-! ### The count -/

/-- A state but for what a boundary counts and draws: counters, CORE cycles, the dummy blocks and their CTR_DRBGs. -/
def State.unrung (s : State) : State :=
  { s with insts := [], wraps := [], core := 0, rooms := { s.rooms with ratioNow := false, alcoves := [] },
           keys := { s.keys with drbgs := [] }, freeCtr := 0 }

theorem unrung_of_aside {s t : State} (haside : t.aside = s.aside) (hhwy : t.hwy = s.hwy) : t.unrung = s.unrung := by
  have h := congrArg State.unrung haside
  have hback : ∀ u : State, u.unrung = { u.aside.unrung with hwy := u.hwy } := fun _ => rfl
  rw [hback t, hback s, h, hhwy]

theorem generate_unrung (u n : Nat) (addin : List Byte) (pr : Bool) (s : State) :
    (generate u n addin pr s).2.unrung = s.unrung ∧ (generate u n addin pr s).2.insts = s.insts ∧
      (generate u n addin pr s).2.core = s.core ∧ (generate u n addin pr s).2.rooms = s.rooms := by
  have hset : ∀ (d : Drbg) (v : State), (setDrbg u d v).unrung = v.unrung ∧ (setDrbg u d v).insts = v.insts ∧
      (setDrbg u d v).core = v.core ∧ (setDrbg u d v).rooms = v.rooms := fun _ _ => ⟨rfl, rfl, rfl, rfl⟩
  have hseed : (reseedDrbg u addin s).unrung = s.unrung ∧ (reseedDrbg u addin s).insts = s.insts ∧
      (reseedDrbg u addin s).core = s.core ∧ (reseedDrbg u addin s).rooms = s.rooms := hset _ s
  unfold generate
  split
  · exact ⟨rfl, rfl, rfl, rfl⟩
  · dsimp only
    split
    · generalize reseedDrbg u addin s = v at hseed ⊢
      obtain ⟨hunrung, hinsts, hcore, hrooms⟩ := hseed
      obtain ⟨hunrung', hinsts', hcore', hrooms'⟩ := hset _ v
      exact ⟨hunrung'.trans hunrung, hinsts'.trans hinsts, hcore'.trans hcore, hrooms'.trans hrooms⟩
    · exact hset _ s

/-- What issuing dummy blocks leaves. -/
structure Dummied (s t : State) : Prop where
  unrung : t.unrung = s.unrung
  insts : t.insts = s.insts
  core : t.core = s.core

theorem Dummied.refl (s : State) : Dummied s s := ⟨rfl, rfl, rfl⟩

theorem Dummied.trans {s t u : State} (h : Dummied s t) (k : Dummied t u) : Dummied s u :=
  ⟨k.unrung.trans h.unrung, k.insts.trans h.insts, k.core.trans h.core⟩

theorem dummied_alcoves {s t : State} (h : Dummied s t) (f : List Alcove → List Alcove) :
    Dummied s { t with rooms := { t.rooms with alcoves := f t.rooms.alcoves } } :=
  h.trans ⟨rfl, rfl, rfl⟩

theorem dummied_generate (u n : Nat) (addin : List Byte) (pr : Bool) (s : State) : Dummied s (generate u n addin pr s).2 := by
  obtain ⟨hunrung, hinsts, hcore, -⟩ := generate_unrung u n addin pr s
  exact ⟨hunrung, hinsts, hcore⟩

theorem dummied_issueDummy (n a : Nat) (s : State) : Dummied s (issueDummy n a s) := by
  have hrotate : ∀ u : State, Dummied u (rotateLanes a n u) := fun u => by
    unfold rotateLanes
    split
    · exact .refl u
    · exact dummied_alcoves (dummied_generate ..) _
  unfold issueDummy
  split
  · exact .refl s
  · exact (dummied_alcoves (dummied_generate ..) _).trans (hrotate _)

theorem dummied_foldl (n : Nat) (l : List Nat) (s : State) : Dummied s (l.foldl (fun s a => issueDummy n a s) s) := by
  induction l generalizing s with
  | nil => exact .refl s
  | cons a l ih => exact (dummied_issueDummy n a s).trans (ih _)

theorem addCounter_core (i n amt : Nat) (s : State) : (addCounter i n amt s).core = s.core :=
  (congrArg State.core (addCounter_aside i n amt s) :)

theorem countIn_core (i ev amt : Nat) (t : EvTag) (s : State) : (countIn i ev amt t s).core = s.core :=
  (congrArg State.core (countIn_aside i ev amt t s) :)

/-- Events of a boundary are counted, and nothing else changes. -/
structure Counts (s t : State) : Prop where
  aside : t.aside = s.aside
  hwy : t.hwy = s.hwy
  runs : Runs s t

theorem Counts.refl (s : State) : Counts s s := ⟨rfl, rfl, .refl s⟩

theorem Counts.trans {s t u : State} (h : Counts s t) (k : Counts t u) : Counts s u :=
  ⟨k.aside.trans h.aside, k.hwy.trans h.hwy, h.runs.trans k.runs⟩

theorem Counts.foldl {α : Type} {f : State → α → State} (h : ∀ s x, Counts s (f s x)) (l : List α) (s : State) :
    Counts s (l.foldl f s) := by
  induction l generalizing s with
  | nil => exact .refl s
  | cons a l ih => exact (h s a).trans (ih _)

theorem counts_addCounter (i n amt : Nat) (s : State) : Counts s (addCounter i n amt s) :=
  ⟨addCounter_aside .., addCounter_hwy .., runs_addCounter ..⟩

theorem counts_countParked (s : State) : Counts s (countParked s) := by
  refine .foldl (fun s p => .foldl (fun s n => ?_) _ s) _ s
  split
  · split
    · exact counts_addCounter ..
    · exact .refl s
  · exact .refl s

theorem counts_countOps (l : List Op) (s : State) : Counts s (l.foldl (fun s o => countOp 0xA 512 o s) s) :=
  .foldl (fun _ _ => ⟨countOp_aside .., countOp_hwy .., runs_countOp ..⟩) l s

theorem counts_countIn (i ev amt : Nat) (t : EvTag) (s : State) : Counts s (countIn i ev amt t s) :=
  ⟨countIn_aside .., countIn_hwy .., runs_countIn ..⟩

theorem injectDummies_unarmed {s : State} (h : s.diag.armed = []) : injectDummies s = s := by
  have hnot : ∀ p f, s.injected p f = false := fun p f => by simp [State.injected, State.armed?, h]
  unfold injectDummies
  split
  · rfl
  · have hstep : ∀ a, (if unitServes s false a && s.injected 9 (fun x => bits x 2 0 == 3) then
        unitMismatch false a true [] (fireAt 9 s) else s) = s := fun a => by rw [hnot, Bool.and_false]; rfl
    generalize List.range s.rooms.alcoves.length = l
    induction l with
    | nil => rfl
    | cons a l ih => rw [List.foldl_cons, hstep, ih]

section
variable {s t : State} (h : t.unrung = s.unrung)
include h

theorem diag_of_unrung : t.diag = s.diag := (congrArg State.diag h :)
theorem rings_of_unrung : t.rings = s.rings := (congrArg State.rings h :)
theorem ops_of_unrung : t.ops = s.ops := (congrArg State.ops h :)
theorem txn_of_unrung : t.txn = s.txn := (congrArg State.txn h :)
theorem cel_of_unrung : t.cel = s.cel := (congrArg State.cel h :)
theorem pwr_of_unrung : t.pwr = s.pwr := (congrArg State.pwr h :)
theorem fw_of_unrung : t.fw = s.fw := (congrArg State.fw h :)
theorem sched_of_unrung : t.sched = s.sched := (congrArg State.sched h :)
theorem hwy_of_unrung : t.hwy = s.hwy := (congrArg State.hwy h :)
theorem ratio_of_unrung : t.rooms.ratio = s.rooms.ratio := (congrArg (fun s : State => s.rooms.ratio) h :)
theorem kekPending_of_unrung : t.keys.kekPending = s.keys.kekPending := (congrArg (fun s : State => s.keys.kekPending) h :)

theorem keys_of_unrung : { t.keys with drbgs := s.keys.drbgs } = s.keys :=
  (congrArg (fun u : State => { u.keys with drbgs := s.keys.drbgs }) h :)

end

theorem rooms_of_aside {s t : State} (h : t.aside = s.aside) : t.rooms = s.rooms := (congrArg State.rooms h :)

theorem unrung_core (c : Nat) (s : State) : ({ s with core := c } : State).unrung = s.unrung := rfl

/-- What the count of a boundary leaves, and what it changes (R224). -/
theorem countRound_counts {s : State} (h : s.diag.armed = []) : (countRound s).unrung = s.unrung ∧
    (∀ j, ((countRound s).inst j).pace = (s.inst j).pace) ∧ (countRound s).core = (s.core + 512) % 2 ^ 64 ∧
    (countRound s).rooms.ratioNow = s.rooms.ratio := by
  have hround : countRound s = injectDummies (issueDummies (countParked ((addCounter 0 71 512
      { s with core := (s.core + 512) % 2 ^ 64 }).ops.foldl (fun s o => countOp 0xA 512 o s)
      (addCounter 0 71 512 { s with core := (s.core + 512) % 2 ^ 64 })))) := rfl
  rw [hround]
  clear hround
  generalize (s.core + 512) % 2 ^ 64 = c
  set u := countParked ((addCounter 0 71 512 { s with core := c }).ops.foldl (fun s o => countOp 0xA 512 o s)
    (addCounter 0 71 512 { s with core := c })) with hu
  have hcounts : Counts { s with core := c } u :=
    ((counts_addCounter ..).trans (counts_countOps ..)).trans (counts_countParked _)
  set w := (List.range u.rooms.alcoves.length).foldl (fun s a => issueDummy (dummiesPerRound u) a s) u with hw
  have hdummied : Dummied u w := dummied_foldl ..
  set x : State := { w with rooms := { w.rooms with ratioNow := w.rooms.ratio } } with hx
  set live := (u.rooms.alcoves.filter (fun a => a.svc == 0)).length with hlive
  have hissued : issueDummies u = countIn 0 0x30 (dummiesPerRound u * live) ⟨0, none, none, none, none⟩ x := rfl
  have hlast := counts_countIn 0 0x30 (dummiesPerRound u * live) ⟨0, none, none, none, none⟩ x
  have hunrung : (issueDummies u).unrung = s.unrung := by
    rw [hissued, unrung_of_aside hlast.aside hlast.hwy]
    have hstart : u.unrung = s.unrung := (unrung_of_aside hcounts.aside hcounts.hwy).trans (unrung_core c s)
    exact (hdummied.unrung : w.unrung = u.unrung).trans hstart
  have harmed : (issueDummies u).diag.armed = [] := by rw [diag_of_unrung hunrung, h]
  have hroomsU : u.rooms = s.rooms := by rw [rooms_of_aside hcounts.aside]
  have hratio : w.rooms.ratio = u.rooms.ratio := ratio_of_unrung hdummied.unrung
  rw [injectDummies_unarmed harmed]
  refine ⟨hunrung, fun j => ?_, ?_, ?_⟩
  · rw [hissued, hlast.runs.pace]
    have hinst : x.inst j = u.inst j := by rw [State.inst, show x.insts = u.insts from hdummied.insts, State.inst]
    rw [hinst, hcounts.runs.pace]
    rfl
  · rw [hissued, countIn_core]
    exact hdummied.core.trans (congrArg State.core hcounts.aside :)
  · rw [hissued, rooms_of_aside hlast.aside]
    exact hratio.trans (by rw [hroomsU])

/-! ### The steps of the instances -/

/-- An instance at a boundary: its generation step is done if it is due, and it fetches no more while it quiesces (R93, R102). -/
def Inst.atBoundary (guard : Bool) (x : Inst) : Inst :=
  if x.genStep then x.stepped guard else if x.state == .quiescing then { x with stopFetch := true } else x

theorem atBoundary_idem (guard : Bool) (x : Inst) : (x.atBoundary guard).atBoundary guard = x.atBoundary guard := by
  unfold Inst.atBoundary
  cases hstep : x.genStep with
  | true => simp [Inst.stepped]
  | false => by_cases hstate : x.state = .quiescing <;> simp [hstep, hstate]

theorem atBoundary_settles (guard : Bool) (x : Inst) : (x.atBoundary guard).genStep = false ∧
    ((x.atBoundary guard).state = .quiescing → (x.atBoundary guard).stopFetch = true) ∧ (x.atBoundary guard).cq = x.cq ∧
    (x.atBoundary guard).kek = x.kek := by
  unfold Inst.atBoundary
  cases hstep : x.genStep with
  | true => exact ⟨rfl, fun _ => rfl, rfl, rfl⟩
  | false => by_cases hstate : x.state = .quiescing <;> simp [hstep, hstate]

theorem atBoundary_pace {guard : Bool} {x y : Inst} (h : x.pace = y.pace) : (x.atBoundary guard).pace = (y.atBoundary guard).pace := by
  have hpace : ∀ z : Inst, (z.atBoundary guard).pace = (z.pace.atBoundary guard).pace := fun z => by
    have hstep : z.pace.genStep = z.genStep := rfl
    have hstate : z.pace.state = z.state := rfl
    unfold Inst.atBoundary
    rw [hstep, hstate]
    split
    · rfl
    · split <;> rfl
  rw [hpace x, hpace y, h]

/-- The step of one instance. -/
def instStep (s : State) (i : Nat) : State :=
  let x := s.inst i
  if x.genStep then generationStep i s
  else if x.state == .quiescing then modInst i (fun x => { x with stopFetch := true }) s
  else s

theorem instanceSteps_eq (s : State) : instanceSteps s = (s.insts.map (·.1)).foldl instStep s := rfl

theorem instStep_build (s : State) (i : Nat) : (instStep s i).build = s.build := by
  unfold instStep
  dsimp only
  split
  · exact build_of_shape (generationStep_shape i s)
  · split <;> rfl

theorem instStep_beat (s : State) (i : Nat) : (instStep s i).beat = s.beat := by
  unfold instStep
  dsimp only
  split
  · exact generationStep_beat i s
  · split <;> rfl

theorem instStep_pace (s : State) (i j : Nat) : ((instStep s i).inst j).pace =
    if j = i then ((s.inst i).atBoundary s.build.guard).pace else (s.inst j).pace := by
  unfold instStep Inst.atBoundary
  dsimp only
  split
  · exact generationStep_pace i j s
  · split
    · rw [inst_modInst]
      split <;> rfl
    · split
      · next h => rw [h]
      · rfl

theorem instStep_ops (s : State) (i : Nat) : ∀ y ∈ (instStep s i).ops, ∃ x ∈ s.ops, Ages x y := by
  unfold instStep
  dsimp only
  split
  · exact (generationStep_aged i s).from_
  · split <;> exact fun y hy => ⟨y, hy, .refl y⟩

theorem foldl_instStep_pace (l : List Nat) (s : State) (j : Nat) : ((l.foldl instStep s).inst j).pace =
    if j ∈ l then ((s.inst j).atBoundary s.build.guard).pace else (s.inst j).pace := by
  induction l generalizing s with
  | nil => rfl
  | cons i l ih =>
    rw [List.foldl_cons, ih, instStep_build]
    have hstep := instStep_pace s i j
    by_cases hi : j = i
    · subst hi
      rw [if_pos rfl] at hstep
      rw [atBoundary_pace hstep, atBoundary_idem, hstep]
      simp
    · rw [if_neg hi] at hstep
      rw [atBoundary_pace hstep, hstep]
      simp [hi]

theorem inst_absent_of_not_mem {s : State} {j : Nat} (h : j ∉ s.insts.map (·.1)) : s.inst j = Inst.absent := by
  have hnone : tget j s.insts = none := by
    generalize s.insts = l at h
    induction l with
    | nil => rfl
    | cons p l ih =>
      rw [List.map_cons, List.mem_cons, not_or] at h
      unfold tget
      rw [if_neg (by simpa using Ne.symm h.1)]
      exact ih h.2
  rw [State.inst, hnone]
  rfl

/-- Every instance after the steps of the boundary (R93, R102). -/
theorem instanceSteps_pace (s : State) (j : Nat) : ((instanceSteps s).inst j).pace = ((s.inst j).atBoundary s.build.guard).pace := by
  rw [instanceSteps_eq, foldl_instStep_pace]
  split
  · rfl
  · next h => rw [inst_absent_of_not_mem h]; rfl

theorem instanceSteps_beat (s : State) : (instanceSteps s).beat = s.beat := foldl_keeps State.beat instStep_beat _ _

theorem foldl_instStep_ops (l : List Nat) (s : State) : ∀ y ∈ (l.foldl instStep s).ops, ∃ x ∈ s.ops, Ages x y := by
  induction l generalizing s with
  | nil => exact fun y hy => ⟨y, hy, .refl y⟩
  | cons i l ih =>
    intro z hz
    obtain ⟨y, hy, hyz⟩ := ih _ z hz
    obtain ⟨x, hx, hxy⟩ := instStep_ops s i y hy
    exact ⟨x, hx, hxy.trans hyz⟩

/-- Every operation of an instance whose generation step was due is of the old generation (R102, R105). -/
theorem foldl_instStep_old {i : Nat} {l : List Nat} (hi : i ∈ l) {s : State} (hstep : (s.inst i).genStep = true) :
    ∀ y ∈ (l.foldl instStep s).ops, y.inst = i → y.old = true := by
  induction l generalizing s with
  | nil => cases hi
  | cons k l ih =>
    intro z hz hzi
    by_cases hk : i = k
    · subst hk
      obtain ⟨y, hy, hyz⟩ := foldl_instStep_ops l (instStep s i) z hz
      have hdone : instStep s i = generationStep i s := by unfold instStep; exact if_pos hstep
      rw [hdone] at hy
      exact hyz.old (generationStep_old hy (hyz.inst.symm.trans hzi)).1
    · refine ih ((List.mem_cons.1 hi).resolve_left hk) ?_ z hz hzi
      have hpace := instStep_pace s k i
      rw [if_neg hk] at hpace
      exact (congrArg Inst.genStep hpace :).trans hstep

/-- Where no generation step is due, the steps of the instances change nothing but instances. -/
theorem instanceSteps_still {s : State} (h : ∀ j, (s.inst j).genStep = false) :
    ∃ l, instanceSteps s = { s with insts := l } := by
  rw [instanceSteps_eq]
  generalize s.insts.map (·.1) = keys
  induction keys generalizing s with
  | nil => exact ⟨s.insts, rfl⟩
  | cons i keys ih =>
    have hstep : ∃ l, instStep s i = { s with insts := l } := by
      unfold instStep
      dsimp only
      rw [h i, if_neg Bool.false_ne_true]
      split
      · exact ⟨_, rfl⟩
      · exact ⟨s.insts, rfl⟩
    obtain ⟨l, hl⟩ := hstep
    have hnext : ∀ j, ((instStep s i).inst j).genStep = false := fun j => by
      have hpace := instStep_pace s i j
      by_cases hj : j = i
      · rw [if_pos hj] at hpace
        exact (congrArg Inst.genStep hpace :).trans (atBoundary_settles ..).1
      · rw [if_neg hj] at hpace
        exact (congrArg Inst.genStep hpace :).trans (h j)
    obtain ⟨l', hl'⟩ := ih hnext
    exact ⟨l', by rw [List.foldl_cons, hl', hl]⟩

end Sys2Proof.Machine
end

section
/-!
PROOFS. The end of a round boundary (R88, R89, R231, R409), and the course of a boundary through its steps.
-/

namespace Sys2Proof.Machine

open Sys2Proof

/-! ### Tables -/

theorem tget_mapped {α β : Type} (f : Nat → α → β) (k : Nat) (l : List (Nat × α)) :
    tget k (l.map fun p => (p.1, f p.1 p.2)) = (tget k l).map (f k) := by
  induction l with
  | nil => rfl
  | cons p l ih =>
    rw [List.map_cons, tget, tget]
    split
    · next h =>
      have hk : p.1 = k := by simpa using h
      rw [hk]
      rfl
    · exact ih

theorem mem_of_tget {α : Type} {k : Nat} {x : α} {l : List (Nat × α)} (h : tget k l = some x) : (k, x) ∈ l := by
  induction l with
  | nil => cases h
  | cons p l ih =>
    unfold tget at h
    split at h
    · next hk =>
      cases h
      have hp : p.1 = k := by simpa using hk
      exact hp ▸ List.mem_cons_self
    · exact List.mem_cons_of_mem _ (ih h)

/-- An instance is in the table, or absent. -/
theorem inst_cases (s : State) (j : Nat) : (j, s.inst j) ∈ s.insts ∨ s.inst j = Inst.absent := by
  cases h : tget j s.insts with
  | none => exact .inr (by rw [State.inst, h]; rfl)
  | some x => exact .inl (by rw [State.inst, h]; exact mem_of_tget h)

/-! ### The quanta -/

/-- The quantum of an instance (R231). -/
def quantumOf (s : State) (i : Nat) (x : Inst) : Nat :=
  let tot := s.insts.foldl (fun a p => a + effWeight s p.1 p.2) 0
  let w := effWeight s i x
  if w == 0 then 0 else max 1 ((w * 8192 * 256 + tot - 1) / tot)

/-- An instance with its new quanta, its deficits clamped to them if that is due (R89, R231, R411). -/
def Inst.closed (q h : Nat) (x : Inst) : Inst :=
  if x.clamp then { x with quantum := q, hquantum := h, deficit := min x.deficit q, hdeficit := min x.hdeficit h, clamp := false }
  else { x with quantum := q, hquantum := h }

/-- The end of a boundary (R224, R231, R409). -/
def closeRound (s : State) : State := markRound (setGrants (clampShares (setHeaQuanta (setQuanta s))))

/-- The Hearth quantum of an instance (R409). -/
def heaQuantumOf (s : State) (i : Nat) : Nat :=
  heaQuantum (heaShares (setQuanta s)) ((heaShares (setQuanta s)).foldl (fun a p => a + p.2) 0) i

theorem closeRound_insts (s : State) :
    (closeRound s).insts = s.insts.map (fun p => (p.1, p.2.closed (quantumOf s p.1 p.2) (heaQuantumOf s p.1))) := by
  have hquanta : (setQuanta s).insts = s.insts.map (fun p => (p.1, { p.2 with quantum := quantumOf s p.1 p.2 })) := rfl
  have hheart : (setHeaQuanta (setQuanta s)).insts =
      (setQuanta s).insts.map (fun p => (p.1, { p.2 with hquantum := heaQuantumOf s p.1 })) := rfl
  have hclamp : (closeRound s).insts = (setHeaQuanta (setQuanta s)).insts.map (fun p => (p.1, if p.2.clamp then
      { p.2 with deficit := min p.2.deficit p.2.quantum, hdeficit := min p.2.hdeficit p.2.hquantum, clamp := false }
      else p.2)) := rfl
  rw [hclamp, hheart, hquanta, List.map_map, List.map_map]
  exact List.map_congr_left fun p _ => rfl

/-- What the end of a boundary leaves of an instance. -/
def Inst.open_ (x : Inst) : Inst := { x with quantum := 0, hquantum := 0, deficit := 0, hdeficit := 0, clamp := false }

theorem closed_open (q h : Nat) (x : Inst) : (x.closed q h).open_ = x.open_ := by
  unfold Inst.closed
  split <;> rfl

theorem closeRound_inst (s : State) (j : Nat) : ((closeRound s).inst j).open_ = (s.inst j).open_ := by
  rw [State.inst, closeRound_insts,
    tget_mapped (fun i (x : Inst) => x.closed (quantumOf s i x) (heaQuantumOf s i)), State.inst]
  cases tget j s.insts with
  | none => rfl
  | some x => exact closed_open ..

/-- An instance whose clamp was due has no deficit above its quantum (R89, R411). -/
theorem closeRound_clamped {s : State} {j : Nat} (h : (s.inst j).clamp = true) :
    ((closeRound s).inst j).deficit ≤ (((closeRound s).inst j).quantum : Int) ∧
      ((closeRound s).inst j).hdeficit ≤ (((closeRound s).inst j).hquantum : Int) := by
  have hinst : (closeRound s).inst j = ((tget j s.insts).map
      (fun x => x.closed (quantumOf s j x) (heaQuantumOf s j))).getD Inst.absent := by
    rw [State.inst, closeRound_insts, tget_mapped (fun i (x : Inst) => x.closed (quantumOf s i x) (heaQuantumOf s i))]
  rw [hinst]
  rw [State.inst] at h
  cases hx : tget j s.insts with
  | none => rw [hx] at h; cases h
  | some x =>
    rw [hx] at h
    have hclamp : x.clamp = true := h
    simp only [Option.map_some, Option.getD_some, Inst.closed, hclamp, if_true]
    exact ⟨min_le_right .., min_le_right ..⟩

theorem effWeight_closeRound (s : State) (i q h : Nat) (x : Inst) : effWeight (closeRound s) i (x.closed q h) = effWeight s i x := by
  have hlater : laterWaits (closeRound s) i = laterWaits s i := rfl
  have heligible : (x.closed q h).eligible = x.eligible ∧ (x.closed q h).weight = x.weight := by
    unfold Inst.closed
    split <;> exact ⟨rfl, rfl⟩
  unfold effWeight
  rw [hlater, heligible.1, heligible.2]

/-- Every instance has its quantum, and no clamp is due (R89, R231). -/
theorem closeRound_quanta (s : State) :
    let t := closeRound s
    let tot := t.insts.foldl (fun a p => a + effWeight t p.1 p.2) 0
    ∀ p ∈ t.insts, p.2.clamp = false ∧ p.2.quantum = if effWeight t p.1 p.2 = 0 then 0
      else max 1 ((effWeight t p.1 p.2 * 2097152 + tot - 1) / tot) := by
  dsimp only
  have htot : (closeRound s).insts.foldl (fun a p => a + effWeight (closeRound s) p.1 p.2) 0 =
      s.insts.foldl (fun a p => a + effWeight s p.1 p.2) 0 := by
    rw [closeRound_insts, List.foldl_map]
    simp only [effWeight_closeRound]
  rw [htot]
  intro p hp
  rw [closeRound_insts] at hp
  obtain ⟨⟨i, x⟩, -, rfl⟩ := List.mem_map.1 hp
  dsimp only
  rw [effWeight_closeRound]
  have hquantum : (x.closed (quantumOf s i x) (heaQuantumOf s i)).quantum = quantumOf s i x ∧
      (x.closed (quantumOf s i x) (heaQuantumOf s i)).clamp = false := by
    unfold Inst.closed
    split
    · exact ⟨rfl, rfl⟩
    · next hclamp => exact ⟨rfl, by simpa using hclamp⟩
  refine ⟨hquantum.2, hquantum.1.trans ?_⟩
  unfold quantumOf
  dsimp only
  by_cases hw : effWeight s i x = 0
  · rw [if_pos hw, if_pos (by simpa using hw)]
  · rw [if_neg hw, if_neg (by simpa using hw), Nat.mul_assoc]

section
variable (s : State)

theorem closeRound_core : (closeRound s).core = s.core := rfl
theorem closeRound_rooms : (closeRound s).rooms = s.rooms := rfl
theorem closeRound_rings : (closeRound s).rings = s.rings := rfl
theorem closeRound_ops : (closeRound s).ops = s.ops := rfl
theorem closeRound_txn : (closeRound s).txn = s.txn := rfl
theorem closeRound_cel : (closeRound s).cel = s.cel := rfl
theorem closeRound_keys : (closeRound s).keys = s.keys := rfl
theorem closeRound_hwy : (closeRound s).hwy = s.hwy := rfl

theorem schedSnap_snap (x : Word) : schedSnap { s with sched := { s.sched with snap := x } } = schedSnap s := by
  unfold schedSnap
  rfl

theorem markRound_sched : (markRound s).sched.round = (s.sched.round + 1) % 65536 ∧
    (markRound s).sched.snap = schedSnap (markRound s) := by
  unfold markRound
  generalize (s.sched.round + 1) % 65536 = r
  exact ⟨rfl, (schedSnap_snap ..).symm⟩

theorem closeRound_sched : (closeRound s).sched.round = (s.sched.round + 1) % 65536 ∧
    (closeRound s).sched.snap = schedSnap (closeRound s) := by
  have hmark := markRound_sched (setGrants (clampShares (setHeaQuanta (setQuanta s))))
  have hround : (setGrants (clampShares (setHeaQuanta (setQuanta s)))).sched.round = s.sched.round := rfl
  rw [hround] at hmark
  rw [closeRound]
  exact hmark

/-- Grants run, unless an entry to a power state or a soft reset holds them (R575, R624). -/
def Power.runs (p : Power) : Bool :=
  p.entry.isNone && p.softReset.isNone && (p.state == .active || p.state == .idle)

theorem closeRound_pwr : (closeRound s).pwr = { s.pwr with grants := s.pwr.runs } := rfl

end

/-! ### The steps before the commands -/

/-- An instance but for its queue, its keys and what counts and charges change. -/
def Inst.frame (x : Inst) : Inst := { x.pace with cq := CmdQ.cold, kek := Kek.none }

/-- From `s` to `t` a KEK_SET may have taken effect and may have been answered. -/
structure Carries (s t : State) : Prop where
  beat : t.beat = s.beat
  inst : ∀ j, (t.inst j).frame = (s.inst j).frame
  waits : ∀ j v, v.wait.atBoundary = true → ((t.inst j).cq.serving = some v ↔ (s.inst j).cq.serving = some v)
  ops : ∀ y ∈ t.ops, ∃ x ∈ s.ops, Follows x y

section
variable {s t u : State}

theorem Carries.trans (h : Carries s t) (k : Carries t u) : Carries s u where
  beat := k.beat.trans h.beat
  inst j := (k.inst j).trans (h.inst j)
  waits j v hv := (k.waits j v hv).trans (h.waits j v hv)
  ops z hz := by
    obtain ⟨y, hy, hyz⟩ := k.ops z hz
    obtain ⟨x, hx, hxy⟩ := h.ops y hy
    exact ⟨x, hx, hxy.trans hyz⟩

theorem Runs.carries (h : Runs s t) : Carries s t where
  beat := h.beat
  inst j := congrArg (fun x : Inst => { x with cq := CmdQ.cold, kek := Kek.none }) (h.pace j)
  waits j v _ := by
    have hcq : (t.inst j).cq = (s.inst j).cq := (congrArg Inst.cq (h.pace j) :)
    rw [hcq]
  ops := h.ops

end

/-! ### A committed KEK_SET -/

/-- The key-encryption keys once a KEK_SET has taken effect (R398). -/
def Kek.taken (k : Kek) (pinned : Bool) (ver seedId : Nat) (key seed : List Byte) : Kek :=
  ⟨ver, key, if k.curVer != 0 && pinned then k.curVer else 0, if k.curVer != 0 && pinned then k.cur else [], seedId, seed⟩

theorem seedChanged_still (i : Nat) (s : State) : (seedChanged i s).still = s.still := by
  unfold seedChanged
  rw [foldl_still _ _ _ fun s r => tryPost_still r s, foldl_still _ _ _ fun s n => wakeIndex_still n s,
    foldl_still _ _ _ fun s (o : Op) => releaseOp_still o.id s, dropDoorWork_still, retireResident_still]

/-- A committed KEK_SET takes effect for an instance (R398). -/
def kekStored (i ver seedId : Nat) (key seed : List Byte) (s : State) : State :=
  let k := (s.inst i).kek
  let pinned := (s.instOps i).any (fun o => o.pin == some k.curVer)
  modInst i (fun x => { x with kek := k.taken pinned ver seedId key seed }) { s with keys := { s.keys with kekPending := none } }

section
variable {s : State} {i ver seedId : Nat} {key seed : List Byte}
  (h : s.keys.kekPending = some (i, ver, key, seedId, seed))
include h

theorem applyKek_stores : Runs (kekStored i ver seedId key seed s) (applyKek s) ∧
    (applyKek s).still = (kekStored i ver seedId key seed s).still := by
  have hseed : ∀ (c : Bool) (t : State), Runs t (if c then seedChanged i t else t) ∧ (if c then seedChanged i t else t).still = t.still
    | true, t => ⟨runs_seedChanged i t, seedChanged_still i t⟩
    | false, t => ⟨.refl t, rfl⟩
  unfold applyKek
  rw [h]
  exact hseed _ (kekStored i ver seedId key seed s)

/-- A committed KEK_SET has taken effect (R398). -/
theorem applyKek_taken : KekTaken s i ver seedId key seed (applyKek s) ∧ (applyKek s).keys = { s.keys with kekPending := none } ∧
    (applyKek s).cel = s.cel := by
  obtain ⟨hruns, hstill⟩ := applyKek_stores h
  have hkek : ((applyKek s).inst i).kek = (s.inst i).kek.taken
      ((s.instOps i).any fun o => o.pin == some (s.inst i).kek.curVer) ver seedId key seed := by
    have hkept : ((applyKek s).inst i).kek = ((kekStored i ver seedId key seed s).inst i).kek :=
      (congrArg Inst.kek (hruns.pace i) :)
    rw [hkept, kekStored, inst_modInst, if_pos rfl]
  refine ⟨?_, (congrArg Still.keys hstill :), (congrArg Still.cel hstill :)⟩
  have hdrains : ((s.inst i).kek.curVer != 0 && (s.instOps i).any fun o => o.pin == some (s.inst i).kek.curVer) = true ↔
      (s.inst i).kek.curVer ≠ 0 ∧ ∃ o ∈ s.instOps i, o.pin = some (s.inst i).kek.curVer := by simp
  unfold KekTaken
  rw [hkek]
  refine ⟨rfl, rfl, rfl, rfl, fun hd => ?_, fun hd => ?_⟩
  · have hpinned := hdrains.2 hd
    simp only [Kek.taken, hpinned, if_true]
    exact ⟨trivial, trivial⟩
  · have hpinned := Bool.eq_false_iff.2 fun hb => hd (hdrains.1 hb)
    simp only [Kek.taken, hpinned, Bool.false_eq_true, if_false]
    exact ⟨trivial, trivial⟩

theorem applyKek_inst (j : Nat) : ((applyKek s).inst j).frame = (s.inst j).frame ∧ ((applyKek s).inst j).cq = (s.inst j).cq := by
  obtain ⟨hruns, -⟩ := applyKek_stores h
  have hframe : ((applyKek s).inst j).frame = ((kekStored i ver seedId key seed s).inst j).frame :=
    congrArg (fun x : Inst => { x with cq := CmdQ.cold, kek := Kek.none }) (hruns.pace j)
  have hcq : ((applyKek s).inst j).cq = ((kekStored i ver seedId key seed s).inst j).cq := (congrArg Inst.cq (hruns.pace j) :)
  have hstart : ((kekStored i ver seedId key seed s).inst j).frame = (s.inst j).frame ∧
      ((kekStored i ver seedId key seed s).inst j).cq = (s.inst j).cq := by
    rw [kekStored, inst_modInst]
    split
    · next hj => subst hj; exact ⟨rfl, rfl⟩
    · exact ⟨rfl, rfl⟩
  exact ⟨hframe.trans hstart.1, hcq.trans hstart.2⟩

end

theorem applyKek_none {s : State} (h : s.keys.kekPending = none) : applyKek s = s := by rw [applyKek, h]

theorem carries_applyKek (s : State) : Carries s (applyKek s) := by
  cases h : s.keys.kekPending with
  | none => rw [applyKek_none h]; exact (Runs.refl s).carries
  | some k =>
    obtain ⟨i, ver, key, seedId, seed⟩ := k
    obtain ⟨hruns, -⟩ := applyKek_stores h
    exact ⟨hruns.beat, fun j => (applyKek_inst h j).1, fun j v _ => by rw [(applyKek_inst h j).2], hruns.ops⟩

theorem carries_answerKek (s : State) : Carries s (answerKek s) := by
  unfold answerKek
  split
  · next v hv =>
    split
    · next hw =>
      set u : State := { s with keys := { s.keys with keyinBusy := false } } with hu
      have hvu : (u.inst 0).cq.serving = some v := hv
      obtain ⟨hsame, w, -, hcq⟩ := reply_replied .ok 0 (leBytes 8 2 ++ leBytes 8 s.cel.ctr1) hvu
      refine ⟨hsame.beat, fun j => ?_, fun j x hx => ?_, fun y hy => ?_⟩
      · exact congrArg (fun x : Inst => { x.pace with cq := CmdQ.cold, kek := Kek.none }) (hsame.body j)
      · by_cases hj : j = 0
        · subst hj
          rw [hcq, hv]
          have hkek : v.wait = .kekSet := by simpa using hw
          refine ⟨fun h => ?_, fun h => ?_⟩
          · cases h; cases hx
          · cases h; rw [hkek] at hx; cases hx
        · rw [hsame.2.2.2.1 j hj]
          exact .rfl
      · rw [hsame.ops] at hy
        exact ⟨y, hy, .refl y⟩
    · exact (Runs.refl s).carries
  · exact (Runs.refl s).carries

/-- Where no KEK_SET waits for its answer, none is made. -/
theorem answerKek_idle {s : State} (h : ∀ v, (s.inst 0).cq.serving = some v → v.wait ≠ .kekSet) : answerKek s = s := by
  unfold answerKek
  split
  · next v hv => exact if_neg (by simpa using h v hv)
  · rfl

end Sys2Proof.Machine
end

section
/-!
PROOFS. The obligation on a round boundary (O34): the boundary is taken apart at the commands that wait.
-/

namespace Sys2Proof.Machine

open Sys2Proof

/-! ### The parts of a boundary -/

/-- A boundary up to the commands that wait for it (R225). -/
def beforeCommands (s : State) : State := answerKek (applyKek (instanceSteps (countRound s)))

/-- The commands that wait, applied while an image runs (R225, R594). -/
def applyCommands (s : State) : State :=
  if s.fw.imageRuns then (s.insts.map (·.1)).foldl (fun s q => applyWait q s) s else s

theorem boundary_eq (s : State) : boundary s = closeRound (applyCommands (beforeCommands s)) := by
  delta boundary closeRound applyCommands beforeCommands
  with_reducible rfl

theorem exec_roundBoundary {s : State} (h : s.pins.mainUp = true) :
    exec .roundBoundary s = .next (finish (redispatch (boundary s))) := by
  have hexec : exec .roundBoundary s = execRoundBoundary s := rfl
  rw [hexec, execRoundBoundary, if_pos h]

theorem redispatch_of_no_ops {s : State} (h : s.ops = []) : redispatch s = s := by rw [redispatch, h]; rfl

theorem parts_of_pace {x y : Inst} (h : x.pace = y.pace) :
    x.cq = y.cq ∧ x.kek = y.kek ∧ x.genStep = y.genStep ∧ x.frame = y.frame :=
  ⟨(congrArg Inst.cq h :), (congrArg Inst.kek h :), (congrArg Inst.genStep h :),
    congrArg (fun x : Inst => { x with cq := CmdQ.cold, kek := Kek.none }) h⟩

theorem parts_of_frame {x y : Inst} (h : x.frame = y.frame) :
    x.gen = y.gen ∧ x.genStep = y.genStep ∧ x.state = y.state ∧ x.stopFetch = y.stopFetch :=
  ⟨(congrArg Inst.gen h :), (congrArg Inst.genStep h :), (congrArg Inst.state h :), (congrArg Inst.stopFetch h :)⟩

theorem parts_of_beat {s : State} {r c : Nat} {a b i : Bool} (h : s.beat = (r, c, a, b, i)) :
    s.sched.round = r ∧ s.core = c ∧ s.rooms.ratioNow = a ∧ s.fw.imageRuns = i := by
  cases h
  exact ⟨rfl, rfl, rfl, rfl⟩

section
variable (s : State) (j : Nat)

theorem closeRound_genStep : ((closeRound s).inst j).genStep = (s.inst j).genStep := (congrArg Inst.genStep (closeRound_inst s j) :)
theorem closeRound_state : ((closeRound s).inst j).state = (s.inst j).state := (congrArg Inst.state (closeRound_inst s j) :)
theorem closeRound_stopFetch : ((closeRound s).inst j).stopFetch = (s.inst j).stopFetch :=
  (congrArg Inst.stopFetch (closeRound_inst s j) :)
theorem closeRound_cq : ((closeRound s).inst j).cq = (s.inst j).cq := (congrArg Inst.cq (closeRound_inst s j) :)
theorem closeRound_kek : ((closeRound s).inst j).kek = (s.inst j).kek := (congrArg Inst.kek (closeRound_inst s j) :)
theorem closeRound_gen : ((closeRound s).inst j).gen = (s.inst j).gen := (congrArg Inst.gen (closeRound_inst s j) :)

theorem closeRound_port : (closeRound s).port j = s.port j := by rw [State.port, closeRound_hwy, State.port]

end

theorem closeRound_answered {q : Nat} {p : List Byte} {st : Status} {d : Nat} {body : List Byte} {s : State}
    (h : Answered q p st d body s) : Answered q p st d body (closeRound s) := by
  obtain ⟨v, hv, hrest⟩ := h
  exact ⟨v, by rw [closeRound_cq, hv], hrest⟩

theorem closeRound_grants (s : State) : (closeRound s).pwr.grants = (closeRound s).pwr.runs := rfl

/-! ### The commands that wait -/

theorem applyCommands_settles (s : State) : Settles s (applyCommands s) := by
  unfold applyCommands
  split
  · exact settles_foldl_applyWait ..
  · exact .refl s

theorem absent_unwaiting {s : State} {q : Nat} (h : s.inst q = Inst.absent) : Unwaiting q s := fun v hv => by
  rw [h] at hv
  cases hv

theorem mem_keys_of_present {s : State} {q : Nat} (h : s.inst q ≠ Inst.absent) : q ∈ s.insts.map (·.1) := by
  by_contra hq
  exact h (inst_absent_of_not_mem hq)

theorem mem_keys_of_serving {s : State} {q : Nat} {v : Serving} (h : (s.inst q).cq.serving = some v) : q ∈ s.insts.map (·.1) :=
  mem_keys_of_present fun habsent => by rw [habsent] at h; cases h

theorem applyCommands_unwaiting {s : State} (h : s.fw.imageRuns = true) (q : Nat) : Unwaiting q (applyCommands s) := by
  by_cases hq : s.inst q = Inst.absent
  · exact (applyCommands_settles s).unwaiting (absent_unwaiting hq)
  · rw [applyCommands, if_pos h]
    exact unwaiting_foldl_applyWait (mem_keys_of_present hq) s

theorem applyCommands_idle {s : State} (h : ∀ q, Unwaiting q s) : applyCommands s = s := by
  unfold applyCommands
  split
  · exact foldl_applyWait_idle h _
  · rfl

theorem applyCommands_one {s : State} {q : Nat} {v : Serving} (hfw : s.fw.imageRuns = true) (hv : (s.inst q).cq.serving = some v)
    (h : ∀ k, k ≠ q → Unwaiting k s) : applyCommands s = applyWait q s := by
  rw [applyCommands, if_pos hfw, foldl_applyWait_one h (mem_keys_of_serving hv)]

/-! ### Up to the commands -/

theorem unrung_insts (l : List (Nat × Inst)) (s : State) : ({ s with insts := l } : State).unrung = s.unrung := rfl

theorem carries_kekSet (s : State) : Carries s (answerKek (applyKek s)) := (carries_applyKek s).trans (carries_answerKek _)

section
variable {s : State} (h : s.diag.armed = [])
include h

theorem counted_unrung : (countRound s).unrung = s.unrung := (countRound_counts h).1

theorem counted_pace (j : Nat) : ((countRound s).inst j).pace = (s.inst j).pace := (countRound_counts h).2.1 j

theorem counted_beat : (countRound s).beat =
    (s.sched.round, (s.core + 512) % 2 ^ 64, s.rooms.ratio, s.rooms.ratio, s.fw.imageRuns) := by
  obtain ⟨hunrung, -, hcore, hnow⟩ := countRound_counts h
  rw [State.beat, sched_of_unrung hunrung, hcore, hnow, ratio_of_unrung hunrung, fw_of_unrung hunrung]

theorem stepped_pace (j : Nat) : ((instanceSteps (countRound s)).inst j).pace = ((s.inst j).atBoundary s.build.guard).pace := by
  rw [instanceSteps_pace, build_of_shape (countRound_shape s), atBoundary_pace (counted_pace h j)]

theorem stepped_beat : (instanceSteps (countRound s)).beat =
    (s.sched.round, (s.core + 512) % 2 ^ 64, s.rooms.ratio, s.rooms.ratio, s.fw.imageRuns) := by
  rw [instanceSteps_beat, counted_beat h]

theorem stepped_cq (j : Nat) : ((instanceSteps (countRound s)).inst j).cq = (s.inst j).cq := by
  rw [(parts_of_pace (stepped_pace h j)).1, (atBoundary_settles ..).2.2.1]

theorem stepped_kek (j : Nat) : ((instanceSteps (countRound s)).inst j).kek = (s.inst j).kek := by
  rw [(parts_of_pace (stepped_pace h j)).2.1, (atBoundary_settles ..).2.2.2]

theorem beforeCommands_beat : (beforeCommands s).beat =
    (s.sched.round, (s.core + 512) % 2 ^ 64, s.rooms.ratio, s.rooms.ratio, s.fw.imageRuns) := by
  rw [beforeCommands, (carries_kekSet _).beat, stepped_beat h]

theorem beforeCommands_frame (j : Nat) : ((beforeCommands s).inst j).frame = ((s.inst j).atBoundary s.build.guard).frame := by
  obtain ⟨-, -, -, hframe⟩ := parts_of_pace (stepped_pace h j)
  rw [beforeCommands, (carries_kekSet _).inst, hframe]

theorem beforeCommands_waits {q : Nat} {v : Serving} (hv : v.wait.atBoundary = true) :
    ((beforeCommands s).inst q).cq.serving = some v ↔ (s.inst q).cq.serving = some v := by
  rw [beforeCommands, (carries_kekSet _).waits q v hv, stepped_cq h]

theorem beforeCommands_unwaiting {q : Nat} (hq : Unwaiting q s) : Unwaiting q (beforeCommands s) := fun v hv => by
  cases hw : v.wait.atBoundary with
  | false => rfl
  | true => rw [hq v ((beforeCommands_waits h hw).1 hv)] at hw; cases hw

theorem beforeCommands_imageRuns : (beforeCommands s).fw.imageRuns = s.fw.imageRuns := by
  obtain ⟨-, -, -, hfw⟩ := parts_of_beat (beforeCommands_beat h)
  exact hfw

/-! ### Every boundary -/

theorem boundary_beat : (boundary s).sched.round = (s.sched.round + 1) % 65536 ∧ (boundary s).core = (s.core + 512) % 2 ^ 64 ∧
    (boundary s).rooms.ratioNow = s.rooms.ratio := by
  obtain ⟨hround, hcore, hnow, -⟩ := parts_of_beat ((applyCommands_settles (beforeCommands s)).beat.trans (beforeCommands_beat h))
  rw [boundary_eq, (closeRound_sched _).1, hround, closeRound_core, hcore, closeRound_rooms, hnow]
  exact ⟨rfl, rfl, rfl⟩

theorem boundary_genStep (j : Nat) : ((boundary s).inst j).genStep = false := by
  rw [boundary_eq, closeRound_genStep]
  have hbefore : ((beforeCommands s).inst j).genStep = false := by
    obtain ⟨-, hstep, -⟩ := parts_of_frame (beforeCommands_frame h j)
    rw [hstep, (atBoundary_settles ..).1]
  cases hstep : ((applyCommands (beforeCommands s)).inst j).genStep with
  | false => rfl
  | true => rw [((applyCommands_settles _).inst j).step hstep] at hbefore; cases hbefore

theorem boundary_quiescing (j : Nat) (hj : ((boundary s).inst j).state = .quiescing) : ((boundary s).inst j).stopFetch = true := by
  rw [boundary_eq, closeRound_state] at hj
  rw [boundary_eq, closeRound_stopFetch]
  obtain ⟨hstate, hstop⟩ := ((applyCommands_settles _).inst j).quiet hj
  obtain ⟨-, -, hsame, hstopped⟩ := parts_of_frame (beforeCommands_frame h j)
  exact hstop (hstopped.trans ((atBoundary_settles ..).2.1 (hsame.symm.trans hstate)))

theorem boundary_answered (hfw : s.fw.imageRuns = true) (q : Nat) : Unwaiting q (boundary s) := fun v hv => by
  rw [boundary_eq, closeRound_cq] at hv
  exact applyCommands_unwaiting ((beforeCommands_imageRuns h).trans hfw) q v hv

theorem boundary_unanswered (hfw : s.fw.imageRuns = false) {q : Nat} {v : Serving} (hv : (s.inst q).cq.serving = some v)
    (hw : v.wait.atBoundary = true) : ((boundary s).inst q).cq.serving = some v := by
  have hstays : applyCommands (beforeCommands s) = beforeCommands s := by
    rw [applyCommands, beforeCommands_imageRuns h, hfw, if_neg Bool.false_ne_true]
  rw [boundary_eq, closeRound_cq, hstays]
  exact (beforeCommands_waits h hw).2 hv

/-- A boundary at which no command waits. -/
theorem boundary_idle (hq : ∀ q, Unwaiting q s) : boundary s = closeRound (beforeCommands s) := by
  rw [boundary_eq, applyCommands_idle fun q => beforeCommands_unwaiting h (hq q)]

/-! ### A boundary at which no generation step is due -/

/-- Only instances change in the steps before the commands (R102). -/
theorem stepped_still (hstep : ∀ j, (s.inst j).genStep = false) :
    ∃ l, instanceSteps (countRound s) = { countRound s with insts := l } :=
  instanceSteps_still fun j => by rw [(parts_of_pace (counted_pace h j)).2.2.1, hstep j]

theorem stepped_unrung (hstep : ∀ j, (s.inst j).genStep = false) : (instanceSteps (countRound s)).unrung = s.unrung := by
  obtain ⟨l, hl⟩ := stepped_still h hstep
  rw [hl, unrung_insts, counted_unrung h]

/-- Where no KEK_SET waits either, those steps are all. -/
theorem beforeCommands_plain (hstep : ∀ j, (s.inst j).genStep = false) (hkek : s.keys.kekPending = none)
    (hset : ∀ v, (s.inst 0).cq.serving = some v → v.wait ≠ .kekSet) : beforeCommands s = instanceSteps (countRound s) := by
  have hpending := (kekPending_of_unrung (stepped_unrung h hstep)).trans hkek
  rw [beforeCommands, applyKek_none hpending]
  exact answerKek_idle fun v hv => hset v (by rwa [stepped_cq h] at hv)

end

/-! ### The clauses -/

theorem quiet_inst {P : Nat → Inst → Prop} {s : State} (hcold : ∀ j, P j Inst.absent) (h : ∀ p ∈ s.insts, P p.1 p.2) (j : Nat) :
    P j (s.inst j) := by
  rcases inst_cases s j with hj | hj
  · exact h _ hj
  · rw [hj]
    exact hcold j

/-- Every boundary (R89, R93, R102, R224, R225, R231). -/
theorem boundary_always {s : State} (h : s.diag.armed = []) : let t := boundary s
    t.sched.round = (s.sched.round + 1) % 65536 ∧ t.core = (s.core + 512) % 2 ^ 64 ∧ t.rooms.ratioNow = s.rooms.ratio ∧
      t.sched.snap = schedSnap t ∧
      t.pwr.grants = (t.pwr.entry.isNone && t.pwr.softReset.isNone && (t.pwr.state == .active || t.pwr.state == .idle)) ∧
      (∀ i, (t.inst i).genStep = false) ∧
      (∀ i, (t.inst i).state = .quiescing → (t.inst i).stopFetch = true) ∧
      (s.fw.imageRuns = true → ∀ q v, (t.inst q).cq.serving = some v → v.wait.atBoundary = false) ∧
      (s.fw.imageRuns = false → ∀ q v, (s.inst q).cq.serving = some v → v.wait.atBoundary = true →
        (t.inst q).cq.serving = some v) ∧
      let tot := t.insts.foldl (fun a p => a + effWeight t p.1 p.2) 0
      ∀ p ∈ t.insts, p.2.clamp = false ∧ p.2.quantum = if effWeight t p.1 p.2 = 0 then 0
        else max 1 ((effWeight t p.1 p.2 * 2097152 + tot - 1) / tot) := by
  obtain ⟨hround, hcore, hnow⟩ := boundary_beat h
  exact ⟨hround, hcore, hnow, (closeRound_sched _).2, closeRound_grants _, boundary_genStep h, boundary_quiescing h,
    fun hfw q => boundary_answered h hfw q, fun hfw q v => boundary_unanswered h hfw, closeRound_quanta _⟩

/-- A boundary of a block in which nothing waits for it (R224, R225). -/
theorem boundary_quiet {s : State} (h : s.diag.armed = []) (hkek : s.keys.kekPending = none)
    (hquiet : ∀ p ∈ s.insts, p.2.cq.serving = none ∧ p.2.genStep = false) : let t := boundary s
    t.ops = s.ops ∧ t.rings = s.rings ∧ t.txn = s.txn ∧ t.cel = s.cel ∧ { t.keys with drbgs := s.keys.drbgs } = s.keys ∧
      t.pwr.grants = s.pwr.runs := by
  have hinst := quiet_inst (P := fun _ x => x.cq.serving = none ∧ x.genStep = false) (fun _ => ⟨rfl, rfl⟩) hquiet
  have hplain := beforeCommands_plain h (fun j => (hinst j).2) hkek fun v hv => by rw [(hinst 0).1] at hv; cases hv
  have hunrung := stepped_unrung h fun j => (hinst j).2
  dsimp only
  rw [boundary_idle h fun q v hv => by rw [(hinst q).1] at hv; exact (nomatch hv), hplain, closeRound_ops, closeRound_rings, closeRound_txn,
    closeRound_cel, closeRound_keys, closeRound_pwr]
  exact ⟨ops_of_unrung hunrung, rings_of_unrung hunrung, txn_of_unrung hunrung, cel_of_unrung hunrung, keys_of_unrung hunrung,
    by rw [pwr_of_unrung hunrung]⟩

/-- An eligible instance has a quantum (R231). -/
theorem closeRound_eligible (s : State) : ∀ p ∈ (closeRound s).insts, p.2.eligible = true → 1 ≤ p.2.quantum := by
  intro p hp heligible
  have hweight : effWeight (closeRound s) p.1 p.2 ≠ 0 := by
    have hw : p.2.weight ≠ 0 := by
      unfold Inst.eligible at heligible
      simp only [Bool.and_eq_true, bne_iff_ne] at heligible
      exact heligible.1.2
    rw [effWeight, if_pos heligible]
    exact hw
  have hquantum := (closeRound_quanta s p hp).2
  rw [if_neg hweight] at hquantum
  rw [hquantum]
  exact le_max_left ..

/-- A boundary at which a generation step is due and no command waits (R102, R105). -/
theorem boundary_generation {s : State} {i : Nat} (h : s.diag.armed = []) (hstep : (s.inst i).genStep = true)
    (hq : ∀ q, Unwaiting q s) : (∀ o ∈ (boundary s).ops, o.inst = i → o.old = true) ∧
      ((boundary s).inst i).gen = if s.build.guard && ((s.inst i).state == .resetting || (s.inst i).work) then
        ((s.inst i).gen + 1) % 256 else (s.inst i).gen := by
  have hcounted : ((countRound s).inst i).genStep = true := by
    rw [(parts_of_pace (counted_pace h i)).2.2.1, hstep]
  have hkey : i ∈ (countRound s).insts.map (·.1) := mem_keys_of_present fun habsent => by rw [habsent] at hcounted; cases hcounted
  rw [boundary_idle h hq, closeRound_ops, closeRound_gen]
  refine ⟨fun o ho hi => ?_, ?_⟩
  · obtain ⟨x, hx, hxo⟩ := (carries_kekSet _).ops o ho
    exact hxo.old (foldl_instStep_old hkey hcounted x hx (hxo.inst.symm.trans hi))
  · obtain ⟨hgen, -⟩ := parts_of_frame (beforeCommands_frame h i)
    rw [hgen, Inst.atBoundary, hstep]
    rfl

/-! ### A committed KEK_SET -/

theorem KekTaken.of_start {s u t : State} {i ver seedId : Nat} {key seed : List Byte} (hkek : (u.inst i).kek = (s.inst i).kek)
    (hops : u.ops = s.ops) (h : KekTaken u i ver seedId key seed t) : KekTaken s i ver seedId key seed t := by
  unfold KekTaken State.instOps at h ⊢
  rwa [hkek, hops] at h

theorem KekTaken.of_end {s u t : State} {i ver seedId : Nat} {key seed : List Byte} (hkek : (t.inst i).kek = (u.inst i).kek)
    (h : KekTaken s i ver seedId key seed u) : KekTaken s i ver seedId key seed t := by
  unfold KekTaken at h ⊢
  rwa [hkek]

/-- A KEK_SET that has taken effect is answered (R398). -/
theorem answerKek_answers {s : State} {v : Serving} (hv : (s.inst 0).cq.serving = some v) (hw : v.wait = .kekSet) :
    Answered 0 v.pkt .ok 0 (leBytes 8 2 ++ leBytes 8 s.cel.ctr1) (answerKek s) ∧
      (∀ j, ((answerKek s).inst j).kek = (s.inst j).kek) ∧ (answerKek s).keys.kekPending = s.keys.kekPending := by
  set u : State := { s with keys := { s.keys with keyinBusy := false } } with hu
  have hu0 : (u.inst 0).cq.serving = some v := hv
  have hanswer : answerKek s = reply 0 .ok 0 (leBytes 8 2 ++ leBytes 8 s.cel.ctr1) u := by
    rw [answerKek, hv]
    exact if_pos (by rw [hw]; rfl)
  obtain ⟨hsame, -⟩ := reply_replied .ok 0 (leBytes 8 2 ++ leBytes 8 s.cel.ctr1) hu0
  have hkeys : (reply 0 .ok 0 (leBytes 8 2 ++ leBytes 8 s.cel.ctr1) u).keys = u.keys := (congrArg Still.keys hsame.1 :)
  rw [hanswer, hkeys]
  exact ⟨reply_answered .ok 0 _ hu0, fun j => (congrArg Inst.kek (hsame.body j) :), rfl⟩

/-- A boundary at which a committed KEK_SET is answered (R398). -/
theorem boundary_kekSet {s : State} {i ver seedId : Nat} {key seed : List Byte} {v : Serving} (h : s.diag.armed = [])
    (hpending : s.keys.kekPending = some (i, ver, key, seedId, seed)) (hv : (s.inst 0).cq.serving = some v) (hw : v.wait = .kekSet)
    (hquiet : ∀ p ∈ s.insts, p.2.genStep = false ∧ (p.1 ≠ 0 → p.2.cq.serving = none)) :
    KekTaken s i ver seedId key seed (boundary s) ∧ (boundary s).keys.kekPending = none ∧
      Answered 0 v.pkt .ok 0 (leBytes 8 2 ++ leBytes 8 s.cel.ctr1) (boundary s) := by
  have hinst := quiet_inst (P := fun j x => x.genStep = false ∧ (j ≠ 0 → x.cq.serving = none)) (fun _ => ⟨rfl, fun _ => rfl⟩) hquiet
  have hunrung := stepped_unrung h fun j => (hinst j).1
  have hidle : ∀ q, Unwaiting q s := fun q x hx => by
    by_cases hq : q = 0
    · subst hq
      rw [hv] at hx
      cases hx
      rw [hw]
      rfl
    · rw [(hinst q).2 hq] at hx
      cases hx
  set u := instanceSteps (countRound s) with hu
  have hpending' : u.keys.kekPending = some (i, ver, key, seedId, seed) := (kekPending_of_unrung hunrung).trans hpending
  obtain ⟨htaken, hkeys, hcel⟩ := applyKek_taken hpending'
  have hserving : ((applyKek u).inst 0).cq.serving = some v := by rw [(applyKek_inst hpending' 0).2, hu, stepped_cq h, hv]
  obtain ⟨hanswered, hkek, hkept⟩ := answerKek_answers hserving hw
  rw [boundary_idle h hidle, beforeCommands, closeRound_keys, ← hu, hkept, hkeys]
  have hctr : (applyKek u).cel.ctr1 = s.cel.ctr1 := by rw [hcel, cel_of_unrung hunrung]
  rw [hctr] at hanswered
  exact ⟨(htaken.of_start (stepped_kek h i) (ops_of_unrung hunrung)).of_end (by rw [closeRound_kek, hkek]), rfl,
    closeRound_answered hanswered⟩

/-! ### One command that waits -/

section
variable {s : State} {q : Nat} {v : Serving} (h : s.diag.armed = []) (hfw : s.fw.imageRuns = true)
  (hkek : s.keys.kekPending = none) (hv : (s.inst q).cq.serving = some v) (hw : v.wait.atBoundary = true)
  (hquiet : ∀ p ∈ s.insts, p.2.genStep = false ∧ (p.1 ≠ q → p.2.cq.serving = none))
include h hfw hkek hv hw hquiet

/-- A boundary at which one command alone waits (R225). -/
theorem boundary_one : ∃ u, boundary s = closeRound (applyWait q u) ∧ u.unrung = s.unrung ∧ u.shape = s.shape ∧
    (u.inst q).cq.serving = some v := by
  have hinst := quiet_inst (P := fun j x => x.genStep = false ∧ (j ≠ q → x.cq.serving = none)) (fun _ => ⟨rfl, fun _ => rfl⟩) hquiet
  have hplain := beforeCommands_plain h (fun j => (hinst j).1) hkek fun x hx => by
    by_cases hq : (0 : Nat) = q
    · subst hq
      rw [hv] at hx
      cases hx
      exact fun hset => by rw [hset] at hw; cases hw
    · rw [(hinst 0).2 hq] at hx
      cases hx
  have hunrung := stepped_unrung h fun j => (hinst j).1
  have hserving : ((instanceSteps (countRound s)).inst q).cq.serving = some v := by rw [stepped_cq h, hv]
  refine ⟨instanceSteps (countRound s), ?_, hunrung, (instanceSteps_shape _).trans (countRound_shape s), hserving⟩
  rw [boundary_eq, hplain, applyCommands_one (by rw [fw_of_unrung hunrung, hfw]) hserving fun k hk x hx => ?_]
  rw [stepped_cq h, (hinst k).2 hk] at hx
  cases hx

end

theorem inv_of_shape {s t : State} (h : t.shape = s.shape) (hs : s.Inv) : t.Inv := by
  rw [inv_iff_shape, h, ← inv_iff_shape]
  exact hs

/-- A resume with nothing to give back leaves the rings (R478). -/
theorem resumePort_rings {n : Nat} {s : State} (h : ∀ o ∈ s.ops, portOf o.ring = n → o.returned = false) :
    (resumePort n s).rings = s.rings := by
  have hresumes : ∀ u : State, (writesResume n u).rings = u.rings := fun u => by
    have hposts : ((u.rings.map (·.1)).foldl (fun s r => if portOf r == n then tryPost r s else s) u).rings = u.rings :=
      foldl_keeps State.rings (fun s r => by
        split
        · exact tryPost_rings ..
        · rfl) _ u
    unfold writesResume
    dsimp only
    split
    · rw [foldl_keeps State.rings (fun s i => rings_of_aside (irqCheck_aside i s)), hposts]
    · exact hposts
  have hasked : (pump n (askAgain n (s.port n).rdQ (issueWrites n (modPort n Port.resumed s)))).aside = s.aside := by
    rw [pump_aside, askAgain, modPort_aside, issueWrites_aside, modPort_aside]
  rw [resumePort_eq, returnedOps_nil h, hresumes]
  exact rings_of_aside hasked

/-- A boundary at which a MOVER_RESUME is answered (R478). -/
theorem boundary_resume {s : State} {q n : Nat} {v : Serving} (h : s.diag.armed = []) (hfw : s.fw.imageRuns = true)
    (hinv : s.Inv) (hn : n < 8) (hops : s.ops = []) (hkek : s.keys.kekPending = none) (hv : (s.inst q).cq.serving = some v)
    (hw : v.wait = .resume n) (hquiet : ∀ p ∈ s.insts, p.2.genStep = false ∧ (p.1 ≠ q → p.2.cq.serving = none)) :
    ((boundary s).port n).halted = false ∧ Answered q v.pkt .ok 0 [] (boundary s) ∧ (boundary s).rings = s.rings := by
  obtain ⟨u, hboundary, hunrung, hshape, hserving⟩ := boundary_one h hfw hkek hv (by rw [hw]; rfl) hquiet
  have hnone : ∀ o ∈ u.ops, portOf o.ring = n → o.returned = false := by
    rw [ops_of_unrung hunrung, hops]
    exact fun o ho => (nomatch ho)
  obtain ⟨-, hresumed⟩ := applyWait_resume hserving hw (inv_of_shape hshape hinv) hn
  obtain ⟨hhalted, -, -, hanswered, -⟩ := hresumed hnone
  have hdone : applyWait q u = reply q .ok 0 [] (resumePort n u) := applyWait_of hserving hw
  have hserving' : ((resumePort n u).inst q).cq.serving = some v :=
    (congrArg (fun x : Inst => x.cq.serving) ((runs_resumePort n u).pace q) :).trans hserving
  obtain ⟨hsame, -⟩ := reply_replied .ok 0 [] hserving'
  rw [hboundary, closeRound_port, closeRound_rings]
  refine ⟨hhalted, closeRound_answered hanswered, ?_⟩
  rw [hdone, hsame.rings, resumePort_rings hnone, rings_of_unrung hunrung]

/-- A boundary at which a SHARE_SET is answered (R88, R89). -/
theorem boundary_share {s : State} {q i w n hs : Nat} {v : Serving} (h : s.diag.armed = []) (hfw : s.fw.imageRuns = true)
    (hops : s.ops = []) (hkek : s.keys.kekPending = none) (hv : (s.inst q).cq.serving = some v) (hw : v.wait = .share i w n hs)
    (hquiet : ∀ p ∈ s.insts, p.2.genStep = false ∧ (p.1 ≠ q → p.2.cq.serving = none)) : let t := boundary s
    t.ops = [] ∧ (t.inst i).weight = w ∧ (t.inst i).quota = n ∧ (t.inst i).hshare = hs ∧
      (t.inst i).deficit ≤ ((t.inst i).quantum : Int) ∧ (t.inst i).hdeficit ≤ ((t.inst i).hquantum : Int) ∧
      Answered q v.pkt .ok 0 [] t ∧ t.rings = s.rings := by
  obtain ⟨u, hboundary, hunrung, -, hserving⟩ := boundary_one h hfw hkek hv (by rw [hw]; rfl) hquiet
  obtain ⟨hweight, hquota, hshare, hclamp, hanswered, hrings, hkept⟩ := applyWait_share hserving hw
  obtain ⟨hdeficit, hhdeficit⟩ := closeRound_clamped hclamp
  have hclosed := closeRound_inst (applyWait q u) i
  dsimp only
  rw [hboundary, closeRound_ops, closeRound_rings]
  exact ⟨by rw [hkept, ops_of_unrung hunrung, hops], (congrArg Inst.weight hclosed :).trans hweight,
    (congrArg Inst.quota hclosed :).trans hquota, (congrArg Inst.hshare hclosed :).trans hshare, hdeficit, hhdeficit,
    closeRound_answered hanswered, by rw [hrings, rings_of_unrung hunrung]⟩

/-- Settles O34: `boundary_eq` takes the boundary apart at the commands that wait, and each clause reads off what the part before
them (`Carries`), the commands (`Settles`) and the end (`closeRound`) leave. -/
theorem roundBoundary : Obligations.RoundBoundary := by
  unfold Obligations.RoundBoundary
  refine ⟨⟨fun s hup hsound => ⟨boundary s, exec_roundBoundary hup, boundary_always hsound.1⟩,
    fun s hup hops hkek harmed hquiet => ?_⟩, fun s q v hv => ?_, ⟨?_, ?_, ?_, ?_⟩, ?_⟩
  · obtain ⟨hround, hcore, hnow⟩ := boundary_beat harmed
    obtain ⟨hkept, hrings, htxn, hcel, hkeys, hgrants⟩ := boundary_quiet harmed hkek hquiet
    refine ⟨boundary s, ?_, hround, hcore, hnow, hrings, htxn, hcel, hkeys, hgrants, by rw [boundary_eq]; exact closeRound_eligible _⟩
    rw [exec_roundBoundary hup, redispatch_of_no_ops (hkept.trans hops)]
  · exact ⟨fun i w n h hw => applyWait_share hv hw, fun c hw hopen hstaged hop => applyWait_commit_share hv hw hopen hstaged hop,
      fun hw => applyWait_unlock hv hw, fun i n en ev g c hw hc => applyWait_counter hv hw hc,
      fun n hw hinv hn _ => applyWait_resume hv hw hinv hn⟩
  · exact fun s i => generationStep_steps s i
  · exact fun s i hup hsound hstep hq => ⟨boundary s, exec_roundBoundary hup, boundary_generation hsound.1 hstep hq⟩
  · intro s i ver seedId key seed hpending
    obtain ⟨htaken, hkeys, -⟩ := applyKek_taken hpending
    exact ⟨⟨htaken, by rw [hkeys]⟩, fun v hup _ hsound hv hw hquiet =>
      ⟨boundary s, exec_roundBoundary hup, boundary_kekSet hsound.1 hpending hv hw hquiet⟩⟩
  · exact fun s q n v hup hfw hinv hn hops hkek hsound hv hw hquiet =>
      ⟨boundary s, exec_roundBoundary hup, boundary_resume hsound.1 hfw hinv hn hops hkek hv hw hquiet⟩
  · intro s q i w n hs v hup hfw hops hkek harmed hv hw hquiet
    obtain ⟨hnone, hrest⟩ := boundary_share harmed hfw hops hkek hv hw hquiet
    exact ⟨boundary s, by rw [exec_roundBoundary hup, redispatch_of_no_ops hnone], hrest⟩

end Sys2Proof.Machine
end

section
/-!
PROOFS. The queue of the Hearth, in what follows a command (R427): no operation joins it there (`Unjoined`). First charges,
records, stops and ends; then the Larder, a flush and a lock.
-/

namespace Sys2Proof.Machine

open Sys2Proof

/-! ### The relation -/

/-- From `s` to `t` no operation has joined the queue of the Hearth. -/
def Unjoined (s t : State) : Prop := t.hearth.queue ⊆ s.hearth.queue

section
variable {s t u : State}

theorem Unjoined.refl (s : State) : Unjoined s s := List.Subset.refl _

theorem Unjoined.trans (h : Unjoined s t) (k : Unjoined t u) : Unjoined s u := List.Subset.trans k h

theorem Unjoined.same (h : t.hearth.queue = s.hearth.queue) : Unjoined s t := by rw [Unjoined, h]; exact List.Subset.refl _

theorem Unjoined.aside (h : t.aside = s.aside) : Unjoined s t := .same (congrArg (fun u : State => u.hearth.queue) h :)

/-- The last part first. -/
theorem Unjoined.since (k : Unjoined t u) (h : Unjoined s t) : Unjoined s u := h.trans k

/-- What comes after changes other tables. -/
theorem Unjoined.then (h : Unjoined s t) (k : u.hearth.queue = t.hearth.queue) : Unjoined s u := h.trans (.same k)

/-- What came before changed other tables. -/
theorem Unjoined.after (k : Unjoined t u) (h : t.hearth.queue = s.hearth.queue) : Unjoined s u := (Unjoined.same h).trans k

theorem Unjoined.foldl {α : Type} {f : State → α → State} (h : ∀ s x, Unjoined s (f s x)) (l : List α) (s : State) :
    Unjoined s (l.foldl f s) := by
  induction l generalizing s with
  | nil => exact .refl s
  | cons a l ih => exact (h s a).trans (ih _)

end

/-! ### Records -/

theorem unjoined_writeReq (n addr : Nat) (data : List Byte) (tag : Nat) (o : Owner) (s : State) :
    Unjoined s (writeReq n addr data tag o s) := .aside (writeReq_aside ..)

theorem unjoined_reply (q : Nat) (st : Status) (d : Nat) (body : List Byte) (s : State) : Unjoined s (reply q st d body s) :=
  .aside (reply_aside ..)

theorem unjoined_modRing (n : Nat) (f : Ring → Ring) (s : State) : Unjoined s (modRing n f s) :=
  .same (congrArg Hearth.queue (modRing_hearth n f s))

theorem unjoined_setPend (i typ ring : Nat) (s : State) : Unjoined s (setPend i typ ring s) := by
  unfold setPend
  split
  · exact unjoined_modRing ..
  · exact .same rfl

theorem unjoined_irqCheck (i : Nat) (s : State) : Unjoined s (irqCheck i s) := .aside (irqCheck_aside ..)

theorem unjoined_evWrite (i typ status ring index aux : Nat) (s : State) :
    Unjoined s (evWrite i typ status ring index aux s) := by
  unfold evWrite
  dsimp only
  split
  · exact unjoined_setPend ..
  · split
    · exact (unjoined_irqCheck ..).since ((unjoined_setPend ..).after rfl)
    · exact (unjoined_writeReq ..).after rfl

theorem unjoined_ringErrorRecord (n : Nat) (s : State) : Unjoined s (ringErrorRecord n s) := by
  unfold ringErrorRecord
  split
  · exact .refl s
  · exact (unjoined_evWrite ..).since (unjoined_modRing ..)

/-! ### Releases, stops, completions and ends -/

theorem unjoined_keepRecord (o : Op) (s : State) : Unjoined s (keepRecord o s) := by
  unfold keepRecord
  split
  · split
    · exact .same rfl
    · exact .refl s
  · exact .refl s

theorem unjoined_releaseOp (id : Nat) (s : State) : Unjoined s (releaseOp id s) := by
  have hleaves : ∀ u : State, Unjoined s u → Unjoined s { u with
      ops := u.ops.filter (fun o => o.id != id),
      hearth := { u.hearth with queue := u.hearth.queue.filter (fun q => q.2 != id) },
      scu := { u.scu with partQ := u.scu.partQ.filter (fun q => q != id) } } := fun u h =>
    h.trans (List.filter_subset_self ..)
  unfold releaseOp
  refine hleaves _ ?_
  split
  · next o _ =>
    have hskip : Unjoined s (o.sample.foldl (fun s (p : Nat × Nat) => skipSample p.1 s) s) :=
      .foldl (by exact fun s p => .same rfl) _ s
    dsimp only
    split
    · exact (hskip.trans (unjoined_keepRecord ..)).then rfl
    · exact (hskip.trans (unjoined_keepRecord ..)).then rfl
  · exact .refl s

theorem unjoined_releaseAll (f : Op → Bool) (s : State) : Unjoined s (releaseAll f s) :=
  .foldl (f := fun s (o : Op) => releaseOp o.id s) (fun s o => unjoined_releaseOp o.id s) _ s

theorem unjoined_stopAt (n : Nat) (e h : Idx) (st : Status) (now : Bool) (s : State) : Unjoined s (stopAt n e h st now s) := by
  unfold stopAt
  split
  · exact .refl s
  · split
    · exact .refl s
    · have hindex : ∀ u : State, Unjoined u (writeIndex n (dropSpecs n u)) := fun u => (Unjoined.aside (writeIndex_aside ..)).after rfl
      dsimp only
      split
      · exact (unjoined_ringErrorRecord ..).since ((hindex _).since ((unjoined_releaseAll ..).after rfl))
      · exact (hindex _).since ((unjoined_releaseAll ..).after rfl)

theorem unjoined_stopRing (n : Nat) (e : Idx) (st : Status) (now : Bool) (s : State) : Unjoined s (stopRing n e st now s) := by
  unfold stopRing
  split
  · exact .refl s
  · exact unjoined_stopAt ..

theorem unjoined_postOp (o : Op) (s : State) : Unjoined s (postOp o s) := by
  unfold postOp
  split
  · exact unjoined_releaseOp ..
  · exact (Unjoined.foldl (fun s e => unjoined_writeReq ..) _ _).after rfl

theorem unjoined_tryPost (n : Nat) (s : State) : Unjoined s (tryPost n s) :=
  .foldl (fun s _ => by
    split
    · exact .refl s
    · split
      · exact unjoined_postOp ..
      · exact .refl s) _ s

theorem unjoined_countOp (ev amt : Nat) (o : Op) (s : State) : Unjoined s (countOp ev amt o s) := .aside (countOp_aside ..)

theorem unjoined_endOp (id : Nat) (st : Status) (good : Nat) (s : State) : Unjoined s (endOp id st good s) := by
  unfold endOp
  split
  · exact .refl s
  · split
    · exact unjoined_releaseOp ..
    · have hscrub : ∀ (c : Bool) (o : Op) (u : State), Unjoined u (if c then zeroWrites o u else u)
        | true, o, u => .aside (zeroWrites_aside o u)
        | false, _, u => .refl u
      have hcount : ∀ (c : Bool) (o : Op) (u : State), Unjoined u (if c then countOp 0xF 1 o u else u)
        | true, o, u => unjoined_countOp 0xF 1 o u
        | false, _, u => .refl u
      have hstop : ∀ (c : Bool) (o : Op) (u : State), Unjoined u (if c then stopRing o.ring o.head.idx st false u else u)
        | true, o, u => unjoined_stopRing ..
        | false, _, u => .refl u
      have hleaves : ∀ u : State, u.hearth.queue = s.hearth.queue.filter (fun q => q.2 != id) → Unjoined s u := fun u h => by
        rw [Unjoined, h]
        exact List.filter_subset_self ..
      exact ((((hleaves _ rfl).trans (hscrub ..)).trans (hcount ..)).trans (hstop ..)).trans (unjoined_tryPost ..)

theorem unjoined_chargeTo (o : Op) (cost : Nat) (s : State) : Unjoined s (chargeTo o cost s) := by
  unfold chargeTo
  dsimp only
  split
  · exact (Unjoined.aside (chargeInst_aside ..)).then rfl
  · exact (Unjoined.aside (refundInst_aside ..)).then rfl

theorem unjoined_failUndispatched (o : Op) (st : Status) (s : State) : Unjoined s (failUndispatched o st s) := by
  unfold failUndispatched
  split
  · exact unjoined_endOp ..
  · exact (unjoined_chargeTo ..).trans (unjoined_endOp ..)

theorem unjoined_endRetire (x : Slot) (st : Status) (s : State) : Unjoined s (endRetire x st s) := by
  unfold endRetire
  split
  · exact unjoined_endOp ..
  · exact .refl s

/-! ### The path of an index -/

theorem unjoined_askNode (level n : Nat) (s : State) : Unjoined s (askNode level n s) := .aside (askNode_aside ..)

theorem unjoined_nodeRoom {level n : Nat} {s t : State} (h : nodeRoom level n s = some t) : Unjoined s t := by
  unfold nodeRoom at h
  split at h
  · cases h
    exact .refl s
  · split at h
    · split at h
      · cases h
      · cases h
        exact .same rfl
    · cases h

theorem unjoined_cacheNode (level n : Nat) (c : Ctrs) (s : State) : Unjoined s (cacheNode level n c s) := by
  unfold cacheNode
  split
  · exact .refl s
  · split
    · next hroom => exact (unjoined_nodeRoom hroom).then rfl
    · exact .refl s

theorem unjoined_ensurePath (i k : Nat) (s : State) : Unjoined s (ensurePath i k s).2 := by
  induction k generalizing s with
  | zero => exact .refl s
  | succ k ih =>
    unfold ensurePath
    dsimp only
    split
    · exact (ih _).after rfl
    · split
      · split
        · exact unjoined_cacheNode ..
        · exact (unjoined_cacheNode ..).trans (ih _)
      · dsimp only
        split
        · exact unjoined_askNode ..
        · exact .refl s

theorem unjoined_eccRead (code : Nat) (s : State) : Unjoined s (eccRead code s).2 := by
  unfold eccRead
  split
  · dsimp only
    split
    · exact .same rfl
    · exact .same rfl
  · split
    · split
      · exact .same rfl
      · exact .same rfl
    · exact .refl s

theorem unjoined_readPath (i k : Nat) (s : State) : Unjoined s (readPath i k s).2 := by
  induction k generalizing s with
  | zero => exact .refl s
  | succ k ih =>
    have hread := unjoined_eccRead 3 s
    unfold readPath
    generalize eccRead 3 s = r at hread ⊢
    obtain ⟨bad, u⟩ := r
    dsimp only
    split
    · exact hread.trans (ih _)
    · split
      · split
        · exact hread.then rfl
        · exact (unjoined_ensurePath ..).since (hread.then rfl)
      · exact hread

theorem unjoined_path (i : Nat) (s : State) : Unjoined s (path i s).2 := by
  have hensure := unjoined_ensurePath i 4 s
  unfold path
  generalize ensurePath i 4 s = r at hensure ⊢
  obtain ⟨ok, u⟩ := r
  dsimp only
  split
  · exact (unjoined_readPath ..).since hensure
  · exact hensure

/-! ### Counters of the tree -/

theorem unjoined_dropChildReads (level n : Nat) (s : State) : Unjoined s (dropChildReads level n s) := by
  unfold dropChildReads
  dsimp only
  split
  · exact .same rfl
  · exact .same rfl

theorem unjoined_raiseAt (level n c : Nat) (s : State) : Unjoined s (raiseAt level n c s).2 := by
  have hmark : ∀ u v : State, Unjoined s u → v.hearth = u.hearth → Unjoined s (markDirty v) := fun u v h k =>
    h.then (congrArg Hearth.queue k)
  unfold raiseAt
  split
  · refine hmark (if (s.cel.treeRoot.raise c).2 then dropChildReads 4 0 (holdRoot s.cel.treeRoot s) else s) _ ?_ rfl
    split
    · exact (unjoined_dropChildReads ..).after rfl
    · exact .refl s
  · split
    · exact .refl s
    · next y _ =>
      refine hmark (if (y.c.raise c).2 then dropChildReads level n s else s) _ ?_ rfl
      split
      · exact unjoined_dropChildReads ..
      · exact .refl s

theorem unjoined_progressTomb (index : Nat) (s : State) : Unjoined s (progressTomb index s) := by
  unfold progressTomb
  split
  · split
    · have hpath := unjoined_path index s
      generalize path index s = r at hpath ⊢
      obtain ⟨ok, u⟩ := r
      dsimp only
      split
      · have hraise := unjoined_raiseAt 0 (index / 64) (index % 64) u
        generalize raiseAt 0 (index / 64) (index % 64) u = r at hraise ⊢
        exact (unjoined_writeReq ..).since ((hpath.trans hraise).then rfl)
      · exact hpath
    · exact .refl s
  · exact .refl s

theorem unjoined_zeroiseRetired (x : Slot) (s : State) : Unjoined s (zeroiseRetired x s) := by
  unfold zeroiseRetired
  dsimp only
  split
  · exact (unjoined_endRetire ..).after rfl
  · exact (unjoined_progressTomb ..).after rfl

theorem unjoined_attachEnd (ok : Bool) (s : State) : Unjoined s (attachEnd ok s) := by
  unfold attachEnd
  dsimp only
  split
  · exact (unjoined_reply ..).after rfl
  · exact (unjoined_reply ..).after rfl

theorem unjoined_makeStale (s : State) : Unjoined s (makeStale s) := by
  have hattach : ∀ u : State, Unjoined u (if u.attaching then attachEnd false u else u) := fun u => by
    split
    · exact unjoined_attachEnd ..
    · exact .refl u
  unfold makeStale
  split
  · exact .refl s
  · have hparked : ∀ (l : List Op) (u : State), Unjoined u (l.foldl (fun s o => failUndispatched o .ctxNoLarder s) u) := fun l u =>
      .foldl (fun s o => unjoined_failUndispatched ..) l u
    have htombs : ∀ (l : List (Nat × Slot)) (u : State),
        Unjoined u (l.foldl (fun s p => endRetire p.2 .ok (freeIndex p.2.index s)) u) := fun l u =>
      .foldl (f := fun s (p : Nat × Slot) => endRetire p.2 .ok (freeIndex p.2.index s)) (fun s p =>
        (unjoined_endRetire ..).after rfl) l u
    exact (hparked ..).since ((hattach _).since ((htombs ..).after rfl))

theorem unjoined_retired (l : List (Nat × Slot)) (s : State) : Unjoined s (l.foldl (fun s p => zeroiseRetired p.2 s) s) :=
  .foldl (f := fun s (p : Nat × Slot) => zeroiseRetired p.2 s) (fun s p => unjoined_zeroiseRetired p.2 s) l s

theorem unjoined_dirProgress (s : State) : Unjoined s (dirProgress s) := by
  unfold dirProgress
  split
  · exact ((unjoined_makeStale _).since (unjoined_retired ..)).then rfl
  · exact .refl s

/-! ### A flush -/

theorem unjoined_askParents (s : State) : Unjoined s (askParents s) :=
  .foldl (fun s x => by
    split
    · exact unjoined_askNode ..
    · exact .refl s) _ s

theorem unjoined_writeNode (o : Owner) (x : Node) (s : State) : Unjoined s (writeNode o x s) := by
  have hraise := unjoined_raiseAt (x.level + 1) (x.n / 64) (childOf x.level x.n) s
  unfold writeNode
  generalize raiseAt (x.level + 1) (x.n / 64) (childOf x.level x.n) s = r at hraise ⊢
  exact (unjoined_writeReq ..).since (hraise.then rfl)

theorem unjoined_flushLevel (k : Nat) (s : State) : Unjoined s (flushLevel k s) :=
  .foldl (f := fun s (x : Node) => modNode x.level x.n (fun z => { z with wbOut := true })
    (writeNode (.flushNode x.level x.n) x s)) (fun s x => (unjoined_writeNode (.flushNode x.level x.n) x s).then rfl) _ s

theorem unjoined_flushSlot (x : Slot) (s : State) : Unjoined s (flushSlot x s) := by
  have hraise := unjoined_raiseAt 0 (x.index / 64) (x.index % 64) s
  unfold flushSlot
  generalize raiseAt 0 (x.index / 64) (x.index % 64) s = r at hraise ⊢
  exact (unjoined_writeReq ..).since (hraise.then rfl)

theorem unjoined_readSlotWord (index : Nat) {k : State → State} (hk : ∀ s, Unjoined s (k s)) (s : State) :
    Unjoined s (readSlotWord index k s) := by
  have hread := unjoined_eccRead 1 s
  unfold readSlotWord
  generalize eccRead 1 s = r at hread ⊢
  obtain ⟨bad, u⟩ := r
  dsimp only
  split
  · exact hread.then rfl
  · exact hread.trans (hk u)

/-- The paths of the slots are fetched one after another. -/
theorem unjoined_paths (l : List (Nat × Slot)) (b : Bool) (s : State) :
    Unjoined s (l.foldl (fun (a : Bool × State) p => let (b, s) := path p.2.index a.2; (a.1 && b, s)) (b, s)).2 := by
  induction l generalizing b s with
  | nil => exact .refl s
  | cons p l ih => exact (unjoined_path ..).trans (ih _ _)

theorem unjoined_flushStep (s : State) : Unjoined s (flushStep s) := by
  have hslots : ∀ (l : List (Nat × Slot)) (u : State),
      Unjoined u (l.foldl (fun s p => readSlotWord p.2.index (flushSlot p.2) s) u) := fun l u =>
    .foldl (f := fun s (p : Nat × Slot) => readSlotWord p.2.index (flushSlot p.2) s) (fun s p =>
      unjoined_readSlotWord _ (unjoined_flushSlot p.2) s) l u
  have hlevels : ∀ (l : List (Nat × Slot)) (u : State), Unjoined u (flushLevel 3 (flushLevel 2 (flushLevel 1 (flushLevel 0
      (l.foldl (fun s p => readSlotWord p.2.index (flushSlot p.2) s) u))))) := fun l u =>
    (unjoined_flushLevel ..).since ((unjoined_flushLevel ..).since ((unjoined_flushLevel ..).since ((unjoined_flushLevel ..).since
      (hslots l u))))
  unfold flushStep
  split
  · exact .refl s
  split
  · exact .same rfl
  split
  · exact .same rfl
  split
  · exact unjoined_askParents s
  split
  · exact unjoined_retired ..
  split
  · exact .foldl (f := fun s (p : Nat × Slot) => progressTomb p.2.index s) (fun s p => unjoined_progressTomb p.2.index s) _ s
  have hpaths := unjoined_paths (s.pan.slots.filter (fun p => p.2.dirty && p.2.state == .live)) true s
  dsimp only
  generalize (s.pan.slots.filter (fun p => p.2.dirty && p.2.state == .live)).foldl _ (true, s) = r at hpaths ⊢
  obtain ⟨ok, u⟩ := r
  dsimp only at hpaths ⊢
  split
  · exact hpaths
  have hdone := hpaths.trans (hlevels (s.pan.slots.filter (fun p => p.2.dirty && p.2.state == .live)) u)
  split
  · exact hdone
  · exact hdone.then rfl

theorem unjoined_startFlush (w : FlushFor) (s : State) : Unjoined s (startFlush w s) := by
  unfold startFlush
  split
  · exact .same rfl
  · exact (unjoined_flushStep ..).after rfl

/-! ### Keys lost, a lock, engines -/

theorem unjoined_keyProgress (s : State) : Unjoined s (keyProgress s) := by
  unfold keyProgress
  split
  · exact (unjoined_startFlush ..).after rfl
  · split
    · exact .same rfl
    · exact .refl s

theorem unjoined_loadProgress (s : State) : Unjoined s (loadProgress s) := .same rfl

theorem unjoined_releaseProgress (s : State) : Unjoined s (releaseProgress s) := .same rfl

theorem unjoined_lockProgress (s : State) : Unjoined s (lockProgress s) := by
  unfold lockProgress
  split
  · exact .refl s
  · exact .refl s
  · split
    · split
      · exact .same rfl
      · exact (unjoined_startFlush ..).after rfl
    · exact .refl s
  · split
    · exact .refl s
    · exact .same rfl

end Sys2Proof.Machine
end

section
/-!
PROOFS. The queue of the Hearth in the settling of rings and instances, in power entries and soft resets, and in all that
follows a command (`finish_unjoined`).
-/

namespace Sys2Proof.Machine

open Sys2Proof

/-! ### Rings and instances -/

theorem unjoined_quietRing (n : Nat) (s : State) : Unjoined s (quietRing n s) := (unjoined_modRing ..).then rfl

theorem unjoined_orphanErrorRecord (n : Nat) (s : State) : Unjoined s (orphanErrorRecord n s) := by
  unfold orphanErrorRecord
  split
  · exact .refl s
  · split
    · exact unjoined_ringErrorRecord ..
    · exact .refl s

theorem unjoined_drainRing (n : Nat) (st : RingState) (s : State) : Unjoined s (drainRing n st s) := by
  unfold drainRing
  split
  · exact .refl s
  · next r _ =>
    have hflag : Unjoined s (if r.held.isSome then dbFlag r.owner n (fun d => { d with stale := true }) s else s) := by
      split
      · exact .same rfl
      · exact .refl s
    exact (unjoined_tryPost ..).since ((unjoined_orphanErrorRecord ..).since ((unjoined_releaseAll ..).since
      ((unjoined_quietRing ..).since ((unjoined_modRing ..).since hflag))))

theorem unjoined_settleRing (n : Nat) (s : State) : Unjoined s (settleRing n s) := by
  have hrestart : ∀ u : State, Unjoined u (match tget n u.rings with
      | some r => evWrite r.owner 3 0 n r.consumed.toNat r.stops (writeIndex n u)
      | none => u) := fun u => by
    split
    · exact (unjoined_evWrite ..).since (.aside (writeIndex_aside ..))
    · exact .refl u
  unfold settleRing
  split
  · exact .refl s
  · split
    · exact .refl s
    · dsimp only
      split
      · exact (hrestart _).since (unjoined_modRing ..)
      · exact (hrestart _).since (unjoined_modRing ..)
      · exact .same rfl
      · exact .refl s

theorem unjoined_quietRings (l : List Nat) (s : State) : Unjoined s (l.foldl (fun s n => quietRing n s) s) :=
  .foldl (fun s n => unjoined_quietRing n s) l s

theorem unjoined_dropRings (i : Nat) (s : State) : Unjoined s (dropRings i s) := (unjoined_quietRings ..).then rfl

theorem unjoined_makeOld (o : Op) (s : State) : Unjoined s (makeOld o s) := by
  unfold makeOld
  dsimp only
  split
  · exact .same rfl
  · exact (unjoined_releaseOp ..).since (.same rfl)

theorem unjoined_generationStep (i : Nat) (s : State) : Unjoined s (generationStep i s) := by
  have hold : ∀ (l : List Op) (u : State), Unjoined u (l.foldl (fun s o => makeOld o s) u) := fun l u =>
    .foldl (fun s o => unjoined_makeOld o s) l u
  have htagged : ∀ u : State, Unjoined u (freeRecords (dropTagged i u)) := fun u => .same rfl
  unfold generationStep
  exact (htagged _).since ((hold ..).since ((unjoined_quietRings ..).after rfl))

theorem unjoined_retireResident (i : Nat) (s : State) : Unjoined s (retireResident i s) := by
  have hend : ∀ (r : Option Nat) (good : Nat) (u : State), Unjoined u (match r with
      | some id => endOp id .ok good u
      | none => u)
    | some id, good, u => unjoined_endOp id .ok good u
    | none, _, u => .refl u
  have hwake : ∀ (n : Nat) (u : State), Unjoined u (wakeIndex n u) := fun _ _ => .same rfl
  refine .foldl (fun s p => ?_) _ s
  dsimp only
  split
  · exact (hwake ..).since ((hend p.2.retireOp (if p.2.zeroed then p.2.final else p.2.f104) _).after rfl)
  · exact .same rfl

theorem unjoined_endDestroy (i : Nat) (s : State) : Unjoined s (endDestroy i s) := by
  have hdoor : ∀ u : State, Unjoined u (dropDoorWork i u) := fun u => .same rfl
  unfold endDestroy
  exact (hdoor _).since ((unjoined_retireResident ..).since ((unjoined_dropRings i s).then rfl))

theorem unjoined_settleDestroy (i : Nat) (s : State) : Unjoined s (settleDestroy i s) := by
  unfold settleDestroy
  split
  · dsimp only
    split
    · exact (unjoined_endDestroy i s).then rfl
    · exact unjoined_endDestroy i s
  · exact .refl s

theorem unjoined_endReset (i : Nat) (s : State) : Unjoined s (endReset i s) := (unjoined_dropRings i s).then rfl

/-! ### Commands of a transaction -/

theorem unjoined_takeWrap (i n : Nat) (s : State) : Unjoined s (takeWrap i n s) := by
  unfold takeWrap
  split
  · exact .refl s
  · dsimp only
    split
    · split
      · exact (unjoined_evWrite ..).after rfl
      · exact .same rfl
    · exact .same rfl

theorem unjoined_applyStaged (c : Staged) (s : State) : Unjoined s (applyStaged c s) := by
  unfold applyStaged
  dsimp only
  split
  · exact .same rfl
  split
  · exact (unjoined_settleDestroy ..).since ((unjoined_generationStep ..).after rfl)
  split
  · exact .same rfl
  split
  · exact .same rfl
  split
  · exact (unjoined_settleRing ..).since (unjoined_drainRing ..)
  split
  · exact (unjoined_takeWrap ..).then rfl
  · exact .refl s

theorem unjoined_applyInOrder (l : List Staged) (s : State) : Unjoined s (applyInOrder l s) := by
  induction l generalizing s with
  | nil => exact .refl s
  | cons c l ih =>
    unfold applyInOrder
    split
    · exact .same rfl
    · exact (unjoined_applyStaged c s).trans (ih _)

theorem unjoined_applyLater (s : State) : Unjoined s (applyLater s) := by
  unfold applyLater
  split
  · exact .refl s
  · exact (unjoined_applyInOrder ..).after rfl

/-! ### Commands that end -/

theorem unjoined_waitEnd {w : Wait} {s t : State} {st : Status} {body : List Byte} (h : waitEnd w s = some (st, body, t)) :
    Unjoined s t := by
  unfold waitEnd at h
  dsimp only at h
  split at h
  · split at h
    · cases h; exact .refl s
    · cases h
  · split at h
    · cases h; exact unjoined_endReset ..
    · cases h
  · split at h
    · cases h; exact .refl s
    · split at h
      · cases h; exact unjoined_settleDestroy ..
      · cases h
  · split at h
    · cases h; exact .refl s
    · split at h
      · cases h
      · cases h; exact .refl s
  · split at h
    · cases h
    · cases h; exact .refl s
  · cases h

theorem unjoined_settleServing (q : Nat) (s : State) : Unjoined s (settleServing q s) := by
  unfold settleServing
  split
  · split
    · exact .refl s
    · split
      · next hend => exact (unjoined_reply ..).since (unjoined_waitEnd hend)
      · exact .refl s
  · exact .refl s

theorem unjoined_settleLate (s : State) : Unjoined s (settleLate s) :=
  .foldl (fun s l => by
    split
    · next hend =>
      split at hend
      · exact (unjoined_evWrite ..).since ((unjoined_waitEnd hend).then rfl)
      · cases hend
    · exact .refl s) _ s

theorem unjoined_settleQuiesce (i : Nat) (s : State) : Unjoined s (settleQuiesce i s) := by
  unfold settleQuiesce
  dsimp only
  split
  · exact .same rfl
  · exact .refl s

theorem unjoined_settleKek (i : Nat) (s : State) : Unjoined s (settleKek i s) := by
  unfold settleKek
  dsimp only
  split
  · exact .same rfl
  · exact .refl s

theorem unjoined_studyFetch (s : State) : Unjoined s (studyFetch s) := by
  unfold studyFetch
  split
  · exact .refl s
  · split
    · exact .refl s
    · exact (Unjoined.aside (readReq_aside ..)).after rfl

theorem unjoined_settle (s : State) : Unjoined s (settle s) := by
  have hrings : ∀ (l : List Nat) (u : State), Unjoined u (l.foldl (fun s n => settleRing n s) u) := fun l u =>
    .foldl (fun s n => unjoined_settleRing n s) l u
  have hkeys : ∀ (l : List Nat) (u : State), Unjoined u (l.foldl (fun s i => settleKek i (settleQuiesce i s)) u) := fun l u =>
    .foldl (fun s i => (unjoined_settleQuiesce i s).trans (unjoined_settleKek i _)) l u
  have hserve : ∀ (l : List Nat) (u : State), Unjoined u (l.foldl (fun s q => settleServing q s) u) := fun l u =>
    .foldl (fun s q => unjoined_settleServing q s) l u
  have hdestroy : ∀ (l : List Nat) (u : State), Unjoined u (l.foldl (fun s i => settleDestroy i s) u) := fun l u =>
    .foldl (fun s i => unjoined_settleDestroy i s) l u
  exact (unjoined_studyFetch _).since ((unjoined_applyLater _).since ((hdestroy ..).since ((unjoined_settleLate _).since
    ((hserve ..).since ((hkeys ..).since (hrings ..))))))

theorem unjoined_issueSamples (s : State) : Unjoined s (issueSamples s) := by
  refine Unjoined.after (.foldl (fun s q => ?_) _ _) rfl
  dsimp only
  split
  · exact (unjoined_writeReq ..).after rfl
  · exact .same rfl

/-! ### Packets given up -/

theorem unjoined_undoAttach (w : Wait) (s : State) : Unjoined s (undoAttach w s) := by
  unfold undoAttach
  split
  · exact .same rfl
  · exact .refl s

theorem unjoined_keyinDone (q : Nat) (p : List Byte) (s : State) : Unjoined s (keyinDone q p s) := by
  unfold keyinDone
  split
  · exact .same rfl
  · exact .refl s

theorem unjoined_answerTaken (st : Status) (keep : Nat → List Byte → Wait → Bool) (s : State) :
    Unjoined s (answerTaken st keep s) := by
  have hdrop : ∀ (q : Nat) (u : State), Unjoined u (match (u.inst q).cq.arrived with
      | some p => if keep q p .none then u else takeArrivedPacket q p u
      | none => u) := fun q u => by
    split
    · split
      · exact .refl u
      · exact .aside (takeArrivedPacket_aside ..)
    · exact .refl u
  have hanswer : ∀ (q : Nat) (u : State), Unjoined u (match (u.inst q).cq.serving with
      | some v => if v.reply.isSome || keep q v.pkt v.wait then u else reply q st 0 [] (undoAttach v.wait (keyinDone q v.pkt u))
      | none => u) := fun q u => by
    split
    · split
      · exact .refl u
      · exact (unjoined_reply ..).since ((unjoined_undoAttach ..).since (unjoined_keyinDone ..))
    · exact .refl u
  exact .foldl (fun s q => (hanswer q _).since (hdrop q s)) _ s

theorem unjoined_drainLate (q : Nat) (s : State) : Unjoined s (drainLate q s) := by
  unfold drainLate
  split
  · split
    · exact (unjoined_reply ..).after rfl
    · exact .refl s
  · exact .refl s

theorem unjoined_dropStage (st : Status) (s : State) : Unjoined s (dropStage st s) := by
  unfold dropStage
  split
  · exact .refl s
  · dsimp only
    split
    · exact .same rfl
    · exact .same rfl

theorem unjoined_answerDrains (s : State) : Unjoined s (answerDrains s) := by
  have hlate : ∀ (l : List Nat) (u : State), Unjoined u (l.foldl (fun s q => drainLate q s) u) := fun l u =>
    .foldl (fun s q => unjoined_drainLate q s) l u
  exact (unjoined_answerTaken ..).since ((hlate ..).since (unjoined_dropStage ..))

theorem unjoined_lowerCmdRdy (s : State) : Unjoined s (lowerCmdRdy s) := by
  have hdrop : ∀ (l : List Nat) (u : State), Unjoined u (l.foldl (fun s q => dropPacketRead q s) u) := fun l u =>
    .foldl (by exact fun s q => .same rfl) l u
  have hhold : Unjoined s (if s.study.cmdRdy then holdRegs s else s) := by
    split
    · exact .same rfl
    · exact .refl s
  exact ((hdrop ..).since hhold).then rfl

/-! ### Power entries and soft resets -/

theorem unjoined_mainOff (retain : Bool) (s : State) : Unjoined s (mainOff retain s) := by
  unfold mainOff
  cases retain
  · exact .same rfl
  · exact .same rfl

theorem unjoined_powerProgress (s : State) : Unjoined s (powerProgress s) := by
  unfold powerProgress
  split
  · exact .refl s
  · split
    · split
      · exact .refl s
      split
      · exact .same rfl
      split
      · exact .same rfl
      · exact .same rfl
    · split
      · split
        · exact .refl s
        · exact (unjoined_startFlush ..).since (((unjoined_lowerCmdRdy _).since (unjoined_answerDrains s)).then rfl)
      · exact .refl s
    · split
      · split
        · exact unjoined_mainOff ..
        · exact .refl s
      · exact .same rfl
      · exact .refl s
    · exact .refl s

theorem unjoined_abandonOps (s : State) : Unjoined s (abandonOps s) := by
  have hold : ∀ (l : List Op) (u : State), Unjoined u (l.foldl (fun s o => makeOld o s) u) := fun l u =>
    .foldl (fun s o => unjoined_makeOld o s) l u
  have hdrop : ∀ (l : List Nat) (u : State), Unjoined u (l.foldl (fun s i => dropTagged i s) u) := fun l u =>
    .foldl (by exact fun s i => .same rfl) l u
  exact (hdrop ..).since (hold ..)

theorem unjoined_softEnd (s : State) : Unjoined s (softEnd s) := List.nil_subset _

theorem unjoined_softFlush (s : State) : Unjoined s (softFlush s) := by
  unfold softFlush
  split
  · exact .refl s
  · exact (unjoined_startFlush ..).since ((unjoined_releaseAll _ s).then rfl)

theorem unjoined_softProgress (s : State) : Unjoined s (softProgress s) := by
  unfold softProgress
  split
  · split
    · exact ((unjoined_lowerCmdRdy _).since (unjoined_answerDrains s)).then rfl
    · exact .refl s
  · split
    · exact unjoined_softFlush s
    · split
      · exact (unjoined_abandonOps s).then rfl
      · exact .refl s
  · split
    · exact unjoined_softFlush s
    · exact .refl s
  · split
    · exact unjoined_softEnd s
    · exact .refl s
  · exact .refl s

/-! ### What follows a command -/

theorem unjoined_finish (s : State) : Unjoined s (finish s) := by
  have hfirst : Unjoined s (issueSamples (settle s)) := (unjoined_issueSamples _).since (unjoined_settle s)
  have hthen : ∀ u : State, Unjoined u (powerProgress (softProgress (softProgress (lockProgress (keyProgress (dirProgress
      (flushStep (loadProgress (releaseProgress u))))))))) := fun u =>
    (unjoined_powerProgress _).since ((unjoined_softProgress _).since ((unjoined_softProgress _).since ((unjoined_lockProgress _).since
      ((unjoined_keyProgress _).since ((unjoined_dirProgress _).since ((unjoined_flushStep _).since ((unjoined_loadProgress _).since
        (unjoined_releaseProgress u))))))))
  have hlast : ∀ u : State, Unjoined u (settle (softProgress (powerProgress u))) := fun u =>
    (unjoined_settle _).since ((unjoined_softProgress _).since (unjoined_powerProgress u))
  unfold finish
  dsimp only
  split
  · split
    · exact (hlast _).since ((hthen _).since hfirst)
    · exact (hthen _).since hfirst
  · exact hfirst

end Sys2Proof.Machine
end

section
/-!
PROOFS. The obligation on replies, drains and aborts (O10): a HEARTH_ABORT of an operation that waits for the Hearth although
its completion has been issued.
-/

namespace Sys2Proof.Machine

open Sys2Proof

/-- A POSTED HEARTH_ABORT of every operation of ring 8. -/
def abortPacket : List Byte :=
  padTo 256 (leBytes 2 0x70 ++ leBytes 2 0x0100 ++ leBytes 4 7 ++ leBytes 4 8 ++ leBytes 4 0 ++ leBytes 2 0 ++ [1, 0] ++
    leBytes 12 0 ++ leBytes 4 8 ++ leBytes 4 0xFFFFFFFF)

/-- A Hearth operation of ring 8 that waits in the Hearth queue, with its completion already issued. -/
def postedInHearth : Op :=
  { newOp 7 1 8 0 0 0 with
    entries := [⟨0, ⟨0x30, 0, 0, 0, 0, 0, 0, 0⟩, SegList.none, SegList.none⟩], phase := .hearth, ran := true, posted := true,
    status := .ok }

/-- A block that serves packets, with that operation and the HEARTH_ABORT. -/
def abortsPosted : State :=
  modCq 0 (fun c => { c with enable := true, tail := 1, arrived := some abortPacket })
    { State.reset with
      study := { State.reset.study with cmdRdy := true },
      cel := { State.reset.cel with locked := false },
      insts := tset 1 { Inst.absent with state := .active } State.reset.insts,
      rings := [(8, { newRing [] with owner := 1, state := .error })],
      ops := [postedInHearth], nextOp := 8, hearth := { State.reset.hearth with queue := [(1, 7)] } }

/-- What is left of the Hearth queue. -/
def queueAfter : Host.Outcome State Fault Refusal → List (Nat × Nat)
  | .next t => t.hearth.queue
  | _ => []

theorem abortsPosted_taken : Taken 0 0x70 abortPacket abortsPosted :=
  ⟨rfl, rfl, by decide +kernel, by decide +kernel, by decide +kernel⟩

theorem abortsPosted_queue : queueAfter (exec (.hearthAbort 0) abortsPosted) = [(1, 7)] := by decide +kernel

theorem abortsPosted_aborts : abortsPosted.ops.filter (fun o => o.ring == par 0 2 abortPacket && abortable abortsPosted o &&
    (par 4 4 abortPacket == 0xFFFFFFFF || o.head.idx.toNat == par 4 4 abortPacket)) = [postedInHearth] := by decide +kernel

theorem abortsPosted_ring : (tget (par 0 2 abortPacket) abortsPosted.rings).isSome = true := by decide +kernel

theorem abortsPosted_current : Current postedInHearth abortsPosted :=
  ⟨by decide +kernel, fun _ hp _ => List.mem_singleton.1 hp, rfl, by decide +kernel⟩

theorem abortsPosted_engines : ∀ e ∈ abortsPosted.hearth.engines, e.op ≠ some postedInHearth.id := by decide +kernel

/-- Refutes O10: the statement is about every state. An operation that waits for the Hearth with its completion already issued
(no step of the model leads there) is abortable, and its abort only stops its ring: the operation stays in the Hearth queue. -/
theorem not_repliesEnd : ¬ Obligations.RepliesEnd := by
  intro h
  obtain ⟨-, -, habort⟩ := h
  obtain ⟨r, hring⟩ := Option.isSome_iff_exists.1 abortsPosted_ring
  obtain ⟨t, hexec, -, -, hends, -⟩ := habort abortsPosted 0 abortPacket r abortsPosted_taken hring
  rw [abortsPosted_aborts] at hends
  obtain ⟨-, hgone⟩ := hends postedInHearth (List.mem_singleton.2 rfl) abortsPosted_current (by decide) rfl rfl abortsPosted_engines
  have hqueue : (finish t).hearth.queue = [(1, 7)] := (congrArg queueAfter hexec).symm.trans abortsPosted_queue
  have hleft : (1, 7) ∈ t.hearth.queue := unjoined_finish t (by rw [hqueue]; exact List.mem_singleton.2 rfl)
  exact hgone _ hleft rfl

end Sys2Proof.Machine
end

section
/-!
PROOFS. Commands that wait for the round boundary (O6): SHARE_SET, COUNTER_CONFIG and MOVER_RESUME.
-/

namespace Sys2Proof.Machine

open Sys2Proof

/-- An immediate command that only begins to wait does so with its packet in service (R37). -/
theorem stageOrRun_waits {q : Nat} {p : List Byte} {s : State} (w : Wait) (h : Immediate q p s) :
    Waiting q w (inService q p s) (stageOrRun q p (fun _ s => waitFor q w s) (inService q p s)) := by
  rw [stageOrRun_immediate _ h]
  exact waitFor_waiting w (inService_serving q p s)

/-- The three courses of a MOVER_RESUME of a port that exists (R477). -/
theorem resumeMover_port {q : Nat} {p : List Byte} (s : State) (h : par 0 1 p ≤ 7) : resumeMover q p s =
    if (s.port (par 0 1 p)).halted = false then reply q .moverNotHalted 0 [] s
    else if (s.port (par 0 1 p)).drained = false then reply q .moverDraining 0 [] s
    else waitFor q (.resume (par 0 1 p)) s := by
  simp [resumeMover, Nat.not_lt.2 h]

/-- A MOVER_RESUME that passes Table 2-6 is judged by the port as it is. -/
theorem exec_moverResume {q : Nat} {p : List Byte} {s : State} (h : Taken q 0x60 p s) (hport : par 0 1 p ≤ 7) :
    exec (.moverResume q) s = .next (finish (
      if (s.port (par 0 1 p)).halted = false then reply q .moverNotHalted 0 [] (inService q p s)
      else if (s.port (par 0 1 p)).drained = false then reply q .moverDraining 0 [] (inService q p s)
      else waitFor q (.resume (par 0 1 p)) (inService q p s))) := by
  rw [← inService_port q p s, ← resumeMover_port _ hport]
  exact congrArg Host.Outcome.next (command_taken _ h)

/-- Settles O6: immediate commands wait by `stageOrRun_waits`, and a MOVER_RESUME takes its course by `exec_moverResume`. -/
theorem boundaryCommandsWait : Obligations.BoundaryCommandsWait := by
  refine ⟨⟨fun s q p h himm => ?_, fun s q p h himm => ?_, fun s q p h hport hhalted hdrained => ?_⟩,
    fun s q p h hport => ⟨fun hrunning => ?_, fun hhalted hbusy => ?_⟩⟩
  · exact ⟨_, congrArg Host.Outcome.next (command_taken _ h), stageOrRun_waits _ himm⟩
  · exact ⟨_, congrArg Host.Outcome.next (command_taken _ h), stageOrRun_waits _ himm⟩
  · refine ⟨_, exec_moverResume h hport, ?_⟩
    rw [if_neg (by simp [hhalted]), if_neg (by simp [hdrained])]
    exact waitFor_waiting _ (inService_serving q p s)
  · refine ⟨_, exec_moverResume h hport, ?_⟩
    rw [if_pos hrunning]
    exact reply_replied _ _ _ (inService_serving q p s)
  · refine ⟨_, exec_moverResume h hport, ?_⟩
    rw [if_neg (by simp [hhalted]), if_pos hbusy]
    exact reply_replied _ _ _ (inService_serving q p s)

end Sys2Proof.Machine
end

section
/-!
PROOFS. INST_CREATE outside a transaction (O3).
-/

namespace Sys2Proof.Machine

open Sys2Proof

/-! ### The instance that a packet names -/

theorem isSome_foldl {α β : Type} {f : Option β → α → Option β} (hf : ∀ m x, (f m x).isSome = true) {l : List α}
    (h : l ≠ []) (m : Option β) : (l.foldl f m).isSome = true := by
  rw [← List.dropLast_append_getLast h, List.foldl_append]
  exact hf _ _

/-- A packet of an instance command for instance 0 fails step 8 of Table 2-6 (R79). -/
theorem paramFault_manager {s : State} {i : CmdInfo} {op : Nat} {p : List Byte} (hat : i.instAt = some 0) (hop : 0x10 ≤ op)
    (hop' : op ≤ 0x13) (hzero : par 0 2 p = 0) : (paramFault s i op p).isSome = true := by
  unfold paramFault
  dsimp only
  refine isSome_foldl (fun m x => ?_) ?_ _
  · cases m <;> rfl
  · simp [hat, hop, hop', hzero]

/-- What a packet that passes Table 2-6 has passed: guests send no command that is not open to them, and no field is out of
range (steps 4 and 8). -/
theorem packetFault_none {s : State} {q : Nat} {p : List Byte} {i : CmdInfo} (h : packetFault s q p = none)
    (hinfo : cmdInfo (pkOpcode p) = some i) : (q ≠ 0 → i.guest = true) ∧ paramFault s i (pkOpcode p) p = none := by
  simp only [packetFault, hinfo] at h
  split at h
  · cases h
  split at h
  · cases h
  split at h
  · cases h
  next hguest =>
  refine ⟨fun hq => ?_, ?_⟩
  · by_contra hclosed
    exact hguest (by simp [hq, hclosed])
  · cases hparam : paramFault s i (pkOpcode p) p with
    | none => rfl
    | some d =>
      simp only [hparam] at h
      repeat' split at h
      all_goals cases h

/-- An INST_CREATE that passes Table 2-6 comes from the manager and names a guest (R54, R79). -/
theorem Taken.creates {q : Nat} {p : List Byte} {s : State} (h : Taken q 0x10 p s) : q = 0 ∧ par 0 2 p ≠ 0 := by
  obtain ⟨-, -, -, hop, hfault⟩ := h
  obtain ⟨hguest, hparam⟩ := packetFault_none hfault (by rw [hop]; rfl)
  refine ⟨?_, fun hzero => ?_⟩
  · by_contra hq
    cases hguest hq
  · have hsome := paramFault_manager (s := s) (op := pkOpcode p) (i := ⟨24, false, true, [(20, 4)], some 0, none⟩) rfl
      (by rw [hop]) (by rw [hop]; decide) hzero
    rw [hparam] at hsome
    cases hsome

/-! ### The new instance -/

/-- An ACTIVE instance with the parameters of an INST_CREATE and a cold page, of the generation of the record before
(Table 3-3, R80, R99). -/
def Inst.created (p : List Byte) (x : Inst) : Inst :=
  { Inst.absent with
    gen := x.gen, state := .active, hshare := par 2 2 p, weight := par 4 2 p, ringQuota := par 6 2 p, quota := par 8 4 p,
    ctxBase := par 12 4 p, ctxLimit := par 16 4 p }

theorem applyStaged_create {p : List Byte} {r : Nat} (hop : pkOpcode p = 0x10) (s : State) :
    applyStaged ⟨p, r⟩ s = coldPage (par 0 2 p) (modInst (par 0 2 p) (Inst.created p) s) := by
  simp only [applyStaged, hop]
  rfl

theorem inst_create (p : List Byte) (i j : Nat) (s : State) :
    (coldPage i (modInst i (Inst.created p) s)).inst j = if j = i then (s.inst i).created p else s.inst j := by
  rw [inst_coldPage, inst_modInst, inst_modInst, if_pos rfl]
  split <;> rfl

theorem Inst.eq_of_parts {x y : Inst} (hbody : x.body = y.body) (hcq : x.cq = y.cq) (hcounters : x.counters = y.counters) :
    x = y := by
  have hparts : ∀ z : Inst, z = { z.body with cq := z.cq, counters := z.counters } := fun _ => rfl
  rw [hparts x, hparts y, hbody, hcq, hcounters]

/-- Settles O3: the instance that INST_CREATE makes is read off `inst_create`, and the reply to the manager leaves it. -/
theorem instanceCreated : Obligations.InstanceCreated := by
  intro s q p h himm
  obtain ⟨rfl, hi⟩ := h.creates
  refine ⟨_, congrArg Host.Outcome.next (command_taken _ h), ?_⟩
  rw [stageOrRun_immediate _ himm, applyStaged_create h.opcode]
  have hinst : ∀ j, (coldPage (par 0 2 p) (modInst (par 0 2 p) (Inst.created p) (inService 0 p s))).inst j =
      if j = par 0 2 p then (s.inst (par 0 2 p)).created p else (inService 0 p s).inst j := fun j => by
    rw [inst_create, inService_inst 0 p s _ hi]
  have hmanager := (hinst 0).trans (if_neg (Ne.symm hi))
  have hserving := (congrArg (fun x : Inst => x.cq.serving) hmanager).trans (inService_serving 0 p s)
  obtain ⟨hsame, -⟩ := reply_replied .ok 0 [] hserving
  have ⟨hstill, _, hbody, hcq, hcounters⟩ := hsame
  refine ⟨?_, fun j hj => ?_, ?_, ?_, ?_, reply_answered .ok 0 [] hserving⟩
  · exact (Inst.eq_of_parts (hbody _) (hcq _ hi) (hcounters _ hi)).trans ((hinst _).trans (if_pos rfl))
  · rw [hbody j, hinst j, if_neg hj, inService_body]
  · exact hsame.rings.trans (inService_rings 0 p s)
  · exact hsame.ops.trans (inService_ops 0 p s)
  · rw [hstill, coldPage_still, modInst_still, inService_still]

end Sys2Proof.Machine
end

section
/-!
PROOFS. The drains that INST_QUIESCE, INST_DESTROY and INST_RESET start (O4).
-/

namespace Sys2Proof.Machine

open Sys2Proof

/-! ### The block with a packet in service -/

theorem inService_state (q : Nat) (p : List Byte) (s : State) (i : Nat) :
    ((inService q p s).inst i).state = (s.inst i).state := (congrArg Inst.state (inService_body q p s i) :)

theorem inService_served (q : Nat) (p : List Byte) (s : State) (i : Nat) :
    ((inService q p s).inst i).served = (s.inst i).served := by
  rw [Inst.served, inService_state, Inst.served]

theorem inService_instOps (q : Nat) (p : List Byte) (s : State) (i : Nat) : (inService q p s).instOps i = s.instOps i := by
  rw [State.instOps, inService_ops, State.instOps]

theorem inService_genClash (q : Nat) (p : List Byte) (s : State) (i : Nat) : genClash (inService q p s) i = genClash s i := by
  have hgen : ((inService q p s).inst i).gen = (s.inst i).gen := (congrArg Inst.gen (inService_body q p s i) :)
  rw [genClash, inService_build, inService_instOps, hgen, genClash]

/-- A packet in service that waits is there with its reply not begun. -/
theorem Waiting.serves {q : Nat} {w : Wait} {u t : State} {v : Serving} (h : Waiting q w u t)
    (hv : (u.inst q).cq.serving = some v) : (t.inst q).cq.serving = some { v with wait := w } := by
  obtain ⟨-, x, hx, hcq⟩ := h
  rw [hv] at hx
  cases hx
  exact congrArg CmdQ.serving hcq

/-! ### INST_QUIESCE -/

theorem Inst.served_eq_false {x : Inst} :
    x.served = false ↔ x.state ≠ .active ∧ x.state ≠ .quiescing ∧ x.state ≠ .quiesced := by
  simp [Inst.served, and_assoc]

section
variable {q i : Nat} {s : State}

/-- An ACTIVE instance begins to quiesce (R93). -/
theorem quiesce_active (h : (s.inst i).state = .active) :
    quiesce q i s = waitFor q (.quiesce i) (modInst i (fun x => { x with state := .quiescing }) s) := by
  simp [quiesce, h]

theorem quiesce_quiesced (h : (s.inst i).state = .quiesced) : quiesce q i s = reply q .ok 0 (leBytes 8 0) s := by
  simp [quiesce, h]

theorem quiesce_absent (h : (s.inst i).state = .absent) : quiesce q i s = reply q .instAbsent 0 [] s := by
  simp [quiesce, h, instBusy]

/-- An instance that drains is refused by its state (R96). -/
theorem quiesce_busy (hpresent : (s.inst i).state ≠ .absent) (hactive : (s.inst i).state ≠ .active)
    (hquiesced : (s.inst i).state ≠ .quiesced) : quiesce q i s = reply q .instBusy (s.inst i).state.code [] s := by
  simp [quiesce, hpresent, hactive, hquiesced, instBusy]

/-- The courses of an INST_QUIESCE in service (R93, R96). -/
theorem quiesce_courses {v : Serving} (hv : (s.inst q).cq.serving = some v) :
    ((s.inst i).state = .active →
      Waiting q (.quiesce i) (modInst i (fun x => { x with state := .quiescing }) s) (quiesce q i s)) ∧
    ((s.inst i).state = .quiesced → Replied q .ok 0 (leBytes 8 0) s (quiesce q i s)) ∧
    ((s.inst i).state = .absent → Replied q .instAbsent 0 [] s (quiesce q i s)) ∧
    ((s.inst i).state ≠ .absent → (s.inst i).served = false →
      Replied q .instBusy (s.inst i).state.code [] s (quiesce q i s)) ∧
    ((s.inst i).state = .quiescing → Replied q .instBusy (s.inst i).state.code [] s (quiesce q i s)) := by
  refine ⟨fun hactive => ?_, fun hquiesced => ?_, fun habsent => ?_, fun hpresent hdrains => ?_, fun hquiescing => ?_⟩
  · rw [quiesce_active hactive]
    have hservice := sameService_modInst (f := fun x => { x with state := .quiescing }) (fun _ => rfl) i s
    exact waitFor_waiting _ ((hservice.serving q).trans hv)
  · rw [quiesce_quiesced hquiesced]
    exact reply_replied _ _ _ hv
  · rw [quiesce_absent habsent]
    exact reply_replied _ _ _ hv
  · obtain ⟨hactive, -, hquiesced⟩ := Inst.served_eq_false.1 hdrains
    rw [quiesce_busy hpresent hactive hquiesced]
    exact reply_replied _ _ _ hv
  · rw [quiesce_busy (by simp [hquiescing]) (by simp [hquiescing]) (by simp [hquiescing])]
    exact reply_replied _ _ _ hv

end

/-! ### Instances that begin to drain -/

/-- The block with an instance that begins to be reset or destroyed: no packet of it is read any more, and its quiesce is given up
(R101, R110, R113). -/
def drains (i : Nat) (f : Inst → Inst) (s : State) : State := modInst i f (dropPacketRead i (abandonQuiesce i s))

theorem drains_inst (i j : Nat) (f : Inst → Inst) (s : State) : (drains i f s).inst j =
    if j = i then f { s.inst i with cq := { (s.inst i).cq with rdOut := false } } else s.inst j := by
  have hread : ∀ k, (dropPacketRead i (abandonQuiesce i s)).inst k =
      if k = i then { s.inst i with cq := { (s.inst i).cq with rdOut := false } } else s.inst k := fun k => by
    rw [dropPacketRead, modCq, inst_modInst]
    rfl
  rw [drains, inst_modInst, hread, hread, if_pos rfl]
  split <;> rfl

theorem sameService_drains {f : Inst → Inst} (hf : ∀ x, (f x).cq.serving = x.cq.serving) (i : Nat) (s : State) :
    SameService s (drains i f s) :=
  ((sameService_dropPacketRead i (abandonQuiesce i s)).trans (sameService_modInst hf i _)).ofInsts rfl

/-! ### INST_RESET -/

/-- An instance that an INST_RESET with generation guard begins to reset, its boundary work due (R101, R102). -/
def Inst.resets (x : Inst) : Inst := { x with state := .resetting, was := x.state, genStep := true }

section
variable {q i : Nat} {s : State}

/-- With generation guard a served instance begins to reset, and its boundary work is due (R101, R102). -/
theorem resetInst_guarded (hguard : s.build.guard = true) (hserved : (s.inst i).served = true) (hclash : genClash s i = false) :
    resetInst q i s = waitFor q (.reset i) (drains i Inst.resets s) := by
  simp only [resetInst, hguard, hserved, hclash, Bool.not_true, Bool.false_and, Bool.false_eq_true, if_false, if_true]
  rfl

/-- An INST_RESET that starts leaves the other instances, every ring and every operation as they were. -/
theorem resetInst_resets {v : Serving} (hv : (s.inst q).cq.serving = some v) (hguard : s.build.guard = true)
    (hserved : (s.inst i).served = true) (hclash : genClash s i = false) : let t := resetInst q i s
    (t.inst i).state = .resetting ∧ (t.inst i).genStep = true ∧ (∀ j, j ≠ i → (t.inst j).body = (s.inst j).body) ∧
      (t.inst q).cq.serving = some { v with wait := .reset i } ∧ t.rings = s.rings ∧ t.ops = s.ops := by
  have hservice := sameService_drains (f := Inst.resets) (fun _ => rfl) i s
  have hserving := (hservice.serving q).trans hv
  have hwaiting := waitFor_waiting (.reset i) hserving
  have ⟨hsame, _⟩ := hwaiting
  have hbody := hsame.body i
  rw [drains_inst, if_pos rfl] at hbody
  rw [resetInst_guarded hguard hserved hclash]
  refine ⟨(congrArg Inst.state hbody :), (congrArg Inst.genStep hbody :), fun j hj => ?_, hwaiting.serves hserving,
    hsame.rings, hsame.ops⟩
  rw [hsame.body j, drains_inst, if_neg hj]

/-- Without generation guard an instance is reset once it is quiesced (R111). -/
theorem resetInst_unguarded (hguard : s.build.guard = false) (hserved : (s.inst i).served = true)
    (hstate : (s.inst i).state ≠ .quiesced) : resetInst q i s = reply q .instNotQuiesced 0 [] s := by
  simp [resetInst, hguard, hserved, hstate]

end

/-! ### INST_DESTROY -/

/-- An instance that an immediate INST_DESTROY begins to destroy, which found work in flight or not (R113, R114). -/
def Inst.destroys (work : Bool) (x : Inst) : Inst := { x with state := .destroying, genStep := true, work := work }

section
variable {q i : Nat} {s : State}

theorem destroys_state (i : Nat) (work : Bool) (s : State) (j : Nat) :
    ((drains i (Inst.destroys work) s).inst j).state = if j = i then .destroying else (s.inst j).state := by
  rw [drains_inst]
  split <;> rfl

theorem startDestroy_busy (h : s.instOps i ≠ []) :
    startDestroy q i s = waitFor q (.destroy i) (drains i (Inst.destroys true) s) := by
  have hwork : (!(s.instOps i).isEmpty) = true := by simpa using h
  rw [startDestroy, hwork]
  rfl

theorem startDestroy_idle (h : s.instOps i = []) :
    startDestroy q i s = waitFor q (.destroy i) (generationStep i (drains i (Inst.destroys false) s)) := by
  simp only [startDestroy, h, List.isEmpty_nil, Bool.not_true, Bool.false_eq_true, if_false]
  rfl

end

/-- A ring with no harvest read and no doorbell that waits for one. -/
def Ring.hushed (r : Ring) : Ring := { r with harvOut := none, held := none }

theorem quietRing_ring (n k : Nat) (s : State) :
    tget k (quietRing n s).rings = if k = n then (tget k s.rings).map Ring.hushed else tget k s.rings :=
  modRing_rings n k (fun r => { r with held := none, harvOut := none }) s

/-- A ring whose instance fetches no more stays, or is hushed (R102). -/
theorem quietRings_ring {i k : Nat} {r : Ring} {s : State} (h : tget k s.rings = some r) :
    tget k (quietRings i s).rings = some r ∨ tget k (quietRings i s).rings = some r.hushed := by
  refine List.foldlRecOn (motive := fun u : State => tget k u.rings = some r ∨ tget k u.rings = some r.hushed) _ _ (.inl h)
    fun u hu n _ => ?_
  rw [quietRing_ring]
  split
  · rcases hu with hu | hu <;> rw [hu] <;> exact .inr rfl
  · exact hu

/-- A generation step of an instance without operations changes its rings no further. -/
theorem generationStep_rings {i : Nat} {s : State} (h : s.instOps i = []) :
    (generationStep i s).rings = (quietRings i s).rings := by
  have hnone : (quietRings i s).instOps i = [] := by rw [State.instOps, (quietRings_same i s).2.1, ← State.instOps, h]
  rw [generationStep_eq, hnone]
  rfl

theorem generationStep_state (i j : Nat) (s : State) : ((generationStep i s).inst j).state = (s.inst j).state := by
  have hpace := congrArg Inst.state (generationStep_pace i j s)
  split at hpace
  · next h => rw [h] at hpace ⊢; exact hpace
  · exact hpace

theorem sameService_generationStep (i : Nat) (s : State) : SameService s (generationStep i s) := ⟨fun j => by
  have hpace := congrArg (fun x : Inst => x.cq.serving) (generationStep_pace i j s)
  split at hpace
  · next h => rw [h] at hpace ⊢; exact hpace
  · exact hpace⟩

/-- What an INST_DESTROY that starts leaves, but for its packet: the instance is DESTROYING, the others keep their states, work in
flight is remembered, and every ring stays (R98, R113, R114). -/
structure Destroying (i : Nat) (s t : State) : Prop where
  state : ∀ j, (t.inst j).state = if j = i then .destroying else (s.inst j).state
  busy : s.instOps i ≠ [] → (t.inst i).genStep = true ∧ (t.inst i).work = true ∧ t.ops = s.ops ∧ t.rings = s.rings
  rings : ∀ n r, tget n s.rings = some r → tget n t.rings = some r ∨ tget n t.rings = some r.hushed

/-- What came before changed neither states nor operations nor rings. -/
theorem Destroying.after {i : Nat} {s t u : State} (h : Destroying i u t)
    (hstate : ∀ j, (u.inst j).state = (s.inst j).state) (hops : u.ops = s.ops) (hrings : u.rings = s.rings) :
    Destroying i s t := by
  obtain ⟨hstates, hbusy, hkept⟩ := h
  refine ⟨fun j => by rw [hstates, hstate], fun h => ?_, fun n r hr => hkept n r (by rwa [hrings])⟩
  rw [State.instOps, hops, hrings] at hbusy
  exact hbusy h

theorem Destroying.waits {q i : Nat} {w : Wait} {s u t : State} (h : Destroying i s u) (hw : Waiting q w u t) :
    Destroying i s t := by
  obtain ⟨hsame, -⟩ := hw
  refine ⟨fun j => ?_, fun hbusy => ?_, fun n r hr => ?_⟩
  · rw [← h.state j]
    exact (congrArg Inst.state (hsame.body j) :)
  · obtain ⟨hstep, hwork, hops, hrings⟩ := h.busy hbusy
    exact ⟨(congrArg Inst.genStep (hsame.body i) :).trans hstep, (congrArg Inst.work (hsame.body i) :).trans hwork,
      hsame.ops.trans hops, hsame.rings.trans hrings⟩
  · rw [hsame.rings]
    exact h.rings n r hr

theorem destroying_generationStep {i : Nat} {s : State} (h : s.instOps i = []) :
    Destroying i s (generationStep i (drains i (Inst.destroys false) s)) := by
  refine ⟨fun j => ?_, fun hbusy => absurd h hbusy, fun n r hr => ?_⟩
  · rw [generationStep_state, destroys_state]
  · rw [generationStep_rings (s := drains i (Inst.destroys false) s) h]
    exact quietRings_ring (s := drains i (Inst.destroys false) s) hr

theorem destroying_drains (i : Nat) (s : State) : Destroying i s (drains i (Inst.destroys true) s) := by
  refine ⟨destroys_state i true s, fun _ => ?_, fun n r hr => .inl hr⟩
  rw [drains_inst, if_pos rfl]
  exact ⟨rfl, rfl, rfl, rfl⟩

/-- An INST_DESTROY starts: with work in flight the boundary comes first, else the generation step is done at once (R113). -/
theorem startDestroy_destroying {q : Nat} (i : Nat) {s : State} {v : Serving} (hv : (s.inst q).cq.serving = some v) :
    Destroying i s (startDestroy q i s) ∧ ((startDestroy q i s).inst q).cq.serving = some { v with wait := .destroy i } := by
  have hwaits : ∀ u : State, SameService s u → Destroying i s u → Destroying i s (waitFor q (.destroy i) u) ∧
      ((waitFor q (.destroy i) u).inst q).cq.serving = some { v with wait := .destroy i } := fun u hservice hcourse => by
    have hserving := (hservice.serving q).trans hv
    have hwaiting := waitFor_waiting (.destroy i) hserving
    exact ⟨hcourse.waits hwaiting, hwaiting.serves hserving⟩
  have hbegun : ∀ work, SameService s (drains i (Inst.destroys work) s) := fun work =>
    sameService_drains (f := Inst.destroys work) (fun _ => rfl) i s
  by_cases h : s.instOps i = []
  · rw [startDestroy_idle h]
    exact hwaits _ ((hbegun false).trans (sameService_generationStep i _)) (destroying_generationStep h)
  · rw [startDestroy_busy h]
    exact hwaits _ (hbegun true) (destroying_drains i s)

theorem wakeForCommand_insts (s : State) : (wakeForCommand s).insts = s.insts := by
  unfold wakeForCommand wake
  split <;> rfl

/-- An immediate INST_DESTROY is served while no committed KEK_SET of its instance waits for its boundary (R392). -/
theorem exec_instDestroy {q : Nat} {p : List Byte} {s : State} (h : Taken q 0x11 p s) (himm : Immediate q p s)
    (hkek : ∀ x, s.keys.kekPending = some x → x.1 ≠ par 0 2 p) :
    exec (.instDestroy q) s = .next (finish (startDestroy q (par 0 2 p) (wakeForCommand (inService q p s)))) := by
  have hmine : (isOp 0x11 p && (match s.keys.kekPending with
      | some (i, _) => i != par 0 2 p
      | none => true)) = true := by
    refine Bool.and_eq_true_iff.2 ⟨by simp [isOp, h.opcode], ?_⟩
    split
    · next i x hx => simpa using hkek _ hx
    · rfl
  have hserved := command_served (mine := fun p => isOp 0x11 p && (match s.keys.kekPending with
      | some (i, _) => i != par 0 2 p
      | none => true)) (fun p s => stageOrRun q p (fun _ s => startDestroy q (par 0 2 p) (wakeForCommand s)) s) h hmine
  rw [stageOrRun_immediate _ himm] at hserved
  exact congrArg Host.Outcome.next hserved

/-- Settles O4: each command acts on a packet in service by the course of `quiesce`, `startDestroy` or `resetInst` that the state
of the instance decides. -/
theorem instancesDrain : Obligations.InstancesDrain := by
  refine ⟨fun s q p h => ?_, fun s q p h himm hkek => ?_, fun s q p h hguard hserved hclash => ?_,
    fun s q p h hguard hstate => ?_⟩
  · have hcourses := quiesce_courses (i := par 0 2 p) (inService_serving q p s)
    rw [inService_state, inService_served] at hcourses
    exact ⟨_, congrArg Host.Outcome.next (command_taken _ h), hcourses⟩
  · obtain ⟨-, -, hrings, hops⟩ := wakeForCommand_frame (inService q p s)
    have hinst : ∀ j, (wakeForCommand (inService q p s)).inst j = (inService q p s).inst j := fun j => by
      rw [State.inst, wakeForCommand_insts, State.inst]
    obtain ⟨hcourse, hserving⟩ := startDestroy_destroying (par 0 2 p)
      ((congrArg (fun x : Inst => x.cq.serving) (hinst q)).trans (inService_serving q p s))
    obtain ⟨hstate, hbusy, hkept⟩ := hcourse.after (s := s) (fun j => by rw [hinst, inService_state])
      (hops.trans (inService_ops q p s)) (hrings.trans (inService_rings q p s))
    exact ⟨_, exec_instDestroy h himm hkek, (hstate _).trans (if_pos rfl), fun j hj => (hstate j).trans (if_neg hj),
      ⟨_, hserving, rfl, rfl, rfl⟩, hbusy, hkept⟩
  · obtain ⟨hstate, hstep, hbody, hserving, hrings, hops⟩ := resetInst_resets (i := par 0 2 p) (inService_serving q p s)
      (by rwa [inService_build]) (by rwa [inService_served]) (by rwa [inService_genClash])
    exact ⟨_, congrArg Host.Outcome.next (command_taken _ h), hstate, hstep,
      fun j hj => (hbody j hj).trans (inService_body q p s j), ⟨_, hserving, rfl, rfl, rfl⟩,
      hrings.trans (inService_rings q p s), hops.trans (inService_ops q p s)⟩
  · refine ⟨_, congrArg Host.Outcome.next (command_taken _ h), ?_⟩
    rw [resetInst_unguarded (by rwa [inService_build])
      (by rw [inService_served]; rcases hstate with h | h <;> simp [Inst.served, h])
      (by rw [inService_state]; rcases hstate with h | h <;> simp [h])]
    exact reply_replied _ _ _ (inService_serving q p s)

end Sys2Proof.Machine
end

section
/-!
PROOFS. The commands of rings (O7): RING_CREATE, RING_DESTROY, RING_RESET and RING_RESUME.
-/

namespace Sys2Proof.Machine

open Sys2Proof

/-! ### RING_CREATE -/

/-- A number that is taken is below the limit, and every lower one is in use. -/
theorem lowestFree_least {limit n : Nat} {used : List Nat} (h : lowestFree limit used = some n) :
    n < limit ∧ ∀ m, m < n → m ∈ used := by
  unfold lowestFree at h
  split at h
  · next k hk =>
    split at h
    · next hlimit =>
      obtain rfl := Option.some_inj.1 h
      obtain ⟨-, -, hleast⟩ := List.find?_range_eq_some.1 hk
      exact ⟨hlimit, fun m hm => by simpa using hleast m hm⟩
    · cases h
  · cases h

theorem tget_ne_none {α : Type} {k : Nat} {l : List (Nat × α)} (h : k ∈ l.map (·.1)) : tget k l ≠ none := by
  obtain ⟨⟨j, v⟩, hmem, rfl⟩ := List.mem_map.1 h
  exact Option.isSome_iff_ne_none.1 (tget_isSome_of_mem hmem)

/-- What the number of an immediate RING_CREATE is: free, not reserved, and the lowest such (R61, R175). -/
theorem freeRing?_now {u : State} {n : Nat} (h : freeRing? false u = some n) :
    n < u.build.rings ∧ tget n u.rings = none ∧ n ∉ u.reservedRings ∧
      ∀ m, m < n → tget m u.rings ≠ none ∨ m ∈ u.reservedRings := by
  have hfree := lowestFree_some h
  rw [List.mem_append, not_or] at hfree
  obtain ⟨hlimit, hleast⟩ := lowestFree_least h
  exact ⟨hlimit, tget_eq_none hfree.1, hfree.2, fun m hm => (List.mem_append.1 (hleast m hm)).imp tget_ne_none id⟩

/-- A RING_CREATE that passes its checks finds a free number (R176). -/
theorem freeRing?_of_sound {u : State} {p : List Byte} (hop : pkOpcode p = 0x20) (insts : List Nat)
    (h : stageFault u u.reservedRings insts p = none) : freeRing? false u = some (freeRing false u) := by
  have hsome : (freeRing? false u).isNone = false := by
    by_contra hnone
    rw [Bool.not_eq_false] at hnone
    have hlast : (lowestFree u.build.rings (u.rings.map (·.1) ++ u.reservedRings)).isNone = true := hnone
    simp [stageFault, hop, hlast, ite_eq_iff] at h
  cases hfree : freeRing? false u with
  | none => rw [hfree] at hsome; cases hsome
  | some n => rw [freeRing, hfree, Option.getD_some]

theorem applyStaged_ringCreate {p : List Byte} {n : Nat} (hop : pkOpcode p = 0x20) (s : State) :
    applyStaged ⟨p, n⟩ s = { s with rings := tset n (newRing p) s.rings } := by
  simp only [applyStaged, hop]
  rfl

/-! ### Rings that drain -/

theorem orphanErrorRecord_ring? (m n : Nat) (s : State) : (orphanErrorRecord m s).ring? n = s.ring? n := by
  unfold orphanErrorRecord
  split
  · rfl
  · split
    · exact ringErrorRecord_ring? ..
    · rfl

/-- A ring that has begun to drain (R170): nothing more is read for it. -/
def Ring.drained (st : RingState) (r : Ring) : Ring := { r with state := st, was := r.state, harvOut := none, held := none }

theorem drainRing_ring? {n : Nat} {r : Ring} {s : State} (st : RingState) (h : tget n s.rings = some r) :
    (drainRing n st s).ring? n = some (r.drained st).unmarked := by
  have hquiet : ∀ u : State, u.rings = s.rings →
      (quietRing n (modRing n (fun r => { r with state := st, was := r.state }) u)).ring? n = some (r.drained st).unmarked :=
    fun u hu => by
      rw [State.ring?, quietRing_ring, if_pos rfl, modRing_rings, if_pos rfl, hu, h]
      rfl
  unfold drainRing
  rw [h]
  dsimp only
  rw [ring?_of_rings (tryPost_rings ..), orphanErrorRecord_ring?, ring?_of_rings (releaseAll_rings ..)]
  split
  · exact hquiet _ rfl
  · exact hquiet s rfl

/-- A ring that drains is in its new state while its command waits. -/
theorem waitFor_drainRing {q n : Nat} {w : Wait} {st : RingState} {r : Ring} {s : State} (h : tget n s.rings = some r) :
    ∃ x, tget n (waitFor q w (drainRing n st s)).rings = some x ∧ x.state = st := by
  obtain ⟨x, hx, hxr⟩ := Option.map_eq_some_iff.1 (drainRing_ring? st h)
  exact ⟨x, hx, (congrArg Ring.state hxr :)⟩

/-- A RING_DESTROY that passes its checks names a ring (R176). -/
theorem ring_of_sound {u : State} {p : List Byte} {rings insts : List Nat} (hop : pkOpcode p = 0x21)
    (h : stageFault u rings insts p = none) : ∃ r, tget (par 0 2 p) u.rings = some r := by
  cases hring : tget (par 0 2 p) u.rings with
  | none => simp [stageFault, hop, hring] at h
  | some r => exact ⟨r, rfl⟩

theorem resetRing_starts {q n : Nat} {r : Ring} {s : State} (h : tget n s.rings = some r) (hreset : r.state ≠ .resetting)
    (hdestroy : r.state ≠ .destroying) : resetRing q n s = waitFor q (.ringEnd n) (drainRing n .resetting s) := by
  simp [resetRing, h, hreset, hdestroy]

/-! ### RING_RESUME -/

theorem inService_ringOps (q : Nat) (p : List Byte) (s : State) (n : Nat) : (inService q p s).ringOps n = s.ringOps n := by
  rw [State.ringOps, inService_ops, State.ringOps]

section
variable {q n : Nat} {s : State}

theorem resumeRing_absent (h : tget n s.rings = none) : resumeRing q n s = reply q .ringAbsent 0 [] s := by
  simp [resumeRing, h]

theorem resumeRing_unstopped {r : Ring} (h : tget n s.rings = some r) (hstate : r.state ≠ .error) :
    resumeRing q n s = reply q .ringNotStopped 0 [] s := by
  simp [resumeRing, h, hstate]

theorem resumeRing_stopped {r : Ring} (h : tget n s.rings = some r) (hstate : r.state = .error) :
    resumeRing q n s = reply q .ok 0 (leBytes 4 (s.ringOps n).length ++ leBytes 4 0)
      (modRing n (fun r => { r with state := .resuming }) s) := by
  simp [resumeRing, h, hstate]

end

/-- Settles O7: a new ring takes the number that `freeRing?_now` says is the lowest, a ring drains by `drainRing_ring?`, and a
RING_RESUME is answered by the state of its ring. -/
theorem ringCommands : Obligations.RingCommands := by
  refine ⟨fun s q p h himm => ?_, ⟨fun s q p h himm => ?_, fun s q p r h hr hreset hdestroy => ?_⟩, fun s q p h => ?_⟩
  · have ⟨_, hsound⟩ := himm
    obtain ⟨hlimit, hnone, hunreserved, hleast⟩ := freeRing?_now (freeRing?_of_sound h.opcode _ hsound)
    rw [inService_build] at hlimit
    rw [inService_rings] at hnone
    rw [inService_reservedRings] at hunreserved
    simp only [inService_rings, inService_reservedRings] at hleast
    set n := freeRing false (inService q p s) with hn
    set u : State := { inService q p s with rings := tset n (newRing p) (inService q p s).rings } with hu
    have hserving : (u.inst q).cq.serving = _ := inService_serving q p s
    have hexec : exec (.ringCreate q) s = .next (finish (reply q .ok 0 (leBytes 2 n ++ leBytes 6 0) u)) := by
      refine congrArg Host.Outcome.next ((command_taken _ h).trans (congrArg finish ?_))
      rw [stageOrRun_immediate _ himm, applyStaged_ringCreate h.opcode]
    obtain ⟨hsame, -⟩ := reply_replied .ok 0 (leBytes 2 n ++ leBytes 6 0) hserving
    have ⟨hstill, _, hbody, _⟩ := hsame
    have hrings : u.rings = tset n (newRing p) s.rings := by rw [hu, inService_rings]
    refine ⟨_, n, hexec, hlimit, hnone, hunreserved, hleast, ?_, fun m hm => ?_, ?_, hstill, fun j => ?_,
      reply_answered _ _ _ hserving⟩
    · rw [hsame.rings, hrings, tget_tset_same]
    · rw [hsame.rings, hrings, tget_tset_other hm]
    · exact hsame.ops.trans (inService_ops q p s)
    · exact (hbody j).trans (inService_body q p s j)
  · have ⟨_, hsound⟩ := himm
    obtain ⟨r, hr⟩ := ring_of_sound h.opcode hsound
    refine ⟨_, ?_, rfl, waitFor_drainRing hr⟩
    refine congrArg Host.Outcome.next ((command_taken _ h).trans (congrArg finish ?_))
    rw [stageOrRun_immediate _ himm]
  · rw [← inService_rings q p s] at hr
    refine ⟨_, ?_, rfl, waitFor_drainRing hr⟩
    refine congrArg Host.Outcome.next ((command_taken _ h).trans (congrArg finish ?_))
    exact resetRing_starts hr hreset hdestroy
  · have hserving := inService_serving q p s
    refine ⟨_, congrArg Host.Outcome.next (command_taken _ h), fun r hr hstate => ?_, fun r hr hstate => ?_, fun habsent => ?_⟩
    · rw [← inService_rings q p s] at hr
      rw [resumeRing_stopped hr hstate, inService_ringOps]
      exact reply_replied _ _ _ (by rw [inst_modRing]; exact hserving)
    · rw [← inService_rings q p s] at hr
      rw [resumeRing_unstopped hr hstate]
      exact reply_replied _ _ _ hserving
    · rw [← inService_rings q p s] at habsent
      rw [resumeRing_absent habsent]
      exact reply_replied _ _ _ hserving

end Sys2Proof.Machine
end

section
/-!
PROOFS. Event queues (O22, O23): ENABLE and HEAD, an acknowledged record, and the coalescing time. Each hands the queue that it
leaves to the check of R156.
-/

namespace Sys2Proof.Machine

open Sys2Proof

/-! ### The interrupt message -/

/-- A message is judged by the queue, hw0 and the build: what came before changed none of these but the queue. -/
theorem Signals.since {i : Nat} {e : EventQ} {s u t : State} (h : Signals i e u t) (hports : u.hwy.ports = s.hwy.ports)
    (hinv : s.Inv → u.Inv) : Signals i e s t := by
  have hport : u.port 0 = s.port 0 := by rw [State.port, hports, State.port]
  obtain ⟨hgo, hno⟩ := h
  rw [hport] at hgo hno
  exact ⟨fun h => ⟨(hgo h).1, fun hs => (hgo h).2 (hinv hs)⟩, hno⟩

/-- A queue that changes is checked as it then is. -/
theorem irqCheck_modEq_signals (i : Nat) (f : EventQ → EventQ) (s : State) :
    Signals i (f (s.inst i).eq) s (irqCheck i (modEq i f s)) := by
  have hsignals := irqCheck_signals i (modEq i f s)
  rw [modEq_inst_same] at hsignals
  exact hsignals.since rfl id

theorem irqCheck_modEq_tables (i : Nat) (f : EventQ → EventQ) (s : State) : (irqCheck i (modEq i f s)).tables = s.tables :=
  tables_of_aside ((irqCheck_aside ..).trans (modEq_aside ..))

theorem modEq_inst_whole (i : Nat) (f : EventQ → EventQ) (s : State) :
    (modEq i f s).inst i = { s.inst i with eq := f (s.inst i).eq } := by rw [modEq, inst_modInst, if_pos rfl]

/-! ### ENABLE and HEAD -/

/-- An event queue after a rise of ENABLE (R150). -/
def EventQ.risen (data : Word) (e : EventQ) : EventQ :=
  { e with
    base := bits data 51 16 * 65536, enable := true, tail := 0, head := 0, fabErr := false, overflow := false, armed := true,
    issued := 0, acked := [], inFlight := [], unsig := 0, flagSet := false, due := false }

/-- A rise of ENABLE: the records that are outstanding belong to nobody any more (log entry 87). -/
theorem eqBaseWrite_rise {i : Nat} {data : Word} {s : State} (hset : data.getLsbD 0 = true) (hoff : (s.inst i).eq.enable = false) :
    ∃ f, eqBaseWrite i data s = disownWrites f (modEq i (EventQ.risen data) s) := by
  simp only [eqBaseWrite, hset, hoff, Bool.not_false, Bool.and_self, Bool.false_eq_true, if_true, if_false]
  exact ⟨_, rfl⟩

theorem execEventQueueEnable_eq {page : Nat} {strb : BitVec 8} {data : Word} {s : State} (hok : PageOk page 0x1200 strb s)
    (hset : data.getLsbD 0 = true) :
    exec (.eventQueueEnable page strb data) s = .next (finish (eqBaseWrite page data (onPage page 0x1200 s))) := by
  refine congrArg Host.Outcome.next ((pageWrite_ok _ hok).trans (congrArg finish ?_))
  rw [hset]
  rfl

theorem onPage_hwy (page off : Nat) (s : State) : (onPage page off s).hwy = s.hwy := by
  unfold onPage stir
  split <;> rfl

theorem onPage_inv {page off : Nat} {s : State} (h : s.Inv) : (onPage page off s).Inv := by
  unfold onPage stir
  split <;> exact h

/-- A HEAD is within its bounds (R151). -/
def EventQ.allows (e : EventQ) (v : Idx) : Prop := (v - e.head).toNat ≤ 4096 ∧ (e.tail - v).toNat ≤ 4096

section
variable {i : Nat} {v : Idx} {s : State}

theorem eqHeadWrite_allowed (h : (s.inst i).eq.allows v) :
    eqHeadWrite i v s = irqCheck i (modEq i (fun e => { e with head := v, armed := true }) s) := by
  obtain ⟨hhead, htail⟩ := h
  unfold eqHeadWrite
  exact if_pos (by simp only [hhead, htail, decide_true, Bool.and_self])

theorem eqHeadWrite_refused (h : ¬(s.inst i).eq.allows v) : eqHeadWrite i v s = modEq i (fun e => { e with headBad := true }) s := by
  unfold eqHeadWrite
  exact if_neg fun hboth => h (by simpa [EventQ.allows] using hboth)

end

/-- Settles O22: a rise of ENABLE makes the queue `EventQ.risen`, and a HEAD within its bounds is followed by the check of R156. -/
theorem eventQueueRegisters : Obligations.EventQueueRegisters := by
  refine ⟨fun s page strb data hok hset hoff => ?_, fun s page strb data hok => ?_⟩
  · obtain ⟨-, htables, -⟩ := onPage_frame page 0x1200 s
    obtain ⟨f, hrise⟩ := eqBaseWrite_rise (i := page) (s := onPage page 0x1200 s) hset (by rwa [onPage_inst])
    refine ⟨_, execEventQueueEnable_eq hok hset, ?_⟩
    rw [hrise]
    refine ⟨?_, fun j hj => ?_, htables, rfl⟩
    · refine (modEq_inst_whole page (EventQ.risen data) (onPage page 0x1200 s)).trans ?_
      rw [onPage_inst]
      rfl
    · exact (modEq_inst_other hj ..).trans (onPage_inst ..)
  · obtain ⟨-, htables, -⟩ := onPage_frame page 0x1210 s
    refine ⟨_, congrArg Host.Outcome.next (pageWrite_ok _ hok), ?_, fun hhead htail => ?_, fun hout => ?_⟩
    · by_cases hallows : ((onPage page 0x1210 s).inst page).eq.allows (BitVec.ofNat 32 (bits data 31 0))
      · rw [eqHeadWrite_allowed hallows]
        exact (irqCheck_modEq_tables ..).trans htables
      · rw [eqHeadWrite_refused hallows]
        exact htables
    · rw [eqHeadWrite_allowed (by rw [onPage_inst]; exact ⟨hhead, htail⟩)]
      have hsignals := irqCheck_modEq_signals page (fun e => { e with head := BitVec.ofNat 32 (bits data 31 0), armed := true })
        (onPage page 0x1210 s)
      rw [onPage_inst] at hsignals
      exact hsignals.since (by rw [onPage_hwy]) onPage_inv
    · have hrefused : ¬((onPage page 0x1210 s).inst page).eq.allows (BitVec.ofNat 32 (bits data 31 0)) := fun hallows => by
        rw [onPage_inst] at hallows
        obtain ⟨hhead, htail⟩ := hallows
        exact hout.elim (Nat.not_lt.2 hhead) (Nat.not_lt.2 htail)
      rw [eqHeadWrite_refused hrefused, modEq_inst_same, onPage_inst]

/-! ### Records -/

/-- What the acknowledgement of a record in flight leaves of its queue (R152). -/
def EventQ.counted (n : Idx) (e : EventQ) : EventQ :=
  let tl := tailAfter (e.acked.length + 1) e.tail (n :: e.acked)
  { e with
    tail := tl, acked := (n :: e.acked).filter (fun k => (k - tl).toNat < 2 ^ 31), unsig := e.unsig + 1,
    inFlight := e.inFlight.filter (fun r => (r.1 - tl).toNat < 2 ^ 31) }

section
variable {i : Nat} {n : Idx} {s : State}

theorem evAck_counts (hflight : (s.inst i).eq.inFlight.any (fun r => r.1 == n) = true)
    (hnew : (s.inst i).eq.acked.contains n = false) : evAck i n s = irqCheck i (modEq i (EventQ.counted n) s) := by
  unfold evAck
  rw [if_neg (by rw [hflight, hnew]; decide)]
  rfl

theorem evAck_signals (hflight : (s.inst i).eq.inFlight.any (fun r => r.1 == n) = true)
    (hnew : (s.inst i).eq.acked.contains n = false) : Signals i ((s.inst i).eq.counted n) s (evAck i n s) := by
  rw [evAck_counts hflight hnew]
  exact irqCheck_modEq_signals ..

/-- A record counts once, and only while it is in flight (log entry 87). -/
theorem evAck_known (h : (s.inst i).eq.inFlight.any (fun r => r.1 == n) = false ∨ (s.inst i).eq.acked.contains n = true) :
    evAck i n s = s := by
  unfold evAck
  refine if_pos (Bool.or_eq_true_iff.2 ?_)
  rcases h with h | h
  · exact .inr (by rw [h]; rfl)
  · exact .inl h

theorem evAck_tables : (evAck i n s).tables = s.tables := by
  unfold evAck
  dsimp only
  split
  · rfl
  · exact irqCheck_modEq_tables ..

theorem execEventRecordAck_eq (h : arrivedRecord i s = some n) :
    exec (.eventRecordAck i) s = .next (finish (evAck i n (takeArrived (.eventRec i n) s))) := by
  show Host.Outcome.next _ = _
  rw [h]

/-- The mark that the oldest unsignalled record has reached TIME is kept while no message may go out (log entry 80). -/
theorem execCoalescingTimeout_eq (h : s.pins.mainUp = true) : exec (.coalescingTimeout i) s =
    .next (finish (irqCheck i (modEq i (fun e => { e with due := e.due || decide (0 < e.unsig) }) s))) := by
  show Host.Outcome.next _ = _
  rw [if_pos h]

end

/-- Settles O23: an acknowledged record leaves the queue `EventQ.counted`, and the check of R156 follows it as it follows TIME. -/
theorem recordsSignal : Obligations.RecordsSignal := by
  refine ⟨fun s i n harrived => ?_, fun s i hmain => ?_⟩
  · refine ⟨_, execEventRecordAck_eq harrived, evAck_tables, fun hflight hnew => ?_, fun hknown => evAck_known hknown⟩
    exact (evAck_signals (s := takeArrived (.eventRec i n) s) hflight hnew).since rfl id
  · refine ⟨_, execCoalescingTimeout_eq hmain, irqCheck_modEq_tables ..,
      irqCheck_modEq_signals i (fun e => { e with due := e.due || decide (0 < e.unsig) }) s, fun hheld => ?_⟩
    refine irqCheck_of_not_due fun ⟨harmed, hmask, _, hport⟩ => ?_
    rw [modEq_inst_same] at harmed hmask
    rcases hheld with h | h | h
    · exact absurd harmed (by rw [h]; decide)
    · exact absurd hmask (by rw [h]; decide)
    · exact absurd (h.symm.trans hport) (by decide)

end Sys2Proof.Machine
end

section
/-!
PROOFS. The stop of a ring (R155, R162 to R164, O29): what it releases, the speculative copies, the other rings, the index block, and
the RING_ERROR record.
-/

namespace Sys2Proof.Machine

open Sys2Proof

/-! ### Releases -/

theorem foldl_releaseOp_ops (l : List Op) (s : State) (o : Op) :
    o ∈ (l.foldl (fun s (p : Op) => releaseOp p.id s) s).ops ↔ o ∈ s.ops ∧ ∀ p ∈ l, o.id ≠ p.id := by
  induction l generalizing s with
  | nil => simp
  | cons p l ih =>
    rw [List.foldl_cons, ih, (releaseOp_tables p.id s).2, List.mem_filter, List.forall_mem_cons]
    simp [and_assoc]

/-- What is left shares its number with nothing that is released. -/
theorem releaseAll_ops (f : Op → Bool) (s : State) (o : Op) :
    o ∈ (releaseAll f s).ops ↔ o ∈ s.ops ∧ ∀ p ∈ s.ops, f p = true → o.id ≠ p.id := by
  simp [releaseAll, foldl_releaseOp_ops]

theorem released_iff {n : Nat} {h : Idx} {o : Op} : Released n h o ↔ releasedAt n h o = true := by
  simp [Released, releasedAt, and_assoc]

/-! ### Speculative copies -/

theorem setPend_specs (i typ ring : Nat) (s : State) : (setPend i typ ring s).specs = s.specs := by
  unfold setPend
  split
  · exact modRing_specs ..
  · rfl

theorem evWrite_specs (i typ status ring index aux : Nat) (s : State) :
    (evWrite i typ status ring index aux s).specs = s.specs := by
  unfold evWrite
  dsimp only
  split
  · exact setPend_specs ..
  · split
    · exact (specs_of_aside (irqCheck_aside ..)).trans (setPend_specs ..)
    · exact specs_of_aside ((writeReq_aside ..).trans (modEq_aside ..))

theorem ringErrorRecord_specs (n : Nat) (s : State) : (ringErrorRecord n s).specs = s.specs := by
  unfold ringErrorRecord
  split
  · rfl
  · exact (evWrite_specs ..).trans (modRing_specs ..)

theorem releaseOp_specs (id : Nat) (s : State) : (releaseOp id s).specs = s.specs := by
  have hkeep : ∀ (o : Op) (u : State), (keepRecord o u).specs = u.specs := fun o u => by
    unfold keepRecord
    split
    · split <;> rfl
    · rfl
  unfold releaseOp
  dsimp only
  split
  · next o _ =>
    have hskip := specs_of_aside (foldl_keeps State.aside (fun s (p : Nat × Nat) => skipSample_aside p.1 s) o.sample s)
    split <;> exact (hkeep _ _).trans hskip
  · rfl

theorem releaseAll_specs (f : Op → Bool) (s : State) : (releaseAll f s).specs = s.specs :=
  foldl_keeps State.specs (fun s (o : Op) => releaseOp_specs o.id s) _ _

/-! ### The other rings -/

section
variable {n k : Nat} (hk : k ≠ n)
include hk

theorem setPend_ring_other (i typ : Nat) (s : State) : tget k (setPend i typ n s).rings = tget k s.rings := by
  unfold setPend
  split
  · rw [modRing_rings, if_neg hk]
  · rfl

theorem evWrite_ring_other (i typ status index aux : Nat) (s : State) :
    tget k (evWrite i typ status n index aux s).rings = tget k s.rings := by
  unfold evWrite
  dsimp only
  split
  · exact setPend_ring_other hk ..
  · split
    · rw [rings_of_aside (irqCheck_aside ..), setPend_ring_other hk, rings_of_aside (modEq_aside ..)]
    · rw [rings_of_aside (writeReq_aside ..), rings_of_aside (modEq_aside ..)]

theorem ringErrorRecord_ring_other (s : State) : tget k (ringErrorRecord n s).rings = tget k s.rings := by
  unfold ringErrorRecord
  split
  · rfl
  · rw [evWrite_ring_other hk, modRing_rings, if_neg hk]

end

/-! ### The stop -/

/-- A RUNNING ring that has stopped, its RING_ERROR record not written (R163, R164). -/
def stopQuietly (n : Nat) (e h : Idx) (st : Status) (r : Ring) (s : State) : State :=
  writeIndex n (dropSpecs n (releaseAll (releasedAt n h) { s with rings := tset n (r.stopped e h st) s.rings }))

section
variable {n : Nat} {e h : Idx} {st : Status} {now : Bool} {s : State} {r : Ring}

theorem stopQuietly_side : (stopQuietly n e h st r s).aside =
    (dropSpecs n (releaseAll (releasedAt n h) { s with rings := tset n (r.stopped e h st) s.rings })).aside := writeIndex_aside ..

theorem stopQuietly_rings : (stopQuietly n e h st r s).rings = tset n (r.stopped e h st) s.rings :=
  (rings_of_aside stopQuietly_side).trans (releaseAll_rings ..)

theorem stopQuietly_ops (o : Op) : o ∈ (stopQuietly n e h st r s).ops ↔
    o ∈ s.ops ∧ ∀ p ∈ s.ops, releasedAt n h p = true → o.id ≠ p.id := by
  rw [ops_of_aside stopQuietly_side]
  exact releaseAll_ops (releasedAt n h) { s with rings := tset n (r.stopped e h st) s.rings } o

theorem stopQuietly_specs : (stopQuietly n e h st r s).specs = s.specs.filter (fun x => x.ring != n) := by
  rw [specs_of_aside stopQuietly_side]
  exact congrArg (List.filter _) (releaseAll_specs ..)

/-- The index block of the ring is written (R164). -/
theorem stopQuietly_writeDue (hinv : s.Inv) : WriteDue (portOf n) (r.iblk + 32) (.idxBlock n) (stopQuietly n e h st r s) := by
  unfold stopQuietly
  set u := dropSpecs n (releaseAll (releasedAt n h) { s with rings := tset n (r.stopped e h st) s.rings }) with hu
  have hring : tget n u.rings = some (r.stopped e h st) := by
    have hrings : u.rings = tset n (r.stopped e h st) s.rings := releaseAll_rings ..
    rw [hrings, tget_tset_same]
  have hports : u.hwy.ports.length = 8 := by
    have hgrows : Grows (fun _ => True) { s with rings := tset n (r.stopped e h st) s.rings } u :=
      (grows_releaseAll _ _ _).trans (grows_dropSpecs _ n _)
    exact hgrows.length.trans hinv.1
  unfold writeIndex
  rw [hring]
  refine writeDue_writeReq (by rw [hports]; exact Nat.mod_lt _ (by decide)) fun hnil => ?_
  have hlen := congrArg List.length hnil
  simp [indexBytes, leBytes_length] at hlen

section
variable (hr : tget n s.rings = some r) (hrun : r.state = .running)
include hr hrun

theorem stopAt_eq : stopAt n e h st now s =
    if now then ringErrorRecord n (stopQuietly n e h st r s) else stopQuietly n e h st r s := stopAt_running hr hrun

/-- What every stop leaves of the state that it has reached before its record. -/
theorem stopAt_quietly : let t := stopAt n e h st now s
    t.ops = (stopQuietly n e h st r s).ops ∧ t.specs = (stopQuietly n e h st r s).specs ∧
      (∀ k, k ≠ n → tget k t.rings = tget k (stopQuietly n e h st r s).rings) ∧
      Grows (fun w => w.announces = true) (stopQuietly n e h st r s) t := by
  dsimp only
  rw [stopAt_eq hr hrun]
  split
  · exact ⟨(ringErrorRecord_tables ..).2, ringErrorRecord_specs .., fun k hk => ringErrorRecord_ring_other hk _,
      grows_ringErrorRecord (fun _ h => h) ..⟩
  · exact ⟨rfl, rfl, fun _ _ => rfl, .refl _ _⟩

/-- The stop of a RUNNING ring (R155, R162 to R164). -/
theorem stopAt_stops : let t := stopAt n e h st now s
    RingStopped n e h st r t ∧ (∀ k, k ≠ n → tget k t.rings = tget k s.rings) ∧
      (∀ o ∈ t.ops, o ∈ s.ops ∧ ¬Released n h o) ∧
      (∀ o ∈ s.ops, (∀ p ∈ s.ops, p.id = o.id → ¬Released n h p) → o ∈ t.ops) ∧
      (∀ x ∈ t.specs, x ∈ s.specs ∧ x.ring ≠ n) ∧ (s.Inv → WriteDue (portOf n) (r.iblk + 32) (.idxBlock n) t) ∧
      (now = true → ∃ u, RingStopped n e h st r u ∧ t = ringErrorRecord n u) := by
  obtain ⟨hops, hspecs, hother, hgrows⟩ := stopAt_quietly (e := e) (h := h) (st := st) (now := now) hr hrun
  dsimp only
  rw [hops, hspecs]
  refine ⟨stopAt_stopped hr hrun, fun k hk => ?_, fun o ho => ?_, fun o ho hkeep => ?_, fun x hx => ?_, fun hinv => ?_, fun hnow => ?_⟩
  · rw [hother k hk, stopQuietly_rings, tget_tset_other hk]
  · obtain ⟨hmem, hleft⟩ := (stopQuietly_ops o).1 ho
    exact ⟨hmem, fun hreleased => hleft o hmem (released_iff.1 hreleased) rfl⟩
  · exact (stopQuietly_ops o).2 ⟨ho, fun p hp hreleased hid => hkeep p hp hid.symm (released_iff.2 hreleased)⟩
  · rw [stopQuietly_specs] at hx
    simpa using hx
  · exact hgrows.writeDue (stopQuietly_writeDue hinv)
  · refine ⟨_, stopAt_stopped (now := false) hr hrun, ?_⟩
    rw [stopAt_eq hr hrun, stopAt_eq hr hrun, hnow]
    rfl

end

theorem haltFor_some {k : Idx} (hk : r.hiDisp = some k) : r.haltFor e = if idxBefore (e + 1) k then k else e + 1 := by
  rw [Ring.haltFor, hk]

theorem haltFor_none (hnone : r.hiDisp = none) : r.haltFor e = e + 1 := by rw [Ring.haltFor, hnone]

end

/-! ### The RING_ERROR record -/

section
variable {i typ status ring index aux : Nat} {s : State}

/-- A record of a queue that runs and has room, whose port takes writes, goes out whole (R152, R153). -/
theorem evWrite_goes (hinv : s.Inv) (hrun : (s.inst i).eq.running = true) (hport : (s.port (i % 8)).takesWrite = true)
    (hroom : ((s.inst i).eq.issued - (s.inst i).eq.head).toNat < 4096) (hbase : (s.inst i).eq.base % 65536 = 0) :
    ∃ w ∈ ((evWrite i typ status ring index aux s).port (i % 8)).wrs ++ ((evWrite i typ status ring index aux s).port (i % 8)).wrQ,
      w.owner = .eventRec i (s.inst i).eq.issued ∧
        w.addr = (s.inst i).eq.base + (s.inst i).eq.issued.toNat % 4096 * 16 ∧
        w.data = recordBytes (s.inst i).eq.issued typ status ring index aux := by
  have hlen : (recordBytes (s.inst i).eq.issued typ status ring index aux).length = 16 := by simp [recordBytes, leBytes_length]
  unfold evWrite
  dsimp only
  rw [if_neg (by rw [hrun, hport]; decide), if_neg (Nat.not_le.2 hroom)]
  refine writeReq_whole ?_ (fun hnil => ?_) ?_
  · rw [show (modEq i _ s).hwy = s.hwy from rfl, hinv.1]
    exact Nat.mod_lt _ (by decide)
  · rw [hnil] at hlen
    cases hlen
  · rw [hlen]
    omega

end

theorem ringErrorRecord_goes {n : Nat} {r : Ring} {s : State} (hinv : s.Inv) (hr : tget n s.rings = some r)
    (hrun : (s.inst r.owner).eq.running = true) (hport : (s.port (r.owner % 8)).takesWrite = true)
    (hroom : ((s.inst r.owner).eq.issued - (s.inst r.owner).eq.head).toNat < 4096)
    (hbase : (s.inst r.owner).eq.base % 65536 = 0) :
    ∃ w ∈ ((ringErrorRecord n s).port (r.owner % 8)).wrs ++ ((ringErrorRecord n s).port (r.owner % 8)).wrQ,
      w.owner = .eventRec r.owner (s.inst r.owner).eq.issued ∧
        w.addr = (s.inst r.owner).eq.base + (s.inst r.owner).eq.issued.toNat % 4096 * 16 ∧
        w.data = recordBytes (s.inst r.owner).eq.issued 2 r.errStatus n r.errIdx.toNat r.haltIdx.toNat := by
  set u := modRing n (fun r => { r with errDue := false }) s with hu
  have hinst : ∀ j, u.inst j = s.inst j := fun j => inst_modRing ..
  have hhwy : u.hwy = s.hwy := modRing_hwy ..
  have hports : ∀ m, u.port m = s.port m := fun m => by rw [State.port, hhwy, State.port]
  have hinv' : u.Inv := by
    rw [State.Inv, hhwy, hu, modRing_rooms, modRing_hearth, modRing_build]
    exact hinv
  have hgoes := evWrite_goes (i := r.owner) (typ := 2) (status := r.errStatus) (ring := n) (index := r.errIdx.toNat)
    (aux := r.haltIdx.toNat) (s := u) hinv' (by rwa [hinst]) (by rwa [hports]) (by rwa [hinst]) (by rwa [hinst])
  rw [hinst] at hgoes
  unfold ringErrorRecord
  rw [hr]
  exact hgoes

end Sys2Proof.Machine
end

section
/-!
PROOFS. Descriptors that are read (R139, R140, R215, O29): a slot that is read again, the sixteenth read, and a NOP.
-/

namespace Sys2Proof.Machine

open Sys2Proof

/-! ### The course of a copy -/

theorem injected_unarmed {s : State} (h : s.diag.armed = []) (p : Nat) (f : Word → Bool) : s.injected p f = false := by
  rw [State.injected, State.armed?, h]
  rfl

/-- An operation of a ring whose descriptor copy has arrived, whose turn it is, and which goes on (R140, Table 16-4). -/
structure CopyTurn (id : Nat) (o : Op) (r : Ring) (bytes : List Byte) (s : State) : Prop where
  op : s.op? id = some o
  ring : tget o.ring s.rings = some r
  came : s.arrived? (.desc id) = some bytes
  turn : earlierFetch o s = false
  ok : o.status = .ok
  unlocked : o.lockMark = false
  unarmed : s.diag.armed = []

section
variable {id : Nat} {o : Op} {r : Ring} {bytes : List Byte} {s : State} (h : CopyTurn id o r bytes s)
include h

theorem CopyTurn.id_eq : o.id = id := op?_id h.op

/-- A copy that counts is checked. -/
theorem CopyTurn.counts (hcounts : entryCounts r o.nextIdx (Desc.ofBytes bytes) = true) :
    descriptorReturn id s = checkCopy o r (Desc.ofBytes bytes) (takeArrived (.desc id) s) := by
  have hunarmed : (takeArrived (.desc id) s).diag.armed = [] := h.unarmed
  simp [descriptorReturn, h.op, h.came, h.ring, h.turn, h.ok, h.unlocked, hcounts, injected_unarmed hunarmed]

/-- One that does not count is read again, or is the sixteenth (R140). -/
theorem CopyTurn.uncounted {n : Nat} (hcounts : entryCounts r o.nextIdx (Desc.ofBytes bytes) = false) (hphase : o.phase = .fetch n) :
    descriptorReturn id s = if n ≥ 16 then slotFailed o .descNotOwned (takeArrived (.desc id) s)
      else modOp id (fun x => { x with phase := .reread n, blob := bytes }) (takeArrived (.desc id) s) := by
  have hunarmed : (takeArrived (.desc id) s).diag.armed = [] := h.unarmed
  simp [descriptorReturn, h.op, h.came, h.ring, h.turn, h.ok, h.unlocked, hcounts, hphase, injected_unarmed hunarmed]

/-- The sixteenth read of a head stops the ring there, and nothing completes it (R140, R165). -/
theorem CopyTurn.sixteenth {n : Nat} (hcounts : entryCounts r o.nextIdx (Desc.ofBytes bytes) = false) (hphase : o.phase = .fetch n)
    (hlast : 16 ≤ n) (hhead : o.openHead = false) (hrun : r.state = .running) : let t := descriptorReturn id s
    RingStopped o.ring o.head.idx (r.haltFor o.head.idx) .descNotOwned r t ∧ t.op? id = none ∧
      (CompletionDue id t → CompletionDue id s) := by
  obtain ⟨hstopped, hgone, hgrows⟩ := slotFailed_stops (st := .descNotOwned) (s := takeArrived (.desc id) s) hhead h.ring hrun
  dsimp only
  rw [h.uncounted hcounts hphase, if_pos hlast]
  exact ⟨hstopped, by rwa [h.id_eq] at hgone, fun hdue => (completionDue_of_grows hgrows hdue :)⟩

end

/-- An entry that waits for its next read is read again (R140). -/
theorem descReread_reads {id n : Nat} {o : Op} {r : Ring} {s : State} (hop : s.op? id = some o) (hr : tget o.ring s.rings = some r)
    (hphase : o.phase = .reread n) (hlock : o.lockMark = false) :
    (descReread id s).op? id = some { o with phase := .fetch (n + 1) } ∧ (descReread id s).rings = s.rings := by
  have hside : (descReread id s).aside = (modOp id (fun x => { x with phase := .fetch (n + 1) }) s).aside := by
    simp only [descReread, hop, hphase, hr, hlock, Bool.false_eq_true, if_false]
    rw [count_aside, readReq_aside]
  refine ⟨?_, (rings_of_aside hside :)⟩
  rw [op?_of_aside hside, op?_modOp (by exact fun _ => rfl), if_pos rfl, hop]
  rfl

/-! ### A sound NOP -/

/-- A sound NOP has no list (Table 5-2, R191). -/
theorem nop_unlisted {r : Ring} {d : Desc} (hsound : entryFault r none 0 d = none) (hnop : d.opcode = 0) :
    d.sgSrc = false ∧ d.sgDst = false := by
  have hrsvd : if r.fmt = 1 then rsvdZero1 (headFields 0 d.subop) d = true else rsvdZero (headFields 0 d.subop) d = true := by
    simp only [entryFault, hnop, ite_eq_iff] at hsound
    simp at hsound
    tauto
  split at hrsvd
  · simp only [rsvdZero1, Bool.and_eq_true, Bool.not_eq_true'] at hrsvd
    tauto
  · simp [rsvdZero, headFields] at hrsvd
    tauto

/-- An entry that is checked keeps opcode and list bits of what was read. -/
theorem checkedEntry_word (fmt : Nat) (i : Idx) (d : Desc) : (checkedEntry fmt i d).d.w0 = d.w0 := by
  unfold checkedEntry
  dsimp only
  split <;> rfl

section
variable {id : Nat} {o : Op} {e : Entry} {s : State} (hop : s.op? id = some o) (hentries : o.entries = [e])
  (hnop : e.d.opcode = 0)
include hop hentries hnop

theorem acceptOp_nop : ∃ n, (acceptOp id s).op? id = some { o with charge := 1, phase := .ready, seq := n } := by
  have hcost : o.firstCost = 1 := by simp [Op.firstCost, Op.head, hentries, Desc.aead, hnop]
  have hid : o.id = id := op?_id hop
  have hcharged := correctCharge_op? o 1 s
  rw [hid, hop] at hcharged
  refine ⟨s.nextSeq, ?_⟩
  unfold acceptOp
  rw [hop]
  dsimp only
  rw [hcost, op?_modOp (by exact fun _ => rfl), if_pos rfl, hcharged]
  rfl

/-- A NOP has no context and no blob, and is accepted at once. -/
theorem afterLists_nop : afterLists id s = acceptOp id s := by
  simp [afterLists, hop, Op.head, hentries, Desc.hasCtx, Desc.aead, hnop]

theorem afterEntries_nop (hsrc : e.d.sgSrc = false) (hdst : e.d.sgDst = false) : afterEntries id s = acceptOp id s := by
  have hnone : (firstUnread o).isNone = true := by simp [firstUnread, hentries, hsrc, hdst]
  have haead : o.head.d.aead = false := by simp [Op.head, hentries, Desc.aead, hnop]
  simp only [afterEntries, hop, haead, hnone, Bool.false_and, Bool.false_eq_true, if_false, if_true]
  exact afterLists_nop hop hentries hnop

end

/-- A sound NOP of one entry becomes ready for dispatch, charged 1 (R215, Table 6-1). -/
theorem CopyTurn.nop_ready {id : Nat} {o : Op} {r : Ring} {bytes : List Byte} {s : State} (h : CopyTurn id o r bytes s)
    (hhead : o.openHead = false) (hcounts : entryCounts r o.nextIdx (Desc.ofBytes bytes) = true)
    (hsound : entryFault r none 0 (Desc.ofBytes bytes) = none) (hnop : (Desc.ofBytes bytes).opcode = 0)
    (hlast : (Desc.ofBytes bytes).last = true) : ∃ x, (descriptorReturn id s).op? id = some x ∧ x.phase = .ready ∧ x.charge = 1 ∧
      x.entries = [checkedEntry r.fmt o.nextIdx (Desc.ofBytes bytes)] := by
  obtain rfl := h.id_eq
  set d := Desc.ofBytes bytes with hd
  set e := checkedEntry r.fmt o.nextIdx d with he
  have hword : e.d.w0 = d.w0 := checkedEntry_word ..
  obtain ⟨hsrc, hdst⟩ := nop_unlisted hsound hnop
  have htaken : (takeEntry o r d (takeArrived (.desc o.id) s)).op? o.id = some { o with blob := [], entries := [e] } := by
    have hop : (takeArrived (.desc o.id) s).op? o.id = some o := h.op
    unfold takeEntry
    dsimp only
    rw [op?_modOp (by exact fun _ => rfl), if_pos rfl, hop, hhead]
    rfl
  have hcheck : checkCopy o r d (takeArrived (.desc o.id) s) =
      afterEntries o.id (takeEntry o r d (takeArrived (.desc o.id) s)) := by
    simp only [checkCopy, hhead, checkHead, hsound, hlast, Bool.not_false, if_true]
  have hnop' : e.d.opcode = 0 := by rw [Desc.opcode, hword]; exact hnop
  have hready := afterEntries_nop htaken rfl hnop' (by rw [Desc.sgSrc, hword]; exact hsrc) (by rw [Desc.sgDst, hword]; exact hdst)
  obtain ⟨n, haccepted⟩ := acceptOp_nop htaken rfl hnop'
  rw [h.counts hcounts, hcheck, hready]
  exact ⟨_, haccepted, rfl, rfl, rfl⟩

/-- Settles O29: a ring stops by `stopAt_stops`, its record goes out by `ringErrorRecord_goes`, and a copy takes one of the courses of
`CopyTurn`. -/
theorem descriptorRead : Obligations.DescriptorRead := by
  refine ⟨fun s n e st now r hr => ⟨fun k hk => haltFor_some hk, fun hnone => haltFor_none hnone, fun hidle => ?_, fun hrun => ?_⟩,
    fun s n r hinv hr hrun hport hroom hbase => ringErrorRecord_goes hinv hr hrun hport hroom hbase,
    fun s id o r hop hr => ⟨fun bytes n hcame hturn hok hlock harmed hphase hn hcounts => ?_,
      fun bytes n hcame hturn hok hlock harmed hphase hn hcounts hhead hrun => ?_, fun n hphase hlock => ?_,
      fun bytes hcame hturn hok hlock harmed hhead hcounts hsound hnop hlast => ?_⟩⟩
  · exact stopRing_idle fun x hx => by rw [hr] at hx; cases hx; exact hidle
  · rw [stopRing_of hr]
    exact stopAt_stops hr hrun
  · have hcourse := CopyTurn.uncounted ⟨hop, hr, hcame, hturn, hok, hlock, harmed⟩ hcounts hphase
    rw [if_neg (Nat.not_le.2 hn)] at hcourse
    exact congrArg (fun u => Host.Outcome.next (finish u)) hcourse
  · exact ⟨_, rfl, CopyTurn.sixteenth ⟨hop, hr, hcame, hturn, hok, hlock, harmed⟩ hcounts hphase hn hhead hrun⟩
  · obtain ⟨hread, hrings⟩ := descReread_reads hop hr hphase hlock
    exact ⟨_, _, rfl, hread, rfl, rfl, hrings⟩
  · obtain ⟨x, hready⟩ := CopyTurn.nop_ready ⟨hop, hr, hcame, hturn, hok, hlock, harmed⟩ hhead hcounts hsound hnop hlast
    exact ⟨_, x, rfl, hready⟩

end Sys2Proof.Machine
end

section
/-!
PROOFS. What follows a command lets no ring take an entry while there is no instance (`Untaken`). First charges, records, stops
and ends; then the Larder, a flush and a lock.
-/

namespace Sys2Proof.Machine

open Sys2Proof

/-! ### The relation -/

/-- The entries that a ring has taken (R145). -/
def State.taken (s : State) (k : Nat) : Nat := ((tget k s.rings).map Ring.advanced).getD 0

/-- From `s` to `t` no ring has taken an entry, or there is an instance, which alone lets a ring be removed. -/
structure Untaken (s t : State) : Prop where
  bound : t.insts = [] → s.insts = [] ∧ ∀ k, t.taken k ≤ s.taken k

/-- The instances and the rings. -/
def State.board (s : State) : List (Nat × Inst) × List (Nat × Ring) := (s.insts, s.rings)

theorem taken_of_tget {s : State} {k : Nat} {r : Ring} (h : tget k s.rings = some r) : s.taken k = r.advanced := by
  unfold State.taken
  rw [h]
  rfl

theorem tset_ne_nil {α : Type} (k : Nat) (v : α) (l : List (Nat × α)) : tset k v l ≠ [] := by
  cases l with
  | nil => exact List.cons_ne_nil _ _
  | cons p l =>
    unfold tset
    split
    · exact List.cons_ne_nil _ _
    · split
      · exact List.cons_ne_nil _ _
      · exact List.cons_ne_nil _ _

section
variable {s t u : State}

theorem Untaken.keeps (h : t.rings = s.rings) (k : t.insts = [] → s.insts = []) : Untaken s t :=
  ⟨fun hnone => ⟨k hnone, fun n => Nat.le_of_eq (by unfold State.taken; rw [h])⟩⟩

theorem Untaken.same (h : t.board = s.board) : Untaken s t :=
  have hinsts : t.insts = s.insts := congrArg Prod.fst h
  .keeps (congrArg Prod.snd h :) fun hnone => hinsts.symm.trans hnone

theorem Untaken.refl (s : State) : Untaken s s := .same rfl

theorem Untaken.of_insts (h : t.insts ≠ []) : Untaken s t := ⟨fun hnone => absurd hnone h⟩

theorem Untaken.trans (h : Untaken s t) (k : Untaken t u) : Untaken s u := by
  refine ⟨fun hnone => ?_⟩
  obtain ⟨hmid, hlast⟩ := k.bound hnone
  obtain ⟨hstart, hfirst⟩ := h.bound hmid
  exact ⟨hstart, fun n => Nat.le_trans (hlast n) (hfirst n)⟩

/-- The last part first. -/
theorem Untaken.since (k : Untaken t u) (h : Untaken s t) : Untaken s u := h.trans k

/-- What comes after changes other tables. -/
theorem Untaken.then (h : Untaken s t) (k : u.board = t.board) : Untaken s u := h.trans (.same k)

/-- What came before changed other tables. -/
theorem Untaken.after (k : Untaken t u) (h : t.board = s.board) : Untaken s u := (Untaken.same h).trans k

theorem Untaken.foldl {α : Type} {f : State → α → State} (h : ∀ s x, Untaken s (f s x)) (l : List α) (s : State) :
    Untaken s (l.foldl f s) := by
  induction l generalizing s with
  | nil => exact .refl s
  | cons a l ih => exact (h s a).trans (ih _)

/-- A ring is written that has taken no more entries than the one before. -/
theorem Untaken.ring {n : Nat} {r : Ring} (h : r.advanced ≤ s.taken n) (hset : t.board = (s.insts, tset n r s.rings)) :
    Untaken s t := by
  obtain ⟨hinsts, hrings⟩ := Prod.mk.inj hset
  refine ⟨fun hnone => ⟨hinsts.symm.trans hnone, fun k => ?_⟩⟩
  unfold State.taken
  rw [hrings, tget_tset]
  split
  · next hk => exact hk ▸ h
  · exact Nat.le_refl _

end

/-! ### Instances, counters, ports and rings -/

theorem untaken_modInst (i : Nat) (f : Inst → Inst) (s : State) : Untaken s (modInst i f s) :=
  .of_insts (tset_ne_nil i (f (s.inst i)) s.insts)

theorem untaken_modEq (i : Nat) (f : EventQ → EventQ) (s : State) : Untaken s (modEq i f s) := untaken_modInst ..

theorem untaken_modCq (q : Nat) (f : CmdQ → CmdQ) (s : State) : Untaken s (modCq q f s) := untaken_modInst ..

theorem untaken_coldPage (i : Nat) (s : State) : Untaken s (coldPage i s) :=
  .of_insts (tset_ne_nil i _ s.insts)

theorem untaken_takeArrivedPacket (q : Nat) (p : List Byte) (s : State) : Untaken s (takeArrivedPacket q p s) := untaken_modCq ..

theorem untaken_dropPacketRead (q : Nat) (s : State) : Untaken s (dropPacketRead q s) := (untaken_modCq ..).after rfl

theorem untaken_addCounter (i n amt : Nat) (s : State) : Untaken s (addCounter i n amt s) := by
  unfold addCounter
  dsimp only
  split
  · exact .refl s
  · split
    · split
      · exact .of_insts (tset_ne_nil _ _ s.insts)
      · exact untaken_modInst ..
    · exact .refl s

theorem untaken_countIn (i ev amt : Nat) (e : EvTag) (s : State) : Untaken s (countIn i ev amt e s) := by
  unfold countIn countWith
  refine .foldl (fun s n => ?_) _ s
  split
  · exact .refl s
  · split
    · exact untaken_addCounter ..
    · exact .refl s

theorem untaken_count (ev amt : Nat) (e : EvTag) (s : State) : Untaken s (count ev amt e s) := by
  have hinst : Untaken s (if e.inst == 0 then s else countIn e.inst ev amt e s) := by
    split
    · exact .refl s
    · exact untaken_countIn ..
  exact (untaken_countIn ..).since hinst

theorem untaken_countOp (ev amt : Nat) (o : Op) (s : State) : Untaken s (countOp ev amt o s) := by
  unfold countOp
  split
  · exact untaken_countIn ..
  · exact untaken_count ..

theorem untaken_pump (n : Nat) (s : State) : Untaken s (pump n s) := by
  unfold pump issueWrites
  dsimp only
  split
  · split
    · exact .same rfl
    · exact (untaken_countIn ..).after rfl
  · exact .refl s

theorem untaken_readReq (n addr len tag : Nat) (o : Owner) (off : Nat) (s : State) :
    Untaken s (readReq n addr len tag o off s) := (untaken_pump ..).after rfl

theorem untaken_writeReq (n addr : Nat) (data : List Byte) (tag : Nat) (o : Owner) (s : State) :
    Untaken s (writeReq n addr data tag o s) := (untaken_pump ..).after rfl

theorem untaken_writeIndex (n : Nat) (s : State) : Untaken s (writeIndex n s) := by
  unfold writeIndex
  split
  · exact .refl s
  · exact untaken_writeReq ..

theorem untaken_zeroWrites (o : Op) (s : State) : Untaken s (zeroWrites o s) :=
  .foldl (fun _ _ => untaken_writeReq ..) _ s

theorem untaken_modRing (n : Nat) {f : Ring → Ring} (h : ∀ r, (f r).advanced ≤ r.advanced) (s : State) :
    Untaken s (modRing n f s) := by
  unfold modRing
  split
  · exact .refl s
  · next r hr => exact .ring (taken_of_tget hr ▸ h r) rfl

/-! ### Records -/

theorem untaken_reply (q : Nat) (st : Status) (d : Nat) (body : List Byte) (s : State) : Untaken s (reply q st d body s) := by
  unfold reply
  split
  · exact .refl s
  · exact (untaken_writeReq ..).since ((untaken_writeReq ..).since (untaken_modInst ..))

theorem untaken_setPend (i typ ring : Nat) (s : State) : Untaken s (setPend i typ ring s) := by
  unfold setPend
  split
  · exact untaken_modRing _ (fun _ => by exact Nat.le_refl _) s
  · exact untaken_modEq ..

theorem untaken_irqCheck (i : Nat) (s : State) : Untaken s (irqCheck i s) := by
  unfold irqCheck
  dsimp only
  split
  · exact (untaken_writeReq ..).since (untaken_modEq ..)
  · exact .refl s

theorem untaken_evWrite (i typ status ring index aux : Nat) (s : State) :
    Untaken s (evWrite i typ status ring index aux s) := by
  unfold evWrite
  dsimp only
  split
  · exact untaken_setPend ..
  · split
    · exact (untaken_irqCheck ..).since ((untaken_setPend ..).since (untaken_modEq ..))
    · exact (untaken_writeReq ..).since (untaken_modEq ..)

theorem untaken_ringErrorRecord (n : Nat) (s : State) : Untaken s (ringErrorRecord n s) := by
  unfold ringErrorRecord
  split
  · exact .refl s
  · exact (untaken_evWrite ..).since (untaken_modRing n (fun _ => by exact Nat.le_refl _) s)

/-! ### Releases, stops, completions and ends -/

theorem untaken_keepRecord (o : Op) (s : State) : Untaken s (keepRecord o s) := by
  unfold keepRecord
  split
  · split
    · exact .same rfl
    · exact .refl s
  · exact .refl s

theorem untaken_releaseOp (id : Nat) (s : State) : Untaken s (releaseOp id s) := by
  unfold releaseOp
  split
  · next o _ =>
    have hskip : Untaken s (o.sample.foldl (fun s (p : Nat × Nat) => skipSample p.1 s) s) :=
      .foldl (fun s p => untaken_modInst ..) _ s
    have hkept : Untaken s (keepRecord o (o.sample.foldl (fun s (p : Nat × Nat) => skipSample p.1 s) s)) :=
      hskip.trans (untaken_keepRecord ..)
    dsimp only
    split
    · exact hkept.then rfl
    · exact hkept.then rfl
  · exact .same rfl

theorem untaken_releaseAll (f : Op → Bool) (s : State) : Untaken s (releaseAll f s) :=
  .foldl (f := fun s (o : Op) => releaseOp o.id s) (fun s o => untaken_releaseOp o.id s) _ s

theorem advancedTo_le (r : Ring) (h : Idx) : r.advancedTo h ≤ r.advanced := by
  unfold Ring.advancedTo
  split
  · exact Nat.le_refl _
  · exact Nat.sub_le ..

theorem untaken_stopAt (n : Nat) (e h : Idx) (st : Status) (now : Bool) (s : State) : Untaken s (stopAt n e h st now s) := by
  unfold stopAt
  split
  · exact .refl s
  · next r hr =>
    split
    · exact .refl s
    · have hindex : ∀ u : State, Untaken u (writeIndex n (dropSpecs n u)) := fun u => (untaken_writeIndex ..).after rfl
      have hset : ∀ u : State, u.board = (s.insts, tset n { r with
          state := .error, errIdx := e, haltIdx := h, consumed := h, advanced := r.advancedTo h, errStatus := st.code.toNat,
          errDue := true, stops := (r.stops + 1) % 2 ^ 32 } s.rings) → Untaken s u := fun u hu =>
        .ring (taken_of_tget hr ▸ advancedTo_le r h) hu
      dsimp only
      split
      · exact (untaken_ringErrorRecord ..).since ((hindex _).since ((untaken_releaseAll ..).since (hset _ rfl)))
      · exact (hindex _).since ((untaken_releaseAll ..).since (hset _ rfl))

theorem untaken_stopRing (n : Nat) (e : Idx) (st : Status) (now : Bool) (s : State) : Untaken s (stopRing n e st now s) := by
  unfold stopRing
  split
  · exact .refl s
  · exact untaken_stopAt ..

theorem untaken_postOp (o : Op) (s : State) : Untaken s (postOp o s) := by
  unfold postOp
  split
  · exact untaken_releaseOp ..
  · exact (Untaken.foldl (fun s e => untaken_writeReq ..) _ _).after rfl

theorem untaken_tryPost (n : Nat) (s : State) : Untaken s (tryPost n s) :=
  .foldl (fun s _ => by
    split
    · exact .refl s
    · split
      · exact untaken_postOp ..
      · exact .refl s) _ s

theorem untaken_endOp (id : Nat) (st : Status) (good : Nat) (s : State) : Untaken s (endOp id st good s) := by
  unfold endOp
  split
  · exact .refl s
  · split
    · exact untaken_releaseOp ..
    · have hscrub : ∀ (c : Bool) (o : Op) (u : State), Untaken u (if c then zeroWrites o u else u)
        | true, o, u => untaken_zeroWrites o u
        | false, _, u => .refl u
      have hcount : ∀ (c : Bool) (o : Op) (u : State), Untaken u (if c then countOp 0xF 1 o u else u)
        | true, o, u => untaken_countOp 0xF 1 o u
        | false, _, u => .refl u
      have hstop : ∀ (c : Bool) (o : Op) (u : State), Untaken u (if c then stopRing o.ring o.head.idx st false u else u)
        | true, o, u => untaken_stopRing ..
        | false, _, u => .refl u
      exact (untaken_tryPost ..).since ((hstop ..).since ((hcount ..).since ((hscrub ..).after rfl)))

theorem untaken_chargeTo (o : Op) (cost : Nat) (s : State) : Untaken s (chargeTo o cost s) := by
  have hcharge : ∀ (i units : Nat) (u : State), Untaken u (chargeInst i units u) := fun i units u => by
    unfold chargeInst fixedCount
    split
    · exact untaken_modInst ..
    · exact (untaken_addCounter ..).since (untaken_modInst ..)
  have hrefund : ∀ (i units : Nat) (u : State), Untaken u (refundInst i units u) := fun i units u => by
    unfold refundInst
    dsimp only
    split
    · exact untaken_modInst ..
    · exact .since (untaken_modInst ..) (untaken_modInst ..)
  unfold chargeTo
  dsimp only
  split
  · exact (hcharge ..).then rfl
  · exact (hrefund ..).then rfl

theorem untaken_failUndispatched (o : Op) (st : Status) (s : State) : Untaken s (failUndispatched o st s) := by
  unfold failUndispatched
  split
  · exact untaken_endOp ..
  · exact (untaken_chargeTo ..).trans (untaken_endOp ..)

theorem untaken_endRetire (x : Slot) (st : Status) (s : State) : Untaken s (endRetire x st s) := by
  unfold endRetire
  split
  · exact untaken_endOp ..
  · exact .refl s

/-! ### The path of an index -/

theorem untaken_askNode (level n : Nat) (s : State) : Untaken s (askNode level n s) := by
  unfold askNode
  split
  · exact .refl s
  · exact untaken_readReq ..

theorem untaken_nodeRoom {level n : Nat} {s t : State} (h : nodeRoom level n s = some t) : Untaken s t := by
  unfold nodeRoom at h
  split at h
  · cases h
    exact .refl s
  · split at h
    · split at h
      · cases h
      · cases h
        exact .same rfl
    · cases h

theorem untaken_cacheNode (level n : Nat) (c : Ctrs) (s : State) : Untaken s (cacheNode level n c s) := by
  unfold cacheNode
  split
  · exact .refl s
  · split
    · next hroom => exact (untaken_nodeRoom hroom).then rfl
    · exact .refl s

theorem untaken_ensurePath (i k : Nat) (s : State) : Untaken s (ensurePath i k s).2 := by
  induction k generalizing s with
  | zero => exact .refl s
  | succ k ih =>
    unfold ensurePath
    dsimp only
    split
    · exact (ih _).after rfl
    · split
      · split
        · exact untaken_cacheNode ..
        · exact (untaken_cacheNode ..).trans (ih _)
      · dsimp only
        split
        · exact untaken_askNode ..
        · exact .refl s

theorem untaken_eccRead (code : Nat) (s : State) : Untaken s (eccRead code s).2 := by
  unfold eccRead
  split
  · dsimp only
    split
    · exact .same rfl
    · exact .same rfl
  · split
    · split
      · exact .same rfl
      · exact .same rfl
    · exact .refl s

theorem untaken_readPath (i k : Nat) (s : State) : Untaken s (readPath i k s).2 := by
  induction k generalizing s with
  | zero => exact .refl s
  | succ k ih =>
    have hread := untaken_eccRead 3 s
    unfold readPath
    generalize eccRead 3 s = r at hread ⊢
    obtain ⟨bad, u⟩ := r
    dsimp only
    split
    · exact hread.trans (ih _)
    · split
      · split
        · exact hread.then rfl
        · exact (untaken_ensurePath ..).since (hread.then rfl)
      · exact hread

theorem untaken_path (i : Nat) (s : State) : Untaken s (path i s).2 := by
  have hensure := untaken_ensurePath i 4 s
  unfold path
  generalize ensurePath i 4 s = r at hensure ⊢
  obtain ⟨ok, u⟩ := r
  dsimp only
  split
  · exact (untaken_readPath ..).since hensure
  · exact hensure

/-! ### Counters of the tree -/

theorem untaken_dropChildReads (level n : Nat) (s : State) : Untaken s (dropChildReads level n s) := by
  unfold dropChildReads
  dsimp only
  split
  · exact .same rfl
  · exact .same rfl

theorem untaken_raiseAt (level n c : Nat) (s : State) : Untaken s (raiseAt level n c s).2 := by
  have hmark : ∀ u v : State, Untaken s u → v.board = u.board → Untaken s (markDirty v) := fun u v h k =>
    h.then (show (markDirty v).board = u.board from k)
  unfold raiseAt
  split
  · refine hmark (if (s.cel.treeRoot.raise c).2 then dropChildReads 4 0 (holdRoot s.cel.treeRoot s) else s) _ ?_ rfl
    split
    · exact (untaken_dropChildReads ..).after rfl
    · exact .refl s
  · split
    · exact .refl s
    · next y _ =>
      refine hmark (if (y.c.raise c).2 then dropChildReads level n s else s) _ ?_ rfl
      split
      · exact untaken_dropChildReads ..
      · exact .refl s

theorem untaken_progressTomb (index : Nat) (s : State) : Untaken s (progressTomb index s) := by
  unfold progressTomb
  split
  · split
    · have hpath := untaken_path index s
      generalize path index s = r at hpath ⊢
      obtain ⟨ok, u⟩ := r
      dsimp only
      split
      · have hraise := untaken_raiseAt 0 (index / 64) (index % 64) u
        generalize raiseAt 0 (index / 64) (index % 64) u = r at hraise ⊢
        exact (untaken_writeReq ..).since ((hpath.trans hraise).then rfl)
      · exact hpath
    · exact .refl s
  · exact .refl s

theorem untaken_zeroiseRetired (x : Slot) (s : State) : Untaken s (zeroiseRetired x s) := by
  unfold zeroiseRetired
  dsimp only
  split
  · exact (untaken_endRetire ..).after rfl
  · exact (untaken_progressTomb ..).after rfl

theorem untaken_attachEnd (ok : Bool) (s : State) : Untaken s (attachEnd ok s) := by
  unfold attachEnd
  dsimp only
  split
  · exact (untaken_reply ..).after rfl
  · exact (untaken_reply ..).after rfl

theorem untaken_makeStale (s : State) : Untaken s (makeStale s) := by
  have hattach : ∀ u : State, Untaken u (if u.attaching then attachEnd false u else u) := fun u => by
    split
    · exact untaken_attachEnd ..
    · exact .refl u
  unfold makeStale
  split
  · exact .refl s
  · have hparked : ∀ (l : List Op) (u : State), Untaken u (l.foldl (fun s o => failUndispatched o .ctxNoLarder s) u) := fun l u =>
      .foldl (fun s o => untaken_failUndispatched ..) l u
    have htombs : ∀ (l : List (Nat × Slot)) (u : State),
        Untaken u (l.foldl (fun s p => endRetire p.2 .ok (freeIndex p.2.index s)) u) := fun l u =>
      .foldl (f := fun s (p : Nat × Slot) => endRetire p.2 .ok (freeIndex p.2.index s)) (fun s p =>
        (untaken_endRetire ..).after rfl) l u
    exact (hparked ..).since ((hattach _).since ((htombs ..).after rfl))

theorem untaken_retired (l : List (Nat × Slot)) (s : State) : Untaken s (l.foldl (fun s p => zeroiseRetired p.2 s) s) :=
  .foldl (f := fun s (p : Nat × Slot) => zeroiseRetired p.2 s) (fun s p => untaken_zeroiseRetired p.2 s) l s

theorem untaken_dirProgress (s : State) : Untaken s (dirProgress s) := by
  unfold dirProgress
  split
  · exact ((untaken_makeStale _).since (untaken_retired ..)).then rfl
  · exact .refl s

/-! ### A flush -/

theorem untaken_askParents (s : State) : Untaken s (askParents s) :=
  .foldl (fun s x => by
    split
    · exact untaken_askNode ..
    · exact .refl s) _ s

theorem untaken_writeNode (o : Owner) (x : Node) (s : State) : Untaken s (writeNode o x s) := by
  have hraise := untaken_raiseAt (x.level + 1) (x.n / 64) (childOf x.level x.n) s
  unfold writeNode
  generalize raiseAt (x.level + 1) (x.n / 64) (childOf x.level x.n) s = r at hraise ⊢
  exact (untaken_writeReq ..).since (hraise.then rfl)

theorem untaken_flushLevel (k : Nat) (s : State) : Untaken s (flushLevel k s) :=
  .foldl (f := fun s (x : Node) => modNode x.level x.n (fun z => { z with wbOut := true })
    (writeNode (.flushNode x.level x.n) x s)) (fun s x => (untaken_writeNode (.flushNode x.level x.n) x s).then rfl) _ s

theorem untaken_flushSlot (x : Slot) (s : State) : Untaken s (flushSlot x s) := by
  have hraise := untaken_raiseAt 0 (x.index / 64) (x.index % 64) s
  unfold flushSlot
  generalize raiseAt 0 (x.index / 64) (x.index % 64) s = r at hraise ⊢
  exact (untaken_writeReq ..).since (hraise.then rfl)

theorem untaken_readSlotWord (index : Nat) {k : State → State} (hk : ∀ s, Untaken s (k s)) (s : State) :
    Untaken s (readSlotWord index k s) := by
  have hread := untaken_eccRead 1 s
  unfold readSlotWord
  generalize eccRead 1 s = r at hread ⊢
  obtain ⟨bad, u⟩ := r
  dsimp only
  split
  · exact hread.then rfl
  · exact hread.trans (hk u)

/-- The paths of the slots are fetched one after another. -/
theorem untaken_paths (l : List (Nat × Slot)) (b : Bool) (s : State) :
    Untaken s (l.foldl (fun (a : Bool × State) p => let (b, s) := path p.2.index a.2; (a.1 && b, s)) (b, s)).2 := by
  induction l generalizing b s with
  | nil => exact .refl s
  | cons p l ih => exact (untaken_path ..).trans (ih _ _)

theorem endFlush_board (ok : Bool) (s : State) : (endFlush ok s).board = s.board := rfl

theorem untaken_flushStep (s : State) : Untaken s (flushStep s) := by
  have hslots : ∀ (l : List (Nat × Slot)) (u : State),
      Untaken u (l.foldl (fun s p => readSlotWord p.2.index (flushSlot p.2) s) u) := fun l u =>
    .foldl (f := fun s (p : Nat × Slot) => readSlotWord p.2.index (flushSlot p.2) s) (fun s p =>
      untaken_readSlotWord _ (untaken_flushSlot p.2) s) l u
  have hlevels : ∀ (l : List (Nat × Slot)) (u : State), Untaken u (flushLevel 3 (flushLevel 2 (flushLevel 1 (flushLevel 0
      (l.foldl (fun s p => readSlotWord p.2.index (flushSlot p.2) s) u))))) := fun l u =>
    (untaken_flushLevel ..).since ((untaken_flushLevel ..).since ((untaken_flushLevel ..).since ((untaken_flushLevel ..).since
      (hslots l u))))
  unfold flushStep
  split
  · exact .refl s
  split
  · exact .same rfl
  split
  · exact .same rfl
  split
  · exact untaken_askParents s
  split
  · exact untaken_retired ..
  split
  · exact .foldl (f := fun s (p : Nat × Slot) => progressTomb p.2.index s) (fun s p => untaken_progressTomb p.2.index s) _ s
  have hpaths := untaken_paths (s.pan.slots.filter (fun p => p.2.dirty && p.2.state == .live)) true s
  dsimp only
  generalize (s.pan.slots.filter (fun p => p.2.dirty && p.2.state == .live)).foldl _ (true, s) = r at hpaths ⊢
  obtain ⟨ok, u⟩ := r
  dsimp only at hpaths ⊢
  split
  · exact hpaths
  have hdone := hpaths.trans (hlevels (s.pan.slots.filter (fun p => p.2.dirty && p.2.state == .live)) u)
  split
  · exact hdone
  · exact hdone.then (endFlush_board ..)

theorem untaken_startFlush (w : FlushFor) (s : State) : Untaken s (startFlush w s) := by
  unfold startFlush
  split
  · exact .same rfl
  · exact (untaken_flushStep ..).after rfl

/-! ### Keys lost, a lock, engines -/

theorem untaken_keyProgress (s : State) : Untaken s (keyProgress s) := by
  unfold keyProgress
  split
  · exact (untaken_startFlush ..).after rfl
  · split
    · exact .keeps rfl fun hnone => List.map_eq_nil_iff.1 hnone
    · exact .refl s

theorem untaken_loadProgress (s : State) : Untaken s (loadProgress s) := .same rfl

theorem untaken_releaseProgress (s : State) : Untaken s (releaseProgress s) := .same rfl

theorem untaken_lockProgress (s : State) : Untaken s (lockProgress s) := by
  unfold lockProgress
  split
  · exact .refl s
  · exact .refl s
  · split
    · split
      · exact .same rfl
      · exact (untaken_startFlush ..).after rfl
    · exact .refl s
  · split
    · exact .refl s
    · exact .same rfl

end Sys2Proof.Machine
end

section
/-!
PROOFS. No ring takes an entry in the settling of rings and instances, in power entries and soft resets, and in all that
follows a command (`untaken_finish`).
-/

namespace Sys2Proof.Machine

open Sys2Proof

/-! ### Rings and instances -/

theorem untaken_quietRing (n : Nat) (s : State) : Untaken s (quietRing n s) :=
  (untaken_modRing n (fun _ => by exact Nat.le_refl _) s).then rfl

theorem untaken_orphanErrorRecord (n : Nat) (s : State) : Untaken s (orphanErrorRecord n s) := by
  unfold orphanErrorRecord
  split
  · exact .refl s
  · split
    · exact untaken_ringErrorRecord ..
    · exact .refl s

theorem untaken_drainRing (n : Nat) (st : RingState) (s : State) : Untaken s (drainRing n st s) := by
  unfold drainRing
  split
  · exact .refl s
  · next r _ =>
    have hflag : Untaken s (if r.held.isSome then dbFlag r.owner n (fun d => { d with stale := true }) s else s) := by
      split
      · exact untaken_modInst ..
      · exact .refl s
    exact (untaken_tryPost ..).since ((untaken_orphanErrorRecord ..).since ((untaken_releaseAll ..).since
      ((untaken_quietRing ..).since ((untaken_modRing n (fun _ => by exact Nat.le_refl _) _).since hflag))))

/-- A served instance is one that exists. -/
theorem insts_ne_nil_of_served {s : State} {i : Nat} (h : (s.inst i).served = true) : s.insts ≠ [] := fun hnone => by
  have habsent : s.inst i = Inst.absent := by
    unfold State.inst
    rw [hnone]
    rfl
  exact absurd (habsent ▸ h) (by decide)

theorem untaken_settleRing (n : Nat) (s : State) : Untaken s (settleRing n s) := by
  have hrestart : ∀ u : State, Untaken u (match tget n u.rings with
      | some r => evWrite r.owner 3 0 n r.consumed.toNat r.stops (writeIndex n u)
      | none => u) := fun u => by
    split
    · exact (untaken_evWrite ..).since (untaken_writeIndex ..)
    · exact .refl u
  unfold settleRing
  split
  · exact .refl s
  · next r _ =>
    split
    · exact .refl s
    · next hwork =>
      have hserved : (s.inst r.owner).served = true := by
        simp only [Bool.or_eq_true, Bool.not_eq_true', not_or, Bool.not_eq_false] at hwork
        exact hwork.2
      dsimp only
      split
      · exact (hrestart _).since (untaken_modRing n (fun _ => by exact Nat.le_refl _) s)
      · exact (hrestart _).since (untaken_modRing n (fun _ => by exact Nat.zero_le _) s)
      · exact .of_insts (insts_ne_nil_of_served hserved)
      · exact .refl s

theorem untaken_quietRings (l : List Nat) (s : State) : Untaken s (l.foldl (fun s n => quietRing n s) s) :=
  .foldl (fun s n => untaken_quietRing n s) l s

theorem modOp_board (id : Nat) (f : Op → Op) (s : State) : (modOp id f s).board = s.board := rfl

theorem mapEngines_board (f : Engine → Engine) (s : State) : (mapEngines f s).board = s.board := rfl

theorem orphanReads_board (f : Owner → Bool) (s : State) : (orphanReads f s).board = s.board := rfl

theorem untaken_makeOld (o : Op) (s : State) : Untaken s (makeOld o s) := by
  have hother : ∀ (f : Op → Op) (g : Engine → Engine) (k : Owner → Bool),
      (modOp o.id f (mapEngines g (orphanReads k s))).board = s.board := fun f g k => by
    rw [modOp_board, mapEngines_board, orphanReads_board]
  unfold makeOld
  dsimp only
  split
  · exact .same (hother ..)
  · exact (untaken_releaseOp ..).after (hother ..)

theorem untaken_generationStep (i : Nat) (s : State) : Untaken s (generationStep i s) := by
  have hold : ∀ (l : List Op) (u : State), Untaken u (l.foldl (fun s o => makeOld o s) u) := fun l u =>
    .foldl (fun s o => untaken_makeOld o s) l u
  have htagged : ∀ u : State, Untaken u (freeRecords (dropTagged i u)) := fun u => .same rfl
  unfold generationStep
  exact (htagged _).since ((hold ..).since ((untaken_quietRings ..).since (untaken_modInst ..)))

theorem untaken_retireResident (i : Nat) (s : State) : Untaken s (retireResident i s) := by
  have hend : ∀ (r : Option Nat) (good : Nat) (u : State), Untaken u (match r with
      | some id => endOp id .ok good u
      | none => u)
    | some id, good, u => untaken_endOp id .ok good u
    | none, _, u => .refl u
  have hwake : ∀ (n : Nat) (u : State), Untaken u (wakeIndex n u) := fun _ _ => .same rfl
  refine .foldl (fun s p => ?_) _ s
  dsimp only
  split
  · exact (hwake ..).since ((hend p.2.retireOp (if p.2.zeroed then p.2.final else p.2.f104) _).after rfl)
  · exact .same rfl

theorem untaken_endDestroy (i : Nat) (s : State) : Untaken s (endDestroy i s) := by
  have hdoor : ∀ u : State, Untaken u (dropDoorWork i u) := fun u => .same rfl
  unfold endDestroy
  exact (hdoor _).since ((untaken_retireResident ..).since (.of_insts (tset_ne_nil _ _ (coldPage i (dropRings i s)).insts)))

theorem untaken_settleDestroy (i : Nat) (s : State) : Untaken s (settleDestroy i s) := by
  unfold settleDestroy
  split
  · dsimp only
    split
    · exact (untaken_modInst ..).since (untaken_endDestroy i s)
    · exact untaken_endDestroy i s
  · exact .refl s

theorem untaken_endReset (i : Nat) (s : State) : Untaken s (endReset i s) :=
  .of_insts (tset_ne_nil _ _ (coldPage i (dropRings i s)).insts)

/-! ### Commands of a transaction -/

theorem untaken_takeWrap (i n : Nat) (s : State) : Untaken s (takeWrap i n s) := by
  have hflag : ∀ u : State, u.insts ≠ [] → Untaken s (match (u.inst i).counters[n]? with
      | some c => if c.ovfRec then evWrite i 0x20 0 0 n c.event u else u
      | none => u) := fun u hu => by
    split
    · split
      · exact (untaken_evWrite ..).since (.of_insts hu)
      · exact .of_insts hu
    · exact .of_insts hu
  unfold takeWrap
  split
  · exact .refl s
  · exact hflag _ (tset_ne_nil i _ s.insts)

theorem untaken_applyCounter (i n en ev : Nat) (f : Word) (s : State) : Untaken s (applyCounter i n en ev f s) := by
  unfold applyCounter
  exact (untaken_modInst ..).since (untaken_takeWrap i n s)

theorem untaken_applyStaged (c : Staged) (s : State) : Untaken s (applyStaged c s) := by
  unfold applyStaged
  dsimp only
  split
  · exact (untaken_coldPage ..).since (untaken_modInst ..)
  split
  · exact (untaken_settleDestroy ..).since ((untaken_generationStep ..).since
      (((untaken_dropPacketRead ..).since (untaken_modInst ..)).then rfl))
  split
  · exact untaken_modInst ..
  split
  · exact .ring (r := newRing c.pkt) (Nat.zero_le _) rfl
  split
  · exact (untaken_settleRing ..).since (untaken_drainRing ..)
  split
  · exact untaken_applyCounter ..
  · exact .refl s

theorem untaken_applyInOrder (l : List Staged) (s : State) : Untaken s (applyInOrder l s) := by
  induction l generalizing s with
  | nil => exact .refl s
  | cons c l ih =>
    unfold applyInOrder
    split
    · exact .same rfl
    · exact (untaken_applyStaged c s).trans (ih _)

theorem untaken_applyLater (s : State) : Untaken s (applyLater s) := by
  unfold applyLater
  split
  · exact .refl s
  · exact (untaken_applyInOrder ..).after rfl

/-! ### Commands that end -/

theorem untaken_waitEnd {w : Wait} {s t : State} {st : Status} {body : List Byte} (h : waitEnd w s = some (st, body, t)) :
    Untaken s t := by
  unfold waitEnd at h
  dsimp only at h
  split at h
  · split at h
    · cases h; exact .refl s
    · cases h
  · split at h
    · cases h; exact untaken_endReset ..
    · cases h
  · split at h
    · cases h; exact .refl s
    · split at h
      · cases h; exact untaken_settleDestroy ..
      · cases h
  · split at h
    · cases h; exact .refl s
    · split at h
      · cases h
      · cases h; exact .refl s
  · split at h
    · cases h
    · cases h; exact .refl s
  · cases h

theorem untaken_settleServing (q : Nat) (s : State) : Untaken s (settleServing q s) := by
  unfold settleServing
  split
  · split
    · exact .refl s
    · split
      · next hend => exact (untaken_reply ..).since (untaken_waitEnd hend)
      · exact .refl s
  · exact .refl s

theorem untaken_settleLate (s : State) : Untaken s (settleLate s) :=
  .foldl (fun s l => by
    split
    · next hend =>
      split at hend
      · exact (untaken_evWrite ..).since ((untaken_waitEnd hend).then rfl)
      · cases hend
    · exact .refl s) _ s

theorem untaken_settleQuiesce (i : Nat) (s : State) : Untaken s (settleQuiesce i s) := by
  unfold settleQuiesce
  dsimp only
  split
  · exact untaken_modInst ..
  · exact .refl s

theorem untaken_settleKek (i : Nat) (s : State) : Untaken s (settleKek i s) := by
  unfold settleKek
  dsimp only
  split
  · exact untaken_modInst ..
  · exact .refl s

theorem untaken_studyFetch (s : State) : Untaken s (studyFetch s) := by
  unfold studyFetch
  split
  · exact .refl s
  · split
    · exact .refl s
    · exact (untaken_readReq ..).since (untaken_modInst ..)

theorem untaken_settle (s : State) : Untaken s (settle s) := by
  have hrings : ∀ (l : List Nat) (u : State), Untaken u (l.foldl (fun s n => settleRing n s) u) := fun l u =>
    .foldl (fun s n => untaken_settleRing n s) l u
  have hkeys : ∀ (l : List Nat) (u : State), Untaken u (l.foldl (fun s i => settleKek i (settleQuiesce i s)) u) := fun l u =>
    .foldl (fun s i => (untaken_settleQuiesce i s).trans (untaken_settleKek i _)) l u
  have hserve : ∀ (l : List Nat) (u : State), Untaken u (l.foldl (fun s q => settleServing q s) u) := fun l u =>
    .foldl (fun s q => untaken_settleServing q s) l u
  have hdestroy : ∀ (l : List Nat) (u : State), Untaken u (l.foldl (fun s i => settleDestroy i s) u) := fun l u =>
    .foldl (fun s i => untaken_settleDestroy i s) l u
  exact (untaken_studyFetch _).since ((untaken_applyLater _).since ((hdestroy ..).since ((untaken_settleLate _).since
    ((hserve ..).since ((hkeys ..).since (hrings ..))))))

theorem untaken_issueSamples (s : State) : Untaken s (issueSamples s) := by
  refine Untaken.after (.foldl (fun s q => ?_) _ _) rfl
  dsimp only
  split
  · exact (untaken_writeReq ..).since (untaken_modInst ..)
  · exact .same rfl

/-! ### Packets given up -/

theorem untaken_undoAttach (w : Wait) (s : State) : Untaken s (undoAttach w s) := by
  unfold undoAttach
  split
  · exact .same rfl
  · exact .refl s

theorem untaken_keyinDone (q : Nat) (p : List Byte) (s : State) : Untaken s (keyinDone q p s) := by
  unfold keyinDone
  split
  · exact .same rfl
  · exact .refl s

theorem untaken_answerTaken (st : Status) (keep : Nat → List Byte → Wait → Bool) (s : State) :
    Untaken s (answerTaken st keep s) := by
  have hdrop : ∀ (q : Nat) (u : State), Untaken u (match (u.inst q).cq.arrived with
      | some p => if keep q p .none then u else takeArrivedPacket q p u
      | none => u) := fun q u => by
    split
    · split
      · exact .refl u
      · exact untaken_takeArrivedPacket ..
    · exact .refl u
  have hanswer : ∀ (q : Nat) (u : State), Untaken u (match (u.inst q).cq.serving with
      | some v => if v.reply.isSome || keep q v.pkt v.wait then u else reply q st 0 [] (undoAttach v.wait (keyinDone q v.pkt u))
      | none => u) := fun q u => by
    split
    · split
      · exact .refl u
      · exact (untaken_reply ..).since ((untaken_undoAttach ..).since (untaken_keyinDone ..))
    · exact .refl u
  exact .foldl (fun s q => (hanswer q _).since (hdrop q s)) _ s

theorem untaken_drainLate (q : Nat) (s : State) : Untaken s (drainLate q s) := by
  unfold drainLate
  split
  · split
    · exact (untaken_reply ..).after rfl
    · exact .refl s
  · exact .refl s

theorem untaken_dropStage (st : Status) (s : State) : Untaken s (dropStage st s) := by
  unfold dropStage
  split
  · exact .refl s
  · dsimp only
    split
    · exact .same rfl
    · exact .same rfl

theorem untaken_answerDrains (s : State) : Untaken s (answerDrains s) := by
  have hlate : ∀ (l : List Nat) (u : State), Untaken u (l.foldl (fun s q => drainLate q s) u) := fun l u =>
    .foldl (fun s q => untaken_drainLate q s) l u
  exact (untaken_answerTaken ..).since ((hlate ..).since (untaken_dropStage ..))

theorem untaken_lowerCmdRdy (s : State) : Untaken s (lowerCmdRdy s) := by
  have hdrop : ∀ (l : List Nat) (u : State), Untaken u (l.foldl (fun s q => dropPacketRead q s) u) := fun l u =>
    .foldl (fun s q => untaken_dropPacketRead q s) l u
  have hhold : Untaken s (if s.study.cmdRdy then holdRegs s else s) := by
    split
    · exact .same rfl
    · exact .refl s
  exact ((hdrop ..).since hhold).then rfl

/-! ### Power entries and soft resets -/

theorem untaken_mainOff (retain : Bool) (s : State) : Untaken s (mainOff retain s) := by
  unfold mainOff
  cases retain
  · exact .keeps rfl fun hnone => List.map_eq_nil_iff.1 hnone
  · exact .same rfl

theorem untaken_powerProgress (s : State) : Untaken s (powerProgress s) := by
  unfold powerProgress
  split
  · exact .refl s
  · split
    · split
      · exact .refl s
      split
      · exact .same rfl
      split
      · exact .same rfl
      · exact .same rfl
    · split
      · split
        · exact .refl s
        · exact (untaken_startFlush ..).since (((untaken_lowerCmdRdy _).since (untaken_answerDrains s)).then rfl)
      · exact .refl s
    · split
      · split
        · exact untaken_mainOff ..
        · exact .refl s
      · exact .same rfl
      · exact .refl s
    · exact .refl s

theorem untaken_abandonOps (s : State) : Untaken s (abandonOps s) := by
  have hold : ∀ (l : List Op) (u : State), Untaken u (l.foldl (fun s o => makeOld o s) u) := fun l u =>
    .foldl (fun s o => untaken_makeOld o s) l u
  have hdrop : ∀ (l : List Nat) (u : State), Untaken u (l.foldl (fun s i => dropTagged i s) u) := fun l u =>
    .foldl (by exact fun s i => .same rfl) l u
  exact (hdrop ..).since (hold ..)

theorem untaken_softEnd (s : State) : Untaken s (softEnd s) := .of_insts (show State.reset.insts ≠ [] by decide)

theorem untaken_softFlush (s : State) : Untaken s (softFlush s) := by
  unfold softFlush
  split
  · exact .refl s
  · exact (untaken_startFlush ..).since ((untaken_releaseAll _ s).then rfl)

theorem untaken_softProgress (s : State) : Untaken s (softProgress s) := by
  unfold softProgress
  split
  · split
    · exact ((untaken_lowerCmdRdy _).since (untaken_answerDrains s)).then rfl
    · exact .refl s
  · split
    · exact untaken_softFlush s
    · split
      · exact (untaken_abandonOps s).then rfl
      · exact .refl s
  · split
    · exact untaken_softFlush s
    · exact .refl s
  · split
    · exact untaken_softEnd s
    · exact .refl s
  · exact .refl s

/-! ### What follows a command -/

theorem untaken_finish (s : State) : Untaken s (finish s) := by
  have hfirst : Untaken s (issueSamples (settle s)) := (untaken_issueSamples _).since (untaken_settle s)
  have hthen : ∀ u : State, Untaken u (powerProgress (softProgress (softProgress (lockProgress (keyProgress (dirProgress
      (flushStep (loadProgress (releaseProgress u))))))))) := fun u =>
    (untaken_powerProgress _).since ((untaken_softProgress _).since ((untaken_softProgress _).since ((untaken_lockProgress _).since
      ((untaken_keyProgress _).since ((untaken_dirProgress _).since ((untaken_flushStep _).since ((untaken_loadProgress _).since
        (untaken_releaseProgress u))))))))
  have hlast : ∀ u : State, Untaken u (settle (softProgress (powerProgress u))) := fun u =>
    (untaken_settle _).since ((untaken_softProgress _).since (untaken_powerProgress u))
  unfold finish
  dsimp only
  split
  · split
    · exact (hlast _).since ((hthen _).since hfirst)
    · exact (hthen _).since hfirst
  · exact hfirst

end Sys2Proof.Machine
end


section
/-!
PROOFS. The obligation on doorbells (O21): the return of a harvest read while the open chain of the ring shares its number with
an open chain of another ring.
-/

namespace Sys2Proof.Machine

open Sys2Proof

/-- An open chain, operation 7, of a ring. -/
def sharedChain (ring : Nat) : Op := { newOp 7 0 ring 0 0 0 with phase := .chain }

/-- Two rings whose open chains share an operation number: ring 5 holds an entry that has not been taken, and the harvest read of
ring 9 has returned. -/
def sharedChains : State :=
  { State.reset with
    pins := { State.reset.pins with mainUp := false }, insts := [],
    rings := [(5, { newRing [] with tail := 1 }), (9, { newRing [] with harvOut := some (1, 0) })],
    ops := [sharedChain 5, sharedChain 9],
    hwy := { State.reset.hwy with arrived := [⟨.harvest 9, leBytes 4 0⟩] } }

/-- Whether there is no instance, and the entries that a ring has taken. -/
def takenAfter (k : Nat) : Host.Outcome State Fault Refusal → Option (Bool × Nat)
  | .next t => some (t.insts.isEmpty, t.taken k)
  | _ => none

theorem sharedChains_after : takenAfter 5 (exec (.harvestReadReturn 9) sharedChains) = some (true, 1) := by decide +kernel

/-- Refutes O21: the statement is about every state. Where an open chain of the ring has the operation number of an open chain of
another ring (the model numbers its operations apart, so that no step leads there), the tail that moves lets the other ring take
its next entry. -/
theorem not_doorbellsRung : ¬ Obligations.DoorbellsRung := by
  intro h
  obtain ⟨-, -, hharvest⟩ := h
  obtain ⟨t, hexec, hothers, -⟩ := hharvest sharedChains 9 (leBytes 4 0) _ 1 0 rfl rfl rfl rfl
  have hafter := sharedChains_after
  rw [hexec] at hafter
  obtain ⟨hnone, htaken⟩ := Prod.mk.inj (Option.some.inj hafter)
  obtain ⟨-, hbound⟩ := (untaken_finish t).bound (List.isEmpty_iff.1 hnone)
  have hbefore : t.taken 5 = 0 := by
    unfold State.taken
    rw [hothers 5 (by decide)]
    rfl
  have hle := hbound 5
  omega

end Sys2Proof.Machine
end

section
/-!
PROOFS. The dispatch of NOP, FENCE, PK and DIGEST (O31): what the first dispatch notes, what the reads of a dispatch leave of the
operation, and how an operation ends whose status stops no ring.
-/

namespace Sys2Proof.Machine

open Sys2Proof

/-! ### The first dispatch -/

/-- An operation but for its sample numbers. -/
def Op.unsampled (o : Op) : Op := { o with sample := [] }

/-- An operation with what its first dispatch notes in it: its sample numbers, its place in the dispatch order and its stamp. -/
def Op.noted (sample : List (Nat × Nat)) (seq t : Nat) (o : Op) : Op :=
  { o with sample := sample, ran := true, seq := seq, tDisp := t }

/-- What the counting and sampling of a dispatch keeps: an operation but for its sample numbers, and the Hearth. -/
def State.unsampled (id : Nat) (s : State) : Option Op × Hearth := ((s.op? id).map Op.unsampled, s.hearth)

theorem unsampled_of_aside {s t : State} (h : t.aside = s.aside) (id : Nat) : t.unsampled id = s.unsampled id := by
  have hhearth : t.hearth = s.hearth := (congrArg State.hearth h :)
  rw [State.unsampled, op?_of_aside h, hhearth, State.unsampled]

theorem sampleIn_unsampled (b i id : Nat) (s : State) : (sampleIn b i s).unsampled id = s.unsampled id := by
  unfold sampleIn
  dsimp only
  split
  · split
    · rw [State.unsampled, op?_modOp (by exact fun _ => rfl)]
      split
      · exact congrArg (·, s.hearth) (Option.map_map ..)
      · rfl
    · rfl
  · rfl

theorem modRing_unsampled (n : Nat) (f : Ring → Ring) (id : Nat) (s : State) :
    (modRing n f s).unsampled id = s.unsampled id := by
  rw [State.unsampled, State.op?, modRing_ops, modRing_hearth, State.unsampled, State.op?]

/-- A first dispatch notes itself in its operation, and leaves the Hearth. -/
theorem noteDispatch_op? {o : Op} {s : State} (h : s.op? o.id = some o) :
    (noteDispatch o s).hearth = s.hearth ∧ ∃ sample seq t, (noteDispatch o s).op? o.id = some (o.noted sample seq t) := by
  have hcount : (fixedOp 16 1 o (countOp 2 1 o s)).unsampled o.id = s.unsampled o.id :=
    unsampled_of_aside ((fixedOp_aside ..).trans (countOp_aside ..)) _
  have hbytes : ∀ (b : Bool) (u : State), (if b then fixedOp 19 o.payload o u else u).unsampled o.id = u.unsampled o.id :=
    fun b u => by
      split
      · exact unsampled_of_aside (fixedOp_aside ..) _
      · rfl
  have hsample : ∀ (b : Bool) (i : Nat) (u : State), (if b then sampleIn i o.id u else u).unsampled o.id = u.unsampled o.id :=
    fun b i u => by
      split
      · exact sampleIn_unsampled ..
      · rfl
  unfold noteDispatch
  dsimp only
  generalize hu : modRing o.ring _ _ = u
  have hkept : u.unsampled o.id = s.unsampled o.id := by
    rw [← hu, modRing_unsampled, hsample, hsample, hbytes, hcount]
  obtain ⟨hop, hhearth⟩ := Prod.mk.inj hkept
  rw [h] at hop
  obtain ⟨x, hx, hxo⟩ := Option.map_eq_some_iff.1 hop
  have hxnoted : x.noted x.sample u.nextSeq (stamp u) = o.noted x.sample u.nextSeq (stamp u) :=
    (congrArg (Op.noted x.sample u.nextSeq (stamp u)) hxo :)
  refine ⟨hhearth, x.sample, u.nextSeq, stamp u, ?_⟩
  rw [State.op?, draw_ops, find?_map_same (fun y => ?_), ← State.op?, hx, ← hxnoted]
  · exact congrArg some (if_pos (by rw [op?_id hx]; exact beq_self_eq_true _))
  · split
    · rfl
    · split <;> rfl

/-! ### The reads of a dispatch -/

/-- How far the work of an operation is: its phase, the parts ended, the data absorbed, and whether it has been dispatched. -/
def Op.progress (o : Op) : Phase × Nat × List Byte × Bool := (o.phase, o.part, o.acc, o.ran)

/-- Asking for source bytes changes what the operation needs alone. -/
theorem issueSrc_progress (i id : Nat) (s : State) :
    ((issueSrc i s).op? id).map Op.progress = (s.op? id).map Op.progress := by
  unfold issueSrc
  split
  · rfl
  · dsimp only
    rw [foldl_snd_keeps (fun s : State => (s.op? id).map Op.progress)
      (fun _ _ => congrArg _ (op?_of_aside (readReq_aside ..) id)), op?_modOp (by exact fun _ => rfl)]
    split
    · exact Option.map_map ..
    · rfl

theorem readLists_aside (id : Nat) (s : State) : (readLists id s).aside = s.aside := by
  have hone : ∀ (c : Bool) (n : Nat) (dst : Bool) (u : State), (if c then readList id n dst u else u).aside = u.aside :=
    fun c n dst u => by
      split
      · exact readList_aside ..
      · rfl
  unfold readLists
  split
  · rfl
  · refine foldl_keeps State.aside (fun s n => ?_) _ _
    split
    · exact (hone _ n true _).trans (hone _ n false s)
    · rfl

/-- An operation that starts its reads runs its first part, with nothing absorbed. -/
theorem startReads_progress {id : Nat} {s : State} {o : Op} (h : s.op? id = some o) :
    ((startReads id s).op? id).map Op.progress = some (.run, 0, [], o.ran) := by
  have hread : ∀ (c : Bool) (n addr len tag : Nat) (w : Owner) (u : State),
      (if c then readReq n addr len tag w 0 u else u).aside = u.aside := fun c n addr len tag w u => by
    split
    · exact readReq_aside ..
    · rfl
  unfold startReads
  dsimp only
  generalize hu : modOp id _ s = u
  have hop : (u.op? id).map Op.progress = some (.run, 0, [], o.ran) := by
    rw [← hu, op?_modOp (by exact fun _ => rfl), if_pos rfl, h]
    rfl
  split
  · exact hop
  · rw [State.op?, (joinPartQ_tables ..).2.1, ← State.op?, issueSrc_progress,
      op?_of_aside ((readLists_aside ..).trans ((hread ..).trans (hread ..)))]
    exact hop

/-- The mark of a dispatch, first or repeated. -/
theorem noteAgain_ran {o : Op} {s : State} (h : s.op? o.id = some o) :
    ∃ x, (noteAgain o s).op? o.id = some x ∧ x.ran = true := by
  unfold noteAgain
  split
  · next hran =>
    rw [op?_modOp (by exact fun _ => rfl), if_pos rfl, h]
    exact ⟨_, rfl, hran⟩
  · obtain ⟨-, _, _, _, hnote⟩ := noteDispatch_op? h
    exact ⟨_, hnote, rfl⟩

/-! ### The dispatch of each opcode -/

theorem dispatchRow_eq {id : Nat} {mine : Desc → Bool} {s : State} {o : Op} (ho : s.op? id = some o)
    (hmine : mine o.head.d = true) (hdisp : dispatchable s o = true) :
    dispatchRow id mine s = finish (redispatch (dispatchOp o s)) := by
  unfold dispatchRow
  rw [ho]
  exact if_pos (by rw [hmine, hdisp]; rfl)

theorem old_of_dispatchable {s : State} {o : Op} (h : dispatchable s o = true) : o.old = false := by
  simp only [dispatchable, Bool.and_eq_true, Bool.not_eq_true'] at h
  tauto

theorem dispatchOp_digest {o : Op} (hcode : o.head.d.opcode = 0x10) (s : State) : dispatchOp o s = dispatchDigest o s := by
  simp [dispatchOp, Desc.aead, hcode]

theorem dispatchOp_pk {o : Op} (hcode : o.head.d.opcode = 0x30) (s : State) : dispatchOp o s = dispatchPk o s := by
  simp [dispatchOp, Desc.aead, hcode]

/-- NOP and FENCE (R213, R215). -/
theorem dispatchOp_atOnce {o : Op} (hcode : o.head.d.opcode = 0x00 ∨ o.head.d.opcode = 0x3F) (s : State) :
    dispatchOp o s = endOp o.id .ok 0 (noteDispatch o s) := by
  rcases hcode with hcode | hcode <;> simp [dispatchOp, Desc.aead, hcode]

/-- An operation that ends with a status that stops no ring is the ended operation, but for what its completion changes. -/
theorem endOp_op?_unstopped {id : Nat} {st : Status} (good : Nat) {s : State} {o : Op} (h : s.op? id = some o)
    (hold : o.old = false) (hstops : st.stops = false) :
    ∃ ents scrub, ((endOp id st good s).op? id).map Op.unposted =
      some (o.ended st (o.resultFor st good) ents scrub (st.success && 0 < o.payload)).unposted := by
  obtain ⟨stops, ents, scrub, hst, he⟩ := endOp_eq (st := st) (good := good) h hold
  have hno : stops = false := by
    cases stops with
    | false => rfl
    | true => exact (hst rfl).symm.trans hstops
  subst hno
  refine ⟨ents, scrub, ?_⟩
  rw [he]
  dsimp only
  rw [(tryPost_tables ..).2, if_neg Bool.false_ne_true, State.op?, (endWrites_tables ..).2, ← State.op?,
    op?_modOp (by exact fun _ => rfl), if_pos rfl, op?_of_aside (dropReads_aside ..), h]
  rfl

/-- RESULT of an operation that ends OK and does not send. -/
theorem resultFor_ok {o : Op} (h : o.head.d.sending = false) (good : Nat) : o.resultFor .ok good = good := by
  unfold Op.resultFor
  rw [h]
  rfl

/-- NOP and FENCE end OK with RESULT 0 at their dispatch. -/
theorem dispatchOp_atOnce_ends {s : State} {o : Op} (ho : s.op? o.id = some o) (hold : o.old = false)
    (hcode : o.head.d.opcode = 0x00 ∨ o.head.d.opcode = 0x3F) :
    ∃ x, (dispatchOp o s).op? o.id = some x ∧ x.status = .ok ∧ x.result = 0 ∧ x.ran = true := by
  obtain ⟨-, sample, seq, t, hnote⟩ := noteDispatch_op? ho
  obtain ⟨ents, scrub, hend⟩ := endOp_op?_unstopped (st := .ok) 0 hnote hold rfl
  obtain ⟨x, hx, hended⟩ := Option.map_eq_some_iff.1 hend
  have hsending : o.head.d.sending = false := by
    rcases hcode with hcode | hcode <;> simp [Desc.sending, hcode]
  refine ⟨x, by rw [dispatchOp_atOnce hcode, hx], (congrArg Op.status hended :), ?_, (congrArg Op.ran hended :)⟩
  exact (congrArg Op.result hended).trans (resultFor_ok (by exact hsending) 0)

/-- A PK operation joins the end of the Hearth queue (R407). -/
theorem dispatchPk_queues {s : State} {o : Op} (ho : s.op? o.id = some o) (hgone : hearthGone s = false) :
    (∃ x, (dispatchPk o s).op? o.id = some x ∧ x.phase = .hearth ∧ x.ran = true) ∧
      (dispatchPk o s).hearth.queue = s.hearth.queue ++ [(o.inst, o.id)] := by
  obtain ⟨hkept, sample, seq, t, hnote⟩ := noteDispatch_op? ho
  unfold dispatchPk
  rw [if_neg (by simp [hgone])]
  refine ⟨⟨{ o.noted sample seq t with phase := .hearth }, ?_, rfl, rfl⟩,
    congrArg (fun g : Hearth => g.queue ++ [(o.inst, o.id)]) hkept⟩
  have hmod := op?_modOp (f := fun x => { x with phase := .hearth }) (by exact fun _ => rfl) (id := o.id) o.id (noteDispatch o s)
  rw [if_pos rfl, hnote] at hmod
  exact hmod

/-- A DIGEST begins its first part (R436). -/
theorem dispatchDigest_begins {s : State} {o : Op} (ho : s.op? o.id = some o) :
    ∃ x, (dispatchDigest o s).op? o.id = some x ∧ x.phase = .run ∧ x.part = 0 ∧ x.acc = [] ∧ x.ran = true := by
  obtain ⟨y, hy, hran⟩ := noteAgain_ran ho
  obtain ⟨x, hx, hprogress⟩ := Option.map_eq_some_iff.1 (startReads_progress hy)
  simp only [Op.progress, Prod.mk.injEq, hran] at hprogress
  exact ⟨x, hx, hprogress⟩

/-- Settles O31: each row dispatches its operation, and the dispatch of its opcode does what the statement says. -/
theorem plainDispatch : Obligations.PlainDispatch := by
  intro s id o ho hdisp _
  obtain rfl := op?_id ho
  have hold := old_of_dispatchable hdisp
  have hrow : ∀ code, o.head.d.opcode = code → Host.Outcome.next (dispatchRow o.id (fun d => d.opcode == code) s) =
      (.next (finish (redispatch (dispatchOp o s))) : Host.Outcome State Fault Refusal) :=
    fun code hcode => congrArg _ (dispatchRow_eq ho (by simp [hcode]) hdisp)
  refine ⟨fun hcode => ?nop, fun hcode => ?fence, fun hcode hgone => ?pk, fun hcode => ?digest⟩
  case nop =>
    obtain ⟨x, hx⟩ := dispatchOp_atOnce_ends ho hold (.inl hcode)
    exact ⟨_, x, hrow _ hcode, hx⟩
  case fence =>
    obtain ⟨x, hx⟩ := dispatchOp_atOnce_ends ho hold (.inr hcode)
    exact ⟨_, x, hrow _ hcode, hx⟩
  case pk =>
    obtain ⟨⟨x, hx, hphase, hran⟩, hqueue⟩ := dispatchPk_queues ho hgone
    rw [← dispatchOp_pk hcode] at hx hqueue
    exact ⟨_, x, hrow _ hcode, hx, hphase, hran, hqueue⟩
  case digest =>
    obtain ⟨x, hx, hbegun⟩ := dispatchDigest_begins ho
    rw [← dispatchOp_digest hcode] at hx
    exact ⟨_, x, hrow _ hcode, hx, hbegun⟩

end Sys2Proof.Machine
end

section
/-!
PROOFS. How a retirement ends (O42): REFS reaches 0, the tombstone is acknowledged, and the microsecond passes.
-/

namespace Sys2Proof.Machine

/-! ### What a walk leaves of the Pantry -/

/-- The Pantry with the injections and the upsets of its memory. -/
def State.memory (s : State) : Pantry × Diag × Ecc := (s.pan, s.diag, s.ecc)

theorem memory_of_aside {s t : State} (h : t.aside = s.aside) : t.memory = s.memory := by
  rw [State.memory, pan_of_aside h, diag_of_aside h, show t.ecc = s.ecc from (congrArg State.ecc h :), State.memory]

theorem pan_of_memory {s t : State} (h : t.memory = s.memory) : t.pan = s.pan := (congrArg Prod.fst h :)

theorem sound_of_memory {s t : State} (h : t.memory = s.memory) (hsound : Sound s) : Sound t := by
  rw [Sound, show t.diag = s.diag from (congrArg (fun m => m.2.1) h :), show t.ecc = s.ecc from (congrArg (fun m => m.2.2) h :)]
  exact hsound

theorem cacheNode_memory (level n : Nat) (c : Ctrs) (s : State) : (cacheNode level n c s).memory = s.memory := by
  obtain ⟨ns, hns⟩ := cacheNode_withNodes level n c s
  rw [hns]
  rfl

theorem ensurePath_memory (i k : Nat) (s : State) : (ensurePath i k s).2.memory = s.memory := by
  induction k generalizing s with
  | zero => rfl
  | succ k ih =>
    unfold ensurePath
    dsimp only
    split
    · exact ih _
    · split
      · split
        · exact cacheNode_memory ..
        · exact (ih _).trans (cacheNode_memory ..)
      · dsimp only
        split
        · exact memory_of_aside (askNode_aside ..)
        · rfl

/-- A walk through sound memories, whether it reaches the leaf or waits for a node, leaves the Pantry. -/
theorem path_pan {s : State} (h : Sound s) (i : Nat) : (path i s).2.pan = s.pan := by
  have hwalk := ensurePath_memory i 4 s
  unfold path
  generalize ensurePath i 4 s = r at hwalk ⊢
  dsimp only
  split
  · rw [readPath_sound (sound_of_memory hwalk h)]
    exact pan_of_memory hwalk
  · exact pan_of_memory hwalk

theorem raiseAt_leaf_pan (n c : Nat) (s : State) : (raiseAt 0 n c s).2.pan = s.pan := by
  cases h : s.node? 0 n with
  | none =>
    unfold raiseAt
    rw [if_neg (by decide), h]
  | some y => exact (raiseAt_leaf h c).1

/-! ### The tombstone -/

theorem slotOf_of_pan {s t : State} (h : t.pan = s.pan) (index : Nat) : t.slotOf index = s.slotOf index := by
  rw [State.slotOf, h, State.slotOf]

/-- A step of a tombstone leaves the operations. -/
theorem progressTomb_ops (index : Nat) (s : State) : (progressTomb index s).ops = s.ops := by
  unfold progressTomb
  split
  · split
    · have hwalk := ops_of_held (path_held index s)
      generalize path index s = r at hwalk ⊢
      dsimp only
      split
      · have hraise := ops_of_held (raiseAt_held 0 (index / 64) (index % 64) r.2)
        generalize raiseAt 0 (index / 64) (index % 64) r.2 = v at hraise ⊢
        exact (ops_of_aside (writeReq_aside ..)).trans (hraise.trans hwalk)
      · exact hwalk
    · rfl
  · rfl

/-- A step of a tombstone does at most one thing to the Pantry: it marks the slot as being written. -/
theorem progressTomb_pan {s : State} (h : Sound s) (index : Nat) : (progressTomb index s).pan = s.pan ∨
    (progressTomb index s).pan = (modCtx index (fun y => { y with evicting := true }) s).pan := by
  unfold progressTomb
  split
  · split
    · have hwalk := path_pan h index
      generalize path index s = r at hwalk ⊢
      dsimp only
      split
      · have hraise := (raiseAt_leaf_pan (index / 64) (index % 64) r.2).trans hwalk
        generalize raiseAt 0 (index / 64) (index % 64) r.2 = v at hraise ⊢
        refine .inr ((pan_of_aside (writeReq_aside ..)).trans ?_)
        unfold modCtx mapSlots
        rw [hraise]
      · exact .inl hwalk
    · exact .inl rfl
  · exact .inl rfl

theorem progressTomb_slotOf {s : State} (h : Sound s) {index n : Nat} {x : Slot} (hslot : s.slotOf index = some (n, x)) :
    ∃ e, (progressTomb index s).slotOf index = some (n, { x with evicting := e }) := by
  rcases progressTomb_pan h index with hpan | hpan
  · exact ⟨x.evicting, (slotOf_of_pan hpan index).trans hslot⟩
  · exact ⟨true, (slotOf_of_pan hpan index).trans
      (slotOf_modCtx_same (f := fun y => { y with evicting := true }) (by exact fun _ => rfl) (by exact fun _ => rfl) hslot)⟩

/-! ### The slot of a context that is zeroised -/

/-- A RETIRING slot after steps 1 and 2 of R360: key material and counters are zero, the packet number is kept. -/
def Slot.zeroised (x : Slot) : Slot :=
  { x with
    key0 := [], key1 := [], sub0 := [], sub1 := [], salt0 := [], salt1 := [], f104 := 0, f112 := 0, f120 := 0,
    map := 0, policy := x.policy &&& ~~~ (0x4C000 : BitVec 19), dirty := false, final := x.f104, tombDue := !x.noTomb, zeroed := true }

/-- The companion of a context becomes FREE. -/
def freeCompanion (index : Nat) : State → State := keepSlots (fun _ y => !(y.index == index && y.state == .companion))

/-- Without a tombstone the slot is free at once. -/
theorem zeroiseRetired_frees {x : Slot} {s : State} (h : x.noTomb = true ∨ s.lar.stale = true ∨ s.lar.attached = false) :
    zeroiseRetired x s = endRetire x.zeroised .ok (wakeIndex x.index (freeIndex x.index (freeCompanion x.index s))) := by
  have hgone : (x.noTomb || s.lar.stale || !s.lar.attached) = true := by
    rcases h with h | h | h <;> simp [h]
  unfold zeroiseRetired
  exact if_pos hgone

/-- With a tombstone the slot stays, zeroised, until the tombstone is written. -/
theorem zeroiseRetired_buries {x : Slot} {s : State} (htomb : x.noTomb = false) (hattached : s.lar.attached = true)
    (hstale : s.lar.stale = false) :
    zeroiseRetired x s = progressTomb x.index (modCtx x.index (fun _ => x.zeroised) (freeCompanion x.index s)) := by
  have hkept : ¬ (x.noTomb || s.lar.stale || !s.lar.attached) = true := by simp [htomb, hattached, hstale]
  unfold zeroiseRetired
  exact if_neg hkept

theorem slotOf_freeCompanion (index : Nat) (s : State) : (freeCompanion index s).slotOf index = s.slotOf index := by
  unfold State.slotOf freeCompanion keepSlots
  dsimp only
  rw [List.find?_filter]
  congr 1
  funext p
  cases p.2.index == index <;> cases h : p.2.state == .companion <;> simp [bne, h]

/-- The slot of an index is replaced by another one of the index. -/
theorem slotOf_modCtx_const {index n : Nat} {x y : Slot} {s : State} (h : s.slotOf index = some (n, x))
    (hindex : y.index = index) (hstate : y.state ≠ .companion) :
    (modCtx index (fun _ => y) s).slotOf index = some (n, y) := by
  obtain ⟨-, hi, hc⟩ := slotOf_mem h
  have hmap : (modCtx index (fun _ => y) s).slotOf index =
      (s.slotOf index).map (fun p => (p.1, if p.2.index == index && p.2.state != .companion then y else p.2)) := by
    refine find?_map_same (g := fun p : Nat × Slot =>
      (p.1, if p.2.index == index && p.2.state != .companion then y else p.2)) (fun p => ?_) s.pan.slots
    dsimp only
    split
    · next hp => rw [hp]; simp [hindex, hstate]
    · rfl
  rw [hmap, h]
  simp [hi, hc]

/-- The zeroised slot of a context that gets a tombstone, with no operation changed. -/
theorem zeroiseRetired_slotOf {s : State} {index n : Nat} {x : Slot} (hsound : Sound s) (hslot : s.slotOf index = some (n, x))
    (htomb : x.noTomb = false) (hattached : s.lar.attached = true) (hstale : s.lar.stale = false) :
    (∃ e, (zeroiseRetired x s).slotOf index = some (n, { x.zeroised with evicting := e })) ∧ (zeroiseRetired x s).ops = s.ops := by
  obtain ⟨-, rfl, hcomp⟩ := slotOf_mem hslot
  rw [zeroiseRetired_buries htomb hattached hstale]
  exact ⟨progressTomb_slotOf (s := modCtx x.index (fun _ => x.zeroised) (freeCompanion x.index s)) hsound
    (slotOf_modCtx_const ((slotOf_freeCompanion x.index s).trans hslot) rfl hcomp), progressTomb_ops ..⟩

/-! ### The end of a CTX_RETIRE -/

theorem endRetire_pan (x : Slot) (st : Status) (s : State) : (endRetire x st s).pan = s.pan := by
  unfold endRetire
  split
  · exact pan_of_store (endOp_store ..)
  · rfl

theorem endRetire_ended {x : Slot} {st : Status} {s : State} {id : Nat} {o : Op} (hop : x.retireOp = some id)
    (ho : s.op? id = some o) (hold : o.old = false) (hstops : st.stops = false) :
    Ended id st (o.resultFor st x.final) (endRetire x st s) := by
  unfold endRetire
  rw [hop]
  exact endOp_ended x.final ho hold (.inl hstops)

theorem freeIndex_index (index : Nat) (s : State) : ∀ p ∈ (freeIndex index s).pan.slots, p.2.index ≠ index :=
  fun p hp => by simpa using List.of_mem_filter hp

theorem op?_wakeIndex (index : Nat) {id : Nat} (s : State) :
    (wakeIndex index s).op? id = (s.op? id).map (Op.woken index) :=
  find?_map_same (g := Op.woken index) (fun o => by unfold Op.woken; split <;> rfl) s.ops

theorem woken_old (index : Nat) (o : Op) : (o.woken index).old = o.old := by
  unfold Op.woken
  split <;> rfl

theorem woken_resultFor (index : Nat) (o : Op) (st : Status) (good : Nat) :
    (o.woken index).resultFor st good = o.resultFor st good := by
  unfold Op.woken
  split <;> rfl

/-- The end of a retirement without a tombstone: no slot of the index is left, and its CTX_RETIRE gives the packet number. -/
theorem zeroiseRetired_ends {s : State} {x : Slot} (h : x.noTomb = true ∨ s.lar.stale = true ∨ s.lar.attached = false) :
    (∀ p ∈ (zeroiseRetired x s).pan.slots, p.2.index ≠ x.index) ∧
      ∀ o, x.retireOp = some o.id → Current o s → Ended o.id .ok (o.resultFor .ok x.f104) (zeroiseRetired x s) := by
  rw [zeroiseRetired_frees h]
  refine ⟨?_, fun o hop hcur => ?_⟩
  · rw [endRetire_pan]
    exact freeIndex_index x.index (freeCompanion x.index s)
  · obtain ⟨ho, -, hold, -⟩ := hcur
    have hwoken := (op?_wakeIndex x.index (freeIndex x.index (freeCompanion x.index s))).trans (congrArg (Option.map _) ho)
    rw [← woken_resultFor x.index]
    exact endRetire_ended (x := x.zeroised) hop hwoken ((woken_old x.index o).trans hold) rfl

/-! ### The rows -/

theorem execRetireRefsZero_eq {s : State} {index n : Nat} {x : Slot} (hrun : s.unitsRun = true)
    (hslot : s.slotOf index = some (n, x)) (hdue : retireDue s x = true) :
    exec (.retireRefsZero index) s = .next (finish (redispatch (zeroiseRetired x s))) := by
  refine congrArg Host.Outcome.next ((if_pos hrun).trans ?_)
  dsimp only
  rw [hslot]
  exact if_pos hdue

theorem execTombstoneWriteAck_eq {s : State} {index n : Nat} {x : Slot} {d : List Byte} (hrun : s.unitsRun = true)
    (harr : s.arrived? (.tomb index) = some d) (hslot : s.slotOf index = some (n, x)) (hretiring : x.state = .retiring)
    (hzeroed : x.zeroed = true) :
    exec (.tombstoneWriteAck index) s =
      .next (finish (redispatch (wakeIndex index (endRetire x .ok (freeIndex index (takeArrived (.tomb index) s)))))) := by
  have hslot' : (takeArrived (.tomb index) s).slotOf index = some (n, x) := hslot
  refine congrArg Host.Outcome.next ((if_pos hrun).trans ?_)
  dsimp only
  rw [harr, Option.isNone_some, if_neg Bool.false_ne_true, hslot']
  exact if_pos (by simp [hretiring, hzeroed])

/-- An acknowledged tombstone frees the index, and the CTX_RETIRE gives the packet number that the slot kept. -/
theorem tombstone_ends (index : Nat) (x : Slot) (s : State) :
    let t := wakeIndex index (endRetire x .ok (freeIndex index s))
    (∀ p ∈ t.pan.slots, p.2.index ≠ index) ∧
      ∀ o, x.retireOp = some o.id → Current o s → Ended o.id .ok (o.resultFor .ok x.final) t := by
  refine ⟨?_, fun o hop hcur => ?_⟩
  · show ∀ p ∈ (endRetire x .ok (freeIndex index s)).pan.slots, p.2.index ≠ index
    rw [endRetire_pan]
    exact freeIndex_index index s
  · obtain ⟨ho, -, hold, -⟩ := hcur
    exact ended_wakeIndex index (endRetire_ended hop ho hold rfl)

/-! ### The microsecond -/

/-- With no injected assertion a microsecond of the Cellar changes its times and its patterns alone. -/
theorem cellarMicro_eq {s : State} (h : s.diag.asserted = []) : cellarMicro s = { s with cel := s.cel.micro } := by
  have hdiag : { s.diag with asserted := [] } = s.diag := by rw [← h]
  unfold cellarMicro
  dsimp only
  rw [h]
  exact congrArg (fun d => { s with cel := s.cel.micro, diag := d }) hdiag

theorem landingTick_none {s : State} (h : s.fw.landing = none) : landingTick s = s := by
  unfold landingTick
  rw [h]

theorem doorTick_quiet {s : State} (h : DoorQuiet s) : doorTick s = s := by
  unfold doorTick
  split
  · exact doorStep_quiet h
  · rfl

/-- With no Landing, no bring-up and a quiet door the microsecond is that of the ticks, the tokens and the Cellar. -/
theorem microTicks_quiet {s : State} (hquiet : DoorQuiet s) (hland : s.fw.landing = none) (hstep : s.boot.step = 0x0A)
    (hcalm : s.diag.asserted = []) : doorTick (bootTick (landingTick (cellarMicro (microsecond s)))) =
      { microsecond s with cel := (microsecond s).cel.micro } := by
  rw [cellarMicro_eq (s := microsecond s) hcalm, landingTick_none (by exact hland), bootTick_done (by exact hstep),
    doorTick_quiet (by exact hquiet)]

/-- A tick that is not held counts on (R547). -/
theorem microsecond_stair {s : State} (hown : s.stair.fromCellar = false) (hhold : s.stair.holdUntil = 0) :
    (microsecond s).stair = { s.stair with tick := s.stair.tick + 1 } := by
  show (if s.stair.fromCellar then s.stair else s.stair.count) = _
  rw [hown, if_neg Bool.false_ne_true, Stair.count]
  exact if_pos (by rw [hhold]; rfl)

/-- Settles O42: a retirement ends by `zeroiseRetired` or by its acknowledged tombstone, and a quiet microsecond is the ticks,
the tokens and the Cellar. -/
theorem contextsRetire : Obligations.ContextsRetire := by
  refine ⟨fun s index n x hrun hsound hslot hdue => ⟨fun htomb hattached hstale => ?buried, fun hnone => ?freed⟩,
    fun s index n x d hrun harr hslot hretiring hzeroed => ?acknowledged,
    fun s hmain hquiet hland hstep hcalm => ?microsecond⟩
  case buried =>
    obtain ⟨⟨e, hzero⟩, hops⟩ := zeroiseRetired_slotOf hsound hslot htomb hattached hstale
    have htombDue : x.zeroised.tombDue = true := by simp [Slot.zeroised, htomb]
    exact ⟨_, _, execRetireRefsZero_eq hrun hslot hdue, hzero, rfl, htombDue, rfl, rfl, rfl, rfl, rfl, rfl, rfl, hops⟩
  case freed =>
    obtain ⟨-, rfl, -⟩ := slotOf_mem hslot
    exact ⟨_, execRetireRefsZero_eq hrun hslot hdue, zeroiseRetired_ends hnone⟩
  case acknowledged =>
    exact ⟨_, execTombstoneWriteAck_eq hrun harr hslot hretiring hzeroed, tombstone_ends index x (takeArrived (.tomb index) s)⟩
  case microsecond =>
    refine ⟨_, execEvictionTokenRefill_eq hmain, ?_⟩
    rw [microTicks_quiet hquiet hland hstep hcalm]
    exact ⟨rfl, rfl, fun hown hhold => microsecond_stair hown hhold, rfl, rfl, rfl, rfl⟩

end Sys2Proof.Machine
end

section
/-!
PROOFS. The parts of an AEAD operation (O35): what the blocks that pass leave of their operation, what the end of a part and of the
last part does, and how a staged OPEN ends whose tag does not verify.
-/

namespace Sys2Proof.Machine

open Sys2Proof

/-! ### Views of an operation -/

/-- What a view of an operation does not notice, a change of the operation leaves of it. -/
theorem view_modOp {α : Type} {v : Op → α} {f : Op → Op} (hid : ∀ o, (f o).id = o.id) (hv : ∀ o, v (f o) = v o)
    (i id : Nat) (s : State) : ((modOp i f s).op? id).map v = (s.op? id).map v := by
  rw [op?_modOp hid]
  split
  · rw [Option.map_map]
    exact congrArg (fun g => (s.op? id).map g) (funext hv)
  · rfl

/-- Asking for source bytes changes what the operation needs alone. -/
theorem issueSrc_view {α : Type} {v : Op → α} (hv : ∀ (o : Op) n, v { o with need := n } = v o) (i id : Nat) (s : State) :
    ((issueSrc i s).op? id).map v = (s.op? id).map v := by
  unfold issueSrc
  split
  · rfl
  · dsimp only
    rw [foldl_snd_keeps (fun s : State => (s.op? id).map v) (fun _ _ => congrArg _ (op?_of_aside (readReq_aside ..) id))]
    exact view_modOp (by exact fun _ => rfl) (fun o => hv o _) i id s

/-- An operation but for its record of what it has written. -/
def Op.unwritten (o : Op) : Op := { o with wrote := [] }

/-- Writing output changes the record of it alone. -/
theorem emit_unwritten (i off : Nat) (data : List Byte) (id : Nat) (s : State) :
    ((emit i off data s).op? id).map Op.unwritten = (s.op? id).map Op.unwritten := by
  unfold emit
  split
  · rfl
  · rw [op?_of_aside (countOp_aside ..)]
    refine foldl_snd_keeps (fun s : State => (s.op? id).map Op.unwritten) (fun p x => ?_) _ _
    rw [view_modOp (by exact fun _ => rfl) (by exact fun _ => rfl), op?_of_aside (writeReq_aside ..)]

theorem emitAt_unwritten (i addr : Nat) (data : List Byte) (id : Nat) (s : State) :
    ((emitAt i addr data s).op? id).map Op.unwritten = (s.op? id).map Op.unwritten := by
  unfold emitAt
  split
  · rfl
  · split
    · rfl
    · rw [view_modOp (by exact fun _ => rfl) (by exact fun _ => rfl), op?_of_aside (writeReq_aside ..)]

theorem emitTag_unwritten (o : Op) (tag : List Byte) (id : Nat) (s : State) :
    ((emitTag o tag s).op? id).map Op.unwritten = (s.op? id).map Op.unwritten := by
  unfold emitTag
  split
  · exact emit_unwritten ..
  · rw [op?_of_aside (countOp_aside ..)]
    exact emitAt_unwritten ..

/-! ### Blocks that pass -/

/-- The receiving opcodes: OPEN and GMAC_CHECK. -/
theorem receiving_opcode {d : Desc} (h : d.receiving = true) : d.opcode = 2 ∨ d.opcode = 4 := by
  simpa [Desc.receiving] using h

/-- What the blocks of a part leave in the operation once those whose input has arrived have passed: with `k`, the ciphertext of
a SEAL or the data that came in joins what the tag is formed over. -/
def Op.afterBlocks (k : KeyCopy) (o : Op) : Op :=
  let data := (o.partData.take o.passable).drop o.done
  let out := if writesPayload o.head.d.opcode then xorPart o k data else []
  { o with
    done := o.passable
    acc := if o.head.d.opcode == 5 then o.acc else o.acc ++ if o.head.d.opcode == 1 then out else data
    stage := if o.place.isSome then o.stage ++ out else o.stage }

/-- A part is on a unit of an operation of the present generation that has its key copy. -/
structure Op.PartRuns (o : Op) (k : KeyCopy) : Prop where
  key : o.key = some k
  phase : o.phase = .run
  old : o.old = false
  unit : o.unit.isSome = true
  aead : o.head.d.aead = true

theorem advancePart_idle {id : Nat} {s : State} {o : Op} {k : KeyCopy} (h : s.op? id = some o) (hrun : o.PartRuns k)
    (hle : o.passable ≤ o.done) : advancePart id s = s := by
  unfold advancePart
  rw [h]
  dsimp only
  rw [hrun.key]
  exact if_pos (by simp [hle])

theorem advancePart_passes {id : Nat} {s : State} {o : Op} {k : KeyCopy} (h : s.op? id = some o) (hrun : o.PartRuns k)
    (hlt : o.done < o.passable) : ((advancePart id s).op? id).map Op.unwritten = some (o.afterBlocks k).unwritten := by
  obtain ⟨hkey, hphase, hold, hunit, haead⟩ := hrun
  have hgo : (o.phase != .run || o.old || o.unit.isNone || !o.head.d.aead || decide (o.passable ≤ o.done)) = false := by
    simp [hphase, hold, hunit, haead, hlt, ← Option.not_isSome]
  have hrot : ∀ (b : Bool) (n m : Nat) (u : State), (if b then u else rotateLanes n m u).op? id = u.op? id := fun b n m u => by
    split
    · rfl
    · rw [State.op?, rotateLanes_ops, State.op?]
  have hemit : ∀ (b : Bool) (off : Nat) (data : List Byte) (u : State),
      ((if b then emit id off data u else u).op? id).map Op.unwritten = (u.op? id).map Op.unwritten := fun b off data u => by
    split
    · exact emit_unwritten ..
    · rfl
  unfold advancePart
  rw [h]
  dsimp only
  rw [hkey]
  dsimp only
  rw [hgo, if_neg Bool.false_ne_true, hemit, hrot, op?_modOp (by exact fun _ => rfl), if_pos rfl, h]
  rfl

/-! ### PART_START -/

/-- No block passes beyond the part. -/
theorem passable_le (o : Op) : o.passable ≤ o.partLen := by
  have hgot : o.partData.length ≤ o.partLen := by
    rw [Op.partData, arrivedBytes, List.length_take]
    exact Nat.min_le_left ..
  have hroom : (if o.streams then min o.partData.length o.partRoom else o.partData.length) ≤ o.partLen := by
    split
    · exact (Nat.min_le_left ..).trans hgot
    · exact hgot
  unfold Op.passable
  split
  · exact Nat.zero_le _
  · dsimp only
    generalize (if o.streams then min o.partData.length o.partRoom else o.partData.length) = n at hroom ⊢
    split
    · exact hroom
    · exact (Nat.div_mul_le_self ..).trans hroom

/-- An operation whose part has taken a unit. -/
def Op.onto (u : Nat) (o : Op) : Op := { o with unit := some u, avoid := none }

theorem startPart_eq {s : State} {id u r : Nat} {o : Op} (h : s.op? id = some o) (hsound : Sound s) (hroom : o.room = some r)
    (hready : readyPart s o = true) (hunit : (roomUnits o.chacha r).contains u = true)
    (hplace : unitHasPlace s o.chacha o.long u = true) (huse : mayUse s o u = true) (hturn : partTurn s o = true) :
    ∃ v : State, v.ops = s.ops ∧ startPart id u s = advancePart id (modOp id (Op.onto u) v) := by
  have hgo : (readyPart s o && (roomUnits o.chacha r).contains u && unitHasPlace s o.chacha o.long u && mayUse s o u &&
      partTurn s o) = true := by rw [hready, hunit, hplace, huse, hturn]; rfl
  refine ⟨if !o.chacha && o.head.d.opcode != 5 && o.part == 0 && o.avoid.isNone then rotateLanes u 1 s else s, ?_, ?_⟩
  · split
    · exact rotateLanes_ops ..
    · rfl
  · unfold startPart
    rw [h]
    dsimp only
    rw [hroom]
    dsimp only
    rw [hgo, if_pos rfl, eccRead_sound hsound]
    rfl

theorem runs_onto {s : State} {o : Op} {k : KeyCopy} (hkey : o.key = some k) (hready : readyPart s o = true) (u : Nat) :
    (o.onto u).PartRuns k := by
  simp only [readyPart, Bool.and_eq_true, Bool.not_eq_true', beq_iff_eq] at hready
  obtain ⟨⟨⟨⟨⟨⟨⟨hphase, haead⟩, -⟩, -⟩, hold⟩, -⟩, -⟩, -⟩ := hready
  exact ⟨hkey, hphase, hold, rfl, haead⟩

/-- After a PART_START the operation is on its unit, and the blocks whose input has arrived have passed. -/
theorem startPart_starts {s : State} {id u r : Nat} {o : Op} {k : KeyCopy} (h : s.op? id = some o) (hsound : Sound s)
    (hroom : o.room = some r) (hkey : o.key = some k) (hready : readyPart s o = true)
    (hunit : (roomUnits o.chacha r).contains u = true) (hplace : unitHasPlace s o.chacha o.long u = true)
    (huse : mayUse s o u = true) (hturn : partTurn s o = true) :
    ((startPart id u s).op? id).map Op.unwritten =
      some (if o.done < o.passable then (o.afterBlocks k).onto u else o.onto u).unwritten := by
  obtain ⟨v, hops, heq⟩ := startPart_eq h hsound hroom hready hunit hplace huse hturn
  have hop : (modOp id (Op.onto u) v).op? id = some (o.onto u) := by
    rw [op?_modOp (by exact fun _ => rfl), if_pos rfl, State.op?, hops, ← State.op?, h]
    rfl
  have hrun := runs_onto hkey hready u
  rw [heq]
  split
  · next hlt => exact advancePart_passes hop hrun hlt
  · next hge => rw [advancePart_idle hop hrun (by exact Nat.le_of_not_lt hge), hop]; rfl

/-! ### PART_END -/

theorem partInjected_unarmed {s : State} (h : s.diag.armed = []) (o : Op) : partInjected s o = false := by
  simp [partInjected, injected_unarmed h]

/-- A part whose blocks have all passed ends soundly. -/
theorem endPart_saves {s : State} {id : Nat} {o : Op} {k : KeyCopy} (h : s.op? id = some o) (hsound : Sound s)
    (hon : o.PartRuns k) (hcomplete : partComplete o = true) : endPart id s = savePart o s := by
  have hdone : o.done = o.partLen := by
    simp only [partComplete, Bool.and_eq_true, beq_iff_eq] at hcomplete
    exact hcomplete.1.1
  obtain ⟨u, hu⟩ := Option.isSome_iff_exists.1 hon.unit
  unfold endPart
  rw [advancePart_idle h hon (hdone ▸ passable_le o)]
  dsimp only
  rw [h]
  dsimp only
  rw [hu]
  simp [hon.aead, hon.old, hon.phase, hcomplete, partInjected_unarmed hsound.1]

/-- An operation whose next part waits for its charge (R229). -/
def Op.nextPart (o : Op) : Op := { o with part := o.part + 1, done := 0, unit := none, charged := false }

/-- An operation but for the source bytes asked for. -/
def Op.unasked (o : Op) : Op := { o with need := 0 }

theorem savePart_next {s : State} {o : Op} (h : s.op? o.id = some o) (hlast : o.lastPart = false) :
    ((savePart o s).op? o.id).map Op.unasked = some o.nextPart.unasked := by
  unfold savePart
  rw [if_neg (by simp [hlast]), issueSrc_view (by exact fun _ _ => rfl), op?_modOp (by exact fun _ => rfl), if_pos rfl, h]
  rfl

/-- An operation whose part has left its unit. -/
def Op.offUnit (o : Op) : Op := { o with unit := none }

theorem savePart_last {o : Op} (hlast : o.lastPart = true) (s : State) :
    savePart o s = closeOp o.id (modOp o.id Op.offUnit s) := if_pos hlast

theorem op?_offUnit {s : State} {id : Nat} {o : Op} (h : s.op? id = some o) :
    (modOp id Op.offUnit s).op? id = some o.offUnit := by
  rw [op?_modOp (by exact fun _ => rfl), if_pos rfl, h]
  rfl

/-! ### The end of an operation in its Room -/

theorem closeOp_seal {s : State} {id : Nat} {o : Op} {k : KeyCopy} (h : s.op? id = some o) (hkey : o.key = some k)
    (hcode : o.head.d.opcode = 1) : closeOp id s = endOp id o.okStatus 0 (emitTag o (o.tagBytes k) s) := by
  unfold closeOp
  rw [h]
  dsimp only
  rw [hkey]
  simp [hcode, Desc.receiving]

theorem closeOp_badTag {s : State} {id : Nat} {o : Op} {k : KeyCopy} (h : s.op? id = some o) (hkey : o.key = some k)
    (hcode : o.head.d.opcode = 2) (htag : o.givenTag ≠ o.tagBytes k) :
    closeOp id s = endOp id (failTag o false) 0 s := by
  unfold closeOp
  rw [h]
  dsimp only
  rw [hkey]
  simp [hcode, Desc.receiving, htag]

/-- A success stops no ring. -/
theorem okStatus_stops (o : Op) : o.okStatus.stops = false := by
  unfold Op.okStatus
  split
  · decide
  · split <;> decide

/-- A SEAL ends with the success status of R289 and without its key copy. -/
theorem closeOp_seal_ends {s : State} {id : Nat} {o : Op} {k : KeyCopy} (h : s.op? id = some o) (hkey : o.key = some k)
    (hold : o.old = false) (hcode : o.head.d.opcode = 1) :
    ∃ res, Ended id o.okStatus res (closeOp id s) := by
  have htag := emitTag_unwritten o (o.tagBytes k) id s
  rw [h] at htag
  obtain ⟨y, hy, hyo⟩ := Option.map_eq_some_iff.1 htag
  rw [closeOp_seal h hkey hcode]
  exact ⟨_, endOp_ended 0 hy ((congrArg Op.old hyo).trans hold) (.inl (okStatus_stops o))⟩

/-- A staged OPEN whose tag does not verify ends with TAG_FAIL, and its staged plaintext is gone (R298, Table 7-8). -/
theorem closeOp_staged_fails {s : State} {id : Nat} {o : Op} {k : KeyCopy} (h : s.op? id = some o) (hkey : o.key = some k)
    (hold : o.old = false) (hcode : o.head.d.opcode = 2) (hshort : o.payload ≤ 2048) (htag : o.givenTag ≠ o.tagBytes k) :
    ∃ x, (closeOp id s).op? id = some x ∧ x.status = .tagFail ∧ x.result = 0 ∧ x.stage = [] ∧ x.wrote = o.wrote ∧
      x.key = none := by
  have hstatus : failTag o false = .tagFail := by
    have hlong : o.long = false := by simp [Op.long, hshort]
    simp [failTag, hlong]
  obtain ⟨ents, scrub, hend⟩ := endOp_op?_unstopped (st := .tagFail) 0 h hold (by decide)
  obtain ⟨x, hx, hended⟩ := Option.map_eq_some_iff.1 hend
  have hresult : o.resultFor .tagFail 0 = 0 := by
    simp [Op.resultFor, Desc.sending, hcode]
  rw [closeOp_badTag h hkey hcode htag, hstatus]
  exact ⟨x, hx, (congrArg Op.status hended :), (congrArg Op.result hended).trans hresult, (congrArg Op.stage hended :),
    (congrArg Op.wrote hended :), (congrArg Op.key hended :)⟩

/-- Settles O35: a PART_START lets the blocks pass whose input is there; a PART_END saves the part or closes the operation, and the
close of a SEAL and of a staged OPEN with a wrong tag ends it. -/
theorem partsRun : Obligations.PartsRun := by
  have hrow : ∀ (id : Nat) (s : State), exec (.partEnd id) s = .next (finish (redispatch (endPart id s))) := fun _ _ => rfl
  refine ⟨⟨fun s id u r o k h hsound hroom hkey hready hunit hplace huse hturn => ?start,
    fun s id u o k h hsound hunit hkey haead hold hphase hcomplete hlast => ?next⟩,
    fun s id u o k h hsound hunit hkey hcode hold hphase hcomplete hlast => ?sealed,
    fun s id u o k h hsound hunit hkey hcode hold hphase hcomplete hlast _ hshort _ hwrote _ htag => ?failed⟩
  case start =>
    obtain ⟨x, hx, hstarted⟩ := Option.map_eq_some_iff.1
      (startPart_starts h hsound hroom hkey hready hunit hplace huse hturn)
    have hphase := (runs_onto hkey hready u).phase
    refine ⟨_, x, rfl, hx, ?_⟩
    split at hstarted
    · next hlt =>
      refine ⟨(congrArg Op.unit hstarted :), (congrArg Op.avoid hstarted :), (congrArg Op.phase hstarted).trans hphase,
        (congrArg Op.part hstarted :), (congrArg Op.done hstarted).trans (Nat.max_eq_right (Nat.le_of_lt hlt)).symm,
        fun _ => ⟨fun hcode => ?_, fun hreceiving => ?_⟩⟩
      · exact (congrArg Op.acc hstarted).trans (by simp [Op.unwritten, Op.onto, Op.afterBlocks, hcode, writesPayload])
      · exact (congrArg Op.acc hstarted).trans (by
          rcases receiving_opcode hreceiving with hcode | hcode <;> simp [Op.unwritten, Op.onto, Op.afterBlocks, hcode])
    · next hge =>
      exact ⟨(congrArg Op.unit hstarted :), (congrArg Op.avoid hstarted :), (congrArg Op.phase hstarted).trans hphase,
        (congrArg Op.part hstarted :), (congrArg Op.done hstarted).trans (Nat.max_eq_left (Nat.le_of_not_lt hge)).symm,
        fun hlt => absurd hlt hge⟩
  all_goals obtain rfl := op?_id h
  case next =>
    have hon : o.PartRuns k := ⟨hkey, hphase, hold, by rw [hunit]; rfl, haead⟩
    obtain ⟨x, hx, hsaved⟩ := Option.map_eq_some_iff.1 (savePart_next h hlast)
    rw [hrow, endPart_saves h hsound hon hcomplete]
    exact ⟨_, x, rfl, hx, (congrArg Op.part hsaved :), (congrArg Op.done hsaved :), (congrArg Op.unit hsaved :),
      (congrArg Op.charged hsaved :), (congrArg Op.phase hsaved).trans hphase, (congrArg Op.acc hsaved :),
      (congrArg Op.key hsaved :)⟩
  case sealed =>
    have hon : o.PartRuns k := ⟨hkey, hphase, hold, by rw [hunit]; rfl, by simp [Desc.aead, hcode]⟩
    obtain ⟨res, x, hx, hstatus, -, hnokey, -, -, hoff⟩ := closeOp_seal_ends (op?_offUnit h) hkey hold hcode
    rw [hrow, endPart_saves h hsound hon hcomplete, savePart_last hlast]
    exact ⟨_, x, rfl, hx, hstatus, hnokey, hoff⟩
  case failed =>
    have hon : o.PartRuns k := ⟨hkey, hphase, hold, by rw [hunit]; rfl, by simp [Desc.aead, hcode]⟩
    obtain ⟨x, hx, hstatus, hresult, hstage, hwritten, hnokey⟩ :=
      closeOp_staged_fails (op?_offUnit h) hkey hold hcode hshort htag
    rw [hrow, endPart_saves h hsound hon hcomplete, savePart_last hlast]
    exact ⟨_, x, rfl, hx, hstatus, hresult, hstage, hwritten.trans hwrote, hnokey⟩

end Sys2Proof.Machine
end

section
/-!
PROOFS. Reads that have been asked for stay due while more are asked for (R455, R456), and the reads with which the work of an
AEAD operation starts (R180 to R183).
-/

namespace Sys2Proof.Machine

open Sys2Proof

/-! ### The reads of a port -/

theorem reads_of_mem {p : Port} {r : Rd} (h : r ∈ p.rds ++ p.rdQ) : p.reads r := ⟨r.id, h⟩

/-- Pumping keeps the reads that are outstanding, too. -/
theorem pumpReads_keeps {p : Port} {x : Rd} (h : p.reads x) : (pumpReads p).reads x := by
  obtain ⟨i, hi⟩ := h
  have hpumped : (pumpReads p).reads { x with id := i } := by
    rw [pumpReads_eq]
    rcases List.mem_append.1 hi with hi | hi
    · exact foldl_pumpRead_reads _ _ _ (.inl (reads_of_mem (List.mem_append_left _ hi)))
    · exact foldl_pumpRead_reads _ _ _ (.inr hi)
  exact hpumped

theorem pumpWrites_reads {p : Port} {x : Rd} (h : p.reads x) : (pumpWrites p).reads x := by
  rw [Port.reads, pumpWrites_rds, pumpWrites_rdQ]
  exact h

/-! ### States between which reads have only been added -/

/-- From `s` to `t` no port has lost a read. -/
structure Asks (s t : State) : Prop where
  length : t.hwy.ports.length = s.hwy.ports.length
  kept : ∀ n x, (s.port n).reads x → (t.port n).reads x

section
variable {s t u : State}

theorem Asks.refl (s : State) : Asks s s := ⟨rfl, fun _ _ h => h⟩

theorem Asks.trans (h : Asks s t) (k : Asks t u) : Asks s u :=
  ⟨k.length.trans h.length, fun n x hx => k.kept n x (h.kept n x hx)⟩

theorem Asks.of_hwy (h : t.hwy = s.hwy) : Asks s t :=
  ⟨by rw [h], fun n x hx => by rwa [State.port, h]⟩

theorem Asks.foldl {α : Type} {f : State → α → State} (h : ∀ s x, Asks s (f s x)) (l : List α) (s : State) :
    Asks s (l.foldl f s) := by
  induction l generalizing s with
  | nil => exact .refl s
  | cons a l ih => exact (h s a).trans (ih _)

/-- A read that is due stays due. -/
theorem Asks.readDue (h : Asks s t) {n addr : Nat} {o : Owner} (hdue : ReadDue n addr o s) : ReadDue n addr o t := by
  obtain ⟨r, hr, howner, haddr, hquar, hdrop⟩ := hdue
  obtain ⟨i, hi⟩ := h.kept n r (reads_of_mem hr)
  exact ⟨_, hi, howner, haddr, hquar, hdrop⟩

end

theorem asks_modPort {n : Nat} {f : Port → Port} {s : State} (hkept : ∀ x, (s.port n).reads x → (f (s.port n)).reads x) :
    Asks s (modPort n f s) := by
  refine ⟨modPort_length .., fun m x hx => ?_⟩
  by_cases hn : n < s.hwy.ports.length
  · rw [port_modPort n m f s hn]
    split
    · next hm => subst hm; exact hkept x hx
    · exact hx
  · rwa [port_modPort_beyond hn]

theorem asks_issueWrites (n : Nat) (s : State) : Asks s (issueWrites n s) := by
  have hpump : Asks s (modPort n (fun _ => pumpWrites (s.port n)) s) := asks_modPort fun _ hx => pumpWrites_reads hx
  unfold issueWrites
  dsimp only
  split
  · exact hpump
  · exact hpump.trans (.of_hwy (countIn_hwy ..))

theorem asks_readReq (n addr len tag : Nat) (o : Owner) (off : Nat) (s : State) : Asks s (readReq n addr len tag o off s) := by
  have hpump : ∀ u : State, Asks u (pump n u) := fun u => by
    unfold pump
    split
    · exact (asks_modPort fun _ hx => pumpReads_keeps hx).trans (asks_issueWrites n _)
    · exact .refl u
  refine (asks_modPort fun x hx => ?_).trans (hpump _)
  obtain ⟨i, hi⟩ := hx
  exact ⟨i, List.mem_append.2 ((List.mem_append.1 hi).imp id (List.mem_append_left _))⟩

/-! ### The reads of an operation -/

theorem asks_readList (id ent : Nat) (dst : Bool) (s : State) : Asks s (readList id ent dst s) := by
  have hread : ∀ (c : Bool) (p addr len tag : Nat), Asks s (if c then s else readReq p addr len tag (.list id ent dst) 0 s) :=
    fun c p addr len tag => by
      split
      · exact .refl s
      · exact asks_readReq ..
  unfold readList
  split
  · exact .refl s
  · split
    · exact .refl s
    · dsimp only
      split
      · exact hread _ _ _ _ _
      · exact .refl s

theorem asks_readLists (id : Nat) (s : State) : Asks s (readLists id s) := by
  have hone : ∀ (c : Bool) (n : Nat) (dst : Bool) (u : State), Asks u (if c then readList id n dst u else u) :=
    fun c n dst u => by
      split
      · exact asks_readList ..
      · exact .refl u
  unfold readLists
  split
  · exact .refl s
  · refine .foldl (fun s n => ?_) _ s
    split
    · exact (hone _ n false s).trans (hone _ n true _)
    · exact .refl s

theorem asks_issueSrc (id : Nat) (s : State) : Asks s (issueSrc id s) := by
  have hfold : ∀ (o : Op) (l : List (Nat × Nat)) (p : Nat × State), Asks p.2 (l.foldl (fun (p : Nat × State) x =>
      (p.1 + x.2, readReq (portOf o.ring) x.1 x.2 o.inst (.src id) p.1 p.2)) p).2 := fun o l => by
    induction l with
    | nil => exact fun p => .refl p.2
    | cons x l ih => exact fun p => (asks_readReq (portOf o.ring) x.1 x.2 o.inst (.src id) p.1 p.2).trans (ih (p.1 + x.2, _))
  unfold issueSrc
  split
  · exact .refl s
  · refine Asks.trans ?_ (hfold _ _ _)
    exact .of_hwy rfl

theorem asks_joinPartQ (id : Nat) (s : State) : Asks s (joinPartQ id s) := by
  unfold joinPartQ
  split
  · exact .refl s
  · dsimp only
    split
    · exact .of_hwy rfl
    · exact .refl s

/-! ### The start of the work -/

/-- An operation whose work starts: nothing has been read, and nothing has passed. -/
def Op.fresh (o : Op) : Op :=
  { o with
    phase := .run, unit := none, avoid := none, part := 0, done := 0, charged := true, need := 0, buf := [], aad := [], tag := [],
    acc := [], stage := [] }

/-- The AAD of an operation is asked for, if it has any. -/
def askAad (id : Nat) (o : Op) (s : State) : State :=
  if o.head.d.aead && o.head.d.aadLen != 0 then
    readReq (portOf o.ring) (aadAddress o.head.d) o.head.d.aadLen o.inst (.aad id) 0 s
  else s

/-- The detached tag of a receiving operation is asked for, if it has one. -/
def askTag (id : Nat) (o : Op) (s : State) : State :=
  if o.head.d.receiving && o.head.d.aux != 0 then readReq (portOf o.ring) o.head.d.aux o.head.d.t o.inst (.tagIn id) 0 s else s

theorem askAad_aside (id : Nat) (o : Op) (s : State) : (askAad id o s).aside = s.aside := by
  unfold askAad
  split
  · exact readReq_aside ..
  · rfl

theorem askTag_aside (id : Nat) (o : Op) (s : State) : (askTag id o s).aside = s.aside := by
  unfold askTag
  split
  · exact readReq_aside ..
  · rfl

section
variable {id : Nat} {o : Op} {s : State} (h : s.op? id = some o)
include h

theorem startReads_eq :
    startReads id s = joinPartQ id (issueSrc id (readLists id (askTag id o (askAad id o (modOp id Op.fresh s))))) := by
  unfold startReads
  dsimp only
  generalize hu : modOp id _ s = u
  have hop : u.op? id = some o.fresh := by
    rw [← hu, op?_modOp (by exact fun _ => rfl), if_pos rfl, h]
    rfl
  rw [hop, show modOp id Op.fresh s = u from hu]
  rfl

/-- The operation that starts its work, but for the source bytes that it has asked for. -/
theorem startReads_op? : ((startReads id s).op? id).map Op.unasked = some o.fresh.unasked := by
  rw [startReads_eq h, State.op?, (joinPartQ_tables ..).2.1, ← State.op?, issueSrc_view (by exact fun _ _ => rfl),
    op?_of_aside ((readLists_aside ..).trans ((askTag_aside ..).trans (askAad_aside ..))),
    op?_modOp (by exact fun _ => rfl), if_pos rfl, h]
  rfl

/-- The work of an AEAD operation starts with the reads of its AAD and of a detached tag. -/
theorem startReads_due (hports : s.hwy.ports.length = 8) (haead : o.head.d.aead = true) :
    (o.head.d.aadLen ≠ 0 → ReadDue (portOf o.ring) (aadAddress o.head.d) (.aad id) (startReads id s)) ∧
    (o.head.d.receiving = true → o.head.d.aux ≠ 0 → 0 < o.head.d.t →
      ReadDue (portOf o.ring) o.head.d.aux (.tagIn id) (startReads id s)) := by
  have hport : portOf o.ring < 8 := Nat.mod_lt _ (by decide)
  have haadAsks : ∀ u, Asks u (askAad id o u) := fun u => by
    unfold askAad
    split
    · exact asks_readReq ..
    · exact .refl u
  have htagAsks : ∀ u, Asks u (askTag id o u) := fun u => by
    unfold askTag
    split
    · exact asks_readReq ..
    · exact .refl u
  have hrest : ∀ u, Asks u (joinPartQ id (issueSrc id (readLists id u))) := fun u =>
    ((asks_readLists ..).trans (asks_issueSrc ..)).trans (asks_joinPartQ ..)
  rw [startReads_eq h]
  refine ⟨fun hlen => ((htagAsks _).trans (hrest _)).readDue ?_, fun hreceiving haux ht => (hrest _).readDue ?_⟩
  · rw [askAad, if_pos (by simp [haead, hlen])]
    exact readDue_readReq (by exact hports ▸ hport) (Nat.pos_of_ne_zero hlen)
  · rw [askTag, if_pos (by simp [hreceiving, haux])]
    exact readDue_readReq (by rw [(haadAsks _).length]; exact hports ▸ hport) ht

end

end Sys2Proof.Machine
end

section
/-!
PROOFS. What the dispatch of an AEAD operation decides before it changes anything: the Room (R300, R307), the checks of Tables 7-4
and 9-8, and the next packet number with its switch (R275).
-/

namespace Sys2Proof.Machine

open Sys2Proof

/-! ### The Room -/

/-- `r` weighs less than `q`, or as much and is not above it. -/
def Lighter (f : Nat → Nat) (r q : Nat) : Prop := f r < f q ∨ f r = f q ∧ r ≤ q

theorem Lighter.refl (f : Nat → Nat) (r : Nat) : Lighter f r r := .inr ⟨rfl, Nat.le_refl r⟩

theorem Lighter.trans {f : Nat → Nat} {a b c : Nat} (h : Lighter f a b) (k : Lighter f b c) : Lighter f a c := by
  unfold Lighter at *
  omega

/-- One step of the search for the lightest number. -/
def lighter (f : Nat → Nat) (m : Option Nat) (r : Nat) : Option Nat :=
  match m with
  | none => some r
  | some q => if f r < f q then some r else some q

/-- The search through rising numbers, from a candidate below them on, finds the lightest. -/
theorem foldl_lighter (f : Nat → Nat) (l : List Nat) (p : Nat) (hl : (p :: l).Pairwise (· < ·)) :
    ∃ r, l.foldl (lighter f) (some p) = some r ∧ r ∈ p :: l ∧ ∀ q ∈ p :: l, Lighter f r q := by
  induction l generalizing p with
  | nil => exact ⟨p, rfl, List.mem_cons_self, fun q hq => List.mem_singleton.1 hq ▸ .refl f p⟩
  | cons a t ih =>
    obtain ⟨hp, hat⟩ := List.pairwise_cons.1 hl
    have hpa : p < a := hp a List.mem_cons_self
    have hpt : (p :: t).Pairwise (· < ·) :=
      List.pairwise_cons.2 ⟨fun b hb => hp b (List.mem_cons_of_mem _ hb), (List.pairwise_cons.1 hat).2⟩
    rw [List.foldl_cons, lighter]
    split
    · next hlt =>
      obtain ⟨r, hr, hmem, hall⟩ := ih a hat
      refine ⟨r, hr, List.mem_cons_of_mem _ hmem, fun q hq => ?_⟩
      rcases List.mem_cons.1 hq with rfl | hq
      · exact (hall a List.mem_cons_self).trans (.inl hlt)
      · exact hall q hq
    · next hge =>
      obtain ⟨r, hr, hmem, hall⟩ := ih p hpt
      have hrp := hall p List.mem_cons_self
      refine ⟨r, hr, ?_, fun q hq => ?_⟩
      · rcases List.mem_cons.1 hmem with rfl | hmem
        · exact List.mem_cons_self
        · exact List.mem_cons_of_mem _ (List.mem_cons_of_mem _ hmem)
      · rcases List.mem_cons.1 hq with rfl | hq
        · exact hrp
        · rcases List.mem_cons.1 hq with rfl | hq
          · exact hrp.trans (by unfold Lighter; omega)
          · exact hall q (List.mem_cons_of_mem _ hq)

theorem chooseRoom_eq (s : State) (o : Op) (alg : Nat) :
    chooseRoom s o alg = ((List.range s.build.rooms).filter (roomOk s o alg)).foldl (lighter (roomBlocks s)) none := rfl

theorem freePlace_isSome {s : State} {r : Nat} : (freePlace s r).isSome = true ↔ ∃ p, p < 256 ∧ placeTaken s r p = false := by
  simp [freePlace, List.find?_isSome]

theorem unitServes_alcove {s : State} {u : Nat} :
    unitServes s false u = true ↔ ∃ a, s.rooms.alcoves[u]? = some a ∧ a.svc = 0 := by
  unfold unitServes
  rw [if_neg Bool.false_ne_true]
  cases s.rooms.alcoves[u]? <;> simp

/-- A Room may take an operation when a unit of its algorithm serves. -/
theorem roomOk_eq (s : State) (o : Op) (alg r : Nat) : roomOk s o alg r = (decide (roomRecords s r < 512) &&
    (if alg == 2 then unitServes s true r else unitServes s false (2 * r) || unitServes s false (2 * r + 1)) &&
    (!o.stages || (freePlace s r).isSome)) := rfl

theorem roomFree_iff {s : State} {o : Op} {alg r : Nat} :
    RoomFree s o alg r ↔ r < s.build.rooms ∧ roomOk s o alg r = true := by
  unfold RoomFree
  rw [roomOk_eq, Bool.and_eq_true, Bool.and_eq_true, decide_eq_true_iff, and_assoc]
  refine and_congr_right fun _ => and_congr_right fun _ => ?_
  rw [← and_assoc]
  refine and_congr ?_ ?_
  · by_cases halg : alg = 2
    · simp [halg, unitServes]
    · simp only [halg, beq_iff_eq, if_false, Bool.or_eq_true, unitServes_alcove, false_implies, true_and, ne_eq,
        not_false_eq_true, true_implies, or_and_right, exists_or]
  · rw [Bool.or_eq_true, freePlace_isSome, Bool.not_eq_true', ← Bool.not_eq_true, imp_iff_not_or]

/-- The Room chosen can take the operation, and of those that can it has the fewest blocks waiting (R307). -/
theorem chooseRoom_lightest {s : State} {o : Op} {alg : Nat} (h : ∃ q, RoomFree s o alg q) :
    ∃ r, chooseRoom s o alg = some r ∧ RoomFree s o alg r ∧ ∀ q, RoomFree s o alg q → Lighter (roomBlocks s) r q := by
  have hmem : ∀ q, q ∈ (List.range s.build.rooms).filter (roomOk s o alg) ↔ RoomFree s o alg q := fun q => by
    rw [List.mem_filter, List.mem_range, roomFree_iff]
  have hsorted : ((List.range s.build.rooms).filter (roomOk s o alg)).Pairwise (· < ·) := List.pairwise_lt_range.filter _
  rw [chooseRoom_eq]
  generalize (List.range s.build.rooms).filter (roomOk s o alg) = l at hmem hsorted ⊢
  obtain ⟨q, hq⟩ := h
  cases l with
  | nil => exact absurd ((hmem q).2 hq) List.not_mem_nil
  | cons p t =>
    obtain ⟨r, hr, hin, hall⟩ := foldl_lighter (roomBlocks s) t p hsorted
    exact ⟨r, hr, (hmem r).1 hin, fun q hq => hall q ((hmem q).2 hq)⟩

/-! ### Table 7-4 -/

/-- A change of a context leaves the companions. -/
theorem companionOf_modCtx (index : Nat) (f : Slot → Slot) (hindex : ∀ x, (f x).index = x.index)
    (hstate : ∀ x, (f x).state = x.state) (j : Nat) (s : State) : (modCtx index f s).companionOf j = s.companionOf j := by
  have hkeep : ∀ p : Nat × Slot, p.2.state = .companion →
      (p.1, if p.2.index == index && p.2.state != .companion then f p.2 else p.2) = p := fun p hp => by simp [hp]
  unfold State.companionOf modCtx mapSlots
  rw [find?_map_same fun p => by dsimp only; split <;> simp [hindex, hstate]]
  cases h : s.pan.slots.find? (fun p => p.2.index == j && p.2.state == .companion) with
  | none => rfl
  | some p =>
    have hp := List.find?_some h
    simp only [Bool.and_eq_true, beq_iff_eq] at hp
    exact congrArg some (hkeep p hp.2)

theorem acceptable_modCtx (index : Nat) (f : Slot → Slot) (hindex : ∀ x, (f x).index = x.index)
    (hstate : ∀ x, (f x).state = x.state) (s : State) (x : Slot) (p : Nat) :
    acceptable (modCtx index f s) x p = acceptable s x p := by
  unfold acceptable winBit
  rw [companionOf_modCtx index f hindex hstate]

/-- The five AEAD opcodes. -/
theorem aead_opcode {d : Desc} : d.aead = true ↔ 1 ≤ d.opcode ∧ d.opcode ≤ 5 := by simp [Desc.aead]

/-- An operation that Table 7-4 allows meets no fault there. -/
theorem aeadFault_none {s : State} {o : Op} {x : Slot} (haead : o.head.d.aead = true) (h : AeadAllowed s o x) :
    aeadFault s o x = none := by
  obtain ⟨halg, hchacha, hops, htag, hpresent, hnumber, haccept⟩ := h
  obtain ⟨-, hle⟩ := aead_opcode.1 haead
  have hpolicy : (polAlg x.policy == 3 || (polAlg x.policy == 2 && (o.head.d.opcode == 3 || o.head.d.opcode == 4 ||
      o.head.d.opcode == 5))) = false := by
    rw [Bool.eq_false_iff]
    simp only [ne_eq, Bool.or_eq_true, Bool.and_eq_true, beq_iff_eq]
    omega
  have hopsBit : (x.ops / 2 ^ opsBit o.head.d % 2 == 0) = false := by simp [hops]
  have htagOk : (o.head.d.opcode != 5 && (decide (o.head.d.t < tagMinBytes (polTagMin x.policy)) ||
      (polAlg x.policy == 2 && o.head.d.t != 16))) = false := by
    rw [Bool.eq_false_iff]
    simp only [ne_eq, Bool.or_eq_true, Bool.and_eq_true, bne_iff_ne, beq_iff_eq, decide_eq_true_iff]
    rintro ⟨hcode, hshort | ⟨hal, ht⟩⟩
    · exact absurd (htag hcode).1 (Nat.not_le.2 hshort)
    · exact ht ((htag hcode).2 hal)
  have hlast : (o.head.d.sending && x.f104 == 2 ^ 64 - 1) = false := by
    cases hs : o.head.d.sending with
    | false => rfl
    | true => simpa using hnumber hs
  have hreplay : (o.head.d.receiving && !acceptable s x o.descPn) = false := by
    cases hr : o.head.d.receiving with
    | false => rfl
    | true => simp [haccept hr]
  unfold aeadFault
  dsimp only
  rw [hpolicy, hopsBit, htagOk, hpresent, hlast, hreplay]
  rfl

/-- A tag has at least eight bytes, wherever a tag is checked. -/
theorem tag_pos {s : State} {o : Op} {x : Slot} (h : AeadAllowed s o x) (hcode : o.head.d.opcode ≠ 5) : 0 < o.head.d.t := by
  obtain ⟨-, -, -, htag, -⟩ := h
  have hmin : 8 ≤ tagMinBytes (polTagMin x.policy) := by
    unfold tagMinBytes
    split
    · decide
    · split <;> decide
  exact Nat.lt_of_lt_of_le (by decide) (hmin.trans (htag hcode).1)

/-! ### Table 9-8 -/

/-- A live context in a sound block is found, and its STAMP is set (R354). -/
theorem withCtx_live {s : State} {o : Op} {n : Nat} {x : Slot} (hsound : Sound s) (hlive : CtxLive s o n x)
    (k : Slot → State → State) :
    withCtx o k s = k x (modCtx (s.ctxOf o) (fun y => { y with stamp := s.roundStamp }) s) := by
  obtain ⟨hbacked, hslot, hretiring, hevicting, howner⟩ := hlive
  have hfind : findCtx s o (s.ctxOf o) = .hit x := by
    unfold findCtx
    rw [hbacked, hslot]
    simp [hretiring, hevicting, howner]
  have hdir : readDirectory s = (false, s) := by
    unfold readDirectory
    rw [eccRead_sound hsound]
    rfl
  unfold withCtx
  rw [hdir]
  dsimp only
  rw [hfind, eccRead_sound hsound]
  rfl

/-! ### The next packet number -/

theorem getLsbD_one_shiftLeft {n : Nat} (hn : n < 19) (i : Nat) : ((1 : BitVec 19) <<< n).getLsbD i = decide (i = n) := by
  by_cases h : i = n
  · simp [h, hn]
  · simp [h]
    omega

/-- The bits of a policy after one of them is set or cleared. -/
theorem getLsbD_polSet {n : Nat} (hn : n < 19) (b : Bool) (p : BitVec 19) (i : Nat) :
    (polSet n b p).getLsbD i = if i = n then b else p.getLsbD i := by
  have hone := getLsbD_one_shiftLeft hn i
  cases b with
  | true =>
    rw [polSet, if_pos rfl, BitVec.getLsbD_or, hone]
    by_cases h : i = n <;> simp [h]
  | false =>
    rw [polSet, if_neg Bool.false_ne_true, BitVec.getLsbD_and, BitVec.getLsbD_not, hone]
    by_cases h : i = n
    · simp [h]
    · simpa [h] using fun hp => BitVec.lt_of_getLsbD hp

/-- The policy of a context whose switch, if one is due, has taken effect (R284). -/
def Slot.switched (x : Slot) : BitVec 19 :=
  if x.switches x.f104 then polSet 17 false (polSet 13 (!polActive x.policy) x.policy) else x.policy

theorem advance_policy (x : Slot) :
    x.advance.policy = if x.softFires then polSet 16 true x.switched else x.switched := rfl

/-- The soft limit touches SOFT_HIT alone. -/
theorem advance_policy_other (x : Slot) {i : Nat} (h : i ≠ 16) : x.advance.policy.getLsbD i = x.switched.getLsbD i := by
  rw [advance_policy]
  split
  · rw [getLsbD_polSet (by decide), if_neg h]
  · rfl

/-- A switch touches the active key slot and the mark of the switch alone. -/
theorem switched_other (x : Slot) {i : Nat} (h13 : i ≠ 13) (h17 : i ≠ 17) : x.switched.getLsbD i = x.policy.getLsbD i := by
  unfold Slot.switched
  split
  · rw [getLsbD_polSet (by decide), if_neg h17, getLsbD_polSet (by decide), if_neg h13]
  · rfl

theorem advance_switches {x : Slot} (h : x.switches x.f104 = true) :
    polActive x.advance.policy = !polActive x.policy ∧ x.advance.policy.getLsbD 17 = false := by
  have heq : x.switched = polSet 17 false (polSet 13 (!polActive x.policy) x.policy) := if_pos h
  refine ⟨?_, ?_⟩
  · rw [polActive, advance_policy_other x (by decide), heq, getLsbD_polSet (by decide), if_neg (by decide),
      getLsbD_polSet (by decide), if_pos rfl]
  · rw [advance_policy_other x (by decide), heq, getLsbD_polSet (by decide), if_pos rfl]

theorem advance_keeps_active {x : Slot} (h : x.switches x.f104 = false) : polActive x.advance.policy = polActive x.policy := by
  rw [polActive, advance_policy_other x (by decide), Slot.switched, if_neg (by simp [h]), polActive]

/-- SOFT_HIT is set once the number taken has reached SOFT_LIMIT (R280). -/
theorem advance_softHit {x : Slot} (hlimit : x.f112 ≠ 0) (hreached : x.f112 ≤ x.f104) :
    x.advance.policy.getLsbD 16 = true := by
  rw [advance_policy]
  split
  · rw [getLsbD_polSet (by decide), if_pos rfl]
  · next hquiet =>
    rw [switched_other x (by decide) (by decide)]
    simpa [Slot.softFires, hlimit, hreached] using hquiet

end Sys2Proof.Machine
end

section
/-!
PROOFS. The dispatch of the five AEAD opcodes (O32): the operation is booked into its Room (R307), takes its packet number and its
key copy (R275, R287), and starts its reads.
-/

namespace Sys2Proof.Machine

open Sys2Proof

/-! ### What a first dispatch leaves alone -/

/-- The Pantry, the Room and the staging place of each operation, and the Rooms. -/
def State.quarters (s : State) : Pantry × List (Option Nat × Option Nat) × Rooms :=
  (s.pan, s.ops.map (fun o => (o.room, o.place)), s.rooms)

theorem quarters_of_aside {s t : State} (h : t.aside = s.aside) : t.quarters = s.quarters := by
  rw [State.quarters, pan_of_aside h, ops_of_aside h, rooms_of_aside h, State.quarters]

theorem pan_of_quarters {s t : State} (h : t.quarters = s.quarters) : t.pan = s.pan := (congrArg Prod.fst h :)

/-- A change of operations that leaves each in its Room and at its staging place. -/
theorem quarters_mapOps {f : Op → Op} (hroom : ∀ o, (f o).room = o.room) (hplace : ∀ o, (f o).place = o.place) (s : State) :
    ({ s with ops := s.ops.map f } : State).quarters = s.quarters := by
  refine congrArg (fun l => (s.pan, l, s.rooms)) ?_
  dsimp only
  rw [List.map_map]
  exact List.map_congr_left fun o _ => congrArg₂ Prod.mk (hroom o) (hplace o)

theorem quarters_modOp {f : Op → Op} (hroom : ∀ o, (f o).room = o.room) (hplace : ∀ o, (f o).place = o.place) (id : Nat)
    (s : State) : (modOp id f s).quarters = s.quarters := by
  refine quarters_mapOps (fun o => ?_) (fun o => ?_) s
  · split
    · exact hroom o
    · rfl
  · split
    · exact hplace o
    · rfl

theorem quarters_modRing (n : Nat) (f : Ring → Ring) (s : State) : (modRing n f s).quarters = s.quarters := by
  rw [State.quarters, modRing_pan, modRing_ops, modRing_rooms, State.quarters]

theorem quarters_sampleIn (b id : Nat) (s : State) : (sampleIn b id s).quarters = s.quarters := by
  unfold sampleIn
  dsimp only
  split
  · split
    · exact quarters_modOp (by exact fun _ => rfl) (by exact fun _ => rfl) ..
    · rfl
  · rfl

theorem quarters_noteDispatch (o : Op) (s : State) : (noteDispatch o s).quarters = s.quarters := by
  have hcount : (fixedOp 16 1 o (countOp 2 1 o s)).quarters = s.quarters :=
    quarters_of_aside ((fixedOp_aside ..).trans (countOp_aside ..))
  have hbytes : ∀ (b : Bool) (u : State), (if b then fixedOp 19 o.payload o u else u).quarters = u.quarters := fun b u => by
    split
    · exact quarters_of_aside (fixedOp_aside ..)
    · rfl
  have hsample : ∀ (b : Bool) (i : Nat) (u : State), (if b then sampleIn i o.id u else u).quarters = u.quarters := fun b i u => by
    split
    · exact quarters_sampleIn ..
    · rfl
  have hmark : ∀ (f : Op → Op), (∀ x, (f x).room = x.room ∧ (f x).place = x.place) → ∀ u : State,
      (draw { u with ops := u.ops.map f }).quarters = u.quarters := fun f hf u =>
    quarters_mapOps (fun x => (hf x).1) (fun x => (hf x).2) u
  unfold noteDispatch
  refine (hmark _ (fun x => ?_) _).trans ?_
  · split
    · exact ⟨rfl, rfl⟩
    · split <;> exact ⟨rfl, rfl⟩
  · rw [quarters_modRing, hsample, hsample, hbytes, hcount]

theorem quarters_noteAgain (o : Op) (s : State) : (noteAgain o s).quarters = s.quarters := by
  unfold noteAgain
  split
  · exact quarters_modOp (by exact fun _ => rfl) (by exact fun _ => rfl) ..
  · exact quarters_noteDispatch o s

theorem countHit_aside (o : Op) (s : State) : (countHit o s).aside = s.aside := by
  unfold countHit
  split
  · rfl
  · exact countOp_aside ..

/-- The free places of a Room depend on which are taken alone. -/
theorem freePlace_of_quarters {s t : State} (h : t.quarters = s.quarters) (r : Nat) : freePlace t r = freePlace s r := by
  have hrooms : t.rooms = s.rooms := (congrArg (fun q => q.2.2) h :)
  have hops : t.ops.map (fun o => (o.room, o.place)) = s.ops.map (fun o => (o.room, o.place)) := (congrArg (fun q => q.2.1) h :)
  have htaken : ∀ (u : State) p, u.ops.any (fun o => o.room == some r && o.place == some p) =
      (u.ops.map (fun o => (o.room, o.place))).any (fun q => q.1 == some r && q.2 == some p) := fun u p => by
    rw [List.any_map]
    rfl
  refine congrArg (fun f => (List.range 256).find? f) (funext fun p => ?_)
  rw [placeTaken, placeTaken, htaken, htaken, hops, hrooms]

/-! ### The booking of an operation -/

/-- What a dispatch settles of an operation, with the ring and the entries that it keeps. -/
structure Booking where
  ring : Nat
  entries : List Entry
  ran : Bool
  room : Option Nat
  place : Option Nat
  ref : Option Nat
  pn : Option Nat
  key : Option KeyCopy

def Op.booking (o : Op) : Booking := ⟨o.ring, o.entries, o.ran, o.room, o.place, o.ref, o.pn, o.key⟩

/-- The mark of a dispatch, first or repeated. -/
theorem noteAgain_booking {o : Op} {s : State} (h : s.op? o.id = some o) :
    ((noteAgain o s).op? o.id).map Op.booking = some { o.booking with ran := true } := by
  unfold noteAgain
  split
  · next hran =>
    rw [op?_modOp (by exact fun _ => rfl), if_pos rfl, h]
    exact congrArg (fun b => some { o.booking with ran := b }) hran
  · obtain ⟨-, _, _, _, hnote⟩ := noteDispatch_op? h
    rw [hnote]
    rfl

/-- An operation that holds a reference on a context. -/
def Op.holding (x : Slot) (o : Op) : Op := { o with ref := some x.index }

/-- The state in which a dispatch has taken its reference and has noted itself. -/
def aeadNoted (o : Op) (x : Slot) (s : State) : State := noteAgain o (countHit o (modOp o.id (Op.holding x) s))

/-- An operation in a Room, at a staging place when it needs one. -/
def Op.lodged (stages : Bool) (r : Nat) (p : Option Nat) (o : Op) : Op :=
  { o with room := some r, place := if !stages then none else if o.place.isSome then o.place else p }

/-- The state in which the operation has its Room. -/
def aeadLodged (o : Op) (x : Slot) (r : Nat) (s : State) : State :=
  modOp o.id (Op.lodged o.stages r (freePlace (aeadNoted o x s) r)) (aeadNoted o x s)

/-- An operation with the packet number and the key copy that a receiver uses. -/
def Op.receives (x : Slot) (pn : Nat) (slot1 : Bool) (o : Op) : Op := { o with pn := some pn, key := some (copyKey x slot1) }

/-- The state in which the operation has its packet number and its key copy. -/
def aeadKeyed (o : Op) (x : Slot) (s : State) : State :=
  if o.head.d.sending then assignPn o x s else modOp o.id (Op.receives x o.descPn (keySlot x o.head.d)) s

theorem dispatchAead_eq {o : Op} {x : Slot} {r : Nat} {s : State} (hfault : aeadFault s o x = none) (hroom : o.room = none)
    (hchoose : chooseRoom s o (polAlg x.policy) = some r) :
    dispatchAead o x s = startReads o.id (aeadKeyed o x (aeadLodged o x r s)) := by
  unfold dispatchAead
  rw [hfault, hroom]
  dsimp only
  rw [Option.isSome_none, if_neg Bool.false_ne_true, hchoose]
  rfl

theorem aeadNoted_quarters (o : Op) (x : Slot) (s : State) : (aeadNoted o x s).quarters = s.quarters := by
  rw [aeadNoted, quarters_noteAgain, quarters_of_aside (countHit_aside ..)]
  exact quarters_modOp (by exact fun _ => rfl) (by exact fun _ => rfl) ..

theorem aeadLodged_booking {o : Op} {s : State} (h : s.op? o.id = some o) (hplace : o.place = none) (x : Slot) (r : Nat) :
    ((aeadLodged o x r s).op? o.id).map Op.booking = some { o.booking with
      ran := true, room := some r, place := if o.stages then freePlace s r else none, ref := some x.index } := by
  have hheld : (countHit o (modOp o.id (Op.holding x) s)).op? o.id = some (o.holding x) := by
    rw [op?_of_aside (countHit_aside ..), op?_modOp (by exact fun _ => rfl), if_pos rfl, h]
    rfl
  have hnoted : ((aeadNoted o x s).op? o.id).map Op.booking = some { (o.holding x).booking with ran := true } :=
    noteAgain_booking (o := o.holding x) hheld
  obtain ⟨y, hy, hbooked⟩ := Option.map_eq_some_iff.1 hnoted
  have hyplace : y.place = none := (congrArg Booking.place hbooked).trans hplace
  rw [aeadLodged, op?_modOp (by exact fun _ => rfl), if_pos rfl, hy, freePlace_of_quarters (aeadNoted_quarters o x s)]
  have hlodged : (if !o.stages then none else if y.place.isSome then y.place else freePlace s r) =
      if o.stages then freePlace s r else none := by
    rw [hyplace]
    cases o.stages <;> rfl
  refine congrArg some ?_
  calc (y.lodged o.stages r (freePlace s r)).booking
      = { y.booking with
          room := some r
          place := if !o.stages then none else if y.place.isSome then y.place else freePlace s r } := rfl
    _ = _ := by rw [hbooked, hlodged]; rfl

theorem aeadLodged_pan (o : Op) (x : Slot) (r : Nat) (s : State) : (aeadLodged o x r s).pan = s.pan :=
  (pan_of_quarters (aeadNoted_quarters o x s) :)

theorem aeadLodged_shape (o : Op) (x : Slot) (r : Nat) (s : State) : (aeadLodged o x r s).shape = s.shape := by
  rw [aeadLodged, modOp_shape, aeadNoted, noteAgain_shape, countHit_shape, modOp_shape]

/-! ### The packet number and the key copy -/

/-- The record of a switch or of a soft limit leaves operations and contexts. -/
theorem ctxRecord_tables (c : Bool) (o : Op) (st : Status) (ev pn : Nat) (s : State) :
    let t := if c then ctxRecord o st pn (countOp ev 1 o s) else s
    t.ops = s.ops ∧ t.pan = s.pan := by
  dsimp only
  split
  · obtain ⟨hstore, hops⟩ := evWrite_tables o.inst 0x10 st.code.toNat o.ring o.head.d.ctx (pn % 2 ^ 32) (countOp ev 1 o s)
    exact ⟨hops.trans (ops_of_aside (countOp_aside ..)), (pan_of_store hstore).trans (pan_of_aside (countOp_aside ..))⟩
  · exact ⟨rfl, rfl⟩

/-- A context that has given out its packet number (R275). -/
def Slot.given (x z : Slot) : Slot := { z with f104 := x.advance.f104, policy := x.advance.policy, dirty := true }

/-- An operation that has taken the packet number of a context and a copy of its active key (R275, R287). -/
def Op.sends (x : Slot) (o : Op) : Op :=
  { o with
    pn := some x.f104, firstPn := if o.firstPn.isNone then some x.f104 else o.firstPn,
    switched := o.switched || x.switches x.f104, softHit := o.softHit || x.softFires,
    key := some (copyKey x.advance (polActive x.advance.policy)) }

theorem assignPn_tables (o : Op) (x : Slot) (s : State) :
    (assignPn o x s).ops = (modOp o.id (Op.sends x) s).ops ∧ (assignPn o x s).pan = (modCtx x.index x.given s).pan := by
  have hsoft := ctxRecord_tables x.softFires o .okSoftLimit 0xD x.f104
    (modOp o.id (Op.sends x) (markDirty (modCtx x.index x.given s)))
  have hswitch := ctxRecord_tables (x.switches x.f104) o .okKeySwitched 0xE x.f104
    (if x.softFires then ctxRecord o .okSoftLimit x.f104 (countOp 0xD 1 o
      (modOp o.id (Op.sends x) (markDirty (modCtx x.index x.given s)))) else
      modOp o.id (Op.sends x) (markDirty (modCtx x.index x.given s)))
  exact ⟨hswitch.1.trans hsoft.1, hswitch.2.trans hsoft.2⟩

section
variable {o : Op} {x : Slot} {s : State}

theorem aeadKeyed_shape : (aeadKeyed o x s).shape = s.shape := by
  unfold aeadKeyed
  split
  · exact assignPn_shape ..
  · exact modOp_shape ..

theorem aeadKeyed_sends (hsending : o.head.d.sending = true) :
    (aeadKeyed o x s).op? o.id = (s.op? o.id).map (Op.sends x) ∧ (aeadKeyed o x s).pan = (modCtx x.index x.given s).pan := by
  obtain ⟨hops, hpan⟩ := assignPn_tables o x s
  rw [aeadKeyed, if_pos hsending, State.op?, hops, ← State.op?, op?_modOp (by exact fun _ => rfl), if_pos rfl]
  exact ⟨rfl, hpan⟩

theorem aeadKeyed_receives (hsending : o.head.d.sending = false) :
    (aeadKeyed o x s).op? o.id = (s.op? o.id).map (Op.receives x o.descPn (keySlot x o.head.d)) ∧
      (aeadKeyed o x s).pan = s.pan := by
  rw [aeadKeyed, if_neg (by simp [hsending]), op?_modOp (by exact fun _ => rfl), if_pos rfl]
  exact ⟨rfl, rfl⟩

end

/-- The packet number and the key copy that an operation of a context takes. -/
def aeadKey (o : Op) (x : Slot) : Nat × KeyCopy :=
  if o.head.d.sending then (x.f104, copyKey x.advance (polActive x.advance.policy))
  else (o.descPn, copyKey x (keySlot x o.head.d))

theorem aeadKeyed_booking {o : Op} {x : Slot} {s : State} {b : Booking} (h : (s.op? o.id).map Op.booking = some b) :
    ((aeadKeyed o x s).op? o.id).map Op.booking = some { b with pn := some (aeadKey o x).1, key := some (aeadKey o x).2 } := by
  obtain ⟨y, hy, rfl⟩ := Option.map_eq_some_iff.1 h
  cases hsending : o.head.d.sending with
  | true =>
    rw [(aeadKeyed_sends hsending).1, hy, aeadKey, if_pos hsending]
    rfl
  | false =>
    rw [(aeadKeyed_receives hsending).1, hy, aeadKey, if_neg (by simp [hsending])]
    rfl

/-! ### The reads leave the Pantry -/

theorem issueSrc_pan (id : Nat) (s : State) : (issueSrc id s).pan = s.pan := by
  unfold issueSrc
  split
  · rfl
  · exact foldl_snd_keeps State.pan (fun _ _ => pan_of_aside (readReq_aside ..)) _ _

theorem joinPartQ_pan (id : Nat) (s : State) : (joinPartQ id s).pan = s.pan := by
  unfold joinPartQ
  split
  · rfl
  · dsimp only
    split <;> rfl

theorem startReads_pan {id : Nat} {o : Op} {s : State} (h : s.op? id = some o) : (startReads id s).pan = s.pan := by
  rw [startReads_eq h, joinPartQ_pan, issueSrc_pan,
    pan_of_aside ((readLists_aside ..).trans ((askTag_aside ..).trans (askAad_aside ..)))]
  rfl

/-! ### The dispatch -/

/-- The state in which the context of an operation has its STAMP (R354). -/
def stamped (o : Op) (s : State) : State := modCtx (s.ctxOf o) (fun y => { y with stamp := s.roundStamp }) s

/-- An AEAD operation that is dispatched for the first time, with its context and the Room that is chosen for it. -/
structure AeadTurn (s : State) (o : Op) (n : Nat) (x : Slot) (r : Nat) : Prop where
  op : s.op? o.id = some o
  inv : s.Inv
  sound : Sound s
  aead : o.head.d.aead = true
  ref : o.ref = none
  room : o.room = none
  place : o.place = none
  live : CtxLive s o n x
  allowed : AeadAllowed s o x
  chosen : chooseRoom s o (polAlg x.policy) = some r

namespace AeadTurn
variable {s : State} {o : Op} {n : Nat} {x : Slot} {r : Nat} (h : AeadTurn s o n x r)
include h

/-- The last state before the reads start. -/
theorem dispatch : dispatchOp o s = startReads o.id (aeadKeyed o x (aeadLodged o x r (stamped o s))) := by
  have hfault : aeadFault (stamped o s) o x = none := by
    refine aeadFault_none h.aead ?_
    unfold AeadAllowed
    rw [stamped, acceptable_modCtx _ _ (by exact fun _ => rfl) (by exact fun _ => rfl)]
    exact h.allowed
  unfold dispatchOp
  rw [h.ref]
  dsimp only [Option.bind_none]
  rw [if_pos h.aead, withCtx_live h.sound h.live]
  exact dispatchAead_eq hfault h.room h.chosen

theorem booked : ∃ y, (aeadKeyed o x (aeadLodged o x r (stamped o s))).op? o.id = some y ∧ y.booking =
    ⟨o.ring, o.entries, true, some r, if o.stages then freePlace s r else none, some x.index, some (aeadKey o x).1,
      some (aeadKey o x).2⟩ :=
  Option.map_eq_some_iff.1 (aeadKeyed_booking (aeadLodged_booking (s := stamped o s) h.op h.place x r))

/-- The operation runs its first part as it has been booked. -/
theorem runs : ∃ y, (dispatchOp o s).op? o.id = some y ∧ y.phase = .run ∧ y.part = 0 ∧ y.booking =
    ⟨o.ring, o.entries, true, some r, if o.stages then freePlace s r else none, some x.index, some (aeadKey o x).1,
      some (aeadKey o x).2⟩ := by
  obtain ⟨y, hy, hbooked⟩ := h.booked
  obtain ⟨z, hz, hfresh⟩ := Option.map_eq_some_iff.1 (startReads_op? hy)
  rw [h.dispatch]
  exact ⟨z, hz, (congrArg Op.phase hfresh :), (congrArg Op.part hfresh :), (congrArg Op.booking hfresh).trans hbooked⟩

theorem asks :
    (o.head.d.aadLen ≠ 0 → ReadDue (portOf o.ring) (aadAddress o.head.d) (.aad o.id) (dispatchOp o s)) ∧
    (o.head.d.receiving = true → o.head.d.aux ≠ 0 → ReadDue (portOf o.ring) o.head.d.aux (.tagIn o.id) (dispatchOp o s)) := by
  obtain ⟨y, hy, hbooked⟩ := h.booked
  have hring : y.ring = o.ring := (congrArg Booking.ring hbooked :)
  have hhead : y.head = o.head := by
    have hentries : y.entries = o.entries := (congrArg Booking.entries hbooked :)
    rw [Op.head, hentries, Op.head]
  have hports : (aeadKeyed o x (aeadLodged o x r (stamped o s))).hwy.ports.length = 8 := by
    have hshape : (aeadKeyed o x (aeadLodged o x r (stamped o s))).shape = s.shape := by
      rw [aeadKeyed_shape, aeadLodged_shape, stamped, modCtx_shape]
    exact (inv_of_shape hshape h.inv).1
  obtain ⟨haad, htag⟩ := startReads_due hy hports (by rw [hhead]; exact h.aead)
  rw [hhead, hring] at haad htag
  rw [h.dispatch]
  refine ⟨haad, fun hreceiving haux => htag hreceiving haux (tag_pos h.allowed ?_)⟩
  rcases receiving_opcode hreceiving with hcode | hcode <;> simp [hcode]

theorem slot_stamped : (aeadLodged o x r (stamped o s)).slotOf (s.ctxOf o) = some (n, { x with stamp := s.roundStamp }) := by
  obtain ⟨-, hslot, -⟩ := h.live
  rw [slotOf_of_pan (aeadLodged_pan ..)]
  exact slotOf_modCtx_same (by exact fun _ => rfl) (by exact fun _ => rfl) hslot

theorem pan : (dispatchOp o s).pan = (aeadKeyed o x (aeadLodged o x r (stamped o s))).pan := by
  obtain ⟨y, hy, -⟩ := h.booked
  rw [h.dispatch, startReads_pan hy]

/-- A sender's context has given out its packet number. -/
theorem slot_sends (hsending : o.head.d.sending = true) :
    (dispatchOp o s).slotOf (s.ctxOf o) = some (n, x.given { x with stamp := s.roundStamp }) := by
  obtain ⟨-, hslot, -⟩ := h.live
  obtain ⟨-, hindex, -⟩ := slotOf_mem hslot
  rw [slotOf_of_pan (h.pan.trans (aeadKeyed_sends hsending).2), congrArg modCtx hindex]
  exact slotOf_modCtx_same (by exact fun _ => rfl) (by exact fun _ => rfl) h.slot_stamped

theorem slot_receives (hsending : o.head.d.sending = false) :
    (dispatchOp o s).slotOf (s.ctxOf o) = some (n, { x with stamp := s.roundStamp }) := by
  rw [slotOf_of_pan (h.pan.trans (aeadKeyed_receives hsending).2)]
  exact h.slot_stamped

end AeadTurn

/-- The rows of the five AEAD opcodes. -/
def aeadRows (id : Nat) : List (Nat × Instr) :=
  [(1, .seal id), (2, .openOp id), (3, .gmacSign id), (4, .gmacCheck id), (5, .ctr id)]

theorem exec_aeadRows {id code : Nat} {c : Instr} (h : (code, c) ∈ aeadRows id) (s : State) :
    exec c s = .next (dispatchRow id (fun d => d.opcode == code) s) := by
  simp only [aeadRows, List.mem_cons, List.not_mem_nil, or_false, Prod.mk.injEq] at h
  rcases h with ⟨rfl, rfl⟩ | ⟨rfl, rfl⟩ | ⟨rfl, rfl⟩ | ⟨rfl, rfl⟩ | ⟨rfl, rfl⟩ <;> rfl

theorem aeadRows_opcode {id code : Nat} {c : Instr} (h : (code, c) ∈ aeadRows id) : 1 ≤ code ∧ code ≤ 5 := by
  simp only [aeadRows, List.mem_cons, List.not_mem_nil, or_false, Prod.mk.injEq] at h
  omega

/-- Settles O32: the row dispatches the operation in its turn, and the policy of an advanced context is read bit by bit. -/
theorem aeadDispatch : Obligations.AeadDispatch := by
  refine ⟨fun s id code n o x c hrow hinv ho hcode hdisp hsound href hroom hplace hlive hallowed hfree => ?dispatched,
    fun x => ⟨rfl, rfl, rfl, rfl, advance_switches, advance_keeps_active, advance_softHit⟩⟩
  case dispatched =>
    obtain rfl := op?_id ho
    obtain ⟨r, hchosen, hrfree, hlightest⟩ := chooseRoom_lightest hfree
    have hturn : AeadTurn s o n x r :=
      ⟨ho, hinv, hsound, aead_opcode.2 (hcode ▸ aeadRows_opcode hrow), href, hroom, hplace, hlive, hallowed, hchosen⟩
    obtain ⟨y, hy, hphase, hpart, hbooked⟩ := hturn.runs
    have hyplace : y.place = if o.stages then freePlace s r else none := (congrArg Booking.place hbooked :)
    have hypn : y.pn = some (aeadKey o x).1 := (congrArg Booking.pn hbooked :)
    have hykey : y.key = some (aeadKey o x).2 := (congrArg Booking.key hbooked :)
    refine ⟨dispatchOp o s, y, r, ?_, hrfree, hlightest, hy, hphase, (congrArg Booking.room hbooked :),
      (congrArg Booking.ref hbooked :), (congrArg Booking.ran hbooked :), hpart, fun hstages => ?_, fun hstages => ?_,
      fun hsending => ?_, fun hsending => ?_, hturn.asks.1, hturn.asks.2⟩
    · rw [exec_aeadRows hrow, dispatchRow_eq ho (by simp [hcode]) hdisp]
    · obtain ⟨-, -, -, -, hfreePlace⟩ := hrfree
      obtain ⟨k, hk⟩ := Option.isSome_iff_exists.1 (freePlace_isSome.2 (hfreePlace hstages))
      have hfreek := List.find?_some hk
      have hrange := List.mem_of_find?_eq_some hk
      exact ⟨k, List.mem_range.1 hrange, by simpa using hfreek, by rw [hyplace, if_pos hstages, hk]⟩
    · rw [hyplace, if_neg (by simp [hstages])]
    · rw [hypn, hykey, aeadKey, if_pos hsending]
      exact ⟨rfl, rfl, hturn.slot_sends hsending⟩
    · rw [hypn, hykey, aeadKey, if_neg (by simp [hsending])]
      exact ⟨rfl, rfl, hturn.slot_receives hsending⟩

end Sys2Proof.Machine
end

section
/-!
PROOFS. Mismatches, self-tests and dummy keys (O36): what a report to the fault-rate source counts, what the parts that go on leave
of an operation that has ended, and what the new dummy key changes.
-/

namespace Sys2Proof.Machine

open Sys2Proof

/-! ### The service of a unit -/

/-- The Rooms of a state but for the places that linger are among what `still` holds. -/
theorem rooms_of_still {s t : State} (h : t.still = s.still) : { t.rooms with linger := [] } = { s.rooms with linger := [] } :=
  (congrArg Still.rooms h :)

theorem faults_of_still {s t : State} (h : t.still = s.still) : t.rooms.faults = s.rooms.faults :=
  (congrArg Rooms.faults (rooms_of_still h) :)

theorem unitServes_of_still {s t : State} (h : t.still = s.still) (chacha : Bool) (u : Nat) :
    unitServes t chacha u = unitServes s chacha u := by
  have halcoves : t.rooms.alcoves = s.rooms.alcoves := (congrArg Rooms.alcoves (rooms_of_still h) :)
  have hchachas : t.rooms.chachas = s.rooms.chachas := (congrArg Rooms.chachas (rooms_of_still h) :)
  rw [unitServes, halcoves, hchachas, unitServes]

theorem cel_of_still {s t : State} (h : t.still = s.still) : t.cel = s.cel := (congrArg Still.cel h :)

/-- A unit in any other service state does not serve. -/
theorem unitServes_setService {v : Nat} (hv : v ≠ 0) (chacha : Bool) (u : Nat) (s : State) :
    unitServes (setService chacha u v s) chacha u = false := by
  cases chacha with
  | true =>
    simp only [unitServes, setService, if_true, modAt_getElem?]
    cases s.rooms.chachas[u]? <;> simp [hv]
  | false =>
    simp only [unitServes, setService, Bool.false_eq_true, if_false, if_true, modAt_getElem?]
    cases s.rooms.alcoves[u]? <;> simp [hv]

/-! ### Reports to the fault-rate source (R322, R557) -/

/-- A tally adds one to the newest millisecond of the window. -/
theorem faultTally_count (s : State) : (faultTally s).cel.faultCount = s.cel.faultCount + 1 := by
  unfold faultTally
  rw [cel_of_aside (countIn_aside ..)]
  simp only [Cellar.faultCount, ← List.sum_eq_foldl_nat]
  cases s.cel.faultLog with
  | nil => rfl
  | cons n l => simp only [List.sum_cons]; omega

/-- Below the limit the source does not assert, so the count of the window stays. -/
theorem checkFaultRate_below {s : State} (h : s.cel.faultCount < s.cel.faultLimit) :
    (checkFaultRate s).ops = s.ops ∧ (checkFaultRate s).rooms = s.rooms ∧
      (checkFaultRate s).cel.faultCount = s.cel.faultCount := by
  unfold checkFaultRate
  rw [if_neg (Nat.not_le.2 h)]
  split <;> exact ⟨rfl, rfl, rfl⟩

/-- A report that stays below the limit is counted, and changes neither operations nor Rooms. -/
theorem faultReport_below {s : State} (h : s.cel.faultCount + 1 < s.cel.faultLimit) :
    (faultReport s).ops = s.ops ∧ (faultReport s).rooms = s.rooms ∧
      (faultReport s).cel.faultCount = s.cel.faultCount + 1 := by
  have htally : (faultTally s).ops = s.ops ∧ (faultTally s).rooms = s.rooms ∧
      (faultTally s).cel.faultLimit = s.cel.faultLimit := by
    unfold faultTally
    rw [ops_of_aside (countIn_aside ..), rooms_of_aside (countIn_aside ..), cel_of_aside (countIn_aside ..)]
    exact ⟨rfl, rfl, rfl⟩
  obtain ⟨hops, hrooms, hlimit⟩ := htally
  obtain ⟨hops', hrooms', hcount'⟩ := checkFaultRate_below (s := faultTally s) (by rwa [faultTally_count, hlimit])
  exact ⟨hops'.trans hops, hrooms'.trans hrooms, hcount'.trans (faultTally_count s)⟩

/-! ### The other parts of the unit (R319) -/

theorem movePart_still (chacha : Bool) (u id : Nat) (s : State) : (movePart chacha u id s).still = s.still := by
  unfold movePart
  split
  · rfl
  · split
    · exact modOp_still ..
    · split
      · exact releaseOp_still ..
      · exact modOp_still ..

/-- The generation of an operation and the status that it holds. -/
def Op.verdict (o : Op) : Bool × Status := (o.old, o.status)

/-- A part that goes on neither releases an operation of the present generation nor changes its status. -/
theorem movePart_verdict {id : Nat} {st : Status} {s : State} (h : (s.op? id).map Op.verdict = some (false, st))
    (chacha : Bool) (u i : Nat) : ((movePart chacha u i s).op? id).map Op.verdict = some (false, st) := by
  unfold movePart
  split
  · exact h
  · next o ho =>
    split
    · rw [view_modOp (by exact fun _ => rfl) (by exact fun _ => rfl), h]
    · split
      · next hold =>
        have hother : id ≠ i := by
          rintro rfl
          rw [ho, Option.map_some, Op.verdict, hold] at h
          cases h
        rw [releaseOp_op?_other hother, h]
      · rw [view_modOp (by exact fun _ => rfl) (by exact fun _ => rfl), h]

theorem foldl_movePart_verdict {id : Nat} {st : Status} (chacha : Bool) (u : Nat) (l : List Op) {s : State}
    (h : (s.op? id).map Op.verdict = some (false, st)) :
    ((l.foldl (fun s o => movePart chacha u o.id s) s).op? id).map Op.verdict = some (false, st) := by
  induction l generalizing s with
  | nil => exact h
  | cons a l ih => exact ih (movePart_verdict h chacha u a.id)

/-! ### A mismatch of one operation's part (R317 to R322) -/

/-- A mismatch has been counted in the fault register, and its unit is in its self-test. -/
def faultNoted (chacha : Bool) (u : Nat) (s : State) : State :=
  setService chacha u 1 { s with rooms := { s.rooms with faults := min 0xFFFFFFFF (s.rooms.faults + 1) } }

theorem faultNoted_faults (chacha : Bool) (u : Nat) (s : State) :
    (faultNoted chacha u s).rooms.faults = min 0xFFFFFFFF (s.rooms.faults + 1) := by
  cases chacha <;> rfl

/-- The state in which the operation has ended and the other parts of the unit have gone on. -/
def faultSettled (chacha : Bool) (u id : Nat) (s : State) : State :=
  let t := endOp id .faultDetected 0 (faultNoted chacha u s)
  (partsOn t chacha u).foldl (fun s o => movePart chacha u o.id s) t

theorem unitMismatch_one (chacha : Bool) (u id : Nat) (s : State) :
    unitMismatch chacha u false [id] s = faultReport (faultSettled chacha u id s) := by
  have hone : [id].length + b2n false = 1 := rfl
  simp only [unitMismatch, hone, reports, List.range_one, List.foldl_cons, List.foldl_nil, faultSettled, faultNoted]

theorem faultSettled_still (chacha : Bool) (u id : Nat) (s : State) :
    (faultSettled chacha u id s).still = (faultNoted chacha u s).still :=
  (foldl_still _ _ _ fun s (o : Op) => movePart_still chacha u o.id s).trans (endOp_still ..)

/-- The operation has ended with FAULT_DETECTED, which stops no ring. -/
theorem faultSettled_ends {s : State} {id : Nat} {o : Op} (h : s.op? id = some o) (hold : o.old = false) (chacha : Bool)
    (u : Nat) : ((faultSettled chacha u id s).op? id).map Op.verdict = some (false, .faultDetected) := by
  obtain ⟨ents, scrub, hend⟩ := endOp_op?_unstopped (st := .faultDetected) (s := faultNoted chacha u s) 0 h hold (by decide)
  refine foldl_movePart_verdict chacha u _ ?_
  obtain ⟨x, hx, hended⟩ := Option.map_eq_some_iff.1 hend
  rw [hx]
  exact congrArg some (Prod.ext ((congrArg Op.old hended).trans hold) (congrArg Op.status hended))

/-- A mismatch of a block of one operation's part on a unit in service. -/
theorem mismatch_one {s : State} {m : MismatchAt} {id : Nat} {o : Op} (hop : m.op = some id) (hothers : m.alsoFail = [])
    (h : s.op? id = some o) (hserves : unitServes s m.chacha m.unit = true) (hpart : o ∈ partsOn s m.chacha m.unit) :
    mismatch m s = unitMismatch m.chacha m.unit false [id] s := by
  have hhere : ((partsOn s m.chacha m.unit).map (·.id)).contains id = true :=
    List.contains_iff_mem.2 (List.mem_map.2 ⟨o, hpart, op?_id h⟩)
  unfold mismatch
  rw [hop, hothers, hserves]
  exact if_pos (by simpa using hhere)

theorem mismatch_ends {s : State} {m : MismatchAt} {id : Nat} {o : Op} (hop : m.op = some id) (hothers : m.alsoFail = [])
    (h : s.op? id = some o) (hold : o.old = false) (hserves : unitServes s m.chacha m.unit = true)
    (hpart : o ∈ partsOn s m.chacha m.unit) (hbelow : s.cel.faultCount + 1 < s.cel.faultLimit) :
    ∃ x, (mismatch m s).op? id = some x ∧ x.status = .faultDetected ∧
      (mismatch m s).rooms.faults = min 0xFFFFFFFF (s.rooms.faults + 1) ∧
      unitServes (mismatch m s) m.chacha m.unit = false ∧ (mismatch m s).cel.faultCount = s.cel.faultCount + 1 := by
  have hstill := faultSettled_still m.chacha m.unit id s
  have hcel : (faultSettled m.chacha m.unit id s).cel = s.cel := (cel_of_still hstill).trans rfl
  obtain ⟨hops, hrooms, hcount⟩ := faultReport_below (s := faultSettled m.chacha m.unit id s) (by rwa [hcel])
  obtain ⟨x, hx, hverdict⟩ := Option.map_eq_some_iff.1 (faultSettled_ends h hold m.chacha m.unit)
  rw [mismatch_one hop hothers h hserves hpart, unitMismatch_one]
  refine ⟨x, by rw [State.op?, hops, ← State.op?, hx], (congrArg Prod.snd hverdict :), ?_, ?_, by rw [hcount, hcel]⟩
  · rw [hrooms, faults_of_still hstill, faultNoted_faults]
  · rw [unitServes, hrooms, ← unitServes, unitServes_of_still hstill]
    exact unitServes_setService Nat.one_ne_zero ..

/-! ### Self-tests and dummy keys (R321, R325) -/

theorem exec_selfTestEnd {s : State} {chacha : Bool} {u : Nat} (hrun : s.unitsRun = true) (htest : serviceOf s chacha u = 1)
    (pass : Bool) : exec (.selfTestEnd chacha u pass) s =
      .next (finish (if pass then setService chacha u 0 s else faultReport (setService chacha u 2 s))) :=
  congrArg Host.Outcome.next (if_pos (by rw [htest, hrun]; rfl))

/-- A new dummy key is what the CTR_DRBG of the Room generates; the generate request changes neither Rooms, instances nor
operations. -/
theorem replaceDummyKey_eq (u left : Nat) (s : State) :
    (replaceDummyKey u left s).rooms.alcoves = modAt (fun a => { a with
        dummies := left, dummyKey := (generate (drbgRoom (u / 2)) 32 [] false s).1 }) u s.rooms.alcoves ∧
      (replaceDummyKey u left s).insts = s.insts ∧ (replaceDummyKey u left s).ops = s.ops := by
  obtain ⟨-, hinsts, -, hrooms⟩ := generate_unrung (drbgRoom (u / 2)) 32 [] false s
  refine ⟨?_, hinsts, generate_ops ..⟩
  refine List.ext_getElem? fun v => ?_
  simp only [replaceDummyKey, newDummyKey, hrooms, modAt_getElem?]
  split
  · rw [Option.map_map]; rfl
  · rfl

theorem exec_dummyKeyReplace {s : State} {u : Nat} {a : Alcove} (ha : s.rooms.alcoves[u]? = some a)
    (hspent : 4096 ≤ a.dummies) : exec (.dummyKeyReplace u) s = .next (replaceDummyKey u (a.dummies - 4096) s) := by
  have hrow : exec (.dummyKeyReplace u) s = execDummyKeyReplace u s := rfl
  rw [hrow, execDummyKeyReplace, ha]
  dsimp only
  rw [if_pos hspent]

/-- Settles O36: a mismatch ends its operation and is reported below the limit (`mismatch_ends`), a self-test ends by
`exec_selfTestEnd`, and the new dummy key is read off `replaceDummyKey_eq`. -/
theorem unitFaults : Obligations.UnitFaults := by
  refine ⟨fun s m id o hop hothers h hold _ hserves hpart hbelow => ⟨mismatch m s, ?mismatch⟩,
    fun s chacha u hrun htest =>
      ⟨by rw [exec_selfTestEnd hrun htest, if_pos rfl], by rw [exec_selfTestEnd hrun htest, if_neg Bool.false_ne_true]⟩,
    fun s u a ha hspent => ⟨replaceDummyKey u (a.dummies - 4096) s, ?replace⟩⟩
  case mismatch =>
    obtain ⟨x, hends⟩ := mismatch_ends hop hothers h hold hserves hpart hbelow
    exact ⟨x, rfl, hends⟩
  case replace =>
    obtain ⟨halcoves, hinsts, hops⟩ := replaceDummyKey_eq u (a.dummies - 4096) s
    refine ⟨exec_dummyKeyReplace ha hspent, ?_, fun v hv => ?_, hinsts, hops⟩
    · rw [halcoves, modAt_getElem?, if_pos rfl, ha]; rfl
    · rw [halcoves, modAt_getElem?, if_neg hv]

end Sys2Proof.Machine
end

section
/-!
PROOFS. The dispatch of CTX_INSTALL, CTX_REKEY and CTX_RETIRE (O33): the opened blob and its pinned KEK version, the context that
takes a new key, and the reference that the operation holds until it is released.
-/

namespace Sys2Proof.Machine

open Sys2Proof

/-! ### The checks before -/

theorem readKeyStore_sound {s : State} (h : Sound s) : readKeyStore s = (false, s) := by
  unfold readKeyStore
  rw [eccRead_sound h]
  rfl

theorem readDirectory_sound {s : State} (h : Sound s) : readDirectory s = (false, s) := by
  unfold readDirectory
  rw [eccRead_sound h]
  rfl

theorem dispatchOp_install {o : Op} (hcode : o.head.d.opcode = 0x20) (s : State) : dispatchOp o s = dispatchInstall o s := by
  simp [dispatchOp, Desc.aead, hcode]

theorem dispatchOp_rekey {o : Op} (hcode : o.head.d.opcode = 0x21) (s : State) : dispatchOp o s = dispatchRekey o s := by
  simp [dispatchOp, Desc.aead, hcode]

theorem dispatchOp_retire {o : Op} (hcode : o.head.d.opcode = 0x22) (s : State) : dispatchOp o s = dispatchRetire o s := by
  simp [dispatchOp, Desc.aead, hcode]

/-! ### CTX_INSTALL -/

/-- An operation whose blob has opened keeps the KEK version of it. -/
def Op.pinning (o x : Op) : Op := { x with pin := some (field 4 2 o.blob) }

/-- The state in which an operation has opened its blob. -/
def opened (o : Op) (s : State) : State := modOp o.id o.pinning s

theorem op?_opened {o : Op} {s : State} (ho : s.op? o.id = some o) : (opened o s).op? o.id = some (o.pinning o) := by
  rw [opened, op?_modOp (by exact fun _ => rfl), if_pos rfl, ho]
  rfl

/-- An operation that waits for the Pantry door with an index. -/
def Op.knocking (i : Nat) (o : Op) : Op := { o with phase := .waitIndex i, miss := true }

/-- An install that passes its checks, of an index that no slot holds, is added to the misses. -/
theorem dispatchInstall_eq {s : State} {o : Op} {pt : List Byte} (hsound : Sound s) (hblob : openBlob s o 1 installRsvd = .ok pt)
    (hpolicy : installPolicyOk o.head.d.subop pt = true) (hkek : (s.inst o.inst).kek.seed ≠ [])
    (hslot : s.slotOf (s.ctxOf o) = none) :
    dispatchInstall o s = addMiss (s.ctxOf o) o.inst (some o.id) (modOp o.id (Op.knocking (s.ctxOf o)) (opened o s)) := by
  have hseed : ((opened o s).inst o.inst).kek.seed.isEmpty = false := List.isEmpty_eq_false_iff.2 hkek
  have hslot' : (opened o s).slotOf ((opened o s).ctxOf o) = none := hslot
  have hpin : pinKek o (some (field 4 2 o.blob)) s = opened o s := rfl
  unfold dispatchInstall
  rw [hblob]
  dsimp only
  rw [hpin, readKeyStore_sound (by exact hsound), if_neg Bool.false_ne_true, if_neg (by simp [hpolicy]), if_neg (by simp [hseed]),
    readDirectory_sound (by exact hsound)]
  dsimp only
  rw [if_neg Bool.false_ne_true, hslot']
  rfl

theorem addMiss_ops (index inst : Nat) (probe : Option Nat) (s : State) : (addMiss index inst probe s).ops = s.ops := by
  unfold addMiss
  split <;> rfl

theorem addMiss_pan (index inst : Nat) (probe : Option Nat) (s : State) : (addMiss index inst probe s).pan = s.pan := by
  unfold addMiss
  split <;> rfl

theorem dispatchInstall_waits {s : State} {o : Op} {pt : List Byte} (ho : s.op? o.id = some o) (hsound : Sound s)
    (hblob : openBlob s o 1 installRsvd = .ok pt) (hpolicy : installPolicyOk o.head.d.subop pt = true)
    (hkek : (s.inst o.inst).kek.seed ≠ []) (hslot : s.slotOf (s.ctxOf o) = none) :
    (dispatchInstall o s).op? o.id = some ((o.pinning o).knocking (s.ctxOf o)) ∧ (dispatchInstall o s).pan = s.pan := by
  rw [dispatchInstall_eq hsound hblob hpolicy hkek hslot, addMiss_pan]
  refine ⟨?_, rfl⟩
  rw [State.op?, addMiss_ops, ← State.op?, op?_modOp (by exact fun _ => rfl), if_pos rfl, op?_opened ho]
  rfl

/-! ### The reference of an operation -/

/-- What the release of a reference depends on. -/
def Op.claim (o : Op) : Nat × Option Nat × Bool := (o.id, o.ref, o.dropRef)

def State.claims (s : State) : List (Nat × Option Nat × Bool) := s.ops.map Op.claim

theorem claims_mapOps {f : Op → Op} (hf : ∀ o, (f o).claim = o.claim) (s : State) :
    ({ s with ops := s.ops.map f } : State).claims = s.claims := by
  rw [State.claims, List.map_map, State.claims]
  exact List.map_congr_left fun o _ => hf o

theorem claims_modOp {f : Op → Op} (hf : ∀ o, (f o).claim = o.claim) (id : Nat) (s : State) :
    (modOp id f s).claims = s.claims :=
  claims_mapOps (fun o => by split <;> simp [hf]) s

theorem claims_of_ops {s t : State} (h : t.ops = s.ops) : t.claims = s.claims := congrArg (List.map Op.claim) h

theorem claims_of_aside {s t : State} (h : t.aside = s.aside) : t.claims = s.claims := claims_of_ops (ops_of_aside h)

theorem claims_sampleIn (b id : Nat) (s : State) : (sampleIn b id s).claims = s.claims := by
  unfold sampleIn
  dsimp only
  split
  · split
    · exact claims_modOp (by exact fun _ => rfl) ..
    · rfl
  · rfl

theorem claims_noteDispatch (o : Op) (s : State) : (noteDispatch o s).claims = s.claims := by
  have hcount : (fixedOp 16 1 o (countOp 2 1 o s)).claims = s.claims :=
    claims_of_aside ((fixedOp_aside ..).trans (countOp_aside ..))
  have hbytes : ∀ (b : Bool) (u : State), (if b then fixedOp 19 o.payload o u else u).claims = u.claims := fun b u => by
    split
    · exact claims_of_aside (fixedOp_aside ..)
    · rfl
  have hsample : ∀ (b : Bool) (i : Nat) (u : State), (if b then sampleIn i o.id u else u).claims = u.claims := fun b i u => by
    split
    · exact claims_sampleIn ..
    · rfl
  unfold noteDispatch
  refine (claims_of_ops (draw_ops ..)).trans ((claims_mapOps (fun x => ?_) _).trans ?_)
  · split
    · rfl
    · split <;> rfl
  · rw [claims_of_ops (modRing_ops ..), hsample, hsample, hbytes, hcount]

/-- The operations of a number hold a reference on a context until they are released. -/
def Holding (id index : Nat) (s : State) : Prop := ∀ p ∈ s.ops, p.id = id → p.ref = some index ∧ p.dropRef = false

theorem holding_iff {id index : Nat} {s : State} :
    Holding id index s ↔ ∀ c ∈ s.claims, c.1 = id → c.2.1 = some index ∧ c.2.2 = false := by
  simp only [State.claims, List.forall_mem_map]
  rfl

theorem Holding.of_claims {id index : Nat} {s t : State} (h : Holding id index s) (hclaims : t.claims = s.claims) :
    Holding id index t := by
  rw [holding_iff, hclaims, ← holding_iff]
  exact h

theorem holding_modOp {id index : Nat} {s : State} (h : ∀ p ∈ s.ops, p.id = id → p.dropRef = false) :
    Holding id index (modOp id (fun z => { z with ref := some index }) s) := by
  intro p hp hid
  obtain ⟨q, hq, rfl⟩ := List.mem_map.1 hp
  by_cases hown : (q.id == id) = true
  · rw [if_pos hown]
    exact ⟨rfl, h q hq (beq_iff_eq.1 hown)⟩
  · rw [if_neg hown] at hid
    exact absurd (beq_iff_eq.2 hid) hown

/-- A posted completion drops the reference of an operation that is marked to drop it, and no other. -/
theorem holding_postOp {o : Op} {id index : Nat} {s : State} (ho : o ∈ s.ops) (h : Holding id index s) :
    Holding id index (postOp o s) := by
  unfold postOp
  split
  · exact fun p hp => h p (releaseOp_ops_subset o.id s hp)
  · next r _ =>
    intro p hp hid
    rw [ops_of_aside (foldl_keeps State.aside (fun s (e : Entry) => writeReq_aside (portOf o.ring) (r.slot e.idx)
      (complBytes r.fmt e.d o.status (o.entryResult r.fmt e)) o.inst (.compl o.id) s) o.entries _)] at hp
    obtain ⟨q, hq, rfl⟩ := List.mem_map.1 hp
    by_cases hown : (q.id == o.id) = true
    · rw [if_pos hown] at hid ⊢
      obtain ⟨href, hkeeps⟩ := h q hq hid
      obtain ⟨-, hdrop⟩ := h o ho ((beq_iff_eq.1 hown).symm.trans hid)
      exact ⟨by simp [hdrop, href], hkeeps⟩
    · rw [if_neg hown] at hid ⊢
      exact h q hq hid

theorem holding_tryPost {id index : Nat} {s : State} (h : Holding id index s) (n : Nat) : Holding id index (tryPost n s) := by
  unfold tryPost
  generalize List.range s.ops.length = l
  induction l generalizing s with
  | nil => exact h
  | cons k l ih =>
    refine ih ?_
    dsimp only
    split
    · exact h
    · split
      · next o ho => exact holding_postOp (List.mem_filter.1 (List.mem_of_find?_eq_some ho)).1 h
      · exact h

/-- The end of an operation with a status that stops no ring drops no reference that is to be kept. -/
theorem holding_endOp {id index : Nat} {st : Status} {good : Nat} {s : State} {o : Op} (ho : s.op? id = some o)
    (hold : o.old = false) (hstops : st.stops = false) (h : Holding id index s) : Holding id index (endOp id st good s) := by
  obtain ⟨stops, ents, scrub, hst, he⟩ := endOp_eq (st := st) (good := good) ho hold
  have hno : stops = false := by
    cases stops with
    | false => rfl
    | true => exact (hst rfl).symm.trans hstops
  subst hno
  rw [he]
  refine holding_tryPost (h.of_claims ((claims_of_ops (endWrites_tables ..).2).trans ?_)) _
  exact (claims_modOp (by exact fun _ => rfl) ..).trans (claims_of_ops rfl)

/-! ### CTX_REKEY -/

/-- A live context stays one through a change of operations. -/
theorem ctxLive_opened {s : State} {o : Op} {n : Nat} {x : Slot} (h : CtxLive s o n x) : CtxLive (opened o s) o n x := h

theorem rekey_frame (subop serial : Nat) (pt : List Byte) (x : Slot) :
    (x.rekey subop serial pt).index = x.index ∧ (x.rekey subop serial pt).state = x.state ∧
      (x.rekey subop serial pt).serial = serial := by
  unfold Slot.rekey
  dsimp only
  split_ifs <;> exact ⟨rfl, rfl, rfl⟩

/-- A slot with what a rekey gives it, but its own STAMP. -/
def Slot.rekeyed (y z : Slot) : Slot := { y with stamp := z.stamp }

/-- The state in which a context has taken its new key and the operation its reference. -/
def rekeyBooked (o : Op) (x y : Slot) (s : State) : State :=
  modOp o.id (Op.holding x) (markDirty (modCtx x.index y.rekeyed (countHit o (stamped o (opened o s)))))

/-- A rekey that passes its checks ends at once. -/
theorem dispatchRekey_eq {s : State} {o : Op} {n : Nat} {x : Slot} {pt : List Byte} (hsound : Sound s)
    (hblob : openBlob s o 2 rekeyRsvd = .ok pt) (hkek : (s.inst o.inst).kek.seed ≠ []) (hlive : CtxLive s o n x)
    (hfault : rekeyFault x o.head.d.subop (field 16 8 o.blob) pt = none) :
    dispatchRekey o s =
      endOp o.id .ok (rekeyResult o.head.d.subop (field 16 8 o.blob) (x.rekey o.head.d.subop (field 16 8 o.blob) pt))
        (noteDispatch o (rekeyBooked o x (x.rekey o.head.d.subop (field 16 8 o.blob) pt) s)) := by
  have hseed : ((opened o s).inst o.inst).kek.seed.isEmpty = false := List.isEmpty_eq_false_iff.2 hkek
  have hpin : pinKek o (some (field 4 2 o.blob)) s = opened o s := rfl
  unfold dispatchRekey
  rw [hblob]
  dsimp only
  rw [hpin, readKeyStore_sound (by exact hsound), if_neg (by simp [hseed]),
    withCtx_live (by exact hsound) (ctxLive_opened hlive), hfault]
  rfl

/-- The slot of an index is replaced by another one of the index, whose content may depend on the old. -/
theorem slotOf_modCtx_replaced {index n : Nat} {x : Slot} {f : Slot → Slot} {s : State} (h : s.slotOf index = some (n, x))
    (hindex : ∀ z, (f z).index = index) (hstate : ∀ z, (f z).state ≠ .companion) :
    (modCtx index f s).slotOf index = some (n, f x) := by
  obtain ⟨-, hi, hc⟩ := slotOf_mem h
  have hmap : (modCtx index f s).slotOf index =
      (s.slotOf index).map (fun p => (p.1, if p.2.index == index && p.2.state != .companion then f p.2 else p.2)) := by
    refine find?_map_same (g := fun p : Nat × Slot =>
      (p.1, if p.2.index == index && p.2.state != .companion then f p.2 else p.2)) (fun p => ?_) s.pan.slots
    dsimp only
    split
    · next hp => rw [hp]; simp [hindex, hstate]
    · rfl
  rw [hmap, h]
  simp [hi, hc]

section
variable {s : State} {o : Op} {n : Nat} {x y : Slot}

theorem rekeyBooked_ops (o : Op) (x y : Slot) (s : State) :
    (rekeyBooked o x y s).ops = (modOp o.id (Op.holding x) (opened o s)).ops := by
  have hhit : (countHit o (stamped o (opened o s))).ops = (stamped o (opened o s)).ops := ops_of_aside (countHit_aside ..)
  exact congrArg (List.map fun p : Op => if p.id == o.id then p.holding x else p) hhit

theorem op?_rekeyBooked (ho : s.op? o.id = some o) :
    (rekeyBooked o x y s).op? o.id = some ((o.pinning o).holding x) := by
  rw [State.op?, rekeyBooked_ops, ← State.op?, op?_modOp (by exact fun _ => rfl), if_pos rfl, op?_opened ho]
  rfl

theorem holding_rekeyBooked (h : ∀ p ∈ s.ops, p.id = o.id → p.dropRef = false) : Holding o.id x.index (rekeyBooked o x y s) := by
  have hopened : ∀ p ∈ (opened o s).ops, p.id = o.id → p.dropRef = false := fun p hp hid => by
    obtain ⟨q, hq, rfl⟩ := List.mem_map.1 hp
    by_cases hown : (q.id == o.id) = true
    · rw [if_pos hown]
      exact h q hq (beq_iff_eq.1 hown)
    · rw [if_neg hown] at hid ⊢
      exact h q hq hid
  exact Holding.of_claims (holding_modOp hopened) (claims_of_ops (rekeyBooked_ops o x y s))

/-- The rekeyed context keeps its slot. -/
theorem slotOf_rekeyBooked (hlive : CtxLive s o n x) (hindex : y.index = x.index) (hstate : y.state = x.state) :
    ∃ z, (rekeyBooked o x y s).slotOf (s.ctxOf o) = some (n, z) ∧ z.serial = y.serial := by
  obtain ⟨-, hslot, -⟩ := hlive
  obtain ⟨-, hi, hcompanion⟩ := slotOf_mem hslot
  have hstamped : (stamped o (opened o s)).slotOf (s.ctxOf o) = some (n, { x with stamp := s.roundStamp }) :=
    slotOf_modCtx_same (s := opened o s) (by exact fun _ => rfl) (by exact fun _ => rfl) hslot
  have hhit : (countHit o (stamped o (opened o s))).slotOf (s.ctxOf o) = some (n, { x with stamp := s.roundStamp }) := by
    rw [slotOf_of_pan (pan_of_aside (countHit_aside ..)), hstamped]
  rw [← hi] at hhit ⊢
  exact ⟨_, slotOf_modCtx_replaced (f := y.rekeyed) hhit (fun _ => hindex) (fun _ => hstate.trans_ne hcompanion), rfl⟩

end

theorem dispatchRekey_ends {s : State} {o : Op} {n : Nat} {x : Slot} {pt : List Byte} (ho : s.op? o.id = some o)
    (hold : o.old = false) (hcode : o.head.d.opcode = 0x21) (hsound : Sound s) (hblob : openBlob s o 2 rekeyRsvd = .ok pt)
    (hkek : (s.inst o.inst).kek.seed ≠ []) (hlive : CtxLive s o n x)
    (hfault : rekeyFault x o.head.d.subop (field 16 8 o.blob) pt = none) :
    ∃ y z, (dispatchRekey o s).op? o.id = some y ∧ y.status = .ok ∧
      y.result = rekeyResult o.head.d.subop (field 16 8 o.blob) (x.rekey o.head.d.subop (field 16 8 o.blob) pt) ∧
      ((∀ p ∈ s.ops, p.id = o.id → p = o) → o.dropRef = false → y.ref = some x.index) ∧
      (dispatchRekey o s).slotOf (s.ctxOf o) = some (n, z) ∧ z.serial = field 16 8 o.blob := by
  rw [dispatchRekey_eq hsound hblob hkek hlive hfault]
  obtain ⟨hindex, hstate, hserial⟩ := rekey_frame o.head.d.subop (field 16 8 o.blob) pt x
  generalize x.rekey o.head.d.subop (field 16 8 o.blob) pt = k at hindex hstate hserial ⊢
  generalize rekeyResult o.head.d.subop (field 16 8 o.blob) k = res
  have hbooked : (rekeyBooked o x k s).op? o.id = some ((o.pinning o).holding x) := op?_rekeyBooked ho
  obtain ⟨-, sample, seq, t, hran⟩ := noteDispatch_op? (o := (o.pinning o).holding x) hbooked
  have hnote : (noteDispatch o (rekeyBooked o x k s)).op? o.id = some (((o.pinning o).holding x).noted sample seq t) := hran
  obtain ⟨ents, scrub, hend⟩ := endOp_op?_unstopped (st := .ok) res hnote hold rfl
  obtain ⟨y, hy, hended⟩ := Option.map_eq_some_iff.1 hend
  obtain ⟨z, hz, hzserial⟩ := slotOf_rekeyBooked hlive hindex hstate
  have hsending : o.head.d.sending = false := by simp [Desc.sending, hcode]
  refine ⟨y, z, hy, (congrArg Op.status hended :), ?_, fun hone hdrop => ?_, ?_, hzserial.trans hserial⟩
  · exact (congrArg Op.result hended).trans (resultFor_ok (by exact hsending) res)
  · have hholds : Holding o.id x.index (noteDispatch o (rekeyBooked o x k s)) :=
      (holding_rekeyBooked fun p hp hid => (congrArg Op.dropRef (hone p hp hid)).trans hdrop).of_claims (claims_noteDispatch ..)
    exact (holding_endOp hnote hold rfl hholds y (List.mem_of_find?_eq_some hy) (op?_id hy)).1
  · rw [slotOf_of_pan ((pan_of_store (endOp_store ..)).trans (pan_of_quarters (quarters_noteDispatch ..))), hz]

/-! ### CTX_RETIRE -/

/-- A context that is being retired by an operation. -/
def Slot.retiredBy (o : Op) (x : Slot) : Slot := { x with state := .retiring, retireOp := some o.id }

/-- A live context becomes RETIRING, and its CTX_RETIRE waits for its references. -/
theorem dispatchRetire_waits {s : State} {o : Op} {n : Nat} {x : Slot} (ho : s.op? o.id = some o) (hsound : Sound s)
    (hlive : CtxLive s o n x) :
    (∃ y, (dispatchRetire o s).op? o.id = some y ∧ y.phase = .retire x.index) ∧
      (dispatchRetire o s).pan = (modCtx x.index (Slot.retiredBy o) (stamped o s)).pan := by
  unfold dispatchRetire
  rw [withCtx_live hsound hlive]
  dsimp only
  generalize hu : mapFetches _ _ = u
  have hops : u.ops = s.ops := by rw [← hu]; rfl
  have hpan : u.pan = (modCtx x.index (Slot.retiredBy o) (stamped o s)).pan := by rw [← hu]; rfl
  have hhit : (countHit o u).op? o.id = some o := by
    rw [op?_of_aside (countHit_aside ..), State.op?, hops, ← State.op?, ho]
  obtain ⟨-, sample, seq, t, hnote⟩ := noteDispatch_op? hhit
  refine ⟨⟨{ o.noted sample seq t with phase := .retire x.index }, ?_, rfl⟩, ?_⟩
  · rw [op?_modOp (by exact fun _ => rfl), if_pos rfl, hnote]
    rfl
  · calc (noteDispatch o (countHit o u)).pan = (countHit o u).pan := pan_of_quarters (quarters_noteDispatch ..)
      _ = u.pan := pan_of_aside (countHit_aside ..)
      _ = _ := hpan

/-- No other slot of the index is left in another state than RETIRING, but companions. -/
theorem modCtx_retiring (o : Op) (index : Nat) (s : State) :
    ∀ p ∈ (modCtx index (Slot.retiredBy o) s).pan.slots, p.2.index = index → p.2.state ≠ .companion → p.2.state = .retiring := by
  intro p hp hindex hstate
  obtain ⟨q, -, rfl⟩ := List.mem_map.1 hp
  dsimp only at hindex hstate ⊢
  by_cases hown : (q.2.index == index && q.2.state != .companion) = true
  · rw [if_pos hown]
    rfl
  · rw [if_neg hown] at hindex hstate
    exact absurd (by simp [hindex, hstate]) hown

/-- Settles O33: each row dispatches its operation in its turn, and each dispatch that passes its checks does what
`dispatchInstall_waits`, `dispatchRekey_ends` and `dispatchRetire_waits` say. -/
theorem contextDispatch : Obligations.ContextDispatch := by
  intro s id o ho hdisp hsound _
  obtain rfl := op?_id ho
  have hold := old_of_dispatchable hdisp
  have hrow : ∀ code, o.head.d.opcode = code → Host.Outcome.next (dispatchRow o.id (fun d => d.opcode == code) s) =
      (.next (finish (redispatch (dispatchOp o s))) : Host.Outcome State Fault Refusal) :=
    fun code hcode => congrArg _ (dispatchRow_eq ho (by simp [hcode]) hdisp)
  refine ⟨fun pt hcode hblob hpolicy hkek hslot => ?install, fun pt n x hcode hblob hkek hlive hfault => ?rekey,
    fun n x hcode hlive => ?retire⟩
  case install =>
    obtain ⟨hop, hpan⟩ := dispatchInstall_waits ho hsound hblob hpolicy hkek hslot
    rw [← dispatchOp_install hcode] at hop hpan
    exact ⟨_, _, hrow _ hcode, hop, rfl, rfl, hpan⟩
  case rekey =>
    obtain ⟨y, z, hends⟩ := dispatchRekey_ends ho hold hcode hsound hblob hkek hlive hfault
    rw [← dispatchOp_rekey hcode] at hends
    exact ⟨_, y, z, hrow _ hcode, hends⟩
  case retire =>
    obtain ⟨⟨y, hy, hphase⟩, hpan⟩ := dispatchRetire_waits ho hsound hlive
    rw [← dispatchOp_retire hcode] at hy hpan
    exact ⟨_, y, hrow _ hcode, hy, hphase, hpan ▸ modCtx_retiring o x.index (stamped o s)⟩

end Sys2Proof.Machine
end

section
/-!
PROOFS. What follows a command leaves a read of tree node 0 at level 3 that seems to come (`Awaited`), in a block whose other ports
are paused and whose hw1 has issued no write. First the ports, the instances and the records.
-/

namespace Sys2Proof.Machine

open Sys2Proof

/-! ### The relation -/

/-- The port seems to bring node 0 of level 3: it has issued a read of it that is neither quarantined nor dropped, or has not yet
issued one, whatever it is. -/
def Port.brings (p : Port) : Bool :=
  p.rds.any (fun r => r.owner == .node 3 0 && !r.quar && !r.drop) || p.rdQ.any (fun r => r.owner == .node 3 0)

/-- The node has arrived. -/
def State.brought (s : State) : Bool := s.hwy.arrived.any (fun a => a.owner == .node 3 0)

/-- A port that issues no read; or hw1, which issues writes, but has not. -/
def Port.shut (n : Nat) (p : Port) : Prop := if n = 1 then p.wrs = [] ∧ p.holdsWrites = false else p.paused = true

/-- From `p` to `q` the port with a number has gone on: if it is shut it was, and it seems to bring what it seemed to bring. -/
def PortGoes (n : Nat) (p q : Port) : Prop := q.shut n → p.shut n ∧ (p.brings = true → q.brings = true)

/-- No store is in use, and none is flushed. -/
def Idle (s : State) : Prop := (s.lar.attached = false ∨ s.lar.stale = true) ∧ s.lar.flush = none

/-- A running block with one instance at most and a context, whose ports are shut. -/
structure Shut (s : State) : Prop where
  main : s.pins.mainUp = true
  lone : ∀ p ∈ s.insts, p.1 = 0
  slots : s.pan.slots ≠ []
  two : 1 < s.hwy.ports.length
  ports : ∀ n < s.hwy.ports.length, (s.port n).shut n

/-- From `s` to `t` an idle store stays idle; and if the block is shut then it was, and node 0 still seems to come if it did. -/
structure Awaited (s t : State) : Prop where
  idle : Idle s → Idle t
  back : Shut t → Shut s ∧ (nodeComing s 3 0 = true → nodeComing t 3 0 = true)

/-- What the relation reads but for instances and Hallway. -/
def State.ground (s : State) : List (Nat × Slot) × Bool × Bool × Option FlushFor × Pins :=
  (s.pan.slots, s.lar.attached, s.lar.stale, s.lar.flush, s.pins)

/-- What the relation reads. -/
def State.yard (s : State) : List (Nat × Inst) × Hwy × List (Nat × Slot) × Bool × Bool × Option FlushFor × Pins :=
  (s.insts, s.hwy, s.ground)

theorem nodeComing_eq (s : State) : nodeComing s 3 0 = (s.hwy.ports.any Port.brings || s.brought) := rfl

theorem nodeComing_iff {s : State} : nodeComing s 3 0 = true ↔ (∃ n, (s.port n).brings = true) ∨ s.brought = true := by
  rw [nodeComing_eq, Bool.or_eq_true, List.any_eq_true]
  refine or_congr_left ⟨fun ⟨p, hp, hbrings⟩ => ?_, fun ⟨n, hbrings⟩ => ?_⟩
  · obtain ⟨n, rfl⟩ := mem_ports hp
    exact ⟨n, hbrings⟩
  · rcases port_cases s n with hmem | hcold
    · exact ⟨_, hmem, hbrings⟩
    · rw [hcold] at hbrings
      exact absurd hbrings (by decide)

section
variable {s t u : State}

theorem idle_of_ground (h : t.ground = s.ground) (k : Idle s) : Idle t := by
  obtain ⟨-, hattached, hstale, hflush, -⟩ := by simpa only [State.ground, Prod.mk.injEq] using h
  rwa [Idle, hattached, hstale, hflush]

/-- Ports have gone on, and instances have been added. -/
theorem Awaited.of_ports (h : t.ground = s.ground) (hinsts : ∀ p ∈ s.insts, ∃ q ∈ t.insts, q.1 = p.1)
    (hlen : t.hwy.ports.length = s.hwy.ports.length) (hports : ∀ n, PortGoes n (s.port n) (t.port n))
    (hbrought : s.brought = true → t.brought = true) : Awaited s t := by
  obtain ⟨hslots, -, -, -, hpins⟩ := by simpa only [State.ground, Prod.mk.injEq] using h
  refine ⟨idle_of_ground h, fun hshut => ⟨⟨hpins ▸ hshut.main, fun p hp => ?_, hslots ▸ hshut.slots, hlen ▸ hshut.two,
    fun n hn => (hports n (hshut.ports n (hlen ▸ hn))).1⟩, fun hcoming => ?_⟩⟩
  · obtain ⟨q, hq, hkey⟩ := hinsts p hp
    exact hkey ▸ hshut.lone q hq
  · rw [nodeComing_iff] at hcoming ⊢
    refine hcoming.imp (fun ⟨n, hbrings⟩ => ⟨n, ?_⟩) hbrought
    by_cases hn : n < s.hwy.ports.length
    · exact (hports n (hshut.ports n (hlen ▸ hn))).2 hbrings
    · have hcold : s.port n = Port.cold := by
        rw [State.port, List.getD_eq_getElem?_getD, List.getElem?_eq_none (Nat.not_lt.1 hn)]
        rfl
      rw [hcold] at hbrings
      exact absurd hbrings (by decide)

theorem PortGoes.refl (n : Nat) (p : Port) : PortGoes n p p := fun h => ⟨h, id⟩

/-- From `s` to `t` instances have been changed or added, and what else is read here has not. -/
structure Peopled (s t : State) : Prop where
  rest : (t.hwy, t.ground) = (s.hwy, s.ground)
  insts : ∀ p ∈ s.insts, ∃ q ∈ t.insts, q.1 = p.1

theorem Peopled.refl (s : State) : Peopled s s := ⟨rfl, fun p hp => ⟨p, hp, rfl⟩⟩

theorem Peopled.trans (h : Peopled s t) (k : Peopled t u) : Peopled s u := by
  refine ⟨k.rest.trans h.rest, fun p hp => ?_⟩
  obtain ⟨q, hq, hkey⟩ := h.insts p hp
  obtain ⟨r, hr, hkey'⟩ := k.insts q hq
  exact ⟨r, hr, hkey'.trans hkey⟩

theorem Peopled.awaited (h : Peopled s t) : Awaited s t := by
  obtain ⟨hrest, hinsts⟩ := h
  obtain ⟨hhwy, hground⟩ := Prod.mk.inj hrest
  refine .of_ports hground hinsts (by rw [hhwy]) (fun n => ?_)
    ?_
  · have hport : t.port n = s.port n := by rw [State.port, hhwy, State.port]
    rw [hport]
    exact .refl n (s.port n)
  · rw [show t.brought = s.brought by rw [State.brought, hhwy, State.brought]]
    exact id

theorem Awaited.same (h : t.yard = s.yard) : Awaited s t := by
  obtain ⟨hinsts, hrest⟩ := Prod.mk.inj h
  exact Peopled.awaited ⟨hrest, fun p hp => ⟨p, hinsts ▸ hp, rfl⟩⟩

theorem Awaited.refl (s : State) : Awaited s s := .same rfl

theorem Awaited.trans (h : Awaited s t) (k : Awaited t u) : Awaited s u where
  idle hidle := k.idle (h.idle hidle)
  back hshut := by
    obtain ⟨hmid, hlast⟩ := k.back hshut
    obtain ⟨hstart, hfirst⟩ := h.back hmid
    exact ⟨hstart, fun hcoming => hlast (hfirst hcoming)⟩

/-- The last part first. -/
theorem Awaited.since (k : Awaited t u) (h : Awaited s t) : Awaited s u := h.trans k

/-- What comes after changes other tables. -/
theorem Awaited.then (h : Awaited s t) (k : u.yard = t.yard) : Awaited s u := h.trans (.same k)

/-- What came before changed other tables. -/
theorem Awaited.after (k : Awaited t u) (h : t.yard = s.yard) : Awaited s u := (Awaited.same h).trans k

theorem Awaited.foldl {α : Type} {f : State → α → State} (h : ∀ s x, Awaited s (f s x)) (l : List α) (s : State) :
    Awaited s (l.foldl f s) := by
  induction l generalizing s with
  | nil => exact .refl s
  | cons a l ih => exact (h s a).trans (ih _)

/-- Slots have been changed or freed. -/
theorem Awaited.of_slots (h : (t.insts, t.hwy, t.lar.attached, t.lar.stale, t.lar.flush, t.pins) =
    (s.insts, s.hwy, s.lar.attached, s.lar.stale, s.lar.flush, s.pins)) (hslots : s.pan.slots = [] → t.pan.slots = []) :
    Awaited s t := by
  simp only [Prod.mk.injEq] at h
  obtain ⟨hinsts, hhwy, hattached, hstale, hflush, hpins⟩ := h
  have hcoming : nodeComing t 3 0 = nodeComing s 3 0 := by rw [nodeComing, hhwy, nodeComing]
  refine ⟨fun hidle => by rwa [Idle, hattached, hstale, hflush], fun hshut => ⟨⟨hpins ▸ hshut.main, hinsts ▸ hshut.lone,
    fun hnone => hshut.slots (hslots hnone), hhwy ▸ hshut.two, fun n hn => ?_⟩, fun h => hcoming.trans h⟩⟩
  have hport := hshut.ports n (hhwy ▸ hn)
  rwa [State.port, hhwy, ← State.port] at hport

/-- What leaves the block open. -/
theorem Awaited.opens (h : t.lar = s.lar) (hopen : ¬ Shut t) : Awaited s t :=
  ⟨fun hidle => by rwa [Idle, h], fun hshut => absurd hshut hopen⟩

end

/-! ### Instances and counters -/

theorem tset_keys {α : Type} (k : Nat) (v : α) {l : List (Nat × α)} {p : Nat × α} (h : p ∈ l) :
    ∃ q ∈ tset k v l, q.1 = p.1 := by
  induction l with
  | nil => cases h
  | cons a l ih =>
    unfold tset
    split
    · rcases List.mem_cons.1 h with rfl | h
      · exact ⟨_, List.mem_cons_self, rfl⟩
      · obtain ⟨q, hq, hkey⟩ := ih h
        exact ⟨q, List.mem_cons_of_mem _ hq, hkey⟩
    · split
      · next hkey =>
        rcases List.mem_cons.1 h with rfl | h
        · exact ⟨_, List.mem_cons_self, (beq_iff_eq.1 hkey).symm⟩
        · exact ⟨p, List.mem_cons_of_mem _ h, rfl⟩
      · exact ⟨p, List.mem_cons_of_mem _ h, rfl⟩

theorem tset_key {α : Type} (k : Nat) (v : α) (l : List (Nat × α)) : (k, v) ∈ tset k v l := by
  induction l with
  | nil => exact List.mem_cons_self
  | cons a l ih =>
    unfold tset
    split
    · exact List.mem_cons_of_mem _ ih
    · split <;> exact List.mem_cons_self

theorem peopled_modInst (i : Nat) (f : Inst → Inst) (s : State) : Peopled s (modInst i f s) :=
  ⟨rfl, fun _ hp => tset_keys i (f (s.inst i)) hp⟩

theorem peopled_addCounter (i n amt : Nat) (s : State) : Peopled s (addCounter i n amt s) := by
  unfold addCounter
  dsimp only
  split
  · exact .refl s
  · split
    · split
      · exact ⟨rfl, fun _ hp => tset_keys i _ hp⟩
      · exact peopled_modInst ..
    · exact .refl s

theorem peopled_countIn (i ev amt : Nat) (e : EvTag) (s : State) : Peopled s (countIn i ev amt e s) := by
  unfold countIn countWith
  generalize List.range _ = l
  induction l generalizing s with
  | nil => exact .refl s
  | cons n l ih =>
    refine .trans ?_ (ih _)
    dsimp only
    split
    · exact .refl s
    · split
      · exact peopled_addCounter ..
      · exact .refl s

theorem awaited_modInst (i : Nat) (f : Inst → Inst) (s : State) : Awaited s (modInst i f s) := (peopled_modInst i f s).awaited

theorem awaited_modEq (i : Nat) (f : EventQ → EventQ) (s : State) : Awaited s (modEq i f s) := awaited_modInst ..

theorem awaited_modCq (q : Nat) (f : CmdQ → CmdQ) (s : State) : Awaited s (modCq q f s) := awaited_modInst ..

theorem awaited_countIn (i ev amt : Nat) (e : EvTag) (s : State) : Awaited s (countIn i ev amt e s) :=
  (peopled_countIn i ev amt e s).awaited

/-- A port whose reads of some owners have been dropped. -/
def Port.drops (f : Owner → Bool) (p : Port) : Port :=
  { p with
    rdQ := p.rdQ.filter (fun r => !f r.owner)
    rds := p.rds.map (fun r => if f r.owner then { r with drop := true } else r) }

/-- A read that is neither quarantined nor dropped, or is not issued, stays so when reads of other owners are dropped. -/
theorem drops_brings {f : Owner → Bool} (hf : f (.node 3 0) = false) (p : Port) : (p.drops f).brings = p.brings := by
  unfold Port.brings Port.drops
  dsimp only
  rw [List.any_map, List.any_filter]
  congr 1
  · refine congrArg p.rds.any (funext fun r => ?_)
    dsimp only [Function.comp]
    split
    · next hown =>
      have hother : (r.owner == .node 3 0) = false := by
        rw [beq_eq_false_iff_ne]
        rintro heq
        rw [heq, hf] at hown
        cases hown
      simp [hother]
    · rfl
  · refine congrArg p.rdQ.any (funext fun r => ?_)
    by_cases heq : r.owner = .node 3 0
    · simp [heq, hf]
    · simp [heq]

/-! ### Ports -/

theorem port_of_map {g : Port → Port} {s t : State} (ht : t.hwy.ports = s.hwy.ports.map g) (hcold : g Port.cold = Port.cold)
    (n : Nat) : t.port n = g (s.port n) := by
  simp only [State.port, ht, List.getD_eq_getElem?_getD, List.getElem?_map]
  cases s.hwy.ports[n]? <;> simp [hcold]

/-- The ports are changed one like the other, in what is not read here. -/
theorem Awaited.of_map {g : Port → Port} {s t : State} (ht : t.hwy.ports = s.hwy.ports.map g) (hcold : g Port.cold = Port.cold)
    (hshut : ∀ n p, (g p).shut n → p.shut n) (hbrings : ∀ p, (g p).brings = p.brings)
    (hrest : (t.insts, t.ground) = (s.insts, s.ground)) (hbrought : t.brought = s.brought) : Awaited s t := by
  obtain ⟨hinsts, hground⟩ := Prod.mk.inj hrest
  refine .of_ports hground (fun p hp => ⟨p, hinsts ▸ hp, rfl⟩) (by rw [ht, List.length_map]) (fun n => ?_) (hbrought ▸ id)
  rw [port_of_map ht hcold]
  exact fun h => ⟨hshut n _ h, fun hb => (hbrings _).trans hb⟩

theorem awaited_dropReads {f : Owner → Bool} (hf : f (.node 3 0) = false) (s : State) : Awaited s (dropReads f s) := by
  refine .of_map (g := Port.drops f) rfl rfl (by exact fun n p h => h) (drops_brings hf) rfl ?_
  show (s.hwy.arrived.filter (fun a => !f a.owner)).any _ = s.hwy.arrived.any _
  rw [List.any_filter]
  refine congrArg s.hwy.arrived.any (funext fun a => ?_)
  by_cases heq : a.owner = .node 3 0
  · simp [heq, hf]
  · simp [heq]

/-- Reads are marked as ones of an old generation. -/
theorem awaited_orphanReads {f : Owner → Bool} (hf : f (.node 3 0) = false) (s : State) : Awaited s (orphanReads f s) := by
  refine (awaited_dropReads hf s).trans (.of_map (t := orphanReads f s)
    (g := fun p => { p with rds := p.rds.map (fun r => if f r.owner then { r with old := true } else r) }) rfl rfl
    (by exact fun n p h => h) (fun p => ?_) rfl rfl)
  unfold Port.brings
  dsimp only
  rw [List.any_map]
  refine congrArg (· || _) (congrArg p.rds.any (funext fun r => ?_))
  dsimp only [Function.comp]
  split <;> rfl

theorem awaited_dropTagged (i : Nat) (s : State) : Awaited s (dropTagged i s) :=
  .of_map rfl rfl (by exact fun n p h => h) (by exact fun _ => rfl) rfl rfl

theorem awaited_disownRing (n : Nat) (s : State) : Awaited s (disownRing n s) := by
  refine .of_map (g := _) rfl rfl (fun m p h => ?_) (by exact fun _ => rfl) rfl rfl
  unfold Port.shut at h ⊢
  split at h
  · next hm =>
    rw [if_pos hm]
    exact ⟨List.map_eq_nil_iff.1 h.1, h.2⟩
  · next hm =>
    rw [if_neg hm]
    exact h

/-! ### Issuing -/

theorem foldl_pumpRead_paused {l : List Rd} {p : Port} (h : p.paused = true) :
    l.foldl pumpRead p = { p with rdQ := p.rdQ ++ l } := by
  induction l generalizing p with
  | nil => simp
  | cons r l ih =>
    have hstep : pumpRead p r = { p with rdQ := p.rdQ ++ [r] } := by
      unfold pumpRead
      simp [h]
    rw [List.foldl_cons, hstep, ih (by exact h)]
    simp

/-- A paused port issues no read. -/
theorem pumpReads_paused {p : Port} (h : p.paused = true) : pumpReads p = p := by
  rw [pumpReads_eq, foldl_pumpRead_paused (by exact h)]
  rfl

theorem pumped_holdsWrites (p : Port) : (pumpWrites (pumpReads p)).holdsWrites = p.holdsWrites :=
  congrArg (fun x : Bool × Nat × Bool × Bool => x.1 || x.2.2.1) ((pumpWrites_stance _).trans (pumpReads_stance p))

theorem pumpWrites_brings (p : Port) : (pumpWrites p).brings = p.brings := by
  unfold Port.brings
  rw [pumpWrites_rds, pumpWrites_rdQ]

theorem pumpWrites_paused (p : Port) : (pumpWrites p).paused = p.paused := congrArg (fun x => x.2.2.2) (pumpWrites_stance p)

theorem goes_of_paused {n : Nat} {p q : Port} (hn : n ≠ 1) (hpaused : q.paused = p.paused)
    (hbrings : p.paused = true → p.brings = true → q.brings = true) : PortGoes n p q := fun h => by
  unfold Port.shut at h ⊢
  rw [if_neg hn, hpaused] at h
  rw [if_neg hn]
  exact ⟨h, hbrings h⟩

theorem awaited_modPort {n : Nat} {f : Port → Port} {s : State} (h : PortGoes n (s.port n) (f (s.port n))) :
    Awaited s (modPort n f s) := by
  refine .of_ports rfl (fun p hp => ⟨p, hp, rfl⟩) (modPort_length ..) (fun m => ?_) id
  by_cases hn : n < s.hwy.ports.length
  · rw [port_modPort n m f s hn]
    split
    · next hm => exact hm ▸ h
    · exact .refl m (s.port m)
  · rw [port_modPort_beyond hn]
    exact .refl m (s.port m)

theorem awaited_pump {n : Nat} (hn : n ≠ 1) (s : State) : Awaited s (pump n s) := by
  have hreads : Awaited s (modPort n pumpReads s) := awaited_modPort <|
    goes_of_paused hn (congrArg (fun x => x.2.2.2) (pumpReads_stance _)) fun hpaused h => by rwa [pumpReads_paused hpaused]
  have hwrites : ∀ u : State, Awaited u (modPort n (fun _ => pumpWrites (u.port n)) u) := fun u => awaited_modPort <|
    goes_of_paused hn (pumpWrites_paused _) fun _ h => by rwa [pumpWrites_brings]
  unfold pump issueWrites
  dsimp only
  split
  · split
    · exact (hwrites _).since hreads
    · exact (awaited_countIn ..).since ((hwrites _).since hreads)
  · exact .refl s

/-- A read of a port but hw1 joins those that wait. -/
theorem awaited_readReq {n : Nat} (hn : n ≠ 1) (addr len tag : Nat) (o : Owner) (off : Nat) (s : State) :
    Awaited s (readReq n addr len tag o off s) := by
  unfold readReq
  refine (awaited_pump hn _).since (awaited_modPort (goes_of_paused hn rfl fun _ h => ?_))
  unfold Port.brings at h ⊢
  rw [Bool.or_eq_true] at h ⊢
  exact h.imp id fun hq => by rw [List.any_append, hq]; rfl

theorem awaited_writeReq_other {n : Nat} (hn : n ≠ 1) (addr : Nat) (data : List Byte) (tag : Nat) (o : Owner) (s : State) :
    Awaited s (writeReq n addr data tag o s) := by
  unfold writeReq
  exact (awaited_pump hn _).since (awaited_modPort (goes_of_paused hn rfl fun _ h => h))

/-! ### Writes of hw1 -/

theorem pumpWrite_wrs {p : Port} (w : Wr) (h : p.wrs ≠ []) : (pumpWrite p w).wrs ≠ [] := by
  unfold pumpWrite
  split
  · exact List.append_ne_nil_of_right_ne_nil _ (List.cons_ne_nil _ _)
  · exact h

theorem foldl_pumpWrite_wrs {l : List Wr} {p : Port} (h : p.wrs ≠ []) : (l.foldl pumpWrite p).wrs ≠ [] := by
  induction l generalizing p with
  | nil => exact h
  | cons w l ih => exact ih (pumpWrite_wrs w h)

/-- A port that has issued no write issues the first one, unless it holds its writes. -/
theorem pumpWrite_issues {p : Port} (h : p.holdsWrites = false) (w : Wr) : (pumpWrite p w).wrs ≠ [] := by
  by_cases hwrs : p.wrs = []
  · have hfree : freeId (p.wrs.map (·.id)) = some 0 := by rw [hwrs]; decide +kernel
    unfold pumpWrite
    rw [if_pos (by simp [h, hwrs]), hfree]
    exact List.append_ne_nil_of_right_ne_nil _ (List.cons_ne_nil _ _)
  · exact pumpWrite_wrs w hwrs

theorem pumpWrites_issues {p : Port} (hwaits : p.wrQ ≠ []) (h : p.holdsWrites = false) : (pumpWrites p).wrs ≠ [] := by
  rw [pumpWrites_eq]
  cases hq : p.wrQ with
  | nil => exact absurd hq hwaits
  | cons w l => exact foldl_pumpWrite_wrs (p := pumpWrite { p with wrQ := [] } w) (pumpWrite_issues (by exact h) w)

theorem pins_of_aside {s t : State} (h : t.aside = s.aside) : t.pins = s.pins := (congrArg State.pins h :)

/-- A write that hw1 issues opens the block. -/
theorem not_shut_pump {s : State} (hwaits : (s.port 1).wrQ ≠ []) : ¬ Shut (pump 1 s) := by
  intro h
  have htwo : 1 < s.hwy.ports.length := (grows_pump (fun _ => True) 1 s).length ▸ h.two
  have hmain : s.pins.mainUp = true :=
    (congrArg Pins.mainUp (pins_of_aside (pump_aside 1 s))).symm.trans h.main
  have hshut := h.ports 1 h.two
  rw [pump_port _ _ htwo, if_pos hmain, Port.shut, if_pos rfl] at hshut
  obtain ⟨hwrs, hfree⟩ := hshut
  refine pumpWrites_issues (by rwa [pumpReads_wrQ]) ?_ hwrs
  rw [← hfree, pumped_holdsWrites]
  exact congrArg (fun x : Bool × Nat × Bool × Bool => x.1 || x.2.2.1) (pumpReads_stance _)

theorem not_shut_writeReq {addr tag : Nat} {data : List Byte} {o : Owner} {s : State} (hdata : data ≠ []) :
    ¬ Shut (writeReq 1 addr data tag o s) := by
  intro h
  have htwo : 1 < s.hwy.ports.length := (grows_writeReq (P := fun _ => True) trivial 1 addr data tag s).length ▸ h.two
  refine not_shut_pump ?_ h
  rw [port_modPort _ _ _ _ htwo, if_pos rfl]
  refine List.append_ne_nil_of_right_ne_nil _ fun hnone => ?_
  rw [List.map_eq_nil_iff] at hnone
  exact List.ne_nil_of_mem (mem_cutReq addr _ (List.length_pos_of_ne_nil hdata)) hnone

/-- A write of some bytes. -/
theorem awaited_writeReq (n addr : Nat) {data : List Byte} (hdata : data ≠ []) (tag : Nat) (o : Owner) (s : State) :
    Awaited s (writeReq n addr data tag o s) := by
  by_cases hn : n = 1
  · subst hn
    exact .opens (lar_of_aside (writeReq_aside ..)) (not_shut_writeReq hdata)
  · exact awaited_writeReq_other hn ..

/-! ### Records -/

theorem leBytes_append_ne_nil (n v : Nat) (l : List Byte) : leBytes (n + 1) v ++ l ≠ [] := fun h => by
  have hlen := congrArg List.length h
  rw [List.length_append, leBytes_length, List.length_nil] at hlen
  omega

theorem awaited_modRing (n : Nat) (f : Ring → Ring) (s : State) : Awaited s (modRing n f s) := by
  unfold modRing
  split
  · exact .refl s
  · exact .same rfl

theorem awaited_setPend (i typ ring : Nat) (s : State) : Awaited s (setPend i typ ring s) := by
  unfold setPend
  split
  · exact awaited_modRing ..
  · exact awaited_modEq ..

theorem awaited_irqCheck (i : Nat) (s : State) : Awaited s (irqCheck i s) := by
  unfold irqCheck
  dsimp only
  split
  · exact (awaited_writeReq_other (by decide) ..).since (awaited_modEq ..)
  · exact .refl s

theorem awaited_evWrite (i typ status ring index aux : Nat) (s : State) :
    Awaited s (evWrite i typ status ring index aux s) := by
  unfold evWrite
  dsimp only
  split
  · exact awaited_setPend ..
  · split
    · exact (awaited_irqCheck ..).since ((awaited_setPend ..).since (awaited_modEq ..))
    · exact (awaited_writeReq _ _ (data := recordBytes ..) (leBytes_append_ne_nil 7 _ _) ..).since (awaited_modEq ..)

theorem awaited_ringErrorRecord (n : Nat) (s : State) : Awaited s (ringErrorRecord n s) := by
  unfold ringErrorRecord
  split
  · exact .refl s
  · exact (awaited_evWrite ..).since (awaited_modRing ..)

theorem awaited_writeIndex (n : Nat) (s : State) : Awaited s (writeIndex n s) := by
  unfold writeIndex
  split
  · exact .refl s
  · next r _ =>
    refine awaited_writeReq _ _ ?_ _ _ s
    simp only [indexBytes, List.append_assoc]
    exact leBytes_append_ne_nil 3 _ _

theorem awaited_reply (q : Nat) (st : Status) (d : Nat) (body : List Byte) (s : State) : Awaited s (reply q st d body s) := by
  unfold reply
  split
  · exact .refl s
  · exact (awaited_writeReq_other (by decide) ..).since
      ((awaited_writeReq_other (by decide) ..).since (awaited_modCq ..))

/-! ### Releases, completions and ends -/

theorem awaited_keepRecord (o : Op) (s : State) : Awaited s (keepRecord o s) := by
  unfold keepRecord
  split
  · split
    · exact .same rfl
    · exact .refl s
  · exact .refl s

theorem awaited_releaseOp (id : Nat) (s : State) : Awaited s (releaseOp id s) := by
  unfold releaseOp
  split
  · next o _ =>
    have hskip : Awaited s (o.sample.foldl (fun s (p : Nat × Nat) => skipSample p.1 s) s) :=
      .foldl (fun s p => awaited_modInst ..) _ s
    have hkept := hskip.trans (awaited_keepRecord o _)
    dsimp only
    split
    · exact (hkept.trans (awaited_orphanReads (by exact rfl) _)).then rfl
    · exact (hkept.trans (awaited_dropReads (f := fun w => w.op? == some id) rfl _)).then rfl
  · exact .same rfl

theorem awaited_releaseAll (f : Op → Bool) (s : State) : Awaited s (releaseAll f s) :=
  .foldl (f := fun s (o : Op) => releaseOp o.id s) (fun s o => awaited_releaseOp o.id s) _ s

theorem awaited_postOp (o : Op) (s : State) : Awaited s (postOp o s) := by
  unfold postOp
  split
  · exact awaited_releaseOp ..
  · have hwrite : ∀ (n addr fmt res tag : Nat) (d : Desc) (st : Status) (w : Owner) (u : State),
        Awaited u (writeReq n addr (complBytes fmt d st res) tag w u) := fun _ _ _ _ _ _ _ _ u =>
      awaited_writeReq _ _ (leBytes_append_ne_nil 7 _ _) _ _ u
    exact (Awaited.foldl (fun _ _ => hwrite ..) _ _).after rfl

theorem awaited_tryPost (n : Nat) (s : State) : Awaited s (tryPost n s) :=
  .foldl (fun s _ => by
    split
    · exact .refl s
    · split
      · exact awaited_postOp ..
      · exact .refl s) _ s

/-- An operation that ends OK: nothing is scrubbed, and no ring stops. -/
theorem awaited_endOp (id good : Nat) (s : State) : Awaited s (endOp id .ok good s) := by
  unfold endOp
  split
  · exact .refl s
  · split
    · exact awaited_releaseOp ..
    · exact (awaited_tryPost ..).since ((awaited_dropReads (f := fun w => w.op? == some id) rfl s).then rfl)

theorem awaited_endRetire (x : Slot) (s : State) : Awaited s (endRetire x .ok s) := by
  unfold endRetire
  split
  · exact awaited_endOp ..
  · exact .refl s

end Sys2Proof.Machine
end

section
/-!
PROOFS. What `settle` and the samples take from the ports (`Awaited`): drains, generations, ends of instances, commands of a
transaction, and commands that end.
-/

namespace Sys2Proof.Machine

open Sys2Proof

/-! ### Rings, generations and instances -/

theorem awaited_dropSpecs (n : Nat) (s : State) : Awaited s (dropSpecs n s) := by
  have hdrop : ∀ u : State, Awaited u (dropReads (fun w => match w with
      | .spec r _ => r == n
      | _ => false) u) := fun u => awaited_dropReads rfl u
  exact (hdrop _).after rfl

theorem awaited_quietRing (n : Nat) (s : State) : Awaited s (quietRing n s) :=
  (awaited_dropReads (f := fun w => w == .harvest n) rfl _).since ((awaited_dropSpecs ..).since (awaited_modRing ..))

theorem awaited_quietRings (l : List Nat) (s : State) : Awaited s (l.foldl (fun s n => quietRing n s) s) :=
  .foldl (fun s n => awaited_quietRing n s) l s

theorem awaited_orphanErrorRecord (n : Nat) (s : State) : Awaited s (orphanErrorRecord n s) := by
  unfold orphanErrorRecord
  split
  · exact .refl s
  · split
    · exact awaited_ringErrorRecord ..
    · exact .refl s

theorem awaited_drainRing (n : Nat) (st : RingState) (s : State) : Awaited s (drainRing n st s) := by
  unfold drainRing
  split
  · exact .refl s
  · next r _ =>
    have hflag : Awaited s (if r.held.isSome then dbFlag r.owner n (fun d => { d with stale := true }) s else s) := by
      split
      · exact awaited_modInst ..
      · exact .refl s
    exact (awaited_tryPost ..).since ((awaited_orphanErrorRecord ..).since ((awaited_releaseAll ..).since
      ((awaited_quietRing ..).since ((awaited_modRing ..).since hflag))))

theorem awaited_settleRing (n : Nat) (s : State) : Awaited s (settleRing n s) := by
  have hrestart : ∀ u : State, Awaited u (match tget n u.rings with
      | some r => evWrite r.owner 3 0 n r.consumed.toNat r.stops (writeIndex n u)
      | none => u) := fun u => by
    split
    · exact (awaited_evWrite ..).since (awaited_writeIndex ..)
    · exact .refl u
  unfold settleRing
  split
  · exact .refl s
  · split
    · exact .refl s
    · dsimp only
      split
      · exact (hrestart _).since (awaited_modRing ..)
      · exact (hrestart _).since (awaited_modRing ..)
      · exact (awaited_disownRing ..).after rfl
      · exact .refl s

theorem awaited_makeOld (o : Op) (s : State) : Awaited s (makeOld o s) := by
  have horphans : Awaited s (orphanReads (fun w => w.op? == some o.id) s) := awaited_orphanReads rfl s
  unfold makeOld
  dsimp only
  split
  · exact horphans.then rfl
  · exact (awaited_releaseOp ..).since (horphans.then rfl)

theorem awaited_makeOlds (l : List Op) (s : State) : Awaited s (l.foldl (fun s o => makeOld o s) s) :=
  .foldl (fun s o => awaited_makeOld o s) l s

theorem awaited_generationStep (i : Nat) (s : State) : Awaited s (generationStep i s) := by
  unfold generationStep
  exact ((awaited_dropTagged ..).since ((awaited_makeOlds ..).since ((awaited_quietRings ..).since (awaited_modInst ..)))).then rfl

theorem awaited_coldPage (i : Nat) (s : State) : Awaited s (coldPage i s) := by
  unfold coldPage
  exact (awaited_modInst ..).after rfl

theorem awaited_dropPacketRead (q : Nat) (s : State) : Awaited s (dropPacketRead q s) :=
  (awaited_modCq ..).since (awaited_dropReads (by exact rfl) s)

theorem awaited_dropRings (i : Nat) (s : State) : Awaited s (dropRings i s) := (awaited_quietRings ..).then rfl

theorem awaited_retireResident (i : Nat) (s : State) : Awaited s (retireResident i s) := by
  have hend : ∀ (r : Option Nat) (good : Nat) (u : State), Awaited u (match r with
      | some id => endOp id .ok good u
      | none => u)
    | some id, good, u => awaited_endOp id good u
    | none, _, u => .refl u
  have hwake : ∀ (n : Nat) (u : State), Awaited u (wakeIndex n u) := fun _ _ => .same rfl
  have hfree : ∀ (n : Nat) (u : State), Awaited u (keepSlots (fun _ x => x.index != n) u) := fun n u =>
    .of_slots rfl fun hnone => by rw [keepSlots, hnone]; rfl
  have hmap : ∀ (f : Nat → Slot → Slot) (u : State), Awaited u (mapSlots f u) := fun f u =>
    .of_slots rfl fun hnone => by rw [mapSlots, hnone]; rfl
  refine .foldl (fun s p => ?_) _ s
  dsimp only
  split
  · exact (hwake ..).since ((hend ..).since ((hfree ..).after rfl))
  · exact (hmap ..).after rfl

theorem awaited_dropDoorWork (i : Nat) (s : State) : Awaited s (dropDoorWork i s) := by
  have hdrop : ∀ gone : List Nat, Awaited s (dropReads (fun w => match w with
      | .larBlob n => gone.contains n
      | _ => false) s) := fun _ => awaited_dropReads rfl s
  exact (hdrop _).then rfl

theorem awaited_endDestroy (i : Nat) (s : State) : Awaited s (endDestroy i s) :=
  (awaited_dropDoorWork ..).since ((awaited_retireResident ..).since ((awaited_modInst ..).since
    (((awaited_coldPage ..).since (awaited_dropRings i s)).then rfl)))

theorem awaited_settleDestroy (i : Nat) (s : State) : Awaited s (settleDestroy i s) := by
  unfold settleDestroy
  split
  · dsimp only
    split
    · exact (awaited_modInst ..).since (awaited_endDestroy i s)
    · exact awaited_endDestroy i s
  · exact .refl s

theorem awaited_endReset (i : Nat) (s : State) : Awaited s (endReset i s) := by
  unfold endReset
  exact (awaited_modInst ..).since (((awaited_coldPage ..).since (awaited_dropRings i s)).then rfl)

/-! ### Commands of a transaction -/

theorem awaited_takeWrap (i n : Nat) (s : State) : Awaited s (takeWrap i n s) := by
  unfold takeWrap
  split
  · exact .refl s
  · have hflag : ∀ u : State, Awaited u (match (u.inst i).counters[n]? with
        | some c => if c.ovfRec then evWrite i 0x20 0 0 n c.event u else u
        | none => u) := fun u => by
      split
      · split
        · exact awaited_evWrite ..
        · exact .refl u
      · exact .refl u
    exact (hflag _).since ((awaited_modInst ..).after rfl)

theorem awaited_applyCounter (i n en ev : Nat) (f : Word) (s : State) : Awaited s (applyCounter i n en ev f s) := by
  unfold applyCounter
  exact (awaited_modInst ..).since (awaited_takeWrap i n s)

theorem awaited_applyStaged (c : Staged) (s : State) : Awaited s (applyStaged c s) := by
  unfold applyStaged
  dsimp only
  split
  · exact (awaited_coldPage ..).since (awaited_modInst ..)
  split
  · exact (awaited_settleDestroy ..).since ((awaited_generationStep ..).since
      (((awaited_dropPacketRead ..).since (awaited_modInst ..)).then rfl))
  split
  · exact awaited_modInst ..
  split
  · exact .same rfl
  split
  · exact (awaited_settleRing ..).since (awaited_drainRing ..)
  split
  · exact awaited_applyCounter ..
  · exact .refl s

theorem awaited_applyInOrder (l : List Staged) (s : State) : Awaited s (applyInOrder l s) := by
  induction l generalizing s with
  | nil => exact .refl s
  | cons c l ih =>
    unfold applyInOrder
    split
    · exact .same rfl
    · exact (awaited_applyStaged c s).trans (ih _)

theorem awaited_applyLater (s : State) : Awaited s (applyLater s) := by
  unfold applyLater
  split
  · exact .refl s
  · exact (awaited_applyInOrder ..).after rfl

/-! ### Commands that end -/

theorem awaited_waitEnd {w : Wait} {s t : State} {st : Status} {body : List Byte} (h : waitEnd w s = some (st, body, t)) :
    Awaited s t := by
  unfold waitEnd at h
  dsimp only at h
  split at h
  · split at h
    · cases h; exact .refl s
    · cases h
  · split at h
    · cases h; exact awaited_endReset ..
    · cases h
  · split at h
    · cases h; exact .refl s
    · split at h
      · cases h; exact awaited_settleDestroy ..
      · cases h
  · split at h
    · cases h; exact .refl s
    · split at h
      · cases h
      · cases h; exact .refl s
  · split at h
    · cases h
    · cases h; exact .refl s
  · cases h

theorem awaited_settleServing (q : Nat) (s : State) : Awaited s (settleServing q s) := by
  unfold settleServing
  split
  · split
    · exact .refl s
    · split
      · next hend => exact (awaited_reply ..).since (awaited_waitEnd hend)
      · exact .refl s
  · exact .refl s

theorem awaited_settleLate (s : State) : Awaited s (settleLate s) :=
  .foldl (fun s l => by
    split
    · next hend =>
      split at hend
      · exact (awaited_evWrite ..).since ((awaited_waitEnd hend).then rfl)
      · cases hend
    · exact .refl s) _ s

theorem awaited_settleQuiesce (i : Nat) (s : State) : Awaited s (settleQuiesce i s) := by
  unfold settleQuiesce
  dsimp only
  split
  · exact awaited_modInst ..
  · exact .refl s

theorem awaited_settleKek (i : Nat) (s : State) : Awaited s (settleKek i s) := by
  unfold settleKek
  dsimp only
  split
  · exact awaited_modInst ..
  · exact .refl s

theorem awaited_studyFetch (s : State) : Awaited s (studyFetch s) := by
  unfold studyFetch
  split
  · exact .refl s
  · split
    · exact .refl s
    · exact (awaited_readReq (by decide) ..).since (awaited_modCq ..)

theorem awaited_settle (s : State) : Awaited s (settle s) := by
  have hrings : ∀ (l : List Nat) (u : State), Awaited u (l.foldl (fun s n => settleRing n s) u) := fun l u =>
    .foldl (fun s n => awaited_settleRing n s) l u
  have hkeys : ∀ (l : List Nat) (u : State), Awaited u (l.foldl (fun s i => settleKek i (settleQuiesce i s)) u) := fun l u =>
    .foldl (fun s i => (awaited_settleQuiesce i s).trans (awaited_settleKek i _)) l u
  have hserve : ∀ (l : List Nat) (u : State), Awaited u (l.foldl (fun s q => settleServing q s) u) := fun l u =>
    .foldl (fun s q => awaited_settleServing q s) l u
  have hdestroy : ∀ (l : List Nat) (u : State), Awaited u (l.foldl (fun s i => settleDestroy i s) u) := fun l u =>
    .foldl (fun s i => awaited_settleDestroy i s) l u
  exact (awaited_studyFetch _).since ((awaited_applyLater _).since ((hdestroy ..).since ((awaited_settleLate _).since
    ((hserve ..).since ((hkeys ..).since (hrings ..))))))

/-! ### Samples -/

theorem insts_key_pump (n : Nat) {s : State} {p : Nat × Inst} (h : p ∈ s.insts) : ∃ q ∈ (pump n s).insts, q.1 = p.1 := by
  unfold pump issueWrites
  dsimp only
  split
  · split
    · exact ⟨p, h, rfl⟩
    · exact (peopled_countIn ..).insts p h
  · exact ⟨p, h, rfl⟩

/-- Even without bytes: hw1 takes the samples of instances that a shut block does not have. -/
theorem awaited_writeSample (buf addr : Nat) (data : List Byte) (tag : Nat) (o : Owner) (f : Inst → Inst) (s : State) :
    Awaited s (writeReq (buf % 8) addr data tag o (modInst buf f s)) := by
  by_cases hport : buf % 8 = 1
  · refine .opens (lar_of_aside ((writeReq_aside ..).trans (modInst_aside ..))) fun hshut => ?_
    obtain ⟨q, hq, hkey⟩ := insts_key_pump (buf % 8)
      (s := modPort (buf % 8) _ (modInst buf f s)) (tset_key buf (f (s.inst buf)) s.insts)
    have hzero := hkey.symm.trans (hshut.lone q hq)
    dsimp only at hzero
    rw [hzero] at hport
    cases hport
  · exact (awaited_writeReq_other hport ..).since (awaited_modInst ..)

theorem awaited_issueSamples (s : State) : Awaited s (issueSamples s) := by
  refine Awaited.after (.foldl (fun s q => ?_) _ _) rfl
  dsimp only
  split
  · exact awaited_writeSample ..
  · exact .same rfl

end Sys2Proof.Machine
end

section
/-!
PROOFS. What goes on by itself after a command does nothing in a block that is `Marked` afterwards (`Stays`); so what follows a
command leaves a read of node 0 that seems to come.
-/

namespace Sys2Proof.Machine

open Sys2Proof

/-! ### The relation -/

/-- A shut block in a state that no entry to a power state, soft reset, lock or loss of keys leaves behind: in Retain although it
runs, ready for commands and with a permit. -/
structure Marked (s : State) : Prop where
  power : s.pwr.state = .retain
  entry : s.pwr.entry = none
  soft : s.pwr.softReset = none
  lock : s.cel.step = .idle
  keys : s.pan.keyFault = 0
  permit : s.keys.permit ≠ none
  ready : s.study.cmdRdy = true
  shut : Shut s

/-- From `s` to `t` an idle store stays idle, and nothing has happened if the block is marked. -/
def Stays (s t : State) : Prop := Idle s → Idle t ∧ (Marked t → t = s)

section
variable {s t u : State}

theorem Stays.refl (s : State) : Stays s s := fun h => ⟨h, fun _ => rfl⟩

theorem Stays.trans (h : Stays s t) (k : Stays t u) : Stays s u := fun hidle => by
  obtain ⟨hmid, hfirst⟩ := h hidle
  obtain ⟨hend, hlast⟩ := k hmid
  refine ⟨hend, fun hmarked => ?_⟩
  have hut := hlast hmarked
  exact hut.trans (hfirst (hut ▸ hmarked))

/-- A step that leaves another mark. -/
theorem Stays.unmarks (h : Idle s → Idle t) (k : ¬ Marked t) : Stays s t :=
  fun hidle => ⟨h hidle, fun hmarked => absurd hmarked k⟩

theorem idle_of_lar (h : t.lar = s.lar) (k : Idle s) : Idle t := by rwa [Idle, h]

theorem idle_of_store (h : t.store = s.store) : Idle s → Idle t := idle_of_lar (lar_of_store h)

theorem idle_of_aside (h : t.aside = s.aside) : Idle s → Idle t := idle_of_lar (lar_of_aside h)

theorem idle_foldl {α : Type} {f : State → α → State} (h : ∀ s a, Idle s → Idle (f s a)) (l : List α) (k : Idle s) :
    Idle (l.foldl f s) := by
  induction l generalizing s with
  | nil => exact k
  | cons a l ih => exact ih (h s a k)

end

/-! ### Flushes -/

theorem flushStep_idle {s : State} (h : Idle s) : flushStep s = s := by
  unfold flushStep
  rw [h.2]
  rfl

/-- A flush of a store that is not in use has ended at once. -/
theorem startFlush_idle (w : FlushFor) {s : State} (h : Idle s) :
    startFlush w s = { s with lar := { s.lar with flush := none, flushRes := some true } } := by
  obtain ⟨hunused, -⟩ := h
  unfold startFlush
  exact if_pos (by rcases hunused with h | h <;> simp [h])

/-- A flush that is asked for after a step that leaves another mark. -/
theorem stays_startFlush (w : FlushFor) {s u : State} (h : Idle s → Idle u)
    (k : ¬ Marked { u with lar := { u.lar with flush := none, flushRes := some true } }) : Stays s (startFlush w u) := by
  intro hidle
  rw [startFlush_idle w (h hidle)]
  exact ⟨⟨(h hidle).1, rfl⟩, fun hmarked => absurd hmarked k⟩

/-! ### Lost memories -/

theorem idle_zeroiseRetired (x : Slot) {s : State} (h : Idle s) : Idle (zeroiseRetired x s) := by
  rw [zeroiseRetired_frees (.inr h.1.symm)]
  exact (awaited_endRetire ..).idle h

theorem idle_attachEnd {s : State} (h : Idle s) : Idle (attachEnd false s) :=
  idle_of_aside (reply_aside ..) (by exact h)

theorem idle_makeStale {s : State} (h : Idle s) : Idle (makeStale s) := by
  have htombs : ∀ (l : List (Nat × Slot)) (u : State), Idle u →
      Idle (l.foldl (fun s p => endRetire p.2 .ok (freeIndex p.2.index s)) u) := fun l u =>
    idle_foldl (fun s p hs => (awaited_endRetire ..).idle (by exact hs)) l
  have hends : ∀ (l : List Op) (u : State), Idle u → Idle (l.foldl (fun s o => failUndispatched o .ctxNoLarder s) u) :=
    fun l u => idle_foldl (fun s o => idle_of_store (failUndispatched_store ..)) l
  have hattach : ∀ u : State, Idle u → Idle (if u.attaching then attachEnd false u else u) := fun u hu => by
    split
    · exact idle_attachEnd hu
    · exact hu
  unfold makeStale
  split
  · exact h
  · exact hends _ _ (hattach _ (htombs _ _ ⟨.inr rfl, h.2⟩))

theorem stays_dirProgress (s : State) : Stays s (dirProgress s) := by
  unfold dirProgress
  split
  · refine .unmarks (fun h => ?_) fun hmarked => hmarked.shut.slots rfl
    exact idle_makeStale (idle_foldl (fun s (p : Nat × Slot) => idle_zeroiseRetired p.2) _ h)
  · exact .refl s

theorem stays_keyProgress (s : State) : Stays s (keyProgress s) := by
  unfold keyProgress
  split
  · exact stays_startFlush _ id fun hmarked => absurd (show 2 = 0 from hmarked.keys) (by decide)
  · split
    · exact .unmarks id fun hmarked => hmarked.permit rfl
    · exact .refl s

/-! ### The lock sequence -/

theorem stays_lockProgress (s : State) : Stays s (lockProgress s) := by
  have hclear : ∀ u : State, (Idle s → Idle u) → Stays s (toClear u) := fun u hu =>
    .unmarks hu fun hmarked => absurd (show LockStep.clear = .idle from hmarked.lock) (by decide)
  unfold lockProgress
  split
  · exact .refl s
  · exact .refl s
  · split
    · split
      · exact hclear s id
      · exact stays_startFlush _ id fun hmarked => absurd (show LockStep.flush = .idle from hmarked.lock) (by decide)
    · exact .refl s
  · split
    · exact .refl s
    · exact hclear _ id

/-! ### Drains -/

theorem idle_undoAttach (w : Wait) {s : State} (h : Idle s) : Idle (undoAttach w s) := by
  unfold undoAttach
  split
  · exact ⟨.inl rfl, h.2⟩
  · exact h

theorem keyinDone_lar (q : Nat) (p : List Byte) (s : State) : (keyinDone q p s).lar = s.lar := by
  unfold keyinDone
  split <;> rfl

theorem idle_answerTaken (st : Status) (keep : Nat → List Byte → Wait → Bool) {s : State} (h : Idle s) :
    Idle (answerTaken st keep s) := by
  have hdrop : ∀ (q : Nat) (u : State), Idle u → Idle (match (u.inst q).cq.arrived with
      | some p => if keep q p .none then u else takeArrivedPacket q p u
      | none => u) := fun q u hu => by
    split
    · split
      · exact hu
      · exact hu
    · exact hu
  have hanswer : ∀ (q : Nat) (u : State), Idle u → Idle (match (u.inst q).cq.serving with
      | some v => if v.reply.isSome || keep q v.pkt v.wait then u else reply q st 0 [] (undoAttach v.wait (keyinDone q v.pkt u))
      | none => u) := fun q u hu => by
    split
    · split
      · exact hu
      · exact idle_of_aside (reply_aside ..) (idle_undoAttach _ (idle_of_lar (keyinDone_lar ..) hu))
    · exact hu
  exact idle_foldl (fun s q hs => hanswer q _ (hdrop q s hs)) _ h

theorem dropStage_lar (st : Status) (s : State) : (dropStage st s).lar = s.lar := by
  unfold dropStage
  split
  · rfl
  · dsimp only
    split <;> rfl

theorem drainLate_lar (q : Nat) (s : State) : (drainLate q s).lar = s.lar := by
  unfold drainLate
  split
  · split
    · exact (lar_of_aside (reply_aside ..)).trans rfl
    · rfl
  · rfl

theorem idle_answerDrains {s : State} (h : Idle s) : Idle (answerDrains s) := by
  refine idle_answerTaken _ _ (idle_foldl (fun s q => idle_of_lar (drainLate_lar q s)) _ ?_)
  exact idle_of_lar (dropStage_lar ..) h

theorem idle_lowerCmdRdy {s : State} (h : Idle s) : Idle (lowerCmdRdy s) := by
  have hhold : Idle (if s.study.cmdRdy then holdRegs s else s) := by
    split
    · exact h
    · exact h
  exact idle_foldl (f := fun s q => dropPacketRead q s) (fun s q => idle_of_aside (dropPacketRead_aside ..))
    (s.insts.map (·.1)) hhold

/-! ### Soft resets -/

theorem stays_softFlush (s : State) : Stays s (softFlush s) := by
  unfold softFlush
  split
  · exact .refl s
  · have hreleased : Idle s → Idle (releaseAll (fun _ => true) s) := idle_of_store (releaseAll_store ..)
    exact stays_startFlush _ hreleased fun hmarked => absurd hmarked.soft (Option.some_ne_none 4)

theorem idle_abandonOps {s : State} (h : Idle s) : Idle (abandonOps s) := by
  refine idle_foldl (fun s i hs => (awaited_dropTagged i s).idle hs) _ ?_
  exact (awaited_makeOlds ..).idle h

theorem stays_softProgress (s : State) : Stays s (softProgress s) := by
  have hstep : ∀ (u : State) (n us : Nat), (Idle s → Idle u) →
      Stays s { u with pwr := { u.pwr with softReset := some n, softUs := us } } := fun u n us hu =>
    .unmarks hu fun hmarked => absurd hmarked.soft (Option.some_ne_none n)
  unfold softProgress
  split
  · split
    · exact hstep _ _ _ fun h => idle_lowerCmdRdy (idle_answerDrains h)
    · exact .refl s
  · split
    · exact stays_softFlush s
    · split
      · exact hstep _ _ _ idle_abandonOps
      · exact .refl s
  · split
    · exact stays_softFlush s
    · exact .refl s
  · split
    · exact .unmarks (fun _ => ⟨.inl rfl, rfl⟩) fun hmarked =>
        absurd (show PwrState.active = .retain from hmarked.power) (by decide)
    · exact .refl s
  · exact .refl s

/-! ### Power entries -/

theorem mainOff_ends (retain : Bool) (s : State) :
    (mainOff retain s).pins.mainUp = false ∧ (Idle s → Idle (mainOff retain s)) := by
  cases retain <;> exact ⟨rfl, id⟩

theorem refusePower_state (code : Nat) (s : State) : (refusePower code s).pwr.state ≠ .retain := by
  unfold refusePower
  dsimp only
  split <;> decide

theorem stays_powerProgress (s : State) : Stays s (powerProgress s) := by
  unfold powerProgress
  split
  · exact .refl s
  · next t _ =>
    split
    · split
      · exact .refl s
      split
      · exact .unmarks id fun hmarked => absurd (show PwrState.doze = .retain from hmarked.power) (by decide)
      split
      · exact .unmarks id fun hmarked => refusePower_state _ _ hmarked.power
      · exact .unmarks id fun hmarked => absurd (show PwrState.active = .retain from hmarked.power) (by decide)
    · split
      · split
        · exact .refl s
        · exact stays_startFlush _ (fun h => idle_lowerCmdRdy (idle_answerDrains h)) fun hmarked =>
            absurd (show false = true from hmarked.ready) (by decide)
      · exact .refl s
    · split
      · split
        · obtain ⟨hoff, hidle⟩ := mainOff_ends (t == .retain) s
          exact .unmarks hidle fun hmarked => absurd (hoff.symm.trans hmarked.shut.main) (by decide)
        · exact .refl s
      · exact .unmarks id fun hmarked => refusePower_state 6 { s with lar := { s.lar with flushRes := none } } hmarked.power
      · exact .refl s
    · exact .refl s

/-! ### What follows a command -/

/-- What the follow-ups of a command leave alone in a calm block (`State.still`), but for the transaction. -/
def State.pulse (s : State) : Still := { s.still with txn := State.reset.txn }

theorem pulse_of_still {s t : State} (h : t.still = s.still) : t.pulse = s.pulse :=
  congrArg (fun x : Still => { x with txn := State.reset.txn }) h

theorem applyInOrder_pulse (l : List Staged) (s : State) : (applyInOrder l s).pulse = s.pulse := by
  induction l generalizing s with
  | nil => rfl
  | cons c l ih =>
    unfold applyInOrder
    split
    · rfl
    · exact (ih _).trans (pulse_of_still (applyStaged_still c s))

theorem applyLater_pulse (s : State) : (applyLater s).pulse = s.pulse := by
  unfold applyLater
  split
  · rfl
  · exact applyInOrder_pulse ..

/-- With commands that wait for a number (R65) or without. -/
theorem settle_pulse (s : State) : (settle s).pulse = s.pulse := by
  refine (pulse_of_still (studyFetch_still _)).trans ((applyLater_pulse _).trans (pulse_of_still ?_))
  rw [foldl_still _ _ _ fun s i => settleDestroy_still i s, settleLate_still,
    foldl_still _ _ _ fun s q => settleServing_still q s,
    foldl_still _ _ _ fun s i => (settleKek_still i _).trans (settleQuiesce_still i s),
    foldl_still _ _ _ fun s n => settleRing_still n s]

/-- A step that leaves all marks but those of a shut block. -/
theorem marked_of_pulse {s t : State} (h : t.pulse = s.pulse) (k : Marked t) (hshut : Shut s) : Marked s := by
  have hpwr : t.pwr = s.pwr := congrArg Still.pwr h
  have hcel : t.cel = s.cel := congrArg Still.cel h
  have hkeys : t.keys = s.keys := congrArg Still.keys h
  have hfault : t.pan.keyFault = s.pan.keyFault := congrArg Still.keyFault h
  have hready : t.study.cmdRdy = s.study.cmdRdy := congrArg Still.cmdRdy h
  exact ⟨hpwr ▸ k.power, hpwr ▸ k.entry, hpwr ▸ k.soft, hcel ▸ k.lock, hfault ▸ k.keys, hkeys ▸ k.permit, hready ▸ k.ready,
    hshut⟩

/-- What goes on by itself after the flush of the Larder. -/
def goesOn (s : State) : State :=
  powerProgress (softProgress (softProgress (lockProgress (keyProgress (dirProgress (flushStep s))))))

theorem stays_goesOn (s : State) : Stays s (goesOn s) := by
  have hflush : Stays s (flushStep s) := fun h => by
    rw [flushStep_idle h]
    exact ⟨h, fun _ => rfl⟩
  exact hflush.trans ((stays_dirProgress _).trans ((stays_keyProgress _).trans ((stays_lockProgress _).trans
    ((stays_softProgress _).trans ((stays_softProgress _).trans (stays_powerProgress _))))))

/-- Before the flush: commands and operations that end, samples, and engines that are released or loaded. -/
def settled (s : State) : State := loadProgress (releaseProgress (issueSamples (settle s)))

theorem loads_yard (s : State) : (loadProgress (releaseProgress s)).yard = s.yard := rfl

theorem awaited_settled (s : State) : Awaited s (settled s) :=
  ((awaited_issueSamples _).since (awaited_settle s)).then (loads_yard _)

theorem finish_eq (s : State) : finish s =
    if (issueSamples (settle s)).pins.mainUp then
      if (goesOn (settled s)).pins.mainUp then settle (softProgress (powerProgress (goesOn (settled s)))) else goesOn (settled s)
    else issueSamples (settle s) := by
  unfold finish goesOn settled
  rfl

/-- In a block that is marked after a command, what followed the command has kept the read of node 0. -/
theorem nodeComing_finish {s : State} (hidle : Idle s) (hmarked : Marked (finish s)) (h : nodeComing s 3 0 = true) :
    nodeComing (finish s) 3 0 = true := by
  rw [finish_eq] at hmarked ⊢
  have hbefore : ∀ u, u = settled s → Shut u → nodeComing u 3 0 = true := fun u hu hshut => by
    subst hu
    exact ((awaited_settled s).back hshut).2 h
  obtain ⟨hgone, hstays⟩ := stays_goesOn (settled s) ((awaited_settled s).idle hidle)
  by_cases hmain : (issueSamples (settle s)).pins.mainUp = true
  · rw [if_pos hmain] at hmarked ⊢
    by_cases hrest : (goesOn (settled s)).pins.mainUp = true
    · rw [if_pos hrest] at hmarked ⊢
      obtain ⟨-, hlast⟩ := ((stays_powerProgress _).trans (stays_softProgress _)) hgone
      generalize softProgress (powerProgress (goesOn (settled s))) = w at hmarked hlast ⊢
      obtain ⟨hshut, hkeeps⟩ := (awaited_settle w).back hmarked.shut
      have hbegun : Marked w := marked_of_pulse (settle_pulse w) hmarked hshut
      have hw := hlast hbegun
      exact hkeeps (hbefore w (hw.trans (hstays (hw ▸ hbegun))) hshut)
    · rw [if_neg hrest] at hmarked ⊢
      exact hbefore _ (hstays hmarked) hmarked.shut
  · rw [if_neg hmain] at hmarked ⊢
    exact (((awaited_issueSamples _).since (awaited_settle s)).back hmarked.shut).2 h

end Sys2Proof.Machine
end

section
/-!
PROOFS. The obligation on the store commands (O14): a LARDER_ATTACH in a block one of whose ports holds a quarantined read of node 0
that has not been issued.
-/

namespace Sys2Proof.Machine

open Sys2Proof

/-- A POSTED LARDER_ATTACH of 64 blobs at 0x8000000, the tree at 0. -/
def attachPacket : List Byte :=
  padTo 256 (leBytes 2 0xA0 ++ leBytes 2 0x0100 ++ leBytes 4 7 ++ leBytes 4 24 ++ leBytes 4 0 ++ leBytes 2 0 ++ [1, 0] ++
    leBytes 12 0 ++ leBytes 8 0x8000000 ++ leBytes 8 0 ++ leBytes 4 64 ++ leBytes 4 0)

/-- A read of node 0 of level 3 that is quarantined. -/
def foulRead : Rd :=
  { id := 0, addr := 0, len := 64, tag := 0, owner := .node 3 0, off := 0, quar := true, drop := false, old := false }

/-- The packet has come, a valid store has two written top nodes, and hw1, which alone is not paused, has not yet issued that
read. -/
def foulAttach : State :=
  modPort 1 (fun p => { p with paused := false, rdQ := [foulRead] })
    (modCq 0 (fun c => { c with enable := true, tail := 1, arrived := some attachPacket })
      { State.reset with
        study := { State.reset.study with cmdRdy := true },
        cel := { State.reset.cel with locked := false, valid := true, blobCount := 64, treeRoot := ⟨0, [1, 1]⟩ },
        pwr := { State.reset.pwr with state := .retain },
        keys := { State.reset.keys with permit := some 0 },
        pan := { State.reset.pan with slots := [(0, slotOfPlain State.reset 0 0 0 0 [])] },
        hwy := { State.reset.hwy with ports := State.reset.hwy.ports.map (fun p => { p with paused := true }) } })

/-- The state that a row leads to. -/
def nextState : Host.Outcome State Fault Refusal → State
  | .next t => t
  | _ => State.reset

/-- The state that the attach leads to. -/
def foulAttached : State := nextState (exec (.larderAttach 0) foulAttach)

theorem foulAttach_taken : Taken 0 0xA0 attachPacket foulAttach :=
  ⟨rfl, rfl, by decide +kernel, by decide +kernel, by decide +kernel⟩

theorem foulAttach_inv : foulAttach.Inv := ⟨rfl, rfl, rfl, rfl⟩

/-- Both top nodes are to be read, the second of hw1. -/
theorem foulAttach_top : (List.range 4).filter (fun n => (foulAttach.cel.treeRoot.at n).isSome) = [0, 1] := by decide +kernel

theorem foulAttached_shut : Shut foulAttached where
  main := by decide +kernel
  lone := by decide +kernel
  slots := by decide +kernel
  two := by decide +kernel
  ports := by unfold Port.shut; decide +kernel

theorem foulAttached_marked : Marked foulAttached :=
  ⟨by decide +kernel, by decide +kernel, by decide +kernel, by decide +kernel, by decide +kernel, by decide +kernel,
    by decide +kernel, foulAttached_shut⟩

theorem foulAttached_lost : nodeComing foulAttached 3 0 = false := by decide +kernel

/-- Refutes O14: the statement is about every state. A read that has not been issued seems to bring its node even if it is
quarantined, so the attach does not ask for node 0 again; asking for node 1 issues that read, whose data is never taken, and node 0
does not come (only issued reads are quarantined in the model, so no step leads there). -/
theorem not_storeCommands : ¬ Obligations.StoreCommands := by
  intro h
  obtain ⟨hattach, -⟩ := h
  obtain ⟨t, hexec, -, -, -, hverified⟩ := hattach foulAttach 0 attachPacket foulAttach_inv foulAttach_taken
  obtain ⟨-, hreads, -⟩ := hverified (by decide +kernel) rfl rfl rfl (by decide +kernel)
  rw [foulAttach_top] at hreads
  obtain ⟨hlar, hcoming, -⟩ := hreads (List.cons_ne_nil _ _) (by decide +kernel)
  have hnext : foulAttached = finish t := congrArg nextState hexec
  have hidle : Idle t := by
    rw [Idle, hlar]
    exact ⟨.inr rfl, rfl⟩
  have hkept := nodeComing_finish hidle (hnext ▸ foulAttached_marked) (hcoming 0 List.mem_cons_self)
  rw [← hnext, foulAttached_lost] at hkept
  exact Bool.false_ne_true hkept

end Sys2Proof.Machine
end
